-- ==== Sys2Proof/Word.lean ====
section
/-!
DEFINITION. The word types of the SKT-3 module and their plainest readings. Multi-byte values in frames go
most significant byte first (R14); words of the lane's internal address space lie least significant byte first (R14).
-/
namespace Sys2Proof

/-- One byte of a frame or of a memory. -/
abbrev Byte := BitVec 8

/-- A 16-bit value: a measured quantity, a slot, a post or an actuation code (R12). -/
abbrev Code := BitVec 16

/-- A 32-bit word: a register, an E1 data word (R124), a sample number (R42). -/
abbrev Word := BitVec 32

/-- The bytes of `v`, `n` of them, most significant first (R14). -/
def bytesBE : Nat → Nat → List Byte
  | 0, _ => []
  | n + 1, v => BitVec.ofNat 8 (v / 256 ^ n) :: bytesBE n v

/-- The number that bytes spell, most significant first (R14). -/
def ofBytesBE (bs : List Byte) : Nat :=
  bs.foldl (fun a b => a * 256 + b.toNat) 0

/-- The number that bytes spell, least significant first (R14, internal address space). -/
def ofBytesLE : List Byte → Nat
  | [] => 0
  | b :: bs => b.toNat + 256 * ofBytesLE bs

/-- The bytes of `v`, `n` of them, least significant first (R14). -/
def bytesLE : Nat → Nat → List Byte
  | 0, _ => []
  | n + 1, v => BitVec.ofNat 8 v :: bytesLE n (v / 256)

end Sys2Proof
end

