-- ==== Sys2Proof/Syntax.lean ====
section
/-!
DEFINITION. The commands of the module: one constructor of `Instr` for every row of spec/opcode_table.json.
The table gives no operand fields; the operands here are what the rule of the row names: the lane, the instant in
nanoseconds of lane time, an index (loop, drive, leg, output, supply, engine), a frame with its receipt time, or the
quantities that the lane measures at that step. Assumption log 1.
-/
namespace Sys2Proof

/-- A lane (R6). -/
inductive LaneId | l1 | l2 | l3
deriving DecidableEq, Repr

/-- One of a lane's two peers: the lower- or the higher-numbered (R39). -/
inductive Peer | lo | hi
deriving DecidableEq, Repr

/-- The redundant networks (R316). -/
inductive Net | netA | netB
deriving DecidableEq, Repr

/-- A leg of a stage (R98). -/
inductive Leg | u | v | w
deriving DecidableEq, Repr

/-- A half of the arbiter tile (R72). -/
inductive ArbHalf | halfA | halfB
deriving DecidableEq, Repr

/-- A power stage of a lane: the steering stage or brake stage n (R229). -/
inductive Stage | steer | brake (n : Fin 8)
deriving DecidableEq, Repr

/-- A contactor drive of a lane (R287). -/
inductive CtDrive | kp | kn | pre
deriving DecidableEq, Repr

/-- A switch of a stage: its leg, and whether it is the high side. -/
structure Switch where
  leg : Leg
  high : Bool
deriving DecidableEq, Repr

/-- The exchange frame of R39, field by field in its order; reserved bytes are sent as 0. -/
structure ExchFrame where
  source : BitVec 8
  status : BitVec 16
  sampleNo : BitVec 32
  reloadTime : BitVec 64
  claim : BitVec 16
  verdictLo : BitVec 8
  verdictHi : BitVec 8
  demandSeq : BitVec 32
  demandEpoch : BitVec 16
  session : BitVec 16
  demandCrc : BitVec 32
  demandMotion : List Byte
  rotorAngle : BitVec 16
  rotorSpeed : BitVec 16
  angleStatus : BitVec 8
  uCmd : List Code
  uMeas : List Code
  iDq : List Code
  vLink : Code
  vBrake : Code
  vLogic : Code
  torqueShare : Code
  sentVal : List Code
  anaVal : List Code
  safeStop : BitVec 8
  feedback : BitVec 8
  sentOk : BitVec 8
  anaOk : BitVec 8
  brakeForce : List Code
  brakeState : List (BitVec 8)
  capability : BitVec 16
  overdriveBudget : BitVec 16
  tempMax : BitVec 16
  health : BitVec 16
  firstCause : BitVec 32
  evictOut : BitVec 8
  evictIn : BitVec 8
  voteFlags : BitVec 16
  peerOffset : List (BitVec 32)
  appValues : List Code
deriving DecidableEq, Repr

/-- The claim frame of R78 without its type byte and CRC. -/
structure ClaimFrame where
  source : BitVec 8
  claim : BitVec 16
  counter : BitVec 16
  evictNotice : BitVec 8
  control : BitVec 8
  outCmd : List (BitVec 8)
  safeMode : BitVec 8
  chanHold : BitVec 8
  chanClear : BitVec 8
deriving DecidableEq, Repr

/-- The arbiter status frame of R81 without its type byte, reserved bytes and CRC. -/
structure StatusFrame where
  arbFlags : BitVec 8
  winner : BitVec 16
  evalCount : BitVec 16
  current : BitVec 8
  disregard : BitVec 8
  outState : List (BitVec 8)
  chanFault : BitVec 8
  chanCause : BitVec 32
  stopState : BitVec 8
  cmdCounter : BitVec 16
deriving DecidableEq, Repr

/-- The Time frame of R38. -/
structure TimeFrame where
  source : BitVec 8
  sendTime : BitVec 64
  lastRx : BitVec 64
  prevTx : BitVec 64
deriving DecidableEq, Repr

/-- An entry of R376. -/
structure Entry where
  index : BitVec 16
  sub : BitVec 8
  ty : BitVec 8
  value : List Byte
deriving DecidableEq, Repr

/-- The dictionary commit frame of R375 (type 0x03); PHASE is the command that carries it. -/
structure CommitFrame where
  source : BitVec 8
  phase : BitVec 8
  result : BitVec 8
  commitId : BitVec 32
  applySample : BitVec 32
  setCounter : BitVec 32
  setDigest : List Byte
  nEntries : BitVec 16
  part : BitVec 8
  entries : List Entry
deriving DecidableEq, Repr

/-- The Update frame of R420 (type 0x04). -/
structure UpdateFrame where
  source : BitVec 8
  kind : BitVec 8
  result : BitVec 8
  xferId : BitVec 32
  part : BitVec 16
  totalLen : BitVec 32
  sample : BitVec 32
  body : List Byte
deriving DecidableEq, Repr

/-- The capture alignment frame of R468 (type 0x05). -/
structure CaptureFrame where
  source : BitVec 8
  phase : BitVec 8
  cause : BitVec 8
  armId : BitVec 32
  sample : BitVec 32
  reloadTime : BitVec 64
deriving DecidableEq, Repr

/-- How a frame on a Birix link was received: from which peer, the instants (receiver's lane time) of its start and,
if it has ended, of its end, and the CRC it carried. -/
structure BirixRx where
  peer : Peer
  start : Nat
  fin : Option Nat
  crc : BitVec 32
deriving DecidableEq, Repr

/-- One conversion of a ratiometric input (R275): how long before the reload, in nanoseconds, the input's voltage, and the sense voltage
of its supply converted at the same instant, on one scale. -/
structure AnaConv where
  age : Nat
  vIn : Nat
  sense : Nat
deriving DecidableEq, Repr

/-- How long a rail pair holds a reading (R297, R301): from `t` on, and until it reads idle again at `till` where that is known. -/
structure RailSpan where
  t : Nat
  till : Option Nat
deriving DecidableEq, Repr

/-- The feedback contacts FB0 to FB3 as the inputs read at an instant, 1 for on (R288). -/
structure FbRead where
  t : Nat
  fb : BitVec 4
deriving DecidableEq, Repr

/-- What the lane's converters and sensors hold at a steering reload (R29 step 2): the mean DC link and brake supply of
the ending sample, the winding temperature, the monitors T0 to T13 and V0 to V19 at their latest update (R461), the latest
conversions of each ratiometric input (R275), and the other conversions that the slots of R108 and R207 carry, and whether the winding's terminals stand above the link (R95). -/
structure Captures where
  vLink : Code
  vBrake : Code
  vLogic : Code
  rOn : Code
  tWind : Code
  temps : List Code
  volts : List (BitVec 16)
  ana : List (List AnaConv)
  fb : BitVec 4
  vTermAbove : Bool
deriving DecidableEq, Repr

/-- A t5 (R27): its instant, and whether the open winding's terminals stand above the link (R95). -/
structure CheckAt where
  t : Nat
  vTermAbove : Bool
deriving DecidableEq, Repr

/-- V_LINK in volt now and 10 ms before (R289). -/
structure LinkVolts where
  now : Nat
  before : Nat
deriving DecidableEq, Repr

/-- The edge that a steering or brake node makes (R97): instants in 0.5 ns units from the reload that started the
sample, except `slew`, which runs from the outgoing switch's turn-off command; `onCmd` is the complementary switch's turn-on
command in the period, if there is one. `gateHold` is how many ticks the interlock held the turn-on beyond the dead time
(R253). -/
structure EdgeIn where
  leg : Leg
  rise : Bool
  cross : Nat
  slew : Nat
  cmdTick : Nat
  onCmd : Option Nat
  gateHold : Nat
deriving DecidableEq, Repr

/-- A frame as a port of E6 receives it (R318, R319, R330), with its stamp in lane time (R326): its tag, none where it is untagged (DEI is
judged by no step of R321), the fields of its SecTAG, its header, and the payload bytes for which the frame has room; `reserved` is the
field at 0x0E of its header. -/
structure Ingress where
  net : Net
  stamp : Nat
  fcsOk : Bool
  tpid : BitVec 16
  dei : Bool
  vid : Option (BitVec 12)
  pcp : BitVec 3
  sectag : Bool
  tci : BitVec 6
  an : BitVec 2
  sl : BitVec 8
  pn : BitVec 64
  sci : BitVec 64
  icvOk : Bool
  etherType : BitVec 16
  version : BitVec 8
  msgType : BitVec 8
  seg : BitVec 8
  source : BitVec 8
  stream : BitVec 16
  rseq : BitVec 16
  unit : BitVec 32
  length : BitVec 16
  frameRoom : Nat
  reserved : BitVec 16
  srcMac : BitVec 48
  dstMac : BitVec 48
deriving DecidableEq, Repr

/-- The Demand payload of R348. -/
structure DemandPayload where
  session : BitVec 16
  epoch : BitVec 16
  seq : BitVec 32
  flags : BitVec 16
  reserved : List Byte
  motion : List Byte
deriving DecidableEq, Repr

/-- The transaction head of R355. -/
structure TxnHead where
  session : BitVec 16
  tag : BitVec 16
  op : BitVec 8
  index : BitVec 16
  sub : BitVec 8
  dataLen : BitVec 16
  offset : BitVec 32
  hostTime : BitVec 64
deriving DecidableEq, Repr

/-- The prefix of a key agreement message (R333). -/
structure KaPrefix where
  hostKey : BitVec 8
  session : BitVec 16
  xid : BitVec 32
deriving DecidableEq, Repr

/-- The status of a port 10 ms after a change of its link, or at the change back (R316): the PHY's link, and the local and the remote
receiver status. -/
structure LinkRx where
  t : Nat
  phyUp : Bool
  localOk : Bool
  remoteOk : Bool
deriving DecidableEq, Repr

/-- The head of a received CAN XL frame (R337) with the lane time of its start and end, and the error state of the port after it (R342: 0
error active, 1 error passive, 2 bus off). -/
structure CanRx where
  start : Nat
  fin : Nat
  priority : BitVec 11
  xlFormat : Bool
  sdt : BitVec 8
  sec : Bool
  vcid : BitVec 8
  acceptance : BitVec 32
  busState : Fin 3
deriving DecidableEq, Repr

/-- The head of a received classical or CAN FD frame (R336, R337, R340) with the lane time of its end, and the error state of the port
after it. -/
structure SkdRx where
  t : Nat
  priority : BitVec 11
  fd : Bool
  busState : Fin 3
deriving DecidableEq, Repr

/-- What the halves of the arbiter sense at an evaluation: the stop line, and for every output whether both halves'
checks of the channel pass (R81, R87). -/
structure ArbSense where
  stopClosed : Bool
  checkPass : BitVec 8
deriving DecidableEq, Repr

/-- One classified reading of a test-pulse slot: v1 at 20 µs and v2 at 60 µs, in millivolt (R273). -/
structure SlotReading where
  v1 : Nat
  v2 : Nat
deriving DecidableEq, Repr

/-- A SENT frame as its receiver sees it (R277): the nibbles, the length of its synchronisation pulse of 56 ticks in nanoseconds, and
the presence of a pause pulse. -/
structure SentRx where
  endTime : Nat
  sync : Nat
  pausePulse : Bool
  status : BitVec 4
  nibbles : List (BitVec 4)
  crc : BitVec 4
deriving DecidableEq, Repr

/-- A gPTP frame of 802.1AS as its time function takes it (R324). -/
structure GptpRx where
  net : Net
  stamp : Nat
  fcsOk : Bool
  asCapable : Bool
  syncWithFollowUp : Bool
  netTime : Nat
  syncInterval : Nat
  grandmaster : BitVec 64
deriving DecidableEq, Repr

/-- What a block answers in the prepare phase of R435: agree, refuse, or nothing within 20 µs. -/
inductive Answer | agree | refuse | silent
deriving DecidableEq, Repr

/-- What a scrub read finds in a codeword (R458, R460). -/
inductive WordError | none | single (bit : BitVec 6) | uncorrectable
deriving DecidableEq, Repr

/-- The self-test failure record of R445. -/
structure SelftestRecord where
  block : BitVec 8
  test : BitVec 8
  memory : BitVec 8
  bit : BitVec 8
  address : BitVec 32
  element : BitVec 8
  expected : BitVec 8
  measured : BitVec 32
deriving DecidableEq, Repr

/-- What the two wires of the wake bus carry (R440): both low, both high, a pulse on WK1, a pulse on WK0. -/
inductive WakeLine | spacer | both | one | zero
deriving DecidableEq, Repr

/-- A stretch of the wake bus (R440): its symbol and its length in nanoseconds. -/
structure WakeSeg where
  line : WakeLine
  ns : Nat
deriving DecidableEq, Repr

/-- An internal reference of the loop-back (R444): 1.25 V, 3.75 V, or the 10 kHz sine of the resolver inputs. -/
inductive LoopRef | low | high | sine
deriving DecidableEq, Repr

/-- The comparators that the loop-back sweeps (R444). -/
inductive LoopComp | limit | gross | bermLevel3 | lockout
deriving DecidableEq, Repr

/-- A reading of the start-up self-test (R444): the read of a codeword by an element of the March C− test; a signature of a core of the
lockstep pair; and of the loop-back, in the order of its table, an input's reading of a reference in microvolt, a pattern as sent and as
received, a converter's reading of a reference in microvolt, a leg's T_CMD and T_CROSS in eighths of a tick, a comparator's nominal and
found trip level in thousandths of its unit, and the voltage in microvolt of the 1 mA or (`two`) the 2 mA source on its load. -/
inductive SelfReading
  | march (memory : Fin 16) (address : BitVec 32) (element : Fin 7) (word : BitVec 39)
  | core (second : Bool) (signature : BitVec 64)
  | input (r : LoopRef) (microvolt : Nat)
  | pattern (sent received : List Byte)
  | converter (high : Bool) (microvolt : Nat)
  | edge (cmd cross : Nat)
  | comparator (c : LoopComp) (nominal found : Nat)
  | source (two : Bool) (microvolt : Nat)
deriving DecidableEq, Repr

/-- What the start-up self-test found (R442, R444): the variant code, where it could be read, and the readings. -/
structure SelfResult where
  variant : Option (Fin 3)
  readings : List SelfReading
deriving DecidableEq, Repr

/-- An NV image (R380): the fields of its header, and its entries by object key with type code and value. -/
structure NvImage where
  magic : Nat
  layout : Nat
  kind : Nat
  lane : Nat
  gen : Nat
  setCounter : Nat
  unit : Nat
  length : Nat
  count : Nat
  digest : List Byte
  entries : List (Nat × (Nat × List Byte))
deriving DecidableEq, Repr

/-- A lane cartridge as it is fitted in a slot (R379, R425, R427): its serial number and hardware revision, its non-volatile memory (which
calibration its factory image holds, the entries of that image that differ from the defaults of the object tables, whether it passes its
check, the copies of the user image), its key store, its firmware slots and program image, manifest and content, and its banks. -/
structure Cartridge where
  serial : List Byte
  hwRev : BitVec 16
  calibration : Nat
  factory : List (Nat × List Byte)
  factoryOk : Bool
  copyA : Option NvImage
  copyB : Option NvImage
  lcState : Fin 6
  idKey : List Byte
  idCert : List Byte
  quotes : BitVec 32
  rollback : BitVec 128
  rollbackLeft : BitVec 64
  fwA : List Byte × List Byte
  fwB : List Byte × List Byte
  program : List Byte × List Byte
  bank0 : List Byte
  bank1 : List Byte
deriving DecidableEq, Repr

/-- A reset release (R442): its instant, and the cartridge that has been fitted since the lane's last start, if one has. -/
structure ResetAt where
  t : Nat
  cartridge : Option Cartridge
deriving DecidableEq, Repr

/-- The commands of the module, one constructor per row of spec/opcode_table.json, in the table's order. -/
inductive Instr
  | steeringReload (l : LaneId) (t : Nat) (c : Captures)
  | spec (l : LaneId) (t : Nat)
  | brakeSlot (l : LaneId) (n : Fin 8) (t : Nat)
  | mvm (l : LaneId) (acc wb : Bool) (mat src dst : BitVec 8)
  | vadd (l : LaneId) (wrap copy : Bool) (len : Fin 32) (src dst : BitVec 8)
  | vsub (l : LaneId) (wrap : Bool) (len : Fin 32) (src dst : BitVec 8)
  | sat (l : LaneId) (len : Fin 32) (k : Fin 16) (dst : BitVec 8)
  | lim (l : LaneId) (mode : Fin 4) (len : Fin 32) (bnd dst : BitVec 8)
  | sel (l : LaneId) (bit : Fin 16) (pol : Bool) (len : Fin 32) (src dst : BitVec 8)
  | ld (l : LaneId) (mode : Fin 4) (len : Fin 32) (slot dst : BitVec 8)
  | st (l : LaneId) (len : Fin 32) (src pslot : BitVec 8)
  | ldc (l : LaneId) (tgt space : Bool) (addr : BitVec 8)
  | tube (l : LaneId) (len : Fin 32) (tub src : BitVec 8)
  | prep (l : LaneId) (dq : Bool) (src : BitVec 8)
  | commit (l : LaneId) (dq : Bool) (src : BitVec 8)
  | post (l : LaneId) (eng : Fin 8) (src : BitVec 8)
  | endEntry (l : LaneId)
  | overburden (l : LaneId) (loop : Fin 9) (t : Nat)
  | exchangeSend (l : LaneId) (t : Nat)
  | exchangeFrame (l : LaneId) (rx : BirixRx) (f : ExchFrame)
  | exchangeCheck (l : LaneId) (t5 : CheckAt)
  | capTrigNow (l : LaneId) (t : Nat) (v : BitVec 8)
  | listenEnd (l : LaneId) (t : Nat)
  | timeFrameSend (l : LaneId) (t : Nat)
  | timeFrame (l : LaneId) (rx : BirixRx) (f : TimeFrame)
  | birixTypeUnknown (l : LaneId) (p : Peer) (ty : BitVec 8)
  | propose (l : LaneId) (rx : BirixRx) (f : CommitFrame)
  | accept (l : LaneId) (rx : BirixRx) (f : CommitFrame)
  | refuse (l : LaneId) (rx : BirixRx) (f : CommitFrame)
  | apply (l : LaneId) (rx : BirixRx) (f : CommitFrame)
  | abort (l : LaneId) (rx : BirixRx) (f : CommitFrame)
  | digestSend (l : LaneId) (t : Nat)
  | digest (l : LaneId) (rx : BirixRx) (f : CommitFrame)
  | syncReq (l : LaneId) (rx : BirixRx) (f : CommitFrame)
  | syncData (l : LaneId) (rx : BirixRx) (f : CommitFrame)
  | announceSend (l : LaneId) (t : Nat)
  | announce (l : LaneId) (rx : BirixRx) (f : UpdateFrame)
  | shaperSeed (l : LaneId) (rx : BirixRx) (f : UpdateFrame)
  | csForward (l : LaneId) (rx : BirixRx) (f : UpdateFrame)
  | csConfirm (l : LaneId) (rx : BirixRx) (f : UpdateFrame)
  | armed (l : LaneId) (rx : BirixRx) (f : CaptureFrame)
  | trigger (l : LaneId) (rx : BirixRx) (f : CaptureFrame)
  | evictionLine (l : LaneId) (p : Peer) (level : Bool) (t : Nat)
  | gatePowerLatch (l : LaneId) (t : Nat) (vTermAbove : Bool)
  | shortRelease (l : LaneId) (t : Nat)
  | rearm (l : LaneId) (t : Nat)
  | claimFrameSend (l : LaneId) (t : Nat)
  | claimFrame (h : ArbHalf) (link : LaneId) (t : Nat) (f : ClaimFrame) (crc : BitVec 16)
  | arbiterEvaluation (t : Nat) (sense : ArbSense)
  | halfFault (h : ArbHalf) (t : Nat)
  | handshakeTimeout (h : ArbHalf) (t : Nat)
  | arbiterStatusFrame (l : LaneId) (t : Nat) (f : StatusFrame) (crc : BitVec 16)
  | safeStateTimer (h : ArbHalf) (t : Nat)
  | offPulseTest (h : ArbHalf) (out : Fin 8) (t : Nat) (staysHigh cut : Bool)
  | openLoad (out : Fin 8) (milliamp heldMs : Nat)
  | overcurrent (out : Fin 8) (milliamp heldMs : Nat)
  | outputNotFollowingDuty (out : Fin 8) (measured : BitVec 8) (heldMs : Nat)
  | contactorFeedbackCompare (l : LaneId) (out : Fin 8) (t : Nat)
  | claimWindowEnd (l : LaneId) (t : Nat)
  | edgeCrossing (l : LaneId) (stage : Stage) (e : EdgeIn)
  | probeTrip (l : LaneId) (sw : Switch) (cross cmdTick : Nat)
  | limitTruncation (l : LaneId) (stage : Stage) (sw : Switch) (t : Nat)
  | overdriveBudgetSpent (l : LaneId) (t : Nat)
  | peakReserveSpent (l : LaneId) (t : Nat)
  | brakePeakReserveSpent (l : LaneId) (n : Fin 8) (t : Nat)
  | supervisionRun (l : LaneId) (t : Nat)
  | relockTimeout (l : LaneId) (t : Nat)
  | hostLossHoldEnd (l : LaneId) (t : Nat)
  | simplexStopTimeEnd (l : LaneId) (t : Nat)
  | stopTrimUpdate (l : LaneId) (t : Nat)
  | standstill (l : LaneId) (t : Nat)
  | bermExit (l : LaneId) (level2 : Bool) (t : Nat)
  | bermLevel3 (l : LaneId) (t volts : Nat) (vTermAbove : Bool)
  | bermAutoClear (l : LaneId) (t : Nat)
  | hallChange (l : LaneId) (n : Fin 8) (code : BitVec 3) (t : Nat)
  | hallInvalidHold (l : LaneId) (n : Fin 8) (t : Nat)
  | bdRestore (l : LaneId) (n : Fin 8) (t : Nat)
  | homingDone (l : LaneId) (n : Fin 8) (t : Nat)
  | parkForceReached (l : LaneId) (n : Fin 8) (t : Nat)
  | parkCurrentZero (l : LaneId) (n : Fin 8) (t : Nat)
  | lockCheck (l : LaneId) (n : Fin 8) (t : Nat)
  | unlockTimeout (l : LaneId) (n : Fin 8) (t : Nat)
  | forcePlausibility (l : LaneId) (n : Fin 8) (row : Fin 3) (t : Nat)
  | retractDelay (l : LaneId) (n : Fin 8) (t : Nat)
  | midPeriodPoint (l : LaneId) (stage : Stage) (t : Nat)
  | brakeBoundary (l : LaneId) (n : Fin 8) (t : Nat)
  | lgCommit (l : LaneId) (stage : Stage) (count : Nat) (withE1 : Bool)
  | lgCancel (l : LaneId) (stage : Stage)
  | pwmEn (l : LaneId) (stage : Stage) (en : Bool) (t : Nat)
  | gateSupplyLockout (l : LaneId) (sup : Fin 7) (t : Nat)
  | gateSupplyRelease (l : LaneId) (sup : Fin 31) (t : Nat)
  | bootstrapWarning (l : LaneId) (n : Fin 8) (leg : Leg) (t : Nat)
  | bootstrapLockout (l : LaneId) (n : Fin 8) (leg : Leg) (t : Nat)
  | desaturation (l : LaneId) (stage : Stage) (sw : Switch) (t : Nat)
  | grossCurrent (l : LaneId) (stage : Stage) (sw : Switch) (inBlank : Bool) (t : Nat)
  | softTurnOffLevel2 (l : LaneId) (stage : Stage) (t : Nat)
  | softTurnOffEnd (l : LaneId) (stage : Stage) (t : Nat) (vTermAbove : Bool)
  | shootThroughInterlock (l : LaneId) (stage : Stage) (leg : Leg) (period : Nat) (t : Nat)
  | tripWaitEnd (l : LaneId) (stage : Stage) (t : Nat)
  | railCheckDone (l : LaneId) (stage : Stage) (t : Nat) (nodes : List Nat) (vPos : Nat)
  | tripPersists (l : LaneId) (stage : Stage) (t : Nat)
  | diagGo (l : LaneId) (t : Nat)
  | offStateDiagnostics (l : LaneId) (stage : Stage) (t : Nat) (nodes : List Nat) (vPos : Nat)
  | cextGo (l : LaneId) (t : Nat) (rampNs : Option Nat)
  | diagResultWrite (l : LaneId) (stage : Stage) (v : BitVec 16) (t : Nat)
  | testPulseSlot (l : LaneId) (t : Nat) (sup ana : List SlotReading)
  | testPulseFrameEnd (l : LaneId) (t : Nat)
  | supplyOutOfBand (l : LaneId) (s : Fin 4) (t : Nat)
  | supplyOvercurrent (l : LaneId) (s : Fin 4) (t : Nat)
  | supplyTripClear (l : LaneId) (s : Fin 4) (t : Nat)
  | sentFrame (l : LaneId) (ch : Fin 5) (f : SentRx)
  | resolverUpdate (l : LaneId) (t : Nat) (angle : BitVec 16) (speed : Code) (flags : BitVec 4)
  | safeStopTestPulse (l : LaneId) (ch : Bool) (t : Nat) (offAfter onAfter : Option Nat)
  | safeStopSample (l : LaneId) (t : Nat) (on0 on1 : Bool)
  | safeStopDiscrepancy (l : LaneId) (t : Nat)
  | closingSequence (l : LaneId) (t : Nat)
  | openingSequence (l : LaneId) (t : Nat)
  | knOpenDelay (l : LaneId) (t : Nat)
  | feedbackConfirmed (l : LaneId) (d : CtDrive) (r : FbRead)
  | prechargeComplete (l : LaneId) (t : Nat) (link : LinkVolts)
  | prechargeTimeout (l : LaneId) (t : Nat)
  | feedbackMismatch (l : LaneId) (d : CtDrive) (r : FbRead)
  | contactorOffPulse (l : LaneId) (d : CtDrive) (t : Nat) (fellAfterUs : Option Nat) (demand : Bool)
  | offPulseRetest (l : LaneId) (d : CtDrive) (t : Nat) (fellAfterUs : Option Nat) (demand : Bool)
  | sioScheduleWrite (l : LaneId) (img : List Byte) (t : Nat)
  | sourceAsserted (l : LaneId) (src : BitVec 8) (data : BitVec 32) (vTermAbove : Bool) (sp : RailSpan)
  | brokenWire (l : LaneId) (src : BitVec 8) (trueRail : Bool) (sp : RailSpan)
  | collFw (l : LaneId) (src : BitVec 8) (assert : Bool) (data : BitVec 32) (t : Nat)
  | inject (l : LaneId) (v : BitVec 16) (seen : Bool) (data : BitVec 32) (t : Nat)
  | faultClear (l : LaneId) (v : BitVec 8) (still : List (BitVec 8)) (t : Nat)
  | recordReset (l : LaneId) (v : BitVec 8) (t : Nat)
  | requalificationSliceDone (l : LaneId) (ok : Bool) (block : Fin 9) (t : Nat)
  | faultLogCopy (l : LaneId) (t : Nat)
  | gptpFrame (l : LaneId) (f : GptpRx)
  | netTimeLost (l : LaneId) (net : Net) (t : Nat)
  | demand (l : LaneId) (rx : Ingress) (d : DemandPayload)
  | read (l : LaneId) (rx : Ingress) (h : TxnHead)
  | write (l : LaneId) (rx : Ingress) (h : TxnHead) (data : List Byte)
  | bulkRead (l : LaneId) (rx : Ingress) (h : TxnHead)
  | sessionClose (l : LaneId) (rx : Ingress) (h : TxnHead)
  | sessionOpen (l : LaneId) (rx : Ingress) (h : TxnHead)
  | txnBadOp (l : LaneId) (rx : Ingress) (h : TxnHead)
  | report (l : LaneId) (t : Nat)
  | gateWindow (l : LaneId) (net : Net) (t : Nat)
  | linkDown (l : LaneId) (net : Net) (t : LinkRx)
  | streamHistoryReset (l : LaneId) (mac : BitVec 48) (stream : BitVec 16) (t : Nat)
  | tagQuarantineEnd (l : LaneId) (canPort : Bool) (tag : BitVec 12) (t : Nat)
  | sessionTimeout (l : LaneId) (t : Nat)
  | kaCertReq (l : LaneId) (rx : Ingress) (k : KaPrefix)
  | kaHello (l : LaneId) (rx : Ingress) (k : KaPrefix) (nH ek : List Byte)
  | kaReply (l : LaneId) (t : Nat)
  | kaConfirm (l : LaneId) (rx : Ingress) (k : KaPrefix) (sigH confH : List Byte)
  | kaDone (l : LaneId) (t : Nat)
  | kaTimeout (l : LaneId) (t : Nat)
  | stopFrame (l : LaneId) (rx : CanRx) (payload : List Byte)
  | stopFrameHoldEnd (l : LaneId) (t : Nat)
  | canTransaction (l : LaneId) (rx : CanRx) (h : TxnHead) (data : List Byte)
  | skd2AliasRead (l : LaneId) (t : SkdRx) (payload : List Byte)
  | skd2AliasWrite (l : LaneId) (t : SkdRx) (payload : List Byte)
  | doorbell (l : LaneId) (d : Fin 4) (w : BitVec 32) (t : Nat)
  | doorbellForward (l : LaneId) (d : Fin 4) (t : Nat)
  | nvStore (l : LaneId) (t : Nat)
  | roStore (l : LaneId) (t : Nat)
  | nvStage (l : LaneId) (off : Nat) (data : List Byte) (t : Nat)
  | nvStageCheck (l : LaneId) (v : BitVec 8) (t : Nat)
  | nvStageCheckDone (l : LaneId) (t : Nat)
  | nvStageInstall (l : LaneId) (digest : List Byte) (t : Nat)
  | nvUserReset (l : LaneId) (v : BitVec 8) (t : Nat)
  | voteStatusReset (l : LaneId) (n : Fin 10) (v : BitVec 8) (t : Nat)
  | outFaultClear (l : LaneId) (n : Fin 8) (v : BitVec 8) (t : Nat)
  | counterReset (l : LaneId) (index : BitVec 16) (sub : BitVec 8) (data : List Byte) (t : Nat)
  | coefStandbyImage (l : LaneId) (off : Nat) (data : List Byte) (t : Nat)
  | coefStandbyCheck (l : LaneId) (v : BitVec 8) (t : Nat)
  | standbyCheckDone (l : LaneId) (t : Nat)
  | swapRequest (l : LaneId) (target : BitVec 32) (t : Nat)
  | mxSwapReq (l : LaneId) (t : Nat)
  | mxSwapCancel (l : LaneId) (t : Nat)
  | mxRun (l : LaneId) (run : Bool) (t : Nat)
  | specEn (l : LaneId) (en : Bool) (t : Nat)
  | benchForce (l : LaneId) (loop : Fin 9) (v : BitVec 8) (t : Nat)
  | csImage (l : LaneId) (off : Nat) (data : List Byte) (t : Nat)
  | csAuth (l : LaneId) (auth : List Byte) (t : Nat)
  | csConfirmTimeout (l : LaneId) (t : Nat)
  | csApply (l : LaneId) (v : BitVec 8) (t : Nat)
  | csNonceRenew (l : LaneId) (v : BitVec 8) (t : Nat)
  | authorisationExpiry (l : LaneId) (fleetSafety : Bool) (t : Nat)
  | attestNonce (l : LaneId) (nonce : List Byte) (t : Nat)
  | quoteReady (l : LaneId) (t : Nat)
  | enrolCert (l : LaneId) (cert : List Byte) (t : Nat)
  | rollbackAdvance (l : LaneId) (v : List (BitVec 32)) (t : Nat)
  | standAside (l : LaneId) (vTermAbove : Bool) (t : Nat)
  | standAsideForRemoval (l : LaneId) (vTermAbove : Bool) (t : Nat)
  | readyForRemoval (l : LaneId) (volts t : Nat)
  | standAsideEnd (l : LaneId) (t : Nat)
  | fwImage (l : LaneId) (off : Nat) (data : List Byte) (t : Nat)
  | fwInstallCheck (l : LaneId) (v : BitVec 8) (t : Nat)
  | fwInstallCheckDone (l : LaneId) (t : Nat)
  | fwActivate (l : LaneId) (v : BitVec 8) (t : Nat)
  | fwTrialTimeout (l : LaneId) (t : Nat)
  | progImage (l : LaneId) (off : Nat) (data : List Byte) (t : Nat)
  | progCheck (l : LaneId) (v : BitVec 8) (t : Nat)
  | svcWeRetract (l : LaneId) (w : BitVec 8) (t : Nat)
  | bdPadChanged (l : LaneId) (n : Fin 8) (t : Nat)
  | pwrRequest (l : LaneId) (target : BitVec 8) (t : Nat)
  | pwrModuleRequest (target : BitVec 8) (t : Nat)
  | pwrIdlePark (l : LaneId) (t : Nat)
  | waitInstruction (l : LaneId) (answers : List Answer) (t : Nat)
  | agreementTimeout (l : LaneId) (block : Fin 6) (t : Nat)
  | agreementRetry (l : LaneId) (answers : List Answer) (t : Nat)
  | requestAbandoned (l : LaneId) (t : Nat)
  | keepAliveRise (l : LaneId) (t : Nat)
  | logicSupplyRise (l : LaneId) (t : Nat)
  | ss0Wake (l : LaneId) (t : Nat)
  | canXlWake (l : LaneId) (t : Nat)
  | wakeFrame (l : LaneId) (line : List WakeSeg) (t : Nat)
  | ethernetWake (l : LaneId) (cls : BitVec 4) (dstMac : BitVec 48) (net : Net) (t : Nat)
  | resetRelease (l : LaneId) (t : ResetAt)
  | selftestDone (l : LaneId) (result : SelfResult) (t : Nat)
  | selftestFail (l : LaneId) (r : SelfReading) (t : Nat)
  | selfTestSlice (l : LaneId) (block : Fin 9) (ok : Bool) (t : Nat)
  | sliceAbort (l : LaneId) (block : Fin 9) (t : Nat)
  | logicSupplyLoss (l : LaneId) (millivolt heldMs t : Nat) (vTermAbove : Bool)
  | brakeSupplyFault (l : LaneId) (millivolt t : Nat)
  | brakeSupplyRestored (l : LaneId) (millivolt t : Nat)
  | dcLinkLow (l : LaneId) (volts t : Nat) (vTermAbove : Bool)
  | dcLinkPresent (l : LaneId) (volts t : Nat)
  | keepAliveLoss (l : LaneId) (t : Nat)
  | engRun (l : LaneId) (e : Fin 8) (run : Bool) (t : Nat)
  | engReset (l : LaneId) (e : Fin 8) (t : Nat)
  | engKick (l : LaneId) (e : Fin 8) (t : Nat)
  | watchdogTrip (l : LaneId) (e : Fin 8) (t : Nat)
  | mailboxWrite (l : LaneId) (s d : Fin 8) (w : BitVec 32) (t : Nat)
  | mailboxTake (l : LaneId) (s d reader : Fin 8) (t : Nat)
  | scrub (l : LaneId) (mem : Fin 16) (addr : BitVec 32) (e : WordError) (t : Nat)
  | processReading (l : LaneId) (counts : List Nat) (t : Nat)
  | ageingLogEntry (l : LaneId) (t : Nat)
  | readClearRegister (l : LaneId) (addr : BitVec 32) (hwSet : BitVec 32) (t : Nat)
  | registerWrite (l : LaneId) (eng : Fin 8) (addr : BitVec 32) (v hwSet : BitVec 32) (t : Nat)
  | arbiterPowerUp (t : Nat)
  | backEmfAboveLink (l : LaneId) (t : Nat)
  | safeStopInputChange (l : LaneId) (ch : Bool) (offNs : Nat) (t : Nat)
  | operatingHoursTick (l : LaneId) (t : Nat)
deriving DecidableEq, Repr

end Sys2Proof
end

