-- ==== Sys2Proof/Decode.lean ====
section
/-!
DEFINITION. Decoding. The opcode table gives no row any bits, so no word spells a command (assumption log 4). The programs of
the matrix engine have words of their own (R131): they are decoded and encoded here, once.
-/
namespace Sys2Proof

/-- The command that a word spells by the table's bits: the table gives no row any. -/
def decodeTableWord (_nbits _w : Nat) : Option Instr := none

/-- An instruction of a loop program (R131). -/
inductive E1Ins
  | endI
  | mvm (acc wb : Bool) (mat src dst : BitVec 8)
  | vadd (wrap copy : Bool) (len : Fin 32) (src dst : BitVec 8)
  | vsub (wrap : Bool) (len : Fin 32) (src dst : BitVec 8)
  | sat (len : Fin 32) (k : Fin 16) (dst : BitVec 8)
  | lim (mode : Fin 4) (len : Fin 32) (bnd dst : BitVec 8)
  | sel (bit : Fin 16) (pol : Bool) (len : Fin 32) (src dst : BitVec 8)
  | ld (mode : Fin 4) (len : Fin 32) (slot dst : BitVec 8)
  | st (len : Fin 32) (src pslot : BitVec 8)
  | ldc (tgt space : Bool) (addr : BitVec 8)
  | tube (len : Fin 32) (tub src : BitVec 8)
  | prep (dq : Bool) (src : BitVec 8)
  | commit (dq : Bool) (src : BitVec 8)
  | post (eng : Fin 8) (src : BitVec 8)
deriving DecidableEq, Repr

/-- Field `lo + n - 1 : lo` of an instruction word. -/
def wfield (w lo n : Nat) : Nat := w / 2 ^ lo % 2 ^ n

/-- A bit of an instruction word. -/
def wbit (w i : Nat) : Bool := wfield w i 1 = 1

/-- An eight-bit field of an instruction word. -/
def wbyte (w lo : Nat) : BitVec 8 := BitVec.ofNat 8 (w / 2 ^ lo)

/-- LEN of an instruction word: bits 20:16. -/
def wlen (w : Nat) : Fin 32 := ⟨wfield w 16 5, Nat.mod_lt _ (by decide)⟩

/-- MODE of an instruction word: bits 25:24. -/
def wmode (w : Nat) : Fin 4 := ⟨wfield w 24 2, Nat.mod_lt _ (by decide)⟩

/-- The instruction of a 32-bit word (R131): none for an illegal opcode, a reserved field that is not 0, a MODE that names no
operation, or LEN other than the one a MODE prescribes. -/
def decodeE1 (w : Nat) : Option E1Ins :=
  if 2 ^ 32 ≤ w then none else
  let src := wbyte w 8
  let dst := wbyte w 0
  match w / 2 ^ 26 with
  | 0 => if wfield w 0 26 = 0 then some .endI else none
  | 1 => some (.mvm (wbit w 25) (wbit w 24) (wbyte w 16) src dst)
  | 2 => if wfield w 21 3 = 0 then some (.vadd (wbit w 25) (wbit w 24) (wlen w) src dst) else none
  | 3 => if wfield w 21 4 = 0 then some (.vsub (wbit w 25) (wlen w) src dst) else none
  | 4 => if wfield w 21 5 = 0 ∧ wfield w 12 4 = 0 then
      some (.sat (wlen w) ⟨wfield w 8 4, Nat.mod_lt _ (by decide)⟩ dst) else none
  | 5 => if wfield w 21 3 = 0 ∧ (wmode w = 0 ∨ (wmode w ≠ 3 ∧ wlen w = 1)) then
      some (.lim (wmode w) (wlen w) src dst) else none
  | 6 => some (.sel ⟨wfield w 22 4, Nat.mod_lt _ (by decide)⟩ (wbit w 21) (wlen w) src dst)
  | 7 => if wfield w 21 3 = 0 ∧ (wmode w = 0 ∨ wmode w = 1 ∨ (wmode w = 2 ∧ wlen w = 2)) then
      some (.ld (wmode w) (wlen w) src dst) else none
  | 8 => if wfield w 21 5 = 0 then some (.st (wlen w) src dst) else none
  | 9 => if wfield w 8 16 = 0 then some (.ldc (wbit w 25) (wbit w 24) dst) else none
  | 10 => if wfield w 21 5 = 0 then some (.tube (wlen w) src dst) else none
  | 11 => if wbit w 25 = false ∧ wfield w 16 8 = 0 ∧ wfield w 0 8 = 0 then some (.prep (wbit w 24) src) else none
  | 12 => if wbit w 25 = false ∧ wfield w 16 8 = 0 ∧ wfield w 0 8 = 0 then some (.commit (wbit w 24) src) else none
  | 13 => if wfield w 19 7 = 0 ∧ wfield w 0 8 = 0 then
      some (.post ⟨wfield w 16 3, Nat.mod_lt _ (by decide)⟩ src) else none
  | _ => none

/-- The number of a bit. -/
def bitN (b : Bool) : Nat := if b then 1 else 0

/-- The word of an instruction (R131). -/
def encodeE1 : E1Ins → Nat
  | .endI => 0
  | .mvm acc wb mat src dst =>
    1 * 2 ^ 26 + bitN acc * 2 ^ 25 + bitN wb * 2 ^ 24 + mat.toNat * 2 ^ 16 + src.toNat * 2 ^ 8 + dst.toNat
  | .vadd wrap copy len src dst =>
    2 * 2 ^ 26 + bitN wrap * 2 ^ 25 + bitN copy * 2 ^ 24 + len.val * 2 ^ 16 + src.toNat * 2 ^ 8 + dst.toNat
  | .vsub wrap len src dst => 3 * 2 ^ 26 + bitN wrap * 2 ^ 25 + len.val * 2 ^ 16 + src.toNat * 2 ^ 8 + dst.toNat
  | .sat len k dst => 4 * 2 ^ 26 + len.val * 2 ^ 16 + k.val * 2 ^ 8 + dst.toNat
  | .lim mode len bnd dst => 5 * 2 ^ 26 + mode.val * 2 ^ 24 + len.val * 2 ^ 16 + bnd.toNat * 2 ^ 8 + dst.toNat
  | .sel bit pol len src dst =>
    6 * 2 ^ 26 + bit.val * 2 ^ 22 + bitN pol * 2 ^ 21 + len.val * 2 ^ 16 + src.toNat * 2 ^ 8 + dst.toNat
  | .ld mode len slot dst => 7 * 2 ^ 26 + mode.val * 2 ^ 24 + len.val * 2 ^ 16 + slot.toNat * 2 ^ 8 + dst.toNat
  | .st len src pslot => 8 * 2 ^ 26 + len.val * 2 ^ 16 + src.toNat * 2 ^ 8 + pslot.toNat
  | .ldc tgt space addr => 9 * 2 ^ 26 + bitN tgt * 2 ^ 25 + bitN space * 2 ^ 24 + addr.toNat
  | .tube len tub src => 10 * 2 ^ 26 + len.val * 2 ^ 16 + tub.toNat * 2 ^ 8 + src.toNat
  | .prep dq src => 11 * 2 ^ 26 + bitN dq * 2 ^ 24 + src.toNat * 2 ^ 8
  | .commit dq src => 12 * 2 ^ 26 + bitN dq * 2 ^ 24 + src.toNat * 2 ^ 8
  | .post eng src => 13 * 2 ^ 26 + eng.val * 2 ^ 16 + src.toNat * 2 ^ 8

/-- Does a word stand for an instruction with the operands that R131 admits? -/
def E1Ins.wf : E1Ins → Bool
  | .lim mode len _ _ => decide (mode = 0) || (decide (mode ≠ 3) && decide (len = 1))
  | .ld mode len _ _ => decide (mode = 0) || decide (mode = 1) || (decide (mode = 2) && decide (len = 2))
  | _ => true

end Sys2Proof
end

