-- ==== Sys2Proof/Machine/Operands.lean ====
section
/-!
DEFINITION. The operand forms of the module: two's complement codes (R11), fixed point with the rounding of R13,
IEEE 754 binary32 codes (R367), fields of words, and exact integer square root and sine. Codes are natural numbers below
2 to the width of their format; values are exact integers and rationals, narrowed at the end.
-/
namespace Sys2Proof.Machine

/-- The integer that an `n`-bit two's complement code stands for (R11). -/
def toI (n v : Nat) : Int := if v < 2 ^ (n - 1) then (v : Int) else (v : Int) - (2 ^ n : Nat)

/-- The `n`-bit code of an integer, modulo 2 to the power n (R11). -/
def ofI (n : Nat) (z : Int) : Nat := (z % (2 ^ n : Nat)).toNat

/-- The nearest integer in the range of an `n`-bit signed code (R13). -/
def satI (n : Nat) (z : Int) : Int :=
  let hi : Int := (2 ^ (n - 1) : Nat)
  if z < -hi then -hi else if hi - 1 < z then hi - 1 else z

/-- Integer quotient rounded to nearest, ties away from zero (R13); `b` is positive. -/
def roundDiv (a : Int) (b : Nat) : Int :=
  if b = 0 then 0 else
  if 0 ≤ a then (2 * a + b) / (2 * b) else -((2 * (-a) + b) / (2 * b))

/-- Rational rounded to the nearest integer, ties away from zero (R13). -/
def roundRat (q : Rat) : Int := roundDiv q.num q.den

/-- The `n`-bit code nearest to an integer, saturating at the end codes (R13). -/
def codeI (n : Nat) (z : Int) : Nat := ofI n (satI n z)

/-- The code of a real value in Q1.15 (R12, R13). -/
def q15 (q : Rat) : Nat := codeI 16 (roundRat (q * 32768))

/-- The code of a real value in Q1.31 (R12, R13). -/
def q31 (q : Rat) : Nat := codeI 32 (roundRat (q * 2147483648))

/-- The value of a Q1.15 code (R12). -/
def valQ15 (v : Nat) : Rat := (toI 16 v : Rat) / 32768

/-- An unsigned `n`-bit code nearest to an integer, saturating (R13). -/
def codeU (n : Nat) (z : Int) : Nat := if z < 0 then 0 else min z.toNat (2 ^ n - 1)

/-- Bits `lo` to `lo + w - 1` of a word. -/
def bits (v lo w : Nat) : Nat := v / 2 ^ lo % 2 ^ w

/-- The word with bits `lo` to `lo + w - 1` replaced by those of `x`. -/
def putBits (v lo w x : Nat) : Nat :=
  v % 2 ^ lo + (x % 2 ^ w) * 2 ^ lo + v / 2 ^ (lo + w) * 2 ^ (lo + w)

/-- Bit `i` of a word. -/
def bitOf (v i : Nat) : Bool := bits v i 1 = 1

/-- The number of a truth value. -/
def b2n (b : Bool) : Nat := if b then 1 else 0

/-- The word whose bit i is the i-th truth value. -/
def packBits : List Bool → Nat
  | [] => 0
  | b :: bs => b2n b + 2 * packBits bs

/-- The low `n` bits of a word as truth values. -/
def unpackBits : Nat → Nat → List Bool
  | 0, _ => []
  | n + 1, v => (v % 2 = 1) :: unpackBits n (v / 2)

/-- The largest r with r * r ≤ n, searched from the bit of weight 2 to the power `fuel` down. -/
def isqrtFrom (n : Nat) : Nat → Nat → Nat
  | 0, r => if (r + 1) * (r + 1) ≤ n then r + 1 else r
  | f + 1, r => isqrtFrom n f (if (r + 2 ^ (f + 1)) * (r + 2 ^ (f + 1)) ≤ n then r + 2 ^ (f + 1) else r)

/-- The integer square root of a number below 2 to the power 128. -/
def isqrt (n : Nat) : Nat := isqrtFrom n 63 0

/-- The square root of a number, rounded to nearest. -/
def sqrtRound (n : Nat) : Nat := let r := isqrt n; if r * r + r < n then r + 1 else r

/-- Parts of a binary32 code: sign, biased exponent, fraction (R367). -/
def f32Sign (v : Nat) : Bool := bitOf v 31
def f32Exp (v : Nat) : Nat := bits v 23 8
def f32Frac (v : Nat) : Nat := bits v 0 23

/-- Is the code a number, not an infinity and not a NaN? -/
def f32Finite (v : Nat) : Bool := f32Exp v ≠ 255

/-- The value of a finite binary32 code; an infinity or a NaN is no number and reads as 0 here. -/
def f32Val (v : Nat) : Rat :=
  let m : Nat := if f32Exp v = 0 then f32Frac v else f32Frac v + 2 ^ 23
  let e : Nat := if f32Exp v = 0 then 1 else f32Exp v
  if f32Exp v = 255 then 0 else
  let a : Rat := if 150 ≤ e then ((m * 2 ^ (e - 150) : Nat) : Rat) else (m : Rat) / ((2 ^ (150 - e) : Nat) : Rat)
  if f32Sign v then -a else a

/-- The exponent e in -149 to 104 at which a positive rational num/den has a significand below 2^24. -/
def f32Scale (num den : Nat) : Nat → Int → Int
  | 0, e => e
  | f + 1, e =>
    if num * 2 ^ (-e).toNat < 2 ^ 24 * den * 2 ^ e.toNat then e else f32Scale num den f (e + 1)

/-- Quotient of naturals rounded to nearest, ties to even. -/
def divEven (a b : Nat) : Nat :=
  let q := a / b
  let r := a % b
  if 2 * r < b then q else if b < 2 * r then q + 1 else if q % 2 = 0 then q else q + 1

/-- The binary32 code of a rational: nearest, ties to even; beyond the range an infinity (IEEE 754). -/
def f32Of (q : Rat) : Nat :=
  if q = 0 then 0 else
  let n := q.num.natAbs
  let e := f32Scale n q.den 260 (-149)
  let m := divEven (n * 2 ^ (-e).toNat) (q.den * 2 ^ e.toNat)
  let em : Int × Nat := if m = 2 ^ 24 then (e + 1, 2 ^ 23) else (e, m)
  let s := if q < 0 then 2 ^ 31 else 0
  if 104 < em.1 then s + 255 * 2 ^ 23
  else if em.2 < 2 ^ 23 then s + em.2
  else s + (em.1 + 150).toNat * 2 ^ 23 + (em.2 - 2 ^ 23)

/-- pi as a rational, to 20 digits. -/
def piQ : Rat := 314159265358979323846 / 100000000000000000000

/-- sin x by its series up to the 23rd power, for |x| at most pi; the rest is below 2 to the -40. -/
def sinQ (x : Rat) : Rat :=
  let y := x * x
  [506, 420, 342, 272, 210, 156, 110, 72, 42, 20, 6].foldl (fun a d => 1 - y / d * a) (1 : Rat) * x

/-- The sine of a fraction of a turn. -/
def sinTurn (r : Rat) : Rat := sinQ (2 * piQ * (r - (r + 1 / 2).floor))

/-- The cosine of a fraction of a turn. -/
def cosTurn (r : Rat) : Rat := sinTurn (r + 1 / 4)

/-- The nearest integer to the square root of n / d. -/
def sqrtRatio (n d : Nat) : Nat :=
  let r := isqrt (n / d)
  if (2 * r + 1) * (2 * r + 1) * d ≤ 4 * n then r + 1 else r

/-- The sum of a list. -/
def sumNat (l : List Nat) : Nat := l.foldl (· + ·) 0

/-- Element `i` of a list of numbers, 0 beyond its end. -/
def nth (l : List Nat) (i : Nat) : Nat := l.getD i 0

/-- Insertion into an ascending list without repeats. -/
def insertAsc (x : Nat) : List Nat → List Nat
  | [] => [x]
  | y :: ys => if x < y then x :: y :: ys else if x = y then y :: ys else y :: insertAsc x ys

/-- The ascending list with one element taken out. -/
def removeAsc (x : Nat) (l : List Nat) : List Nat := l.filter (· ≠ x)

/-- The middle of three integers. -/
def middle (a b c : Int) : Int := max (min a b) (min (max a b) c)

end Sys2Proof.Machine
end

