-- ==== Sys2Proof/Machine/Frames.lean ====
section
/-!
DEFINITION. Check values (R40, R78, R277) and the bytes of the frames that carry them: exchange (R39), Time (R38), claim
(R78), arbiter status (R81), dictionary commit (R375), Update (R420) and capture alignment (R468).
-/
namespace Sys2Proof.Machine

/-- One bit of a reflected CRC-32. -/
def crc32Bit (c : BitVec 32) : BitVec 32 :=
  if c.getLsbD 0 then (c >>> 1) ^^^ 0xEDB88320#32 else c >>> 1

/-- One byte of the CRC-32 of R40; the polynomial is used in its reflected form. -/
def crc32Byte (c : BitVec 32) (b : Byte) : BitVec 32 :=
  crc32Bit (crc32Bit (crc32Bit (crc32Bit (crc32Bit (crc32Bit (crc32Bit (crc32Bit (c ^^^ b.setWidth 32))))))))

/-- The CRC-32 of R40 over the bytes in the order they are sent. -/
def crc32 (bs : List Byte) : BitVec 32 := (bs.foldl crc32Byte 0xFFFFFFFF#32) ^^^ 0xFFFFFFFF#32

/-- One bit of the CRC-16 of R78. -/
def crc16Bit (c : BitVec 16) : BitVec 16 := if c.getLsbD 15 then (c <<< 1) ^^^ 0x1021#16 else c <<< 1

/-- One byte of the CRC-16 of R78. -/
def crc16Byte (c : BitVec 16) (b : Byte) : BitVec 16 :=
  crc16Bit (crc16Bit (crc16Bit (crc16Bit (crc16Bit (crc16Bit (crc16Bit (crc16Bit
    (c ^^^ (b.setWidth 16 <<< 8)))))))))

/-- The CRC-16 of R78. -/
def crc16 (bs : List Byte) : BitVec 16 := bs.foldl crc16Byte 0xFFFF#16

/-- The bytes of a list of 16-bit codes, `n` of them, missing ones 0 (R14). -/
def codes16 (n : Nat) (l : List Code) : List Byte :=
  (List.range n).flatMap fun i => bytesBE 2 ((l.getD i 0).toNat)

/-- `n` bytes of a list, padded with 0. -/
def padTo (n : Nat) (l : List Byte) : List Byte := l.take n ++ List.replicate (n - l.length) 0

/-- Bytes 0x00 to 0xFB of an exchange frame (R39). -/
def exchBytes (f : ExchFrame) : List Byte :=
  [0x01#8, f.source] ++ bytesBE 2 f.status.toNat ++ bytesBE 4 f.sampleNo.toNat ++ bytesBE 8 f.reloadTime.toNat
  ++ bytesBE 2 f.claim.toNat ++ [f.verdictLo, f.verdictHi] ++ bytesBE 4 f.demandSeq.toNat
  ++ bytesBE 2 f.demandEpoch.toNat ++ bytesBE 2 f.session.toNat ++ bytesBE 4 f.demandCrc.toNat
  ++ padTo 40 f.demandMotion ++ bytesBE 2 f.rotorAngle.toNat ++ bytesBE 2 f.rotorSpeed.toNat
  ++ [f.angleStatus, 0, 0, 0] ++ codes16 3 f.uCmd ++ codes16 3 f.uMeas ++ codes16 2 f.iDq
  ++ bytesBE 2 f.vLink.toNat ++ bytesBE 2 f.vBrake.toNat ++ bytesBE 2 f.vLogic.toNat
  ++ bytesBE 2 f.torqueShare.toNat ++ codes16 4 f.sentVal ++ codes16 6 f.anaVal
  ++ [f.safeStop, f.feedback, f.sentOk, f.anaOk] ++ codes16 8 f.brakeForce ++ padTo 8 f.brakeState
  ++ bytesBE 2 f.capability.toNat ++ bytesBE 2 f.overdriveBudget.toNat ++ bytesBE 2 f.tempMax.toNat
  ++ bytesBE 2 f.health.toNat ++ bytesBE 4 f.firstCause.toNat ++ [f.evictOut, f.evictIn]
  ++ bytesBE 2 f.voteFlags.toNat
  ++ ((List.range 2).flatMap fun i => bytesBE 4 ((f.peerOffset.getD i 0).toNat))
  ++ codes16 32 f.appValues ++ List.replicate 12 0

/-- Bytes 0 to 27 of a Time frame: type, source, two reserved bytes and three lane times (R38). -/
def timeBytes (f : TimeFrame) : List Byte :=
  [0x02#8, f.source, 0, 0] ++ bytesBE 8 f.sendTime.toNat ++ bytesBE 8 f.lastRx.toNat ++ bytesBE 8 f.prevTx.toNat

/-- Bytes 0x00 to 0x13 of a claim frame (R78). -/
def claimBytes (f : ClaimFrame) : List Byte :=
  [0xC1#8, f.source] ++ bytesBE 2 f.claim.toNat ++ bytesBE 2 f.counter.toNat ++ [f.evictNotice, f.control]
  ++ padTo 8 f.outCmd ++ [f.safeMode, f.chanHold, f.chanClear, 0]

/-- Bytes 0x00 to 0x1D of an arbiter status frame (R81). -/
def statusBytes (f : StatusFrame) : List Byte :=
  [0xA5#8, f.arbFlags] ++ bytesBE 2 f.winner.toNat ++ bytesBE 2 f.evalCount.toNat ++ [f.current, f.disregard]
  ++ padTo 8 f.outState ++ [f.chanFault] ++ bytesBE 4 f.chanCause.toNat ++ [f.stopState]
  ++ bytesBE 2 f.cmdCounter.toNat ++ List.replicate 6 0

/-- Padding with zero bytes to a multiple of 4. -/
def pad4 (bs : List Byte) : List Byte := bs ++ List.replicate ((4 - bs.length % 4) % 4) 0

/-- The bytes of an entry (R376). -/
def entryBytes (e : Entry) : List Byte :=
  pad4 (bytesBE 2 e.index.toNat ++ [e.sub, e.ty] ++ bytesBE 2 e.value.length ++ [0, 0] ++ e.value)

/-- The bytes of entries, padding included (R375). -/
def entriesBytes (es : List Entry) : List Byte := es.flatMap entryBytes

/-- A dictionary commit frame up to its CRC (R375). -/
def commitBytes (f : CommitFrame) : List Byte :=
  let es := entriesBytes f.entries
  [0x03#8, f.source, f.phase, f.result] ++ bytesBE 4 f.commitId.toNat ++ bytesBE 4 f.applySample.toNat
  ++ bytesBE 4 f.setCounter.toNat ++ padTo 32 f.setDigest ++ bytesBE 2 f.nEntries.toNat ++ bytesBE 2 es.length
  ++ [f.part] ++ List.replicate 7 0 ++ es

/-- An Update frame up to its CRC (R420). -/
def updateBytes (f : UpdateFrame) : List Byte :=
  let b := pad4 f.body
  let bs := [0x04#8, f.source, f.kind, f.result] ++ bytesBE 4 f.xferId.toNat ++ bytesBE 2 f.part.toNat
    ++ bytesBE 2 f.body.length ++ bytesBE 4 f.totalLen.toNat ++ bytesBE 4 f.sample.toNat ++ List.replicate 12 0 ++ b
  bs ++ List.replicate (60 - bs.length) 0

/-- A capture alignment frame up to its CRC (R468). -/
def captureBytes (f : CaptureFrame) : List Byte :=
  [0x05#8, f.source, f.phase, f.cause] ++ bytesBE 4 f.armId.toNat ++ bytesBE 4 f.sample.toNat
  ++ bytesBE 8 f.reloadTime.toNat ++ List.replicate 8 0

end Sys2Proof.Machine
end

