-- ==== Sys2Proof/Machine/ObjNames.lean ====
section
/-!
DEFINITION. The dictionary objects of the module by name (R364 to R368), each with its key (index times 256 plus
subindex) and the raw code of its default. The names are those of the object tables (R68, R89, R120, R160, R177, R199,
R228, R247, R270, R296, R315, R342, R363, R386, R412, R430, R450, R471). A default that a table leaves open (a dash) is 0:
assumption log 2.
-/
namespace Sys2Proof.O

/-- An object of the dictionary: its key, index * 256 + subindex, and the code it holds while nothing has set it. -/
structure Obj where
  key : Nat
  dflt : Nat
deriving DecidableEq, Repr

/-- 2100:01 MODULE_STATE. -/
def moduleState : Obj := ⟨0x210001, 0⟩
/-- 2100:02 LANES_CLAIMING. -/
def lanesClaiming : Obj := ⟨0x210002, 0⟩
/-- 2100:03 STEER_LANES. -/
def steerLanes : Obj := ⟨0x210003, 0⟩
/-- 2100:04 BRAKE_LANES. -/
def brakeLanes : Obj := ⟨0x210004, 0⟩
/-- 2100:05 AUTHORITY_FRACTION. -/
def authorityFraction : Obj := ⟨0x210005, 0⟩
/-- 2100:06 SPEED_LIMIT_ACTIVE. -/
def speedLimitActive : Obj := ⟨0x210006, 0⟩
/-- 2100:07 STOP_REQUIRED. -/
def stopRequired : Obj := ⟨0x210007, 0⟩
/-- 2100:08 OVERDRIVE_BUDGET. -/
def overdriveBudget : Obj := ⟨0x210008, 30000⟩
/-- 2100:09 VERDICT_CONFLICTS. -/
def verdictConflicts : Obj := ⟨0x210009, 0⟩
/-- 2100:0A DEMAND_SPLITS. -/
def demandSplits : Obj := ⟨0x21000A, 0⟩
/-- 2101:01 SPEED_MAX_DUPLEX. -/
def speedMaxDuplex : Obj := ⟨0x210101, 300⟩
/-- 2101:02 SPEED_MAX_SIMPLEX. -/
def speedMaxSimplex : Obj := ⟨0x210102, 200⟩
/-- 2101:03 SIMPLEX_STOP_TIME. -/
def simplexStopTime : Obj := ⟨0x210103, 10000⟩
/-- 2101:04 SIMPLEX_STOP_DECEL. -/
def simplexStopDecel : Obj := ⟨0x210104, 200⟩
/-- 2101:05 OVERDRIVE_ENABLE. -/
def overdriveEnable : Obj := ⟨0x210105, 1⟩
/-- 2110:01 VOTE_ENABLE. -/
def voteEnable (n : Nat) : Obj := ⟨0x211001 + n * 256, 0⟩
/-- 2110:02 VOTE_TOL. -/
def voteTol (n : Nat) : Obj := ⟨0x211002 + n * 256, 328⟩
/-- 2110:03 VOTE_FALLBACK. -/
def voteFallback (n : Nat) : Obj := ⟨0x211003 + n * 256, 0⟩
/-- 2110:04 VOTE_ESSENTIAL. -/
def voteEssential (n : Nat) : Obj := ⟨0x211004 + n * 256, 0⟩
/-- 2110:05 VOTE_STATUS. -/
def voteStatus (n : Nat) : Obj := ⟨0x211005 + n * 256, 0⟩
/-- 2110:06 VOTED_VALUE. -/
def votedValue (n : Nat) : Obj := ⟨0x211006 + n * 256, 0⟩
/-- 2120:01 PEER_VERDICT. -/
def peerVerdict (n : Nat) : Obj := ⟨0x212001 + n, 0⟩
/-- 2120:11 PEER_SUSPECT_COUNT. -/
def peerSuspectCount (n : Nat) : Obj := ⟨0x212011 + n, 0⟩
/-- 2120:21 PEER_DECLARATIONS. -/
def peerDeclarations (n : Nat) : Obj := ⟨0x212021 + n, 0⟩
/-- 2120:31 PEER_EVICTIONS. -/
def peerEvictions (n : Nat) : Obj := ⟨0x212031 + n, 0⟩
/-- 2120:40 EVICT_STATE. -/
def evictState : Obj := ⟨0x212040, 0⟩
/-- 2120:41 EVICTED_SINCE_PARK. -/
def evictedSincePark : Obj := ⟨0x212041, 0⟩
/-- 2120:42 SAMPLE_RESYNCS. -/
def sampleResyncs : Obj := ⟨0x212042, 0⟩
/-- 2200:01 ARB_WINNER. -/
def arbWinner : Obj := ⟨0x220001, 0⟩
/-- 2200:02 ARB_FLAGS. -/
def arbFlags : Obj := ⟨0x220002, 0⟩
/-- 2200:03 ARB_DISREGARD. -/
def arbDisregard : Obj := ⟨0x220003, 0⟩
/-- 2200:04 ARB_DISAGREEMENTS. -/
def arbDisagreements : Obj := ⟨0x220004, 0⟩
/-- 2200:05 ARB_STOP_STATE. -/
def arbStopState : Obj := ⟨0x220005, 0⟩
/-- 2210:01 OUT_ROLE. -/
def outRole (n : Nat) : Obj := ⟨0x221001 + n * 256, [1, 1, 2, 2, 3, 3, 0, 0].getD n 0⟩
/-- 2210:02 OUT_SAFE_MODE. -/
def outSafeMode (n : Nat) : Obj := ⟨0x221002 + n * 256, [1, 1, 0, 0, 0, 0, 0, 0].getD n 0⟩
/-- 2210:03 OUT_STATE_OBJ. -/
def outStateObj (n : Nat) : Obj := ⟨0x221003 + n * 256, 0⟩
/-- 2210:04 OUT_FAULT. -/
def outFault (n : Nat) : Obj := ⟨0x221004 + n * 256, 0⟩
/-- 2210:05 OUT_FB_INPUT. -/
def outFbInput (n : Nat) : Obj := ⟨0x221005 + n * 256, 255⟩
/-- 2210:06 OUT_FB_PICKUP. -/
def outFbPickup (n : Nat) : Obj := ⟨0x221006 + n * 256, 100⟩
/-- 2210:07 OUT_FB_DROPOUT. -/
def outFbDropout (n : Nat) : Obj := ⟨0x221007 + n * 256, 50⟩
/-- 2210:08 OUT_FB_INVERT. -/
def outFbInvert (n : Nat) : Obj := ⟨0x221008 + n * 256, 0⟩
/-- 2220:01 CLAIM_OWN. -/
def claimOwn : Obj := ⟨0x222001, 0⟩
/-- 2220:02 CLAIM_FRAMES. -/
def claimFrames : Obj := ⟨0x222002, 0⟩
/-- 2220:03 STATUS_ERRORS. -/
def statusErrors : Obj := ⟨0x222003, 0⟩
/-- 2220:04 WINS. -/
def wins : Obj := ⟨0x222004, 0⟩
/-- 3000:01 STEER_POLE_PAIRS. -/
def steerPolePairs : Obj := ⟨0x300001, 0⟩
/-- 3000:02 STEER_SET_DISP. -/
def steerSetDisp : Obj := ⟨0x300002, 2000⟩
/-- 3000:03 STEER_PSI_M. -/
def steerPsiM : Obj := ⟨0x300003, 0⟩
/-- 3000:04 STEER_LD. -/
def steerLd : Obj := ⟨0x300004, 0⟩
/-- 3000:05 STEER_LQ. -/
def steerLq : Obj := ⟨0x300005, 0⟩
/-- 3000:06 STEER_RS. -/
def steerRs : Obj := ⟨0x300006, 0⟩
/-- 3000:07 STEER_RS_TC. -/
def steerRsTc : Obj := ⟨0x300007, 0x3b80c73b⟩
/-- 3000:08 STEER_PSI_TC. -/
def steerPsiTc : Obj := ⟨0x300008, 0xba9d4952⟩
/-- 3000:09 STEER_I_DEMAG. -/
def steerIDemag : Obj := ⟨0x300009, 0⟩
/-- 3000:0A STEER_FE_MAX. -/
def steerFeMax : Obj := ⟨0x30000A, 1500⟩
/-- 3001:01 STEER_M12. -/
def steerM12 (n : Nat) : Obj := ⟨0x300101 + n, 0⟩
/-- 3001:05 STEER_M23. -/
def steerM23 (n : Nat) : Obj := ⟨0x300105 + n, 0⟩
/-- 3001:09 STEER_M31. -/
def steerM31 (n : Nat) : Obj := ⟨0x300109 + n, 0⟩
/-- 3002:01 STEER_T_RATED. -/
def steerTRated : Obj := ⟨0x300201, 0⟩
/-- 3002:02 STEER_KV. -/
def steerKv : Obj := ⟨0x300202, 31457⟩
/-- 3002:03 DEV_TEMP_OD_END. -/
def devTempOdEnd : Obj := ⟨0x300203, 15000⟩
/-- 3002:04 WIND_TEMP_OD_END. -/
def windTempOdEnd : Obj := ⟨0x300204, 15500⟩
/-- 3002:05 DEV_TEMP_DERATE. -/
def devTempDerate : Obj := ⟨0x300205, 16000⟩
/-- 3002:06 WIND_TEMP_DERATE. -/
def windTempDerate : Obj := ⟨0x300206, 16500⟩
/-- 3003:01 STEER_C_EXT. -/
def steerCExt : Obj := ⟨0x300301, 0⟩
/-- 3003:02 CUE_RANGE_LO. -/
def cueRangeLo : Obj := ⟨0x300302, 0⟩
/-- 3003:03 CUE_RANGE_HI. -/
def cueRangeHi : Obj := ⟨0x300303, 0⟩
/-- 3003:04 CUE_VALID_COUNT. -/
def cueValidCount : Obj := ⟨0x300304, 0⟩
/-- 3003:05 ET_OVERFLOWS. -/
def etOverflows : Obj := ⟨0x300305, 0⟩
/-- 3003:06 POST_LATE. -/
def postLate : Obj := ⟨0x300306, 0⟩
/-- 3004:01 STEER_PLIM. -/
def steerPlim : Obj := ⟨0x300401, 248⟩
/-- 3004:02 PLIM_EVENTS. -/
def plimEvents : Obj := ⟨0x300402, 0⟩
/-- 3004:03 PROBE_ENABLE. -/
def probeEnable : Obj := ⟨0x300403, 1⟩
/-- 3005:01 STEER_MODE_OWN. -/
def steerModeOwn : Obj := ⟨0x300501, 0⟩
/-- 3005:02 PEER_MODE_OBJ. -/
def peerModeObj : Obj := ⟨0x300502, 0⟩
/-- 3005:03 TORQUE_SHARE_OBJ. -/
def torqueShareObj : Obj := ⟨0x300503, 0⟩
/-- 3005:04 I_MAX_ACTIVE. -/
def iMaxActive : Obj := ⟨0x300504, 0⟩
/-- 3005:05 U_MAX_ACTIVE. -/
def uMaxActive : Obj := ⟨0x300505, 0⟩
/-- 3005:06 PEAK_RESERVE. -/
def peakReserve : Obj := ⟨0x300506, 2000⟩
/-- 3005:07 OD_BUDGET_OWN. -/
def odBudgetOwn : Obj := ⟨0x300507, 30000⟩
/-- 3005:08 CIRCLE_ERRORS. -/
def circleErrors : Obj := ⟨0x300508, 0⟩
/-- 3005:09 FE_LIMIT_EVENTS. -/
def feLimitEvents : Obj := ⟨0x300509, 0⟩
/-- 3005:0A SPEED_LIMIT_EVENTS. -/
def speedLimitEvents : Obj := ⟨0x30050A, 0⟩
/-- 3005:0B SHORT_RELEASE. -/
def shortRelease : Obj := ⟨0x30050B, 0⟩
/-- 5000:01 BANK_ACTIVE. -/
def bankActive : Obj := ⟨0x500001, 0⟩
/-- 5000:02 SERIAL_ACTIVE. -/
def serialActive : Obj := ⟨0x500002, 0⟩
/-- 5000:03 SERIAL_STANDBY. -/
def serialStandby : Obj := ⟨0x500003, 0⟩
/-- 5000:04 STANDBY_STATE. -/
def standbyState : Obj := ⟨0x500004, 0⟩
/-- 5000:05 STANDBY_FAIL. -/
def standbyFail : Obj := ⟨0x500005, 0⟩
/-- 5000:06 SPEC_ENABLE. -/
def specEnable : Obj := ⟨0x500006, 1⟩
/-- 5001:01 COEF_STANDBY_IMAGE. -/
def coefStandbyImage : Obj := ⟨0x500101, 0⟩
/-- 5001:02 COEF_STANDBY_CHECK. -/
def coefStandbyCheck : Obj := ⟨0x500102, 0⟩
/-- 5001:03 SWAP_REQUEST. -/
def swapRequest : Obj := ⟨0x500103, 0⟩
/-- 5001:04 SWAP_RESULT. -/
def swapResult : Obj := ⟨0x500104, 0⟩
/-- 5001:05 SWAP_SAMPLE_DONE. -/
def swapSampleDone : Obj := ⟨0x500105, 0⟩
/-- 5010:01 LOOP_CELL. -/
def loopCell (n : Nat) : Obj := ⟨0x501001 + n * 256, 0⟩
/-- 5010:02 LOOP_BLOCK. -/
def loopBlock (n : Nat) : Obj := ⟨0x501002 + n * 256, 0⟩
/-- 5010:03 SQUASH_TOTAL. -/
def squashTotal (n : Nat) : Obj := ⟨0x501003 + n * 256, 0⟩
/-- 5010:04 SQUASH_TUBE. -/
def squashTube (n : Nat) : Obj := ⟨0x501004 + n * 256, 0⟩
/-- 5010:05 SQUASH_BENCH. -/
def squashBench (n : Nat) : Obj := ⟨0x501005 + n * 256, 0⟩
/-- 5010:06 SQUASH_BANK. -/
def squashBank (n : Nat) : Obj := ⟨0x501006 + n * 256, 0⟩
/-- 5010:07 SQUASH_OTHER. -/
def squashOther (n : Nat) : Obj := ⟨0x501007 + n * 256, 0⟩
/-- 5010:08 TUBE_VIOL_MASK. -/
def tubeViolMask (n : Nat) : Obj := ⟨0x501008 + n * 256, 0⟩
/-- 5010:09 OVERBURDENS. -/
def overburdens (n : Nat) : Obj := ⟨0x501009 + n * 256, 0⟩
/-- 5010:0A FALLBACKS. -/
def fallbacks (n : Nat) : Obj := ⟨0x50100A + n * 256, 0⟩
/-- 5010:0B HOLDS. -/
def holds (n : Nat) : Obj := ⟨0x50100B + n * 256, 0⟩
/-- 5010:0C LATE_COMMITS. -/
def lateCommits (n : Nat) : Obj := ⟨0x50100C + n * 256, 0⟩
/-- 5010:0D COMMIT_LAT_LAST. -/
def commitLatLast (n : Nat) : Obj := ⟨0x50100D + n * 256, 0⟩
/-- 5010:0E COMMIT_LAT_MAX. -/
def commitLatMax (n : Nat) : Obj := ⟨0x50100E + n * 256, 0⟩
/-- 5010:0F SAT_EVENTS. -/
def satEvents (n : Nat) : Obj := ⟨0x50100F + n * 256, 0⟩
/-- 5010:10 BENCH_FORCE. -/
def benchForce (n : Nat) : Obj := ⟨0x501010 + n * 256, 255⟩
/-- 5010:11 POST_DROPS. -/
def postDrops (n : Nat) : Obj := ⟨0x501011 + n * 256, 0⟩
/-- 5010:12 CYC_WORST. -/
def cycWorst (n : Nat) : Obj := ⟨0x501012 + n * 256, 0⟩
/-- 5020:01 SCHED_FULL_END. -/
def schedFullEnd : Obj := ⟨0x502001, 0⟩
/-- 5020:02 SCHED_SPEC_END. -/
def schedSpecEnd : Obj := ⟨0x502002, 0⟩
/-- 5020:03 SCHED_LAST_END. -/
def schedLastEnd : Obj := ⟨0x502003, 0⟩
/-- 5020:04 E1_LOAD_WORST. -/
def e1LoadWorst : Obj := ⟨0x502004, 0⟩
/-- 5030:01 TUBE_ACTIVE. -/
def tubeActive (w i : Nat) : Obj := ⟨0x503001 + w * 256 + i, 0⟩
/-- 3010:01 SUP_CH_ANGLE. -/
def supChAngle : Obj := ⟨0x301001, 255⟩
/-- 3010:02 SUP_INNOV_N. -/
def supInnovN : Obj := ⟨0x301002, 5⟩
/-- 3010:03 SUP_WHITE_WIN. -/
def supWhiteWin : Obj := ⟨0x301003, 1024⟩
/-- 3010:04 SUP_RHO_LIM. -/
def supRhoLim : Obj := ⟨0x301004, 16384⟩
/-- 3010:05 SUP_BIAS_LIM. -/
def supBiasLim : Obj := ⟨0x301005, 8192⟩
/-- 3010:06 SUP_CUE_MARGIN. -/
def supCueMargin : Obj := ⟨0x301006, 60⟩
/-- 3010:07 SUP_ANGLE_TOL. -/
def supAngleTol : Obj := ⟨0x301007, 500⟩
/-- 3010:08 SUP_LINK_Z. -/
def supLinkZ : Obj := ⟨0x301008, 0⟩
/-- 3010:09 SUP_LINK_WIN. -/
def supLinkWin : Obj := ⟨0x301009, 1024⟩
/-- 3010:0A SUP_DIDC_MIN. -/
def supDidcMin : Obj := ⟨0x30100A, 20⟩
/-- 3011:01 SUP_INNOV_LIM. -/
def supInnovLim (n : Nat) : Obj := ⟨0x301101 + n, 0⟩
/-- 3012:01 SUP_STATE. -/
def supState : Obj := ⟨0x301201, 0⟩
/-- 3012:02 INNOV_OVER_MASK. -/
def innovOverMask : Obj := ⟨0x301202, 0⟩
/-- 3012:03 INNOV_EVENTS. -/
def innovEvents : Obj := ⟨0x301203, 0⟩
/-- 3012:04 WHITE_EVENTS. -/
def whiteEvents : Obj := ⟨0x301204, 0⟩
/-- 3012:05 CUE_MISMATCHES. -/
def cueMismatches : Obj := ⟨0x301205, 0⟩
/-- 3012:06 ANGLE_DISAGREE. -/
def angleDisagree : Obj := ⟨0x301206, 0⟩
/-- 3012:07 LINK_EVENTS. -/
def linkEvents : Obj := ⟨0x301207, 0⟩
/-- 3012:08 LINK_Z_EST. -/
def linkZEst : Obj := ⟨0x301208, 0⟩
/-- 3012:09 ROTOR_LOSSES. -/
def rotorLosses : Obj := ⟨0x301209, 0⟩
/-- 3012:0A RELOCK_TIME_LAST. -/
def relockTimeLast : Obj := ⟨0x30120A, 0⟩
/-- 3012:0B SUBST_SOURCE. -/
def substSource : Obj := ⟨0x30120B, 0⟩
/-- 3012:0C LOSS_CAUSE_LAST. -/
def lossCauseLast : Obj := ⟨0x30120C, 0⟩
/-- 3013:01 WHITE_RHO. -/
def whiteRho (n : Nat) : Obj := ⟨0x301301 + n, 0⟩
/-- 2300:01 HOST_LOSS_TIME. -/
def hostLossTime : Obj := ⟨0x230001, 20⟩
/-- 2300:02 HOST_LOSS_HOLD. -/
def hostLossHold : Obj := ⟨0x230002, 300⟩
/-- 2300:03 HOST_LOSS_DECEL. -/
def hostLossDecel : Obj := ⟨0x230003, 200⟩
/-- 2300:04 STOP_DECEL_SAFE. -/
def stopDecelSafe : Obj := ⟨0x230004, 250⟩
/-- 2300:05 STOP_JERK. -/
def stopJerk : Obj := ⟨0x230005, 200⟩
/-- 2300:06 STOP_FORCE_GAIN. -/
def stopForceGain : Obj := ⟨0x230006, 150⟩
/-- 2300:07 STOP_SPEED_INPUT. -/
def stopSpeedInput : Obj := ⟨0x230007, 255⟩
/-- 2300:08 STOP_SPEED_FS. -/
def stopSpeedFs : Obj := ⟨0x230008, 1000⟩
/-- 2300:09 STOP_MARGIN. -/
def stopMargin : Obj := ⟨0x230009, 2000⟩
/-- 2301:01 HOST_STATE. -/
def hostState : Obj := ⟨0x230101, 0⟩
/-- 2301:02 STOP_STATE. -/
def stopState : Obj := ⟨0x230102, 0⟩
/-- 2301:03 STOP_CAUSES. -/
def stopCauses : Obj := ⟨0x230103, 0⟩
/-- 2301:04 STOP_DECEL_TARGET. -/
def stopDecelTarget : Obj := ⟨0x230104, 0⟩
/-- 2301:05 STOP_TRIM. -/
def stopTrim : Obj := ⟨0x230105, 1000⟩
/-- 2301:06 HOST_LOSS_EVENTS. -/
def hostLossEvents : Obj := ⟨0x230106, 0⟩
/-- 2301:07 HOLD_RECOVERIES. -/
def holdRecoveries : Obj := ⟨0x230107, 0⟩
/-- 2301:08 STOPS_COMPLETED. -/
def stopsCompleted : Obj := ⟨0x230108, 0⟩
/-- 3020:01 STEER_ANGLE_MAX. -/
def steerAngleMax : Obj := ⟨0x302001, 3800⟩
/-- 3020:02 STEER_RATE_MAX. -/
def steerRateMax : Obj := ⟨0x302002, 2000⟩
/-- 3020:03 STEER_ACC_MAX. -/
def steerAccMax : Obj := ⟨0x302003, 600⟩
/-- 3020:04 STEER_JERK_MAX. -/
def steerJerkMax : Obj := ⟨0x302004, 600⟩
/-- 3020:05 COMPAT_SKD2. -/
def compatSkd2 : Obj := ⟨0x302005, 0⟩
/-- 3020:06 COMPAT_REV_SPEED. -/
def compatRevSpeed : Obj := ⟨0x302006, 50⟩
/-- 3021:01 SHAPE_TARGET. -/
def shapeTarget : Obj := ⟨0x302101, 0⟩
/-- 3021:02 SHAPE_POS. -/
def shapePos : Obj := ⟨0x302102, 0⟩
/-- 3021:03 SHAPE_RATE. -/
def shapeRate : Obj := ⟨0x302103, 0⟩
/-- 3021:04 SHAPE_ACC. -/
def shapeAcc : Obj := ⟨0x302104, 0⟩
/-- 3021:05 TARGET_CLAMPS. -/
def targetClamps : Obj := ⟨0x302105, 0⟩
/-- 3021:06 REVERSALS_REFUSED. -/
def reversalsRefused : Obj := ⟨0x302106, 0⟩
/-- 3021:07 SHAPER_SEEDS. -/
def shaperSeeds : Obj := ⟨0x302107, 0⟩
/-- 3030:01 BERM_L1. -/
def bermL1 : Obj := ⟨0x303001, 900⟩
/-- 3030:02 BERM_L2. -/
def bermL2 : Obj := ⟨0x303002, 950⟩
/-- 3030:03 BERM_L3. -/
def bermL3 : Obj := ⟨0x303003, 1100⟩
/-- 3030:04 BERM_HYS. -/
def bermHys : Obj := ⟨0x303004, 20⟩
/-- 3030:05 BERM_EXIT_TIME. -/
def bermExitTime : Obj := ⟨0x303005, 50⟩
/-- 3030:06 BERM_ID_ADD. -/
def bermIdAdd : Obj := ⟨0x303006, 7022⟩
/-- 3030:07 BERM_AUTO_CLEAR. -/
def bermAutoClear : Obj := ⟨0x303007, 1⟩
/-- 3030:08 BERM_CLEAR_WAIT. -/
def bermClearWait : Obj := ⟨0x303008, 1000⟩
/-- 3031:01 BERM_LEVEL. -/
def bermLevel : Obj := ⟨0x303101, 0⟩
/-- 3031:02 BERM_L1_EVENTS. -/
def bermL1Events : Obj := ⟨0x303102, 0⟩
/-- 3031:03 BERM_L2_EVENTS. -/
def bermL2Events : Obj := ⟨0x303103, 0⟩
/-- 3031:04 BERM_L3_ERRORS. -/
def bermL3Errors : Obj := ⟨0x303104, 0⟩
/-- 3031:05 V_LINK_PEAK. -/
def vLinkPeak : Obj := ⟨0x303105, 0⟩
/-- 3031:06 P_SW_EST. -/
def pSwEst : Obj := ⟨0x303106, 0⟩
/-- 3031:07 REGEN_LIMIT_ACTIVE. -/
def regenLimitActive : Obj := ⟨0x303107, 32768⟩
/-- 4800:01 BW_SINGLE_FRAC. -/
def bwSingleFrac : Obj := ⟨0x480001, 19661⟩
/-- 4800:02 BW_FORCE_RATE. -/
def bwForceRate : Obj := ⟨0x480002, 200⟩
/-- 4800:03 BW_RELEASE_RATE. -/
def bwReleaseRate : Obj := ⟨0x480003, 400⟩
/-- 4800:04 BW_SYMMETRIC. -/
def bwSymmetric : Obj := ⟨0x480004, 1⟩
/-- 4800:05 BW_PARK_FORCE. -/
def bwParkForce : Obj := ⟨0x480005, 26214⟩
/-- 4800:06 BW_RELEASE_MIN. -/
def bwReleaseMin : Obj := ⟨0x480006, 9830⟩
/-- 4800:07 BW_CLEARANCE. -/
def bwClearance : Obj := ⟨0x480007, 600⟩
/-- 4800:08 BW_GAP_SPEED. -/
def bwGapSpeed : Obj := ⟨0x480008, 40⟩
/-- 4800:09 BW_CONTACT_F. -/
def bwContactF : Obj := ⟨0x480009, 655⟩
/-- 4800:0A BW_CONTACT_WIN. -/
def bwContactWin : Obj := ⟨0x48000A, 300⟩
/-- 4800:0B BW_FORCE_TOL. -/
def bwForceTol : Obj := ⟨0x48000B, 2621⟩
/-- 4800:0C BW_PARK_SLIP. -/
def bwParkSlip : Obj := ⟨0x48000C, 50⟩
/-- 4800:0D BW_UNLOCK. -/
def bwUnlock : Obj := ⟨0x48000D, 100⟩
/-- 4800:0E BW_HOME_I. -/
def bwHomeI : Obj := ⟨0x48000E, 40⟩
/-- 4800:0F BW_RETRACT_DELAY. -/
def bwRetractDelay : Obj := ⟨0x48000F, 200⟩
/-- 4800:10 SB_FORCE. -/
def sbForce : Obj := ⟨0x480010, 11469⟩
/-- 4800:11 BW_SPRING_RATE. -/
def bwSpringRate : Obj := ⟨0x480011, 128⟩
/-- 4800:12 BW_HALL_FILT. -/
def bwHallFilt : Obj := ⟨0x480012, 4⟩
/-- 4800:13 BW_WEAR_WARN. -/
def bwWearWarn : Obj := ⟨0x480013, 800⟩
/-- 4800:14 BW_WEAR_LIMIT. -/
def bwWearLimit : Obj := ⟨0x480014, 1000⟩
/-- 4801:01 SPRING_MAP. -/
def springMap (n : Nat) : Obj := ⟨0x480101 + n, [255, 219, 182, 146, 109, 73, 36, 0].getD n 0⟩
/-- 4802:01 BRAKE_CAPACITY. -/
def brakeCapacity : Obj := ⟨0x480201, 0⟩
/-- 4802:02 SPRING_DUTY. -/
def springDuty : Obj := ⟨0x480202, 0⟩
/-- 4802:03 PARK_STATE. -/
def parkState : Obj := ⟨0x480203, 0⟩
/-- 4802:04 PARK_REFUSED. -/
def parkRefused : Obj := ⟨0x480204, 0⟩
/-- 4810:01 WE_FITTED. -/
def weFitted (n : Nat) : Obj := ⟨0x481001 + n * 256, 1⟩
/-- 4810:02 WE_SHARE. -/
def weShare (n : Nat) : Obj := ⟨0x481002 + n * 256, 32767⟩
/-- 4810:03 WE_MIRROR. -/
def weMirror (n : Nat) : Obj := ⟨0x481003 + n * 256, 0⟩
/-- 4810:04 WE_F_RATED. -/
def weFRated (n : Nat) : Obj := ⟨0x481004 + n * 256, 0⟩
/-- 4810:05 WE_TRAVEL. -/
def weTravel (n : Nat) : Obj := ⟨0x481005 + n * 256, 0⟩
/-- 4810:06 WE_POLE_PAIRS. -/
def wePolePairs (n : Nat) : Obj := ⟨0x481006 + n * 256, 0⟩
/-- 4810:07 WE_STIFF_STEP. -/
def weStiffStep (n : Nat) : Obj := ⟨0x481007 + n * 256, 0⟩
/-- 4810:08 WE_SENSOR. -/
def weSensor (n : Nat) : Obj := ⟨0x481008 + n * 256, 0⟩
/-- 4810:09 WE_WEAR. -/
def weWear (n : Nat) : Obj := ⟨0x481009 + n * 256, 0⟩
/-- 4810:0A WE_FLAGS. -/
def weFlags (n : Nat) : Obj := ⟨0x48100A + n * 256, 0⟩
/-- 4810:10 WE_STIFF. -/
def weStiff (w i : Nat) : Obj := ⟨0x481010 + w * 256 + i, 0⟩
/-- 4000:01 BD_STATE. -/
def bdState (n : Nat) : Obj := ⟨0x400001 + n * 65536, 0⟩
/-- 4000:02 BD_WHEEL_END. -/
def bdWheelEnd (n : Nat) : Obj := ⟨0x400002 + n * 65536, 0⟩
/-- 4000:03 BD_IN_SERVICE. -/
def bdInService (n : Nat) : Obj := ⟨0x400003 + n * 65536, 1⟩
/-- 4000:04 BD_RESTORE. -/
def bdRestore (n : Nat) : Obj := ⟨0x400004 + n * 65536, 0⟩
/-- 4000:05 BD_HALL_FAULTS. -/
def bdHallFaults (n : Nat) : Obj := ⟨0x400005 + n * 65536, 0⟩
/-- 4000:06 BD_HALL_OFFSET. -/
def bdHallOffset (n : Nat) : Obj := ⟨0x400006 + n * 65536, 0⟩
/-- 4000:07 BD_DIR. -/
def bdDir (n : Nat) : Obj := ⟨0x400007 + n * 65536, 0⟩
/-- 4000:08 BD_POS. -/
def bdPos (n : Nat) : Obj := ⟨0x400008 + n * 65536, 0⟩
/-- 4000:09 BD_CONTACT. -/
def bdContact (n : Nat) : Obj := ⟨0x400009 + n * 65536, 65535⟩
/-- 4000:0A BD_CONTACT_NEW. -/
def bdContactNew (n : Nat) : Obj := ⟨0x40000A + n * 65536, 65535⟩
/-- 4000:0B BD_PAD_CHANGED. -/
def bdPadChanged (n : Nat) : Obj := ⟨0x40000B + n * 65536, 0⟩
/-- 4000:0C BD_PARK_POS. -/
def bdParkPos (n : Nat) : Obj := ⟨0x40000C + n * 65536, 65535⟩
/-- 4000:0D BD_F_STIFF. -/
def bdFStiff (n : Nat) : Obj := ⟨0x40000D + n * 65536, 0⟩
/-- 4000:0E BD_I_LIM. -/
def bdILim (n : Nat) : Obj := ⟨0x40000E + n * 65536, 0⟩
/-- 4000:0F BD_PEAK_RESERVE. -/
def bdPeakReserve (n : Nat) : Obj := ⟨0x40000F + n * 65536, 2000⟩
/-- 4000:10 BD_CONTACT_JUMPS. -/
def bdContactJumps (n : Nat) : Obj := ⟨0x400010 + n * 65536, 0⟩
/-- 4000:11 BD_FORCE_DISAGREE. -/
def bdForceDisagree (n : Nat) : Obj := ⟨0x400011 + n * 65536, 0⟩
/-- 4000:12 BD_PARK_FAILS. -/
def bdParkFails (n : Nat) : Obj := ⟨0x400012 + n * 65536, 0⟩
/-- 3120:01 STEER_UPD_MID. -/
def steerUpdMid : Obj := ⟨0x312001, 1⟩
/-- 3120:02 STEER_COH. -/
def steerCoh : Obj := ⟨0x312002, 1⟩
/-- 3120:03 STEER_NW_LIMIT. -/
def steerNwLimit : Obj := ⟨0x312003, 1⟩
/-- 3120:04 STEER_PERIOD. -/
def steerPeriod : Obj := ⟨0x312004, 0⟩
/-- 3120:05 STEER_SCREE. -/
def steerScree : Obj := ⟨0x312005, 1⟩
/-- 3121:01 STEER_SPLITS. -/
def steerSplits : Obj := ⟨0x312101, 0⟩
/-- 3121:02 STEER_DCLAMPS. -/
def steerDclamps : Obj := ⟨0x312102, 0⟩
/-- 3121:03 STEER_NW_CLAMPS. -/
def steerNwClamps : Obj := ⟨0x312103, 0⟩
/-- 3121:04 STEER_VSATS. -/
def steerVsats : Obj := ⟨0x312104, 0⟩
/-- 3121:05 STEER_PERCHG. -/
def steerPerchg : Obj := ⟨0x312105, 0⟩
/-- 3121:06 STEER_TRIMS. -/
def steerTrims : Obj := ⟨0x312106, 0⟩
/-- 3121:07 PERIOD_MISMATCH. -/
def periodMismatch : Obj := ⟨0x312107, 0⟩
/-- 3121:08 STEER_COLLIDES. -/
def steerCollides : Obj := ⟨0x312108, 0⟩
/-- 4820:01 BRAKE_PERIOD. -/
def brakePeriod : Obj := ⟨0x482001, 12500⟩
/-- 4820:02 BRAKE_UPD_MID. -/
def brakeUpdMid : Obj := ⟨0x482002, 1⟩
/-- 4820:03 BRAKE_COH. -/
def brakeCoh : Obj := ⟨0x482003, 1⟩
/-- 4820:04 BRAKE_NW_LIMIT. -/
def brakeNwLimit : Obj := ⟨0x482004, 1⟩
/-- 4820:05 BRAKE_SCREE. -/
def brakeScree : Obj := ⟨0x482005, 1⟩
/-- 4010:01 BP_SPLITS. -/
def bpSplits (n : Nat) : Obj := ⟨0x401001 + n * 65536, 0⟩
/-- 4010:02 BP_DCLAMPS. -/
def bpDclamps (n : Nat) : Obj := ⟨0x401002 + n * 65536, 0⟩
/-- 4010:03 BP_NW_CLAMPS. -/
def bpNwClamps (n : Nat) : Obj := ⟨0x401003 + n * 65536, 0⟩
/-- 4010:04 BP_VSATS. -/
def bpVsats (n : Nat) : Obj := ⟨0x401004 + n * 65536, 0⟩
/-- 4010:05 BP_RFSH_INSERTED. -/
def bpRfshInserted (n : Nat) : Obj := ⟨0x401005 + n * 65536, 0⟩
/-- 4010:06 BP_RFSH_FORCED. -/
def bpRfshForced (n : Nat) : Obj := ⟨0x401006 + n * 65536, 0⟩
/-- 4010:07 BP_COLLIDES. -/
def bpCollides (n : Nat) : Obj := ⟨0x401007 + n * 65536, 0⟩
/-- 3040:01 STEER_BLANK. -/
def steerBlank : Obj := ⟨0x304001, 300⟩
/-- 3040:02 STEER_DT_ADAPT. -/
def steerDtAdapt : Obj := ⟨0x304002, 1⟩
/-- 3040:03 STEER_DT_INIT. -/
def steerDtInit : Obj := ⟨0x304003, 200⟩
/-- 3040:04 STEER_DT_MARGIN. -/
def steerDtMargin : Obj := ⟨0x304004, 1⟩
/-- 3041:01 STEER_DT_ACTIVE. -/
def steerDtActive : Obj := ⟨0x304101, 0⟩
/-- 3041:02 STEER_TRIP. -/
def steerTrip : Obj := ⟨0x304102, 0⟩
/-- 3041:03 STEER_TRIPS. -/
def steerTrips : Obj := ⟨0x304103, 0⟩
/-- 3041:04 STEER_TRIPS_LIFE. -/
def steerTripsLife : Obj := ⟨0x304104, 0⟩
/-- 3041:05 STEER_IL_EVENTS. -/
def steerIlEvents : Obj := ⟨0x304105, 0⟩
/-- 3041:06 STEER_GATE_WAITS. -/
def steerGateWaits : Obj := ⟨0x304106, 0⟩
/-- 3041:07 STEER_DIAG_RESULT. -/
def steerDiagResult : Obj := ⟨0x304107, 0⟩
/-- 3041:08 STEER_DIAG_VNODE. -/
def steerDiagVnode : Obj := ⟨0x304108, 0⟩
/-- 3041:09 GPWR_CUTS. -/
def gpwrCuts : Obj := ⟨0x304109, 0⟩
/-- 3041:0A REARM_REFUSED. -/
def rearmRefused : Obj := ⟨0x30410A, 0⟩
/-- 4830:01 BRAKE_DT_ADAPT. -/
def brakeDtAdapt : Obj := ⟨0x483001, 1⟩
/-- 4830:02 BRAKE_DT_INIT. -/
def brakeDtInit : Obj := ⟨0x483002, 100⟩
/-- 4830:03 BRAKE_DT_MARGIN. -/
def brakeDtMargin : Obj := ⟨0x483003, 1⟩
/-- 4020:01 BG_DT_ACTIVE. -/
def bgDtActive (n : Nat) : Obj := ⟨0x402001 + n * 65536, 0⟩
/-- 4020:02 BG_TRIP. -/
def bgTrip (n : Nat) : Obj := ⟨0x402002 + n * 65536, 0⟩
/-- 4020:03 BG_TRIPS. -/
def bgTrips (n : Nat) : Obj := ⟨0x402003 + n * 65536, 0⟩
/-- 4020:04 BG_TRIPS_LIFE. -/
def bgTripsLife (n : Nat) : Obj := ⟨0x402004 + n * 65536, 0⟩
/-- 4020:05 BG_IL_EVENTS. -/
def bgIlEvents (n : Nat) : Obj := ⟨0x402005 + n * 65536, 0⟩
/-- 4020:06 BG_BOOT_WARNS. -/
def bgBootWarns (n : Nat) : Obj := ⟨0x402006 + n * 65536, 0⟩
/-- 4020:07 BG_DIAG_RESULT. -/
def bgDiagResult (n : Nat) : Obj := ⟨0x402007 + n * 65536, 0⟩
/-- 4020:08 BG_DIAG_VNODE. -/
def bgDiagVnode (n : Nat) : Obj := ⟨0x402008 + n * 65536, 0⟩
/-- 6000:01 SIO_SCHEDULE. -/
def sioSchedule : Obj := ⟨0x600001, 0⟩
/-- 6010:01 SUPPLY_STATE. -/
def supplyState (n : Nat) : Obj := ⟨0x601001 + n * 256, 0⟩
/-- 6010:02 SUP_TRIPS. -/
def supTrips (n : Nat) : Obj := ⟨0x601002 + n * 256, 0⟩
/-- 6020:01 ANA_SUPPLY. -/
def anaSupply (n : Nat) : Obj := ⟨0x602001 + n * 256, [0, 1, 2, 3, 0, 1].getD n 0⟩
/-- 6020:02 ANA_LO. -/
def anaLo (n : Nat) : Obj := ⟨0x602002 + n * 256, 3277⟩
/-- 6020:03 ANA_HI. -/
def anaHi (n : Nat) : Obj := ⟨0x602003 + n * 256, 29491⟩
/-- 6020:04 ANA_ZERO. -/
def anaZero (n : Nat) : Obj := ⟨0x602004 + n * 256, 16384⟩
/-- 6020:05 ANA_SCALE. -/
def anaScale (n : Nat) : Obj := ⟨0x602005 + n * 256, 1073741824⟩
/-- 6030:01 SENT_TICK. -/
def sentTick (n : Nat) : Obj := ⟨0x603001 + n * 256, 300⟩
/-- 6030:02 SENT_FIELD. -/
def sentField (n : Nat) : Obj := ⟨0x603002 + n * 256, 16⟩
/-- 6030:03 SENT_OPTIONS. -/
def sentOptions (n : Nat) : Obj := ⟨0x603003 + n * 256, 20⟩
/-- 6030:04 SENT_STAT_MASK. -/
def sentStatMask (n : Nat) : Obj := ⟨0x603004 + n * 256, 3⟩
/-- 6030:05 SENT_TIMEOUT. -/
def sentTimeout (n : Nat) : Obj := ⟨0x603005 + n * 256, 3000⟩
/-- 6030:06 SENT_ZERO. -/
def sentZero (n : Nat) : Obj := ⟨0x603006 + n * 256, 2048⟩
/-- 6030:07 SENT_SCALE. -/
def sentScale (n : Nat) : Obj := ⟨0x603007 + n * 256, 973068864⟩
/-- 6030:08 SENT_SUPPLY. -/
def sentSupply (n : Nat) : Obj := ⟨0x603008 + n * 256, [0, 1, 2, 3].getD n 0⟩
/-- 6040:01 ANG_MODE. -/
def angMode : Obj := ⟨0x604001, 0⟩
/-- 6040:02 ANG_P_RES. -/
def angPRes : Obj := ⟨0x604002, 1⟩
/-- 6040:03 ANG_OFFSET. -/
def angOffset : Obj := ⟨0x604003, 0⟩
/-- 6040:04 ANG_DIR. -/
def angDir : Obj := ⟨0x604004, 0⟩
/-- 6040:05 RES_EXC_AMPL. -/
def resExcAmpl : Obj := ⟨0x604005, 40⟩
/-- 6040:06 ANG_SENT_FIELD. -/
def angSentField : Obj := ⟨0x604006, 0⟩
/-- 6040:07 ANG_SENT_LAT. -/
def angSentLat : Obj := ⟨0x604007, 0⟩
/-- 6050:01 ANGLE_FLAGS_LAST. -/
def angleFlagsLast : Obj := ⟨0x605001, 0⟩
/-- 6050:02 SS_STATE. -/
def ssState : Obj := ⟨0x605002, 0⟩
/-- 6050:03 SS_DISCREPANCIES. -/
def ssDiscrepancies : Obj := ⟨0x605003, 0⟩
/-- 6050:04 SS_PULSE_FAILS. -/
def ssPulseFails : Obj := ⟨0x605004, 0⟩
/-- 6050:05 CT_STATE_OBJ. -/
def ctStateObj : Obj := ⟨0x605005, 0⟩
/-- 6050:06 PRECHARGE_TIME. -/
def prechargeTime : Obj := ⟨0x605006, 0⟩
/-- 6060:01 FB_ROLE. -/
def fbRole : Obj := ⟨0x606001, 0x1020304⟩
/-- 6060:02 FB_INVERT. -/
def fbInvert : Obj := ⟨0x606002, 0⟩
/-- 6060:03 CT_PICKUP. -/
def ctPickup : Obj := ⟨0x606003, 100⟩
/-- 6060:04 CT_DROPOUT. -/
def ctDropout : Obj := ⟨0x606004, 50⟩
/-- 6060:05 PRE_MIN_V. -/
def preMinV : Obj := ⟨0x606005, 350⟩
/-- 6060:06 PRE_TIMEOUT. -/
def preTimeout : Obj := ⟨0x606006, 1000⟩
/-- 6070:01 XCHK_EVENTS. -/
def xchkEvents : Obj := ⟨0x607001, 0⟩
/-- 6070:02 XCHK_LAST. -/
def xchkLast : Obj := ⟨0x607002, 127⟩
/-- 6070:03 ANA_RANGE_EVENTS. -/
def anaRangeEvents : Obj := ⟨0x607003, 0⟩
/-- 6070:04 SENT_FRAME_FAULTS. -/
def sentFrameFaults : Obj := ⟨0x607004, 0⟩
/-- 6070:05 OFFP_DISCARDS. -/
def offpDiscards : Obj := ⟨0x607005, 0⟩
/-- 7000:01 FAULT_STATE. -/
def faultState : Obj := ⟨0x700001, 0⟩
/-- 7000:02 FIRST_CAUSE_OBJ. -/
def firstCauseObj : Obj := ⟨0x700002, 0⟩
/-- 7000:03 FAULT_CLEAR. -/
def faultClear : Obj := ⟨0x700003, 0⟩
/-- 7000:04 CLEAR_RESULT. -/
def clearResult : Obj := ⟨0x700004, 0⟩
/-- 7000:05 CLEARS_TOTAL. -/
def clearsTotal : Obj := ⟨0x700005, 0⟩
/-- 7000:06 RECORD_RESET. -/
def recordReset : Obj := ⟨0x700006, 0⟩
/-- 7000:07 INJECT. -/
def inject : Obj := ⟨0x700007, 0⟩
/-- 7000:08 INJ_NOT_SEEN. -/
def injNotSeen : Obj := ⟨0x700008, 0⟩
/-- 7000:09 FW_WRITE_REFUSED. -/
def fwWriteRefused : Obj := ⟨0x700009, 0⟩
/-- 7001:01 LIVE_ASSERTED. -/
def liveAsserted (n : Nat) : Obj := ⟨0x700101 + n, 0⟩
/-- 7001:09 LIVE_BROKEN. -/
def liveBroken (n : Nat) : Obj := ⟨0x700109 + n, 0⟩
/-- 7001:11 LATCHED_BITS. -/
def latchedBits (n : Nat) : Obj := ⟨0x700111 + n, 0⟩
/-- 7100:01 SPALL_FIRST. -/
def spallFirst (n : Nat) : Obj := ⟨0x710001 + n * 256, 0⟩
/-- 7100:02 SPALL_LAST. -/
def spallLast (n : Nat) : Obj := ⟨0x710002 + n * 256, 0⟩
/-- 7100:03 SPALL_COUNT. -/
def spallCount (n : Nat) : Obj := ⟨0x710003 + n * 256, 0⟩
/-- 7100:04 SPALL_FLAGS. -/
def spallFlags (n : Nat) : Obj := ⟨0x710004 + n * 256, 0⟩
/-- 7100:05 SPALL_INJ. -/
def spallInj (n : Nat) : Obj := ⟨0x710005 + n * 256, 0⟩
/-- 7100:06 SPALL_DATA. -/
def spallData (n : Nat) : Obj := ⟨0x710006 + n * 256, 0⟩
/-- 7200:01 FAULT_LOG. -/
def faultLog (n : Nat) : Obj := ⟨0x720001 + n, 0⟩
/-- 7200:11 LOG_NEXT. -/
def logNext : Obj := ⟨0x720011, 0⟩
/-- 8000:01 NET_VID_A. -/
def netVidA : Obj := ⟨0x800001, 10⟩
/-- 8000:02 NET_VID_B. -/
def netVidB : Obj := ⟨0x800002, 10⟩
/-- 8000:03 NET_T1_ROLE. -/
def netT1Role : Obj := ⟨0x800003, 0⟩
/-- 8000:04 NET_BULK_RATE. -/
def netBulkRate : Obj := ⟨0x800004, 100⟩
/-- 8000:05 NET_BULK_BURST. -/
def netBulkBurst : Obj := ⟨0x800005, 16⟩
/-- 8010:01 NET_CYCLE_TIME. -/
def netCycleTime : Obj := ⟨0x801001, 1000⟩
/-- 8010:02 NET_CYCLE_BASE. -/
def netCycleBase : Obj := ⟨0x801002, 0⟩
/-- 8010:03 NET_DEMAND_WIN. -/
def netDemandWin : Obj := ⟨0x801003, 40⟩
/-- 8010:04 NET_REPORT_WIN. -/
def netReportWin : Obj := ⟨0x801004, 120⟩
/-- 8010:05 NET_GATE_EN. -/
def netGateEn : Obj := ⟨0x801005, 1⟩
/-- 8020:01 CANXL_ARB_RATE. -/
def canxlArbRate : Obj := ⟨0x802001, 0⟩
/-- 8020:02 CANXL_SDT. -/
def canxlSdt : Obj := ⟨0x802002, 224⟩
/-- 8020:03 CANXL_STOP_EN. -/
def canxlStopEn : Obj := ⟨0x802003, 1⟩
/-- 8020:04 CANXL_SKD2_EN. -/
def canxlSkd2En : Obj := ⟨0x802004, 0⟩
/-- 8101:01 LINK_UP. -/
def linkUp (n : Nat) : Obj := ⟨0x810101 + n * 256, 0⟩
/-- 8101:02 LINK_DOWNS. -/
def linkDowns (n : Nat) : Obj := ⟨0x810102 + n * 256, 0⟩
/-- 8101:03 RX_ACCEPTED. -/
def rxAccepted (n : Nat) : Obj := ⟨0x810103 + n * 256, 0⟩
/-- 8101:04 RX_FAIL_COUNTS. -/
def rxFailCounts (n : Nat) : Obj := ⟨0x810104 + n * 256, 0⟩
/-- 8101:05 RX_DUPLICATES. -/
def rxDuplicates (n : Nat) : Obj := ⟨0x810105 + n * 256, 0⟩
/-- 8101:06 RX_ROGUE. -/
def rxRogue (n : Nat) : Obj := ⟨0x810106 + n * 256, 0⟩
/-- 8101:07 RX_REPLAYS. -/
def rxReplays (n : Nat) : Obj := ⟨0x810107 + n * 256, 0⟩
/-- 8101:08 TX_FRAMES. -/
def txFrames (n : Nat) : Obj := ⟨0x810108 + n * 256, 0⟩
/-- 8101:09 TX_PREEMPTIONS. -/
def txPreemptions (n : Nat) : Obj := ⟨0x810109 + n * 256, 0⟩
/-- 8110:01 NET_TIME_SOURCE. -/
def netTimeSource : Obj := ⟨0x811001, 0⟩
/-- 8110:02 NET_TIME_OFFSET. -/
def netTimeOffset : Obj := ⟨0x811002, 0⟩
/-- 8110:03 GM_IDENTITY. -/
def gmIdentity : Obj := ⟨0x811003, 0⟩
/-- 8120:01 KA_STATE. -/
def kaState : Obj := ⟨0x812001, 0⟩
/-- 8120:02 KA_DONE_COUNT. -/
def kaDoneCount : Obj := ⟨0x812002, 0⟩
/-- 8120:03 KA_FAILS. -/
def kaFails : Obj := ⟨0x812003, 0⟩
/-- 8120:04 KA_FAIL_LAST. -/
def kaFailLast : Obj := ⟨0x812004, 0⟩
/-- 8120:05 QUIET_ACTIVE. -/
def quietActive : Obj := ⟨0x812005, 0⟩
/-- 8120:06 QUIET_DROPS. -/
def quietDrops : Obj := ⟨0x812006, 0⟩
/-- 8130:01 CANXL_STATE. -/
def canxlState : Obj := ⟨0x813001, 0⟩
/-- 8130:02 CANXL_IGNORED. -/
def canxlIgnored : Obj := ⟨0x813002, 0⟩
/-- 8130:03 STOP_FRAMES. -/
def stopFrames : Obj := ⟨0x813003, 0⟩
/-- 8130:04 CANXL_DROPS. -/
def canxlDrops : Obj := ⟨0x813004, 0⟩
/-- 1200:01 SESSION_TIMEOUT. -/
def sessionTimeout : Obj := ⟨0x120001, 1000⟩
/-- 1201:01 TXN_LIFETIME. -/
def txnLifetime : Obj := ⟨0x120101, 20⟩
/-- 1201:02 TXN_OPEN_MAX. -/
def txnOpenMax : Obj := ⟨0x120102, 16⟩
/-- 1400:01 DOORBELL. -/
def doorbell (n : Nat) : Obj := ⟨0x140001 + n, 0⟩
/-- 1400:05 DB_FULL. -/
def dbFull (n : Nat) : Obj := ⟨0x140005 + n, 0⟩
/-- 1400:09 DB_ROUTE. -/
def dbRoute (n : Nat) : Obj := ⟨0x140009 + n, 2⟩
/-- 1400:0D DB_ABORTS. -/
def dbAborts (n : Nat) : Obj := ⟨0x14000D + n, 0⟩
/-- 1210:01 SESSION_STATE. -/
def sessionState : Obj := ⟨0x121001, 0⟩
/-- 1210:02 SESSION_NUMBER. -/
def sessionNumber : Obj := ⟨0x121002, 0⟩
/-- 1210:03 SESSION_HOST_KEY. -/
def sessionHostKey : Obj := ⟨0x121003, 0⟩
/-- 1210:04 SESSION_HOST_MAC. -/
def sessionHostMac : Obj := ⟨0x121004, 0⟩
/-- 1210:05 SESSIONS_OPENED. -/
def sessionsOpened : Obj := ⟨0x121005, 0⟩
/-- 1211:01 DEMAND_ACCEPTED. -/
def demandAccepted : Obj := ⟨0x121101, 0⟩
/-- 1211:02 DEMAND_DUPLICATE. -/
def demandDuplicate : Obj := ⟨0x121102, 0⟩
/-- 1211:03 DEMAND_STALE. -/
def demandStale : Obj := ⟨0x121103, 0⟩
/-- 1211:04 DEMAND_LATE. -/
def demandLate : Obj := ⟨0x121104, 0⟩
/-- 1211:05 FOREIGN_DISCARDS. -/
def foreignDiscards : Obj := ⟨0x121105, 0⟩
/-- 1211:06 REPORTS_SENT. -/
def reportsSent : Obj := ⟨0x121106, 0⟩
/-- 1211:07 TXN_EXPIRED. -/
def txnExpired : Obj := ⟨0x121107, 0⟩
/-- 1211:08 TXN_TAG_DROPS. -/
def txnTagDrops : Obj := ⟨0x121108, 0⟩
/-- 1211:09 TXN_REPEATS. -/
def txnRepeats : Obj := ⟨0x121109, 0⟩
/-- 1211:0A TXN_REFUSED. -/
def txnRefused : Obj := ⟨0x12110A, 0⟩
/-- 1000:01 VENDOR_NAME. -/
def vendorName : Obj := ⟨0x100001, 0⟩
/-- 1000:02 DEVICE_NAME. -/
def deviceName : Obj := ⟨0x100002, 0⟩
/-- 1000:03 ORDERING_CODE. -/
def orderingCode : Obj := ⟨0x100003, 0⟩
/-- 1000:04 VARIANT_CODE. -/
def variantCode : Obj := ⟨0x100004, 0⟩
/-- 1000:05 MODULE_SERIAL. -/
def moduleSerial : Obj := ⟨0x100005, 0⟩
/-- 1000:06 UNIT_NUMBER. -/
def unitNumber : Obj := ⟨0x100006, 0⟩
/-- 1001:01 LANE_NUMBER. -/
def laneNumber : Obj := ⟨0x100101, 0⟩
/-- 1001:02 CARTRIDGE_SERIAL. -/
def cartridgeSerial : Obj := ⟨0x100102, 0⟩
/-- 1001:03 CARTRIDGE_HW_REV. -/
def cartridgeHwRev : Obj := ⟨0x100103, 0⟩
/-- 1001:04 FW_REVISION. -/
def fwRevision : Obj := ⟨0x100104, 0⟩
/-- 1001:05 FW_SLOT. -/
def fwSlot : Obj := ⟨0x100105, 0⟩
/-- 1001:06 LANE_TIME. -/
def laneTime : Obj := ⟨0x100106, 0⟩
/-- 1001:07 SAMPLE_COUNT. -/
def sampleCount : Obj := ⟨0x100107, 0⟩
/-- 1001:08 OPERATING_HOURS. -/
def operatingHours : Obj := ⟨0x100108, 0⟩
/-- 1002:01 DICT_LAYOUT. -/
def dictLayout : Obj := ⟨0x100201, 1⟩
/-- 1002:02 DICT_DIRECTORY. -/
def dictDirectory : Obj := ⟨0x100202, 0⟩
/-- 1010:01 NV_USER_STATE. -/
def nvUserState : Obj := ⟨0x101001, 0⟩
/-- 1010:02 NV_USER_GENERATION. -/
def nvUserGeneration : Obj := ⟨0x101002, 0⟩
/-- 1010:03 NV_ENTRY_REJECTS. -/
def nvEntryRejects : Obj := ⟨0x101003, 0⟩
/-- 1010:04 NV_STORES. -/
def nvStores : Obj := ⟨0x101004, 0⟩
/-- 1010:05 NV_USER_IMAGE. -/
def nvUserImage : Obj := ⟨0x101005, 0⟩
/-- 1010:06 NV_USER_RESET. -/
def nvUserReset : Obj := ⟨0x101006, 0⟩
/-- 1011:01 NV_STAGE. -/
def nvStage : Obj := ⟨0x101101, 0⟩
/-- 1011:02 NV_STAGE_CHECK. -/
def nvStageCheck : Obj := ⟨0x101102, 0⟩
/-- 1011:03 NV_STAGE_STATE. -/
def nvStageState : Obj := ⟨0x101103, 0⟩
/-- 1011:04 NV_STAGE_FAIL. -/
def nvStageFail : Obj := ⟨0x101104, 0⟩
/-- 1011:05 NV_STAGE_INSTALL. -/
def nvStageInstall : Obj := ⟨0x101105, 0⟩
/-- 1020:01 DICT_SET_COUNTER. -/
def dictSetCounter : Obj := ⟨0x102001, 0⟩
/-- 1020:02 DICT_SET_DIGEST. -/
def dictSetDigest : Obj := ⟨0x102002, 0⟩
/-- 1020:03 DICT_SYNC_STATE. -/
def dictSyncState : Obj := ⟨0x102003, 0⟩
/-- 1020:04 DICT_COMMITS. -/
def dictCommits : Obj := ⟨0x102004, 0⟩
/-- 1020:05 DICT_REFUSALS. -/
def dictRefusals : Obj := ⟨0x102005, 0⟩
/-- 1020:06 DICT_SYNCS. -/
def dictSyncs : Obj := ⟨0x102006, 0⟩
/-- 9000:01 LC_STATE_OBJ. -/
def lcStateObj : Obj := ⟨0x900001, 0⟩
/-- 9000:02 LC_TARGET. -/
def lcTarget : Obj := ⟨0x900002, 0⟩
/-- 9000:03 LC_FAIL. -/
def lcFail : Obj := ⟨0x900003, 0⟩
/-- 9001:01 ID_PUBLIC_KEY. -/
def idPublicKey : Obj := ⟨0x900101, 0⟩
/-- 9001:02 ID_CERT. -/
def idCert : Obj := ⟨0x900102, 0⟩
/-- 9001:03 ID_CERT_DIGEST. -/
def idCertDigest : Obj := ⟨0x900103, 0⟩
/-- 9001:04 ENROL_CERT. -/
def enrolCert : Obj := ⟨0x900104, 0⟩
/-- 9001:05 ENROL_STATE. -/
def enrolState : Obj := ⟨0x900105, 0⟩
/-- 9002:01 ROOT_KEY. -/
def rootKey : Obj := ⟨0x900201, 0⟩
/-- 9010:01 ROLE_ENG_KEY. -/
def roleEngKey (n : Nat) : Obj := ⟨0x901001 + n, 0⟩
/-- 9010:03 ROLE_FS_KEY. -/
def roleFsKey (n : Nat) : Obj := ⟨0x901003 + n, 0⟩
/-- 9010:05 IMAGE_KEY. -/
def imageKey (n : Nat) : Obj := ⟨0x901005 + n, 0⟩
/-- 9010:07 FLEET_CA_KEY. -/
def fleetCaKey : Obj := ⟨0x901007, 0⟩
/-- 9011:01 to 04 HOST_KEY_0 to HOST_KEY_3. -/
def hostKey (n : Nat) : Obj := ⟨0x901101 + n, 0⟩
/-- 9011:05 HOST_KEY_REVOKED. -/
def hostKeyRevoked : Obj := ⟨0x901105, 0⟩
/-- 9020:01 PROT_EXTRA. -/
def protExtra : Obj := ⟨0x902001, 0⟩
/-- 9020:02 PROT_SET_DIGEST. -/
def protSetDigest : Obj := ⟨0x902002, 0⟩
/-- 9020:03 CS_NONCE. -/
def csNonce : Obj := ⟨0x902003, 0⟩
/-- 9020:04 CS_NONCE_RENEW. -/
def csNonceRenew : Obj := ⟨0x902004, 0⟩
/-- 9100:01 CS_IMAGE. -/
def csImage : Obj := ⟨0x910001, 0⟩
/-- 9100:02 CS_AUTH. -/
def csAuth : Obj := ⟨0x910002, 0⟩
/-- 9100:03 CS_APPLY. -/
def csApply : Obj := ⟨0x910003, 0⟩
/-- 9100:04 CS_STATE. -/
def csState : Obj := ⟨0x910004, 0⟩
/-- 9100:05 CS_DIGEST. -/
def csDigest : Obj := ⟨0x910005, 0⟩
/-- 9100:06 CS_HELD. -/
def csHeld : Obj := ⟨0x910006, 0⟩
/-- 9100:07 CS_APPLIED. -/
def csApplied : Obj := ⟨0x910007, 0⟩
/-- 9200:01 ATTEST_NONCE. -/
def attestNonce : Obj := ⟨0x920001, 0⟩
/-- 9200:02 ATTEST_QUOTE. -/
def attestQuote : Obj := ⟨0x920002, 0⟩
/-- 9200:03 QUOTE_COUNT. -/
def quoteCount : Obj := ⟨0x920003, 0⟩
/-- 9300:01 ROLLBACK_COUNTERS. -/
def rollbackCounters : Obj := ⟨0x930001, 0⟩
/-- 9300:02 ROLLBACK_ADVANCE. -/
def rollbackAdvance : Obj := ⟨0x930002, 0⟩
/-- 9300:03 ROLLBACK_LEFT. -/
def rollbackLeft : Obj := ⟨0x930003, 0x0400040004000400⟩
/-- 9300:04 IMG_VERIFY_LAST. -/
def imgVerifyLast : Obj := ⟨0x930004, 0⟩
/-- B000:01 FW_IMAGE. -/
def fwImage : Obj := ⟨0xB00001, 0⟩
/-- B000:02 FW_INSTALL_CHECK. -/
def fwInstallCheck : Obj := ⟨0xB00002, 0⟩
/-- B000:03 FW_INSTALL_STATE. -/
def fwInstallState : Obj := ⟨0xB00003, 0⟩
/-- B000:04 FW_ACTIVATE. -/
def fwActivate : Obj := ⟨0xB00004, 0⟩
/-- B000:05 FW_BOOT_SLOT. -/
def fwBootSlot : Obj := ⟨0xB00005, 0⟩
/-- B000:06 FW_TRIAL. -/
def fwTrial : Obj := ⟨0xB00006, 0⟩
/-- B000:07 FW_TRIAL_FAILS. -/
def fwTrialFails : Obj := ⟨0xB00007, 0⟩
/-- B000:08 FW_SLOT_REVISION. -/
def fwSlotRevision : Obj := ⟨0xB00008, 0⟩
/-- B001:01 PROG_IMAGE. -/
def progImage : Obj := ⟨0xB00101, 0⟩
/-- B001:02 PROG_CHECK. -/
def progCheck : Obj := ⟨0xB00102, 0⟩
/-- B001:03 PROG_STATE. -/
def progState : Obj := ⟨0xB00103, 0⟩
/-- B001:04 PROG_REVISION. -/
def progRevision : Obj := ⟨0xB00104, 0⟩
/-- B002:01 UPD_STAND_ASIDE. -/
def updStandAside : Obj := ⟨0xB00201, 0⟩
/-- B002:02 UPD_STATE. -/
def updState : Obj := ⟨0xB00202, 0⟩
/-- B002:03 UPD_REFUSE. -/
def updRefuse : Obj := ⟨0xB00203, 0⟩
/-- B002:04 UPD_ASIDE_TIME. -/
def updAsideTime : Obj := ⟨0xB00204, 0⟩
/-- B010:01 UPD_IN_MOTION_EN. -/
def updInMotionEn : Obj := ⟨0xB01001, 0⟩
/-- B010:02 FW_TRIAL_TIME. -/
def fwTrialTime : Obj := ⟨0xB01002, 10000⟩
/-- B011:01 SVC_WE_RETRACT. -/
def svcWeRetract : Obj := ⟨0xB01101, 0⟩
/-- A000:01 PWR_MODULE_REQUEST. -/
def pwrModuleRequest : Obj := ⟨0xA00001, 0⟩
/-- A000:02 WAKE_ENABLE. -/
def wakeEnable : Obj := ⟨0xA00002, 1⟩
/-- A000:03 HOLD_DIV. -/
def holdDiv : Obj := ⟨0xA00003, 8⟩
/-- A000:04 PWR_IDLE_PARK. -/
def pwrIdlePark : Obj := ⟨0xA00004, 0⟩
/-- A010:01 PWR_REQUEST. -/
def pwrRequest : Obj := ⟨0xA01001, 0⟩
/-- A010:02 PWR_STATE. -/
def pwrState : Obj := ⟨0xA01002, 0⟩
/-- A010:03 PWR_REFUSE. -/
def pwrRefuse : Obj := ⟨0xA01003, 0⟩
/-- A010:04 PWR_REFUSER. -/
def pwrRefuser : Obj := ⟨0xA01004, 0⟩
/-- A010:05 WAKE_LAST. -/
def wakeLast : Obj := ⟨0xA01005, 0⟩
/-- A010:06 WAKE_BAD_FRAMES. -/
def wakeBadFrames : Obj := ⟨0xA01006, 0⟩
/-- A010:07 START_TIME_LAST. -/
def startTimeLast : Obj := ⟨0xA01007, 0⟩
/-- A010:08 SELFTEST_TIME_LAST. -/
def selftestTimeLast : Obj := ⟨0xA01008, 0⟩
/-- A010:09 SLICE_ABORTS. -/
def sliceAborts : Obj := ⟨0xA01009, 0⟩
/-- A010:0A PARK_ENTRIES. -/
def parkEntries : Obj := ⟨0xA0100A, 0⟩
/-- C000:01 TEMP_VALUES. -/
def tempValues : Obj := ⟨0xC00001, 0⟩
/-- C000:02 TEMP_MAX_SEEN. -/
def tempMaxSeen : Obj := ⟨0xC00002, 0⟩
/-- C000:03 VOLT_VALUES. -/
def voltValues : Obj := ⟨0xC00003, 0⟩
/-- C000:04 VOLT_MIN_SEEN. -/
def voltMinSeen : Obj := ⟨0xC00004, 0⟩
/-- C000:05 VOLT_MAX_SEEN. -/
def voltMaxSeen : Obj := ⟨0xC00005, 0⟩
/-- C000:06 PROC_DEVIATION. -/
def procDeviation : Obj := ⟨0xC00006, 0⟩
/-- C000:07 AGEING_FLAG. -/
def ageingFlag : Obj := ⟨0xC00007, 0⟩
/-- C001:01 AGE_LOG. -/
def ageLog : Obj := ⟨0xC00101, 0⟩
/-- C001:02 AGE_LOG_NEXT. -/
def ageLogNext : Obj := ⟨0xC00102, 0⟩
/-- C001:03 TEMP_HIST_STEER. -/
def tempHistSteer : Obj := ⟨0xC00103, 0⟩
/-- C001:04 TEMP_HIST_BRAKE. -/
def tempHistBrake : Obj := ⟨0xC00104, 0⟩
/-- C001:05 AGEING_EVENTS. -/
def ageingEvents : Obj := ⟨0xC00105, 0⟩
/-- C010:01 MEM_CORRECTED. -/
def memCorrected : Obj := ⟨0xC01001, 0⟩
/-- C010:02 MEM_CORRECTED_LIFE. -/
def memCorrectedLife : Obj := ⟨0xC01002, 0⟩
/-- C010:03 MEM_LAST_CORR. -/
def memLastCorr : Obj := ⟨0xC01003, 0⟩
/-- C010:04 MEM_STUCK. -/
def memStuck : Obj := ⟨0xC01004, 0⟩
/-- C010:05 SCRUB_PASS_TIME. -/
def scrubPassTime : Obj := ⟨0xC01005, 0⟩
/-- C010:06 BUS_REFUSED_OBJ. -/
def busRefusedObj : Obj := ⟨0xC01006, 0⟩
/-- C020:01 SELFTEST_STATE. -/
def selftestState : Obj := ⟨0xC02001, 0⟩
/-- C020:02 SELFTEST_RECORDS. -/
def selftestRecords : Obj := ⟨0xC02002, 0⟩
/-- C020:03 SELFTEST_FAILS. -/
def selftestFails : Obj := ⟨0xC02003, 0⟩
/-- C030:01 CAP_MODE. -/
def capMode : Obj := ⟨0xC03001, 0⟩
/-- C030:02 CAP_N. -/
def capN : Obj := ⟨0xC03002, 64⟩
/-- C030:03 CAP_CHANNELS. -/
def capChannels : Obj := ⟨0xC03003, 0xf000f000f000f000f000f000f000f000f000f000f000f000f000f000f000f000f000f000f000f000f000f000f000f000f000f000f000f000f000f000f000f000f000f000f000f000f000f000f000f000f000f000f000f000f000f000f000f000f000f000f000f000f000f000f000f000f000f000f000f000f000f000f000f000⟩
/-- C030:04 CAP_PRE. -/
def capPre : Obj := ⟨0xC03004, 16384⟩
/-- C030:05 CAP_POST. -/
def capPost : Obj := ⟨0xC03005, 16383⟩
/-- C030:06 CAP_TRIG. -/
def capTrig : Obj := ⟨0xC03006, 9⟩
/-- C030:07 CAP_TRIG_CH. -/
def capTrigCh : Obj := ⟨0xC03007, 0⟩
/-- C030:08 CAP_TRIG_LEVEL. -/
def capTrigLevel : Obj := ⟨0xC03008, 0⟩
/-- C030:09 CAP_TRIG_EDGE. -/
def capTrigEdge : Obj := ⟨0xC03009, 0⟩
/-- C030:0A CAP_TRIG_NOW. -/
def capTrigNow : Obj := ⟨0xC0300A, 0⟩
/-- C031:01 CAP_STATE. -/
def capState : Obj := ⟨0xC03101, 0⟩
/-- C031:02 CAP_FIRST_SAMPLE. -/
def capFirstSample : Obj := ⟨0xC03102, 0⟩
/-- C031:03 CAP_FIRST_TIME. -/
def capFirstTime : Obj := ⟨0xC03103, 0⟩
/-- C031:04 CAP_TRIG_SAMPLE. -/
def capTrigSample : Obj := ⟨0xC03104, 0⟩
/-- C031:05 CAP_TRIG_SOURCE. -/
def capTrigSource : Obj := ⟨0xC03105, 0⟩
/-- C031:06 CAP_WRITE_POS. -/
def capWritePos : Obj := ⟨0xC03106, 0⟩
/-- C031:07 CAP_CAPACITY. -/
def capCapacity : Obj := ⟨0xC03107, 32768⟩
/-- C031:08 CAP_DATA. -/
def capData : Obj := ⟨0xC03108, 0⟩
/-- C040:01 CAP_ARM. -/
def capArm : Obj := ⟨0xC04001, 0⟩

end Sys2Proof.O
end

