-- ==== Sys2Proof/Config.lean ====
section
/-!
DEFINITION. What an implementation of the module fixes and the specification does not state: factory values,
results of cryptographic primitives, and free values. Every constant here is opaque: nothing in Lean can see a
value of it, so a claim holds whatever it is. The assumption log names each of them. The factory's calibration values (R379) have
as their first argument the cartridge whose factory image holds them (Lane.cal).
-/
namespace Sys2Proof.Config

/-- The longest period of a SENT frame of the angle interface in nanoseconds, by its data nibbles (R281): the specification
states no configured tick for it. -/
opaque sentTf : Nat → Nat

/-- The value of a counter one past its last code, by its key and the instant: the specification states none. -/
opaque countEnd : Nat → Nat → Nat

/-- R131: the result of a LIM whose bounds leave no value between them (a lower bound above the upper one, a negative
magnitude), by the values and bounds: the specification states none. -/
opaque limOpen : Nat → Nat → Nat → Nat → Nat

/-- R265: the result code of leg x for node voltages that no row of the classification covers, by the nine voltages, the
positive rail and x. -/
opaque diagCode : List Nat → Nat → Nat → Nat

/-- R273: how a slot whose first sample is 0 V is classified (0 dip seen, 1 not seen, 2 indeterminate), by its second
sample: the ratio has no value there. -/
opaque dipOfZero : Nat → Nat

/-- R275: the ratio in 1/32768, modulo 32768, of a conversion whose sense voltage is 0, by its input voltage: the quotient has no value
there. -/
opaque ratioOfZero : Nat → Nat

/-- R308: whether the collector sees the true rail of a source that it injects at an instant, where no command brings the reading, by
lane, source and lane time. -/
opaque railSeen : Nat → Nat → Nat → Bool

/-- R309: which idle source a slice of the fault collector injects, by the number of slices before it. -/
opaque sliceSource : Nat → Nat

/-- R45: which of two values equally far from the prediction fallback MODEL takes, by the two values and the prediction:
is it the lower one? -/
opaque voteTie : Nat → Nat → Nat → Bool

/-- R101: factory charge of the steering stage to mid-rail, in femtocoulomb, at a DC link given in millivolt. -/
opaque qStg : Nat → Nat → Nat

/-- R379, R386: the serial number of the cartridge with which a lane is made, by lane, and of the base; the model pads both to 12
characters. -/
opaque cartridgeSerial : Nat → List Byte

/-- R386: the serial number of the base. -/
opaque moduleSerial : List Byte

/-- R99, R101: word k of ET_QSTG, where the factory holds that charge curve; its layout is not stated. -/
opaque etQstgWord : Nat → Nat → Nat

/-- R101: factory turn-off delay to the start of the slew, in picoseconds; stage 0 is steering, n + 1 brake stage n;
the supply is given in millivolt. -/
opaque tD0 : Nat → Nat → Nat → Nat

/-- R103: factory gate-limited slew time to mid-rail, in picoseconds, by stage and supply in millivolt. -/
opaque tGl : Nat → Nat → Nat → Nat

/-- R206: factory charge to mid-rail of a brake stage, in femtocoulomb, by supply in millivolt. -/
opaque qStgBrake : Nat → Nat → Nat

/-- R267: factory stage capacitance at low voltage of one leg, in picofarad. -/
opaque cStageLow : Nat → Nat

/-- R194: factory estimate of the switching loss of the steering stage, in watt, by V_LINK code, current code and
steering period in ticks. -/
opaque pSw : Nat → Nat → Nat → Nat → Nat

/-- R181: the road-wheel angle in units of 0.01 degrees (two's complement, 16 bits) among the 32 application posts of the
steering program: the specification does not say which post carries it. -/
opaque roadWheelPost : List Nat → Nat

/-- R210, R218: free results where the specification states none for a table the integrator left unconfigured. -/
opaque stiffFree : Nat → Nat

/-- R462: factory frequency of the ring oscillator of an island, referred to 25 degrees and the nominal core voltage. -/
opaque procFactory : Nat → Nat → Nat

/-- R462: the factory reference of a frequency count of an island to 25 degrees and the nominal core voltage, from the
count, the island temperature (0.01 degrees) and the core voltage (0.01 V). -/
opaque procRefer : Nat → Nat → Nat → Int → Nat → Nat

/-- FIPS 204: does the ML-DSA-44 signature verify (public key, message digest, context, signature)? -/
opaque mlDsaVerify : List Byte → List Byte → List Byte → List Byte → Bool

/-- FIPS 204: the ML-DSA-44 signature of the lane with the given number over a message digest under a context. -/
opaque mlDsaSign : Nat → List Byte → List Byte → List Byte

/-- FIPS 203: ML-KEM-768 encapsulation to a key with the given randomness: the ciphertext. -/
opaque mlKemCt : List Byte → Nat → List Byte

/-- FIPS 203: ML-KEM-768 encapsulation to a key with the given randomness: the shared secret. -/
opaque mlKemSs : List Byte → Nat → List Byte

/-- R388: the identity public key that the key store of a lane holds (E7 generates it from its random numbers). -/
opaque idPublicKey : Nat → List Byte

/-- R412: the Rhoust root public key. -/
opaque rootKey : List Byte

/-- R453: the default program of an engine (0 for E2, 1 for E3, 2 for E4) in the firmware of a slot, byte by byte; the spec does not state it. -/
opaque defaultProgram : Nat → Nat → List (BitVec 8)

/-- R453: the entry address of that default, as an offset within it. -/
opaque defaultEntry : Nat → Nat → Nat

/-- R319: MSG_TYPE of a frame that is no key agreement message, by its class; the spec does not state it. -/
opaque msgType : Nat → Nat

/-- R340: the word in DATA of an answer that returns no value, by the request's DATA and the result. -/
opaque skdData : Nat → Nat → Nat

/-- R302, R308: DATA of an occurrence that a written injection makes, by source and instant: nothing was detected. -/
opaque injData : Nat → Nat → Nat

/-- R328: how long, in nanoseconds, an express frame keeps the express queue of its port, or a Demand waits for its delivery to E2, by
lane, net and stamp; the model takes it modulo 5,001, since a Demand reaches E2 within 5 µs of its stamp. -/
opaque expressHold : Nat → Nat → Nat → Nat

/-- R330: GCM-AES-XPN-256 (IEEE 802.1AE): the encrypted bytes and the ICV, by key, salt, SSCI, packet number, the bytes in the clear that it
covers, and the bytes it encrypts. -/
opaque gcmSeal : List Byte → List Byte → Nat → Nat → List Byte → List Byte → List Byte

/-- R402, R334: bytes of E7's true random number generator, by draw. -/
opaque trng : Nat → List Byte

/-- R440: by how much more than 150 µs a spacer inside a wake frame may last before the lane discards the frame, in nanoseconds; the
model takes it modulo 150,001. -/
opaque wakeSpacer : Nat

/-- R444: the factory signature of a core of the lockstep pair (0 and 1). -/
opaque coreSignature : Nat → Nat

/-- R444: the internal 10 kHz sine's amplitude at the resolver inputs, in microvolt; the spec does not state it. -/
opaque sineRef : Nat

/-- R444: the tolerance of the lock-out comparators at a nominal level, in the unit of the level; the spec does not state it. -/
opaque lockoutTol : Nat → Nat

end Sys2Proof.Config
end

