-- ==== Sys2Proof/Machine/RegNames.lean ====
section
/-!
DEFINITION. The registers of the lane address space by name (R451), each with its address, its reset value, and the
masks of its writable fields: RW, W1C and RC (R7). Bits of no mask are read only or write only. A register whose write
does something has a command of its own; its write-only bits never hold a value.
-/
namespace Sys2Proof.Rg

/-- A register: its address, its reset value and the masks of its RW, W1C and RC fields. -/
structure Reg where
  addr : Nat
  reset : Nat
  rw : Nat
  w1c : Nat
  rc : Nat
deriving DecidableEq, Repr

/-- Base of a stage's PWM registers (R231). -/
def pwmBase : Stage → Nat
  | .steer => 0x40000000
  | .brake n => 0x40010000 + n.val * 0x1000

/-- PWM_CTL: EN, UPD_MID, COH, NW_LIMIT, SCREE_EN (R231). -/
def pwmCtl (s : Stage) : Reg := ⟨pwmBase s, 0x1E, 0x1F, 0, 0⟩
/-- PWM_LGCTL (R231). -/
def pwmLgctl (s : Stage) : Reg := ⟨pwmBase s + 4, 0, 0, 0, 0⟩
/-- PWM_STAT (R231). -/
def pwmStat (s : Stage) : Reg := ⟨pwmBase s + 8, 0, 0, 0x5F3, 0⟩
/-- PWM_CNT (R231). -/
def pwmCnt (s : Stage) : Reg := ⟨pwmBase s + 0xC, 0, 0, 0, 0⟩
/-- PWM_PER_SH (R231). -/
def pwmPerSh : Stage → Reg
  | .steer => ⟨0x40000010, 10000, 0xFFFF, 0, 0⟩
  | .brake n => ⟨pwmBase (.brake n) + 0x10, 12500, 0xFFFF, 0, 0⟩
/-- PWM_DUTY_SH_U, _V, _W (R231). -/
def pwmDutySh (s : Stage) (leg : Nat) : Reg := ⟨pwmBase s + 0x14 + 4 * leg, 0, 0xFFFFF, 0, 0⟩
/-- PWM_PER_ACT (R231). -/
def pwmPerAct : Stage → Reg
  | .steer => ⟨0x40000020, 10000, 0, 0, 0⟩
  | .brake n => ⟨pwmBase (.brake n) + 0x20, 12500, 0, 0, 0⟩
/-- PWM_DUTY_ACT_U, _V, _W (R231). -/
def pwmDutyAct (s : Stage) (leg : Nat) : Reg := ⟨pwmBase s + 0x24 + 4 * leg, 0, 0, 0, 0⟩
/-- PWM_V_CONV (R231). -/
def pwmVConv (s : Stage) : Reg := ⟨pwmBase s + 0x30, 0, 0, 0, 0⟩
/-- PWM_PHASE, brake stages only (R231). -/
def pwmPhase : Stage → Reg
  | .steer => ⟨0x40000034, 0, 0, 0, 0⟩
  | .brake n => ⟨pwmBase (.brake n) + 0x34, 0, 0xFFFF, 0, 0⟩
/-- PWM_CLAT (R231). -/
def pwmClat (s : Stage) : Reg := ⟨pwmBase s + 0x38, 0, 0, 0, 0⟩
/-- PWM_RFSH, brake stages only (R231). -/
def pwmRfsh (s : Stage) : Reg := ⟨pwmBase s + 0x3C, 0, 0, 0, 0⟩

/-- GD_CTL (R268); REARM, SC_RELEASE and DIAG_GO are write only. -/
def gdCtl : Reg := ⟨0x40020000, 0x600 + 75 * 0x2000, 0x1FE7FF, 0, 0⟩
/-- GD_STAT (R268). -/
def gdStat : Reg := ⟨0x40020004, 0, 0, 0x48000, 0⟩
/-- Offset of a stage's dead-time registers in the gate-drive block (R268). -/
def gdDtBase : Stage → Nat
  | .steer => 0x40020008
  | .brake n => 0x40020100 + 0x10 * n.val
/-- Initial dead time of a stage in ticks before its object is read (R251). -/
def dtReset : Stage → Nat
  | .steer => 50
  | .brake _ => 25
/-- GD_DT_S0 or GD_DT_Bn0 (R268). -/
def gdDt0 (s : Stage) : Reg := ⟨gdDtBase s, dtReset s * 0x01010101, 0, 0, 0⟩
/-- GD_DT_S1 or GD_DT_Bn1 (R268). -/
def gdDt1 (s : Stage) : Reg := ⟨gdDtBase s + 4, dtReset s * 0x0101, 0, 0, 0⟩
/-- GD_PROBE_S0 (R268). -/
def gdProbe0 : Reg := ⟨0x40020010, 0, 0xFFFFFFFF, 0, 0⟩
/-- GD_PROBE_S1 (R268). -/
def gdProbe1 : Reg := ⟨0x40020014, 0, 0xFFFF, 0, 0⟩
/-- GD_TRIP_S or GD_TRIP_Bn (R268). -/
def gdTrip : Stage → Reg
  | .steer => ⟨0x40020018, 0, 0, 0, 0⟩
  | .brake n => ⟨0x40020108 + 0x10 * n.val, 0, 0, 0, 0⟩
/-- GD_TRIP_TIME_S or GD_TRIP_TIME_Bn (R268). -/
def gdTripTime : Stage → Reg
  | .steer => ⟨0x4002001C, 0, 0, 0, 0⟩
  | .brake n => ⟨0x4002010C + 0x10 * n.val, 0, 0, 0, 0⟩

/-- ET_CTL (R99); CEXT_GO is write only. -/
def etCtl : Reg := ⟨0x40030000, 7, 7, 0, 0⟩
/-- ET_STAT (R99). -/
def etStat : Reg := ⟨0x40030004, 0, 0, 0x1FF, 0⟩
/-- ET_CNT_S (R99). -/
def etCntS : Reg := ⟨0x40030008, 0, 0, 0, 0⟩
/-- ET_CNT_B0 (R99). -/
def etCntB0 : Reg := ⟨0x4003000C, 0, 0, 0, 0⟩
/-- ET_CEXT_U, _V, _W (R99). -/
def etCext (leg : Nat) : Reg := ⟨0x40030010 + 4 * leg, 0, 0, 0, 0⟩
/-- ET_QSTG, factory charge curve (R99): a read gives the factory's word; assumption log 38. -/
def etQstg (i : Nat) : Reg := ⟨0x40030020 + 4 * i, 0, 0, 0, 0⟩
/-- ET_CNT_B1 (R99). -/
def etCntB1 : Reg := ⟨0x40030040, 0, 0, 0, 0⟩

/-- MBX_DATA of the mailbox from s to d (R456). -/
def mbxData (s d : Nat) : Reg := ⟨0x40040000 + 0x100 * d + 0x10 * s, 0, 0, 0, 0⟩
/-- MBX_STAT of the mailbox from s to d (R456). -/
def mbxStat (s d : Nat) : Reg := ⟨0x40040004 + 0x100 * d + 0x10 * s, 0, 0, 2, 0⟩
/-- MBX_INBOX_d (R456). -/
def mbxInbox (d : Nat) : Reg := ⟨0x40040800 + 4 * d, 0, 0, 0, 0⟩
/-- MBX_NOTE_s (R456). -/
def mbxNote (s : Nat) : Reg := ⟨0x40040840 + 4 * s, 0, 0, 0xFFFF, 0⟩
/-- MBX_IE_s (R456). -/
def mbxIe (s : Nat) : Reg := ⟨0x40040880 + 4 * s, 0, 0xFFFF, 0, 0⟩

/-- COLL_CTL (R314); REC_RESET is write only. -/
def collCtl : Reg := ⟨0x40050000, 0, 0, 0, 0⟩
/-- COLL_STAT (R314). -/
def collStat : Reg := ⟨0x40050004, 0, 0, 0x20, 0⟩
/-- COLL_FIRST (R314). -/
def collFirst : Reg := ⟨0x40050008, 0, 0, 0, 0⟩
/-- COLL_INJ (R314). -/
def collInj : Reg := ⟨0x4005000C, 0, 0x1FF, 0x200, 0⟩
/-- COLL_CLEAR (R314). -/
def collClear : Reg := ⟨0x40050010, 0, 0, 0, 0⟩
/-- COLL_FW (R314). -/
def collFw : Reg := ⟨0x40050014, 0, 0, 0, 0⟩
/-- COLL_LIVE_Tk: the true rails, idle at 0 (R314). -/
def collLiveT (k : Nat) : Reg := ⟨0x40050100 + 4 * k, 0, 0, 0, 0⟩
/-- COLL_LIVE_Ck: the complement rails, idle at 1 (R297, R314). -/
def collLiveC (k : Nat) : Reg := ⟨0x40050120 + 4 * k, 0xFFFFFFFF, 0, 0, 0⟩
/-- COLL_LATCHk (R314). -/
def collLatch (k : Nat) : Reg := ⟨0x40050140 + 4 * k, 0, 0, 0, 0⟩

/-- PWR_CTL (R449). -/
def pwrCtl : Reg := ⟨0x40060000, 0x30, 0x77, 0, 0⟩
/-- PWR_STAT (R449); WAIT_STATUS clears on a read. -/
def pwrStat : Reg := ⟨0x40060004, 0, 0, 0, 0x3800⟩
/-- PWR_AGREE (R449). -/
def pwrAgree : Reg := ⟨0x40060008, 0, 0, 0, 0⟩
/-- SUMP_WAKE_LAST (R449). -/
def sumpWakeLast : Reg := ⟨0x40060010, 1, 0, 0, 0⟩
/-- SUMP_WAKE_EN (R449). -/
def sumpWakeEn : Reg := ⟨0x40060014, 1, 7, 0, 0⟩
/-- SUMP_UNIT (R449). -/
def sumpUnit : Reg := ⟨0x40060018, 0x3FFFF, 0x3FFFF, 0, 0⟩
/-- SUMP_BAD (R449). -/
def sumpBad : Reg := ⟨0x4006001C, 0, 0, 0, 0xFFFF⟩
/-- SUMP_TIME_LO (R449): no reset value is given; assumption log 2. -/
def sumpTimeLo : Reg := ⟨0x40060020, 0, 0xFFFFFFFF, 0, 0⟩
/-- SUMP_TIME_HI (R449): no reset value is given; assumption log 2. -/
def sumpTimeHi : Reg := ⟨0x40060024, 0, 0xFFFFFFFF, 0, 0⟩
/-- SUMP_EVICT (R449). -/
def sumpEvict : Reg := ⟨0x40060028, 0, 0, 0, 0⟩

/-- SIO_CTL (R294). -/
def sioCtl : Reg := ⟨0x40080000, 0, 0, 0, 0⟩
/-- SIO_STAT (R294). -/
def sioStat : Reg := ⟨0x40080004, 0, 0, 0x20000, 0⟩
/-- SIO_SLOT (R294). -/
def sioSlot : Reg := ⟨0x40080008, 0, 0, 0, 0⟩
/-- SIO_CT (R294): CLOSE_REQ is RW and acts through CLOSING_SEQUENCE and OPENING_SEQUENCE. -/
def sioCt : Reg := ⟨0x4008000C, 0, 1, 0, 0⟩
/-- SIO_SUPs (R294): no reset value is given; assumption log 2. -/
def sioSup (s : Nat) : Reg := ⟨0x40080010 + 4 * s, 0, 0, 0, 0⟩
/-- SIO_XCHKi (R294): 0x7F for none. -/
def sioXchk (i : Nat) : Reg := ⟨0x40080020 + 4 * i, 0x7F, 0, 0, 0⟩

/-- MX_CTL (R159). -/
def mxCtl : Reg := ⟨0x400A0000, 2, 3, 0, 0⟩
/-- MX_STAT (R159); SWAP_REFUSE clears on a read. -/
def mxStat : Reg := ⟨0x400A0004, 0, 0, 0, 0xFF00⟩
/-- MX_SWAP (R159): write only. -/
def mxSwap : Reg := ⟨0x400A0008, 0, 0, 0, 0⟩
/-- MX_SWAP_SAMPLE (R159): no reset value is given; assumption log 2. -/
def mxSwapSample : Reg := ⟨0x400A000C, 0, 0xFFFFFFFF, 0, 0⟩
/-- BSEL_LOOPL (R159). -/
def bselLoop (loop : Nat) : Reg := ⟨0x400A0020 + 4 * loop, 0, 0, 0, 0⟩

/-- ENG_CTL (R454); RESET is write only. -/
def engCtl : Reg := ⟨0x400B0000, 0, 0x7C, 0, 0⟩
/-- ENG_STAT (R454). -/
def engStat : Reg := ⟨0x400B0004, 0x81, 0, 0, 0⟩
/-- ENG_KICKe (R454): any value written counts as a kick. -/
def engKick (e : Nat) : Reg := ⟨0x400B0010 + 4 * e, 0, 0, 0, 0⟩
/-- BUS_REFUSED (R454). -/
def busRefused : Reg := ⟨0x400B0030, 0, 0, 0, 0xFFFFFFFF⟩
/-- LANE_TIME_LO and _HI (R454). -/
def laneTime (hi : Bool) : Reg := ⟨if hi then 0x400B0044 else 0x400B0040, 0, 0, 0, 0⟩

end Sys2Proof.Rg
end

