-- ==== Sys2Proof/Machine/Types.lean ====
section
/-!
DEFINITION. The hidden state of a lane's power stages, edge timers and fault collector as plain data: what the
specification gives these blocks beside their registers and objects. Times are nanoseconds of lane time. Every field
has its value at reset as its default; a value the specification does not give is in assumption log 2.
-/
namespace Sys2Proof.Machine

/-- One value for each lane. -/
structure Tri (α : Type) where
  at1 : α
  at2 : α
  at3 : α
deriving DecidableEq, Repr

/-- A Spall record of a source (R302); its reserved word is not held. -/
structure SpallRec where
  src : Nat
  first : Nat := 0
  last : Nat := 0
  count : Nat := 0
  flags : Nat := 0
  injCount : Nat := 0
  data : Nat := 0
deriving DecidableEq, Repr

/-- What an accepted clear has changed, for a reading taken in its own cycle (R310, R313): its instant, the collector's part, each stage's
exhausted trip and diagnostics, the first fault class, and whether it closed the enable switch. -/
structure ClearUndo where
  at_ : Nat
  recs : List SpallRec
  errorAt : Nat
  firstSrc : Nat
  occ : Nat
  clears : List Nat
  stages : List (Bool × Nat × Bool × Nat)
  firstClass : Nat
  reopened : Bool
deriving DecidableEq, Repr

/-- The fault collector (R297 to R314). `recs` ascends by source and holds the records that are not all zero;
`asserted` and `broken` are the pairs that read so, `heals` the instants from which pairs read idle again, `driven` the firmware sources
that COLL_FW asserts. Of an injection: whether its true rail is seen, and whether its pair is broken at 0/0. `slices` counts the
collector's slices, `logDue` lists the first causes that the fault log awaits; of the cycle of a clear or a record reset: the refused
request, and what was changed. -/
structure Coll where
  recs : List SpallRec := []
  asserted : List Nat := []
  driven : List Nat := []
  broken : List (Nat × Bool) := []
  error : Bool := false
  errorAt : Nat := 0
  requal : Bool := false
  requalSlice : Bool := false
  requalAgree : Nat := 0
  firstSrc : Nat := 0
  occ : Nat := 0
  clears : List Nat := []
  logDue : List Nat := []
  heals : List (Nat × Nat) := []
  injSeen : Bool := false
  injOpen : Bool := false
  slices : Nat := 0
  refusedAt : Option Nat := none
  undo : Option ClearUndo := none
  resetUndo : Option (Nat × List SpallRec) := none
deriving DecidableEq, Repr

/-- An edge-timer record (R98), field by field. -/
structure EdgeRec where
  tCross : Nat
  leg : Nat
  rise : Bool
  soft : Bool
  hard : Bool
  valid : Bool
  ovlp : Bool
  plim : Bool
  probe : Bool
  scree : Nat
  tSlew : Nat
  tCmd : Nat
deriving DecidableEq, Repr

/-- A set of a load group: its period in ticks and its duties in sixteenths of a tick (R232). -/
structure LgSet where
  per : Nat
  duty : List Nat
deriving DecidableEq, Repr

/-- What the off-state diagnostics of a stage say since they were last required (R264, R266). -/
inductive Diag | due | passed | failed
deriving DecidableEq, Repr

/-- The level of a stage's gates (R258): as the load group commands, at the plateau of a soft turn-off, or off. -/
inductive GateLevel where
  | driven
  | plateau
  | off
deriving DecidableEq, Repr

/-- One stage: the E1 set being delivered with the instant of its completion, whether the mid-period point of the period has passed, pending sets and legs (R229 to R242), protective trip and retries (R255 to R262), interlock with the period
in which it last held each leg (R254, R269), diagnostics and the start of their first injection (R264, R267), whether the stage has not driven since a trip (R261), and edge records of the open and of the latched buffer (R97). -/
structure StageSt where
  driving : Bool := false
  reloadAt : Nat := 0
  periods : Nat := 0
  coming : Option (Nat × LgSet) := none
  pastMid : Bool := false
  atPoint : Option (Option (List Nat)) := none
  pendNow : Option LgSet := none
  pendNext : Option LgSet := none
  fall : List Nat := [0, 0, 0]
  limit : List Nat := [0xFFFFF, 0xFFFFF, 0xFFFFF]
  forced : List Bool := [false, false, false]
  bootOut : List Bool := [false, false, false]
  gate : GateLevel := .off
  softFrom : Option Nat := none
  tripAt : Nat := 0
  causeAt : Nat := 0
  causeHeld : Bool := false
  clears : List Nat := []
  exhausted : Bool := false
  railOk : Bool := false
  truncRun : Nat := 0
  truncNow : Bool := false
  plim : List Bool := [false, false, false]
  ilLast : List Nat := [0, 0, 0]
  ilRun : List Nat := [0, 0, 0]
  ilHold : List (Option Nat) := [none, none, none]
  diag : Diag := .due
  diagRun : Bool := false
  diagFrom : Nat := 0
  afterTrip : Bool := false
  highStart : List Bool := [false, false, false]
  perReq : Option Nat := none
  perRecs : List EdgeRec := []
  openRecs : List EdgeRec := []
  latched : List EdgeRec := []
deriving DecidableEq, Repr

/-- The steering stage's comparator of R95 (`emfHigh` is what it found at the instant `emfAt`) and the supplies of the gate drivers (R53, R248). -/
structure GateSt where
  emfHigh : Bool := false
  emfAt : Nat := 0
  emfLowSince : Option Nat := none
  supOut : List Bool := List.replicate 7 false
  cextOk : List Bool := [false, false, false]
  porSince : Bool := false
deriving DecidableEq, Repr

/-- A point of the test-pulse check in the present frame and over frames (R273, R274): the first unexpected slot, whether
a dip of the expected source was missed, indeterminate slots, whether the frame may be judged, and the runs. -/
structure DipPoint where
  unexpected : Option Nat := none
  missed : Bool := false
  indet : Nat := 0
  spoilt : Bool := false
  badRun : Nat := 0
  goodRun : Nat := 0
  invalid : Bool := false
deriving DecidableEq, Repr

/-- A sensor supply's protective trip (R274). -/
structure SupplySt where
  tripped : Bool := false
  causeAt : Nat := 0
  clears : List Nat := []
  exhausted : Bool := false
deriving DecidableEq, Repr

/-- The latest valid frame of a SENT receiver (R277, R278), with bits 3:2 of the status nibbles of the last frames, newest first, and
the identifier and data of the last serial message decoded from them. -/
structure SentSt where
  valid : Bool := false
  endTime : Nat := 0
  raw : Nat := 0
  status : Nat := 0
  prevEnd : Nat := 0
  prevRaw : Nat := 0
  sync : Nat := 0
  serial : List Nat := []
  message : Option (Nat × Nat) := none
deriving DecidableEq, Repr

/-- A safe-stop channel (R285): open or closed, its runs of samples, its run of followed pulses, and whether its input stayed off
when its own pulse had ended (R295). -/
structure SsSt where
  closed : Bool := false
  run : Nat := 0
  followed : Nat := 0
  openAt : Nat := 0
  stayedOff : Bool := false
deriving DecidableEq, Repr

/-- A contactor drive (R287 to R292). -/
structure CtSt where
  on : Bool := false
  cmdAt : Nat := 0
  failRun : Nat := 0
  discardRun : Nat := 0
  retestAt : Option Nat := none
  abandoned : Bool := false
deriving DecidableEq, Repr

/-- The factory schedule image of R293. -/
def factorySchedule : List Byte :=
  [0x53, 0x49, 1, 0, 0x96, 0x96, 0x96, 0x96, 0x03, 0xE8, 0x09, 0xC4, 0x0F, 0xA0, 3, 0,
   0, 0, 0, 0, 0, 0, 0, 0, 0, 0, 0, 0, 0x6C, 0xE1, 0xEC, 0x18]

/-- The safe input/output block (R271 to R295). Ratios are in 1/32768; `enTested` is the last test of the common enable switch (R291). -/
structure SioSt where
  supPts : List DipPoint := List.replicate 4 {}
  anaPts : List DipPoint := List.replicate 6 {}
  frameWhole : Bool := false
  sups : List SupplySt := List.replicate 4 {}
  patterns : List Nat := [0x96, 0x96, 0x96, 0x96]
  offp : List Nat := [1000, 2500, 4000]
  tsEn : Nat := 3
  nextImg : Option (List Byte) := none
  ratios : List Rat := List.replicate 6 0
  anaVal : List Nat := List.replicate 6 0
  anaOk : Nat := 0
  sentVal : List Nat := List.replicate 4 0
  sentOk : Nat := 0
  sent : List SentSt := List.replicate 5 {}
  ss0 : SsSt := {}
  ss1 : SsSt := {}
  checkOk : Bool := false
  discrepSeen : Bool := false
  discrepAt : Option Nat := none
  imgEvents : Nat := 0
  kp : CtSt := {}
  kn : CtSt := {}
  pre : CtSt := {}
  enable : Bool := true
  enTested : Option Nat := none
  seqAt : Nat := 0
  preAt : Nat := 0
  resAngle : Nat := 0
  resSpeed : Nat := 0
  resFlags : Nat := 0
  resAt : Nat := 0
  resSeen : Bool := false
  angle : Nat := 0
  speed : Nat := 0
  angleAt : Nat := 0
  angleFlags : Nat := 0
  badAngleRun : Nat := 0
  fb : Nat := 0
deriving DecidableEq, Repr

/-- What a lane holds of one peer: the frame of the present sample, the last frame that passed Presence, Timing,
Integrity and Sequence (R41), number and STATUS bit 0 of a frame wrong in nothing but Sequence (`got0`) and of the last frame
whose CRC matched (`crcLast`, R42), the runs of R51, the verdict, the eviction lines (R52, R54), the runs of R42, R55 and R59,
the samples in which the peer has accused this lane or the other peer alone (R55), the set mode of R94, the Time frames and the time offset of
R38 (`lastTimeRx` received, `lastTimeTx` sent, `prevTimeTx` the one before), the distance of the two reloads (R27), and when the link to the peer is free (R37). -/
structure PeerSt where
  got : Option (ExchFrame × BirixRx) := none
  now : Option ExchFrame := none
  last : Option ExchFrame := none
  heard : Bool := false
  failed : Nat := 0
  presRun : Nat := 0
  badRun : Nat := 0
  demRun : Nat := 0
  verdict : Nat := 0
  faulty : Bool := false
  alone : Nat := 0
  conflict : Bool := false
  concurs : Bool := false
  lineOut : Bool := false
  lineIn : Bool := false
  evicted : Bool := false
  agreeRun : Nat := 0
  requalified : Bool := false
  crcLast : Option (Nat × Bool) := none
  got0 : Option (Nat × Bool) := none
  silent : Nat := 0
  accMe : Nat := 0
  accOther : Nat := 0
  unknownTypes : Nat := 0
  mode : Nat := 3
  lostShort : Bool := false
  reload0 : Option (Nat × Nat) := none
  period : Nat := 0
  lastTimeRx : Nat := 0
  lastTimeTx : Nat := 0
  prevTimeTx : Nat := 0
  offset : Int := 0
  roundTrip : Nat := 0
  align : Option Int := none
  linkFree : Nat := 0
deriving DecidableEq, Repr

/-- The sample frame of a lane (R16, R28, R42): number, reload instants, listening, own frame, the runs of R42, the supply
readings of the sample's exchange frame, the steps by which lane time was slewed (R38), the ticks by which the running period
is trimmed (R244), whether the reloads must be aligned again before the lane drives (R141), and whether lane time has been set since
the start (R443). -/
structure SampleSt where
  no : Nat := 0
  reloadAt : Nat := 0
  prevReload : Nat := 0
  listenUntil : Nat := 0
  listening : Bool := true
  takeNo : Bool := false
  own : Option ExchFrame := none
  prevOwn : Option ExchFrame := none
  sent : Bool := false
  diffRun : Nat := 0
  lastSend : Nat := 0
  vBrake : Nat := 0
  vLogic : Nat := 0
  slew : Int := 0
  slewAt : Nat := 0
  trim : Int := 0
  realign : Bool := false
  timeSet : Bool := false
deriving DecidableEq, Repr

/-- A voted input (R45 to R47): its last voted value while it has had one, each lane's run of disagreements, whether a value
lay outside tolerance, and the events that the lane has recorded for it. -/
structure VoteIn where
  voted : Nat := 0
  have_ : Bool := false
  now : Bool := false
  runs : List Nat := [0, 0, 0]
  outOfTol : Bool := false
  events : Nat := 0
deriving DecidableEq, Repr

/-- A Demand as a lane holds it (R48, R348). -/
structure DemandRec where
  session : Nat := 0
  epoch : Nat := 0
  seq : Nat := 0
  crc : Nat := 0
  motion : List Byte := []
  stamp : Nat := 0
deriving DecidableEq, Repr

/-- The Demands of a lane: those accepted, newest first, the one of the present sample, and the voted one. -/
structure DemandSt where
  acc : List DemandRec := []
  cur : Option DemandRec := none
  voted : Option DemandRec := none
  votedAt : Nat := 0
  ownAt : Nat := 0
  disagree : List Bool := [false, false, false]
  session : Option Nat := none
deriving DecidableEq, Repr

/-- Claim and tenure of a lane (R75 to R80), the requirement of R63, and the feedback comparison of R88 with the exclusions of
own readings that the lane has recorded as events; when its life-cycle state last changed, until R409 is judged. -/
structure ClaimSt where
  claiming : Bool := false
  aside : Bool := false
  tenure : Nat := 0
  winHealthy : Bool := false
  counter : Nat := 0
  last : Option ClaimFrame := none
  winner : Bool := false
  stopFrom : Option Nat := none
  stopDue : Bool := false
  chanHold : List Bool := List.replicate 8 false
  chanClear : List Bool := List.replicate 8 false
  fbRun : List Nat := List.replicate 24 0
  fbOut : List Bool := List.replicate 24 false
  fbEvents : Nat := 0
  outAt : List Nat := List.replicate 8 0
  status : Option StatusFrame := none
  lcAt : Option Nat := none
deriving DecidableEq, Repr

/-- One link as a half of the arbiter sees it (R79): the latest valid frame, when it ended, the counter reference and
when it was set, and the run of valid frames without a notice (R82). -/
structure LinkSt where
  frame : Option ClaimFrame := none
  endAt : Option Nat := none
  ref : Option (Nat × Nat) := none
  clean : List Nat := [0, 0, 0]
deriving DecidableEq, Repr

/-- One half of the arbiter (R72 to R86). -/
structure HalfSt where
  links : Tri LinkSt := ⟨{}, {}, {}⟩
  disregard : List Bool := [false, false, false]
  timer : Nat := 0
  safe : Bool := true
  fault : Bool := false
  opened : Bool := false
deriving DecidableEq, Repr

/-- The arbiter tile (R69 to R88). An output in ramped vent holds the duty and the instant its ramp started from; `offPulse` holds
for each slot of the test cycle the slot, counted from 0, in which a test that was cut is to be repeated, `claimed` the lanes whose claim was current at the last evaluation. -/
structure Arbiter where
  powered : Bool := true
  halfA : HalfSt := {}
  halfB : HalfSt := {}
  evalCount : Nat := 0
  disagreeRun : Nat := 0
  degraded : Bool := false
  agreed : Bool := false
  winner : Nat := 0
  cmdCounter : Nat := 0
  allSafe : Bool := true
  outState : List Nat := List.replicate 8 0
  ramp : List (Option (Nat × Nat)) := List.replicate 8 none
  safeMode : Nat := 0
  stopCmd : Bool := false
  stopSensed : Bool := false
  chanFault : List Bool := List.replicate 8 false
  chanCause : List Nat := List.replicate 8 0
  offPulse : List (Option Nat) := List.replicate 16 none
  status : Option StatusFrame := none
  current : List Bool := [false, false, false]
  claimed : List Bool := [false, false, false]
  now : Nat := 0
deriving DecidableEq, Repr

/-- The steering drive between samples (R92, R109, R111 to R116, R64): runs, reserves in nanoseconds, I_MAX in millionths of
a code, the ANGLE_STATUS of the last frame, the temperatures of the sample, fault classes. -/
structure DriveSt where
  overRun : Nat := 0
  overFe : Bool := false
  circleRun : Nat := 0
  iMaxU : Nat := 32767000000
  reserveNs : Nat := 2000000000
  budgetNs : Nat := 30000000000
  angleSent : Nat := 0
  tDev : Nat := 0
  tWind : Nat := 0
  tCool : Nat := 0
  sustained : Nat := 18205
  emfV : Nat := 0
  odInForce : Bool := false
  odDevOut : Bool := false
  odWindOut : Bool := false
  hotDevSince : Option Nat := none
  hotWindSince : Option Nat := none
  hotDevOn : Bool := false
  hotWindOn : Bool := false
  lastT5 : Nat := 0
  lastAmp : Nat := 0
  hvClass : Bool := false
  bsClass : Bool := false
  linkOnce : Bool := false
  linkPresent : Bool := false
  brakePresent : Bool := true
  brakeOver : Bool := false
  firstClass : Nat := 0
  limFlags : Nat := 0
deriving DecidableEq, Repr

/-- The engines, their mailboxes' refusals, watchdogs and doorbells in flight, the words (sender, receiver, word) whose crossing waits for
a stopped island (R26), local memories, scrub runs, monitors and
the ageing log (R360, R451 to R463). The lists run over engines E0 to E7, monitors T0 to T13 and V0 to V19; `dbTo` names
the engine in whose mailbox a doorbell's word lies; `age` holds the extremes of the logged interval, `ageDue` says
that its entry is due, `entry` holds the entry addresses of E2 to E4 (R453). -/
structure EngSt where
  refusals : List Nat := List.replicate 8 0
  kickAt : List (Option Nat) := List.replicate 8 none
  relAt : List Nat := List.replicate 8 0
  dbTo : List (Option Nat) := List.replicate 4 none
  held : List (Nat × Nat × Nat) := []
  mem : List (Nat × Byte) := []
  scrub : List (Nat × Nat) := []
  passAt : List Nat := List.replicate 16 0
  temps : List Nat := List.replicate 14 0
  volts : List Nat := List.replicate 20 0
  monSeen : Bool := false
  ageSeen : Bool := false
  age : List Int := [0, 0, 0, 0, 0, 0]
  corrected : Nat := 0
  log : List (Nat × Byte) := []
  ageDue : Bool := false
  entry : List Nat := [0, 0, 0]
deriving DecidableEq, Repr

/-- The capture function (R464 to R468): what was frozen at arming, records written, T, the sources whose LATCHED bit the
last record saw, and the alignment frame last sent. -/
structure CapSt where
  active : Bool := false
  mode : Nat := 0
  n : Nat := 64
  chans : List Nat := []
  armId : Nat := 0
  first : Nat := 0
  records : Nat := 0
  trig : Option Nat := none
  trigNow : Bool := false
  stopDue : Bool := false
  latSeen : List Nat := []
  chPrev : Option Nat := none
  buf : List (Nat × Byte) := []
  sent : Option CaptureFrame := none
deriving DecidableEq, Repr

/-- The entry that a loop runs (R122). -/
inductive EntryKind | none | corr | full | spec
deriving DecidableEq, Repr

/-- One loop of E1 (R121 to R131, R147): committed window, shadow words where valid, parameter words, accumulator rows in
units of 2 to the -48, condition and angle registers, slots as the entry sees them, posts as they stand and as the next exchange
frame carries them with the slots posted in time (R109), the speculative set, the open entry with its start (half nanoseconds
after the reload or the slot start) and cycles, what the run has done, the reload of its sample, whether an overburden of it
is still to be found (R152), whether speculation was on at its last run (R149), and the numbers of the last two samples with a commit of their own (R161). -/
structure LoopSt where
  win : List (Nat × Nat) := []
  shw : List (Nat × Nat) := []
  par : List Nat := []
  acc : List Int := []
  cr : Nat := 0
  ar : Nat := 0
  seen : List (Nat × Nat) := []
  posts : List (Nat × Nat) := []
  spec : List Nat := [0, 0, 0]
  specValid : Bool := false
  uCmd : List Nat := [0, 0, 0]
  yCopy : List Nat := []
  fresh : Bool := false
  entry : EntryKind := .none
  startH : Nat := 0
  startAt : Nat := 0
  cyc : Nat := 0
  cycEntry : Nat := 0
  committed : Bool := false
  inTime : Bool := false
  cause : Nat := 0
  started : Bool := false
  obRun : Nat := 0
  postsF : List (Nat × Nat) := []
  postedBy : List Nat := []
  reload : Nat := 0
  owes : Bool := false
  specWas : Bool := true
  commitNos : List Nat := []
deriving DecidableEq, Repr

/-- Work of E1 that has fallen due (R154): the loop, whether it is SPEC, and the instant at which it fell due. -/
structure E1Due where
  loop : Fin 9
  spec : Bool
  due : Nat
deriving DecidableEq, Repr

/-- The matrix engine (R121, R135 to R142, R154, R158): its loops, the loop whose entry runs, the next instruction of an entry whose
program stands in the bank, work that waits, SPEC_EN as latched at the last reload, the loops for which a CONFIG cause waits for the
next one (R149, R158), the two banks by offset, which of them is
eligible, the check under way, and the pending swap: from the host or from E0, and its target sample. -/
structure MxSt where
  loops : Vector LoopSt 9 := Vector.replicate 9 {}
  cur : Option (Fin 9) := none
  pc : Option Nat := none
  waiting : List E1Due := []
  spec : Bool := true
  config : List Nat := []
  bank0 : List (Nat × Byte) := []
  bank1 : List (Nat × Byte) := []
  checking : Bool := false
  modified : Bool := false
  eligible0 : Bool := false
  eligible1 : Bool := false
  swap : Option (Bool × Option Nat) := none
  swapAt : Nat := 0
deriving DecidableEq, Repr

/-- The window of R166 of one channel: judged samples, sums of the codes, of their squares and of the products of
neighbours, the products counted, the last code with the sample it belongs to, and the run of coloured windows. -/
structure WhiteSt where
  n : Nat := 0
  s : Int := 0
  ss : Int := 0
  sp : Int := 0
  n1 : Nat := 0
  prev : Option (Nat × Int) := none
  run : Nat := 0
deriving DecidableEq, Repr

/-- The window of R171: pairs, sums, and the last judged sample with its link current in millionths of an ampere. -/
structure LinkWin where
  n : Nat := 0
  sdd : Rat := 0
  sii : Rat := 0
  prev : Option (Nat × Int × Rat) := none
  run : Nat := 0
deriving DecidableEq, Repr

/-- What a judged sample leaves for the next one (R167, R171): its number, whether the lane drove, posts and link code. -/
structure SupPosts where
  no : Nat
  drives : Bool
  idE : Int
  iqE : Int
  theta : Nat
  omega : Int
  vLink : Int
deriving DecidableEq, Repr

/-- Supervision (R161 to R175): runs and windows, the last judged sample, the cue history, and the re-lock: state, instant
of the loss, runs, the substitute formed with its sources, whether it has been carried, agreement since, whether the error of R175 stands, and the sample whose angles were compared last. -/
structure SupSt where
  innRun : List Nat := List.replicate 24 0
  white : List WhiteSt := List.replicate 24 {}
  last : Option SupPosts := none
  cueHist : List Bool := []
  link : LinkWin := {}
  minorRun : Nat := 0
  state : Nat := 0
  lossAt : Nat := 0
  lossRun : Nat := 0
  relockRun : Nat := 0
  subst : Option (Nat × Int) := none
  carried : Bool := false
  agreeSince : Option Nat := none
  noAngle : Bool := false
  agreeNo : Option Nat := none
deriving DecidableEq, Repr

/-- The seed of R422 as received: the sample it names and its 64 bytes. -/
structure SeedSt where
  sample : Nat
  body : List Byte
deriving DecidableEq, Repr

/-- E2's shaper, stop and Berm (R178 to R197). The reference and its successor are binary32 codes (R180); `dem` is the
stop's braking demand as a fraction of service force, `floor` the demand at its start; `trim` is in 0.001. -/
structure ShapeSt where
  pos : Nat := 0
  rate : Nat := 0
  acc : Nat := 0
  nPos : Nat := 0
  nRate : Nat := 0
  nAcc : Nat := 0
  nJerk : Nat := 0
  target : Nat := 0
  cap : Nat := 0
  judged : Option (Nat × Nat) := none
  lostAt : Nat := 0
  holdEnd : Nat := 0
  pend : Nat := 0
  dem : Rat := 0
  floor : Rat := 0
  riseAt : Nat := 0
  prevSpeed : Option Rat := none
  trimAt : Nat := 0
  lossDue : Bool := false
  held : Option (List Byte) := none
  lowInput : Option Nat := none
  lowVeh : Option Nat := none
  l1 : Bool := false
  l2 : Bool := false
  l1Below : Option Nat := none
  l2Below : Option Nat := none
  seed : Option SeedSt := none
deriving DecidableEq, Repr

/-- A brake drive (R200 to R223): MODE and the steps of park, home and unlock; Halls with the fault history of the last 64
accepted changes; current limit in millionths of a code and peak reserve; contact learning; plausibility timers. -/
structure BrakeDrv where
  mode : Nat := 0
  wantHome : Bool := false
  parkLock : Bool := false
  nearSince : Option Nat := none
  mode4At : Nat := 0
  zeroAt : Option Nat := none
  lockPos : Nat := 0
  lockLow : Nat := 0
  moved : Bool := false
  unlockFailed : Bool := false
  trunc : Nat := 0
  lockTry : Nat := 0
  unlockAt : Nat := 0
  unlockPos : Nat := 0
  zeroSince : Option Nat := none
  posRef : Option Rat := none
  tracking : Bool := false
  code : Nat := 0
  lastValid : Option Nat := none
  changeAt : Nat := 0
  changeDt : Option Nat := none
  faults : List Bool := []
  faultNow : Bool := false
  pos : Nat := 0
  originOk : Bool := false
  inService : Bool := true
  iLimU : Nat := 26214000000
  reserveNs : Nat := 2000000000
  overRun : Nat := 0
  lastT5 : Nat := 0
  armed : Bool := false
  tqRun : Nat := 0
  cand : Nat := 0
  cands : List Nat := []
  waive : Bool := false
  since : List (Option Nat) := [none, none, none]
  pad : Bool := false
deriving DecidableEq, Repr

/-- A wheel end as E2 sees it (R215, R218): force reference and its rate as fractions of F_R, cap and target of the sample,
and the MODE that follows from the voted inputs. -/
structure WheelSt where
  ref : Rat := 0
  rate : Rat := 0
  cap : Rat := 0
  target : Rat := 0
  mode : Nat := 0
  near : Option Nat := none
deriving DecidableEq, Repr

/-- What a lane has seen of a peer's drive in the frames that passed R41 (R223, R224): out of park lock, in it, on its way out since an
instant, or back in it because it did not unlock. -/
inductive LockSeen | out | locked | leaving (since : Nat) | back
deriving DecidableEq, Repr

/-- Braking of a lane (R200 to R226): its drives, the wheel ends, park, the locks of the lower and the higher peer's drives as seen, and
the spring-brake duty in 10^-9 counts. -/
structure BrakeSys where
  drv : Vector BrakeDrv 8 := Vector.replicate 8 {}
  wheels : Vector WheelSt 12 := Vector.replicate 12 {}
  parkOn : Bool := false
  releasing : Bool := false
  refusedOf : Option (Nat × Nat) := none
  locksLo : List LockSeen := List.replicate 8 .out
  locksHi : List LockSeen := List.replicate 8 .out
  spring : Nat := 0
deriving DecidableEq, Repr

end Sys2Proof.Machine
end

