-- ==== Sys2Proof/Machine/HostTypes.lean ====
section
/-!
DEFINITION. The hidden state of a lane's networks, host protocol, dictionary, security, update and power control as
plain data: what the specification gives these beside their registers and objects. Times are nanoseconds of lane time.
Every field has its value at reset as its default; a value the specification does not give is in assumption log 2.
-/
namespace Sys2Proof.Machine

/-- A frame that a port of E6 has queued or sends (R317 to R319, R330): the address it answers, the port's own address and VID, its
class, the fields MSG_TYPE, SOURCE, STREAM and UNIT of its module header, segment, whether it is the last one, RSEQ, whether MACsec
protects it with its association number, keys and salt and, once it has begun, its packet number, and its payload. -/
structure TxFrame where
  dst : Nat
  src : Nat
  vid : Nat
  cls : Nat
  msgType : Nat
  source : Nat
  stream : Nat
  unit : Nat
  seg : Nat
  final : Bool
  rseq : Nat
  prot : Bool
  an : Nat
  sak : List Byte := []
  salt : List Byte := []
  pn : Nat := 0
  payload : List Byte
deriving DecidableEq, Repr

/-- A port (R316 to R331): link with the statuses it rests on, receive channel (highest packet number accepted, and the accepted numbers of
the last 64 as bits), token bucket in 1/1000 bit, until when its express queue holds a frame or a Demand waits for E2, window (0 Demand, 1
Report, 2 open), frames queued, the one in transmission with its end, the start of its fragment, when the port is free after a fragment,
the preempted one with the time it still needs, the next packet number sent by association number, the frame last sent, and network time. -/
structure PortSt where
  linkUp : Bool := true
  phyUp : Bool := true
  localOk : Bool := true
  remoteOk : Bool := true
  pnTop : Nat := 0
  pnMask : Nat := 0
  tokens : Nat := 131072000
  tokensAt : Nat := 0
  expressTill : Nat := 0
  window : Nat := 2
  queue : List TxFrame := []
  tx : Option (TxFrame × Nat) := none
  txAt : Nat := 0
  freeAt : Nat := 0
  cut : Option (TxFrame × Nat) := none
  txPns : List Nat := [1, 1, 1, 1]
  sent : Option TxFrame := none
  timeOk : Bool := false
  syncAt : Nat := 0
  syncEvery : Nat := 0
deriving DecidableEq, Repr

/-- The history of a stream (R322): h, the accepted ones of the 32 numbers up to h as bits, and the last delivery with whether it came on
Net B (R341). -/
structure Hist where
  h : Nat
  mask : Nat
  at_ : Nat
  viaB : Bool := false
deriving DecidableEq, Repr

/-- E6 (R316 to R342): ports, histories by source MAC address and STREAM, RSEQ by class, the offset of lane time from the network-time
counter at an instant with its rate, the last Sync followed (source, instant, offset measured), the instant from which a slew counts, and
the accepted stop frame of CAN XL with its hold. -/
structure NetSt where
  a : PortSt := {}
  b : PortSt := {}
  hist : List (Nat × Hist) := []
  rseq : List Nat := List.replicate 8 0
  offset : Int := 0
  rate : Rat := 0
  offAt : Int := 0
  seen : Option (Nat × Int × Int) := none
  slewAt : Nat := 0
  stopUntil : Option Nat := none
  stopCause : Nat := 0
deriving DecidableEq, Repr

/-- The open session (R343, R346) with the instant of the last acceptance (R345), its association number with the keys and the salt of
R334, and the last Demand accepted in it. -/
structure SessSt where
  num : Option Nat := none
  prot : Bool := false
  mac : Nat := 0
  key : Nat := 0
  lastAt : Nat := 0
  an : Option Nat := none
  sakHm : List Byte := []
  sakMh : List Byte := []
  salt : List Byte := []
  pair : Option (Nat × Nat) := none
deriving DecidableEq, Repr

/-- State of a tag (R356): open, quarantined until an instant with its stored answer, or free since that instant; a frame is judged by its
stamp (R359), so the answer stays for one stamped before it. -/
inductive TagUse
  | open_
  | closed (until_ : Nat) (cls : Nat) (answer : List Byte)
  | free (since : Nat) (cls : Nat) (answer : List Byte)
deriving DecidableEq, Repr

/-- Where a request came from: the session with its serial number since the start (R345), or the CAN XL port. -/
structure TxnId where
  can : Bool
  tag : Nat
  serial : Nat := 0
deriving DecidableEq, Repr

/-- What a request waits for before it is answered (R371, R374, R402, R406, R417). -/
inductive TxnWait | t5 | store | commit | change | quote | aside | check
deriving DecidableEq, Repr

/-- A request that is not answered yet: its class of answer, its head, and what it waits for. -/
structure OpenTxn where
  id : TxnId
  head : TxnHead
  wait : TxnWait
deriving DecidableEq, Repr

/-- What has become of a request in segments (R357, R358, R359): waited for; dropped as expired and counted, for good or not, since a segment
that is on time by its stamp may still be processed; or foreign. -/
inductive PartUse | waited | timedOut | expired | foreign
deriving DecidableEq, Repr

/-- A request whose segments have not all arrived (R319, R358): sender and stream, RSEQ of its segment 0, the head once segment 0
is here, the stamp of segment 0 or, before it, of the first one that came, the earliest and latest stamp of its segments, the segments by
index, the last one's index, and what has become of it. -/
structure PartReq where
  key : Nat
  base : Nat
  head : Option TxnHead
  stamp : Nat
  lo : Nat
  hi : Nat
  segs : List (Nat × List Byte)
  last : Option Nat
  use : PartUse := .waited
deriving DecidableEq, Repr

/-- A Report that is due (R353): rank and stamp of the newest Demand accepted in its cycle, the cycle's number, its start in lane
time, whether that Demand was late (R352), and whether the cycle's Report has left before (R362). -/
structure DueReport where
  rank : Nat
  stamp : Nat
  cycle : Int
  start : Nat
  late : Bool
  second : Bool := false
deriving DecidableEq, Repr

/-- What a Report takes from the last t5 (R353, R354): bytes 0x08 to 0x1F, FLAGS but for bits 3, 7 and 8, the two counts of which
bits 3 and 8 tell the change, and bytes 0x22 to 0x83. -/
structure ReportSnap where
  head : List Byte
  flags : Nat
  reversals : Nat
  parkRefusals : Nat
  tail : List Byte
deriving DecidableEq, Repr

/-- A frame that the CAN XL port sends (R337): CAN XL with its SDT and acceptance field (SEC and VCID are 0), or CAN FD. -/
structure CanTx where
  priority : Nat
  xl : Bool
  sdt : Nat
  acceptance : Nat
  payload : List Byte
deriving DecidableEq, Repr

/-- A session that has timed out, as it stood (R359): a frame stamped at or before its deadline that is processed later keeps it. -/
structure OldSess where
  sess : SessSt
  hist : List (Nat × Hist)
  tags : List (Nat × (Nat × TagUse))
  opened : List OpenTxn
  parts : List PartReq
  reportDue : List DueReport
  deadline : Nat
deriving DecidableEq, Repr

/-- Transactions (R355 to R362): serial number of the session, the one that has timed out, the tag tables by tag with the last generation,
requests not answered, the requests whose segments arrive, the last answer on CAN XL, the Reports due, the cycle of the last one that
left and the snapshot of the last t5 (R353), and the Report last built. -/
structure TxnSt where
  serial : Nat := 0
  old : Option OldSess := none
  tags : List (Nat × (Nat × TagUse)) := []
  canTags : List (Nat × (Nat × TagUse)) := []
  opened : List OpenTxn := []
  parts : List PartReq := []
  canAnswer : Option CanTx := none
  reportDue : List DueReport := []
  reported : Option Int := none
  snap : Option ReportSnap := none
  report : List Byte := []
  revRefused : Nat := 0
  parkRefused : Nat := 0
deriving DecidableEq, Repr

/-- A key agreement (R333 to R335): nothing, a HELLO answered in E7, a REPLY sent, a CONFIRM verified, or abandoned late: a frame that is
on time by its stamp may still complete its CONFIRM (R359). -/
inductive KaPhase | idle | hello | reply | confirmed | late
deriving DecidableEq, Repr

/-- Is an exchange in progress? -/
def KaPhase.busy : KaPhase → Bool
  | .idle | .late => false
  | _ => true

/-- The exchange under way (R333 to R335): who asked, its head, N_H, ek, N_L, ciphertext, shared secret, th2, the instant of KA_REPLY, the
segments of KA_CONFIRM with the last one's index, KA_FAIL_LAST before it was late; HELLO instants of the last second, HELLOs dropped, a
REASON due with the host to which it is due, and draws of random numbers so far. -/
structure KaSt where
  phase : KaPhase := .idle
  mac : Nat := 0
  session : Nat := 0
  key : Nat := 0
  xid : Nat := 0
  nH : List Byte := []
  ek : List Byte := []
  ss : List Byte := []
  th2 : List Byte := []
  replyAt : Nat := 0
  conf : List (Nat × List Byte) := []
  confLast : Option Nat := none
  failWas : Nat := 0
  hellos : List Nat := []
  dropped : Nat := 0
  due : Option (Nat × Nat) := none
  draws : Nat := 0
  nextAn : Nat := 0
deriving DecidableEq, Repr

/-- A dictionary write that a lane-targeted object takes at the next t5 (R371), with the request to answer. -/
structure PendWrite where
  key : Nat
  off : Nat
  data : List Byte
  by_ : Option TxnId
deriving DecidableEq, Repr

/-- Who caused a proposal: a host write, a change set, a new nonce (R402 step 8), an install (R383), or a request to every
lane. -/
inductive PropSrc
  | host (id : TxnId)
  | change
  | nonce
  | install
deriving DecidableEq, Repr

/-- A proposal of the lane's own (R374): its id, entries, P and S, who accepted, and whether APPLY has been sent. -/
structure Proposal where
  id : Nat
  src : PropSrc
  entries : List Entry
  lastSample : Nat
  apply : Nat
  okLo : Bool := false
  okHi : Bool := false
  go : Bool := false
deriving DecidableEq, Repr

/-- A proposal of a peer as its parts arrive (R374, R375), and the sample P once the last one ended. -/
structure PeerProp where
  id : Nat
  next : Nat
  apply : Nat
  entries : List Entry
  full : Option Nat := none
deriving DecidableEq, Repr

/-- A proposal of a peer that the lane has accepted (R374), whether APPLY has arrived, and whether an install authorised it (R383). -/
structure HeldProp where
  peer : Peer
  id : Nat
  apply : Nat
  entries : List Entry
  go : Bool := false
  install : Bool := false
deriving DecidableEq, Repr

/-- Commit and digest (R374 to R378): commit count, own proposal, retry sample, proposals waiting, the peers' proposals, the
one held, the peers' last digests (set counter, set digest), whether the first DIGEST is sent, the set judged at the start,
and a DIGEST not judged yet, the run out of step, and the set being taken. -/
structure CommitSt where
  count : Nat := 0
  own : Option Proposal := none
  retryAt : Option Nat := none
  waiting : List (PropSrc × List Entry) := []
  inLo : Option PeerProp := none
  inHi : Option PeerProp := none
  held : Option HeldProp := none
  digLo : Option (Nat × List Byte) := none
  digHi : Option (Nat × List Byte) := none
  digestSent : Bool := false
  judged : Bool := false
  digestDue : Bool := false
  outRun : Nat := 0
  syncPeer : Option Peer := none
  syncNext : Nat := 0
  syncSet : List Entry := []
  syncDone : Option Nat := none
deriving DecidableEq, Repr

/-- Non-volatile memory of the cartridge and the staged image (R379 to R383): of the factory image which calibration it holds, the entries
that differ from the defaults of the object tables and whether it passes its check; the copies of the user image and which one is in use
(false A, true B); the values of RO objects as they were stored last or found at the start, the keys whose store is due, the staged bytes
with their extent, the check under way and whether a write fell into it. -/
structure NvSt where
  cal : Nat := 0
  factory : List (Nat × List Byte) := []
  factoryOk : Bool := true
  copyA : Option NvImage := none
  copyB : Option NvImage := none
  use : Option Bool := none
  roBase : List (Nat × List Byte) := []
  due : List Nat := []
  stage : List (Nat × Byte) := []
  stageLen : Nat := 0
  checkSpoilt : Bool := false
deriving DecidableEq, Repr

/-- An authorisation held (R402): its bytes and its presentation instant. -/
structure AuthRec where
  bytes : List Byte
  at_ : Nat
deriving DecidableEq, Repr

/-- A change under way at its originator (R402 steps 5 to 7): its set, the instant by which peers must confirm, what each
answered, whether it has been proposed, and the request to answer. -/
structure CsRun where
  set_ : List Byte
  until_ : Nat
  confLo : Option Nat
  confHi : Option Nat
  go : Bool
  by_ : Option TxnId
deriving DecidableEq, Repr

/-- A transfer as its parts arrive (R420). -/
structure Xfer where
  id : Nat
  next : Nat
  body : List Byte
deriving DecidableEq, Repr

/-- Two-party changes (R399 to R405): the bytes written with their extent, the loaded set, authorisations held, the change
under way, forwarded parts from the peers, the sets confirmed for them, a nonce proposal open, transfer count. -/
structure CsSt where
  img : List (Nat × Byte) := []
  filled : Nat := 0
  loaded : Option (List Byte) := none
  eng : Option AuthRec := none
  fs : Option AuthRec := none
  run : Option CsRun := none
  inLo : Option Xfer := none
  inHi : Option Xfer := none
  fwdLo : Option (List Byte) := none
  fwdHi : Option (List Byte) := none
  nonceOpen : Bool := false
  xfers : Nat := 0
deriving DecidableEq, Repr

/-- The key store's attestation work (R406): a nonce waiting for t5, a quote in E7. -/
structure QuoteSt where
  nonce : Option (List Byte) := none
  making : Option (List Byte) := none
deriving DecidableEq, Repr

/-- A firmware slot or program image (R413, R424): its manifest, eligible or not, and its content, that of a program image the one that the
lane loads its engines from (R453). `made`: written at manufacture, with bytes that the specification does not state. -/
structure ImgSlot where
  manifest : List Byte := []
  eligible : Bool := false
  content : List Byte := []
  made : Bool := false
deriving DecidableEq, Repr

/-- What a peer announced (R421): firmware revision, bank serial, program revision, UPD_STATE. -/
structure Announced where
  fw : Nat
  bank : Nat
  prog : Nat
  upd : Nat
deriving DecidableEq, Repr

/-- Update and standing aside (R413 to R429): slots A and B, the image written with its extent, program images (active,
previous, staged) and the bytes written, announcements, the request waiting for t5, removal under way, instants, the trial of the next start, of this one and its failure, and its start. -/
structure UpdSt where
  slotA : ImgSlot := { eligible := true, made := true }
  slotB : ImgSlot := {}
  img : List (Nat × Byte) := []
  filled : Nat := 0
  progActive : ImgSlot := {}
  progPrev : ImgSlot := {}
  progStaged : ImgSlot := {}
  progImg : List (Nat × Byte) := []
  progFilled : Nat := 0
  annLo : Option Announced := none
  annHi : Option Announced := none
  request : Option Nat := none
  removal : Bool := false
  asideAt : Option Nat := none
  answerDue : Bool := false
  trialNext : Bool := false
  trialFw : Bool := false
  trialProg : Bool := false
  trialFailed : Bool := false
  trialAt : Nat := 0
deriving DecidableEq, Repr

/-- The self-test of a start (R442 to R445): not run, running, passed, failed with E0, E6 and E7 good or not. -/
inductive Selftest | notRun | running | passed | failed
deriving DecidableEq, Repr

/-- Power control (R431 to R448): the sequence's target with whether it enters or wakes, requests waiting for t5, first
refusal and next retry, blocks that have stopped and the one that owes an answer since an instant, park and session idle since, a restart
that is due, the wake that waits for the logic supply, the supplies, whether Hold follows the wake, instants of wake and
reset release, the self-test with its records, and the run of aborted slices of each block. -/
structure PwrSt where
  target : Option Nat := none
  waking : Bool := false
  request : Option Nat := none
  refusedFrom : Option Nat := none
  retryAt : Option Nat := none
  stopped : List Nat := []
  asking : Option Nat := none
  askedAt : Nat := 0
  sumpOk : Bool := true
  supplyOk : Bool := true
  wakeLatched : Bool := false
  holdAfter : Bool := false
  wokeAt : Nat := 0
  releasedAt : Nat := 0
  restart : Bool := false
  idleFrom : Option Nat := none
  selftest : Selftest := .notRun
  records : List SelftestRecord := []
  aborts : List Nat := List.replicate 10 0
deriving DecidableEq, Repr

/-- Frames of types 0x02 to 0x05 that the lane has sent since its last reload (R36), with the peer they go to, and in the
order of sending the peer and the instant at which each starts on its link (R37). -/
structure BirixTx where
  times : List (Peer × TimeFrame) := []
  commits : List (Peer × CommitFrame) := []
  updates : List (Peer × UpdateFrame) := []
  captures : List (Peer × CaptureFrame) := []
  starts : List (Peer × Nat) := []
deriving DecidableEq, Repr

end Sys2Proof.Machine
end

