-- ==== Sys2Proof/Machine/State.lean ====
section
/-!
DEFINITION. The state of the module: three lanes, the arbiter tile and the queue of waiting commands, as plain data. The
dictionary's values live in `objs` and `octs` and the registers in `regs`, each an ascending list that lists no key at its
default (ObjNames, RegNames give the defaults); `slots` holds the slots that E1 reads (R108, R207); everything else the specification gives the blocks is in the structures of
the Types files. The arbiter and the wake bus stand apart from the lanes (R22).
-/
namespace Sys2Proof.Machine

/-- Why a step stops with a fault. It has no constructor: no command of the specification stops the module, and an access
to an address of no block is refused on the bus and counted (R451). -/
inductive Fault
deriving DecidableEq, Repr

/-- Why a step is refused. -/
inductive Refusal
  /-- Raised by an arm of `exec` whose command has no meaning yet; safe. -/
  | notModelled (mnemonic : String)
deriving DecidableEq, Repr

/-- One lane. `now` is the latest instant of lane time that the lane has seen, `bus` the word that the last read
of a register or a mailbox returned. -/
structure Lane where
  powered : Bool := true
  now : Nat := 0
  objs : List (Nat × Nat) := []
  octs : List (Nat × List Byte) := [(0x600001, factorySchedule)]
  regs : List (Nat × Nat) := []
  slots : List (Nat × Nat) := []
  coll : Coll := {}
  gate : GateSt := {}
  steer : StageSt := {}
  brakes : Vector StageSt 8 := Vector.replicate 8 {}
  peerLo : PeerSt := {}
  peerHi : PeerSt := {}
  smp : SampleSt := {}
  votes : Vector VoteIn 10 := Vector.replicate 10 {}
  dem : DemandSt := {}
  claim : ClaimSt := {}
  drive : DriveSt := {}
  sio : SioSt := {}
  eng : EngSt := {}
  cap : CapSt := {}
  mx : MxSt := {}
  spv : SupSt := {}
  shape : ShapeSt := {}
  brk : BrakeSys := {}
  net : NetSt := {}
  sess : SessSt := {}
  txn : TxnSt := {}
  ka : KaSt := {}
  writes : List PendWrite := []
  com : CommitSt := {}
  nv : NvSt := {}
  cs : CsSt := {}
  quote : QuoteSt := {}
  upd : UpdSt := {}
  pwr : PwrSt := {}
  out : BirixTx := {}
  bus : Nat := 0
deriving DecidableEq, Repr

/-- The module. `pending` holds the commands that wait, first in, first out. -/
structure State where
  lane1 : Lane
  lane2 : Lane
  lane3 : Lane
  arb : Arbiter
  pending : List Instr
deriving DecidableEq, Repr

/-- The machine right after reset: every part at its reset value and no command waiting. -/
def State.reset : State where
  lane1 := {}
  lane2 := {}
  lane3 := {}
  arb := {}
  pending := []

end Sys2Proof.Machine
end

