-- ==== Sys2Proof/Machine/Ops.lean ====
section
/-!
DEFINITION. The named operations over the state: lanes, objects, registers and their fields, counters, stages, peers, and
the byte memories. Every meaning reads and writes the state through these.
-/
namespace Sys2Proof.Machine

/-- The value listed under key `k` in an ascending list, `d` where it is not listed. -/
def kvGet {α : Type} (d : α) : List (Nat × α) → Nat → α
  | [], _ => d
  | (a, v) :: r, k => if a = k then v else kvGet d r k

/-- The ascending list with `v` under key `k`. -/
def kvPut {α : Type} (k : Nat) (v : α) : List (Nat × α) → List (Nat × α)
  | [] => [(k, v)]
  | (a, w) :: r => if k < a then (k, v) :: (a, w) :: r else if a = k then (k, v) :: r else (a, w) :: kvPut k v r

/-- The list without key `k`. -/
def kvDel {α : Type} (k : Nat) : List (Nat × α) → List (Nat × α)
  | [] => []
  | (a, w) :: r => if a = k then kvDel k r else (a, w) :: kvDel k r

/-- Write `v` under key `k`, where an unlisted key reads as `d`: the list names no key at `d`. -/
def kvSet {α : Type} [DecidableEq α] (d : α) (m : List (Nat × α)) (k : Nat) (v : α) : List (Nat × α) :=
  if v = d then kvDel k m else kvPut k v m

/-- Keys strictly ascend. -/
def kvAscending {α : Type} : List (Nat × α) → Bool
  | [] => true
  | [_] => true
  | (a, _) :: (b, w) :: r => decide (a < b) && kvAscending ((b, w) :: r)

/-- Lane numbers 1 to 3 (R6). -/
def laneNo : LaneId → Nat
  | .l1 => 1
  | .l2 => 2
  | .l3 => 3

/-- The lane of a number, if it is one (R6). -/
def laneOf : Nat → Option LaneId
  | 1 => some .l1
  | 2 => some .l2
  | 3 => some .l3
  | _ => none

/-- The lower- and the higher-numbered peer of a lane (R39). -/
def peerId : LaneId → Peer → LaneId
  | .l1, .lo => .l2
  | .l1, .hi => .l3
  | .l2, .lo => .l1
  | .l2, .hi => .l3
  | .l3, .lo => .l1
  | .l3, .hi => .l2

/-- The component of a triple that belongs to a lane. -/
def Tri.of {α : Type} (x : Tri α) : LaneId → α
  | .l1 => x.at1
  | .l2 => x.at2
  | .l3 => x.at3

/-- A triple with one lane's component replaced. -/
def Tri.upd {α : Type} (x : Tri α) (l : LaneId) (v : α) : Tri α :=
  match l with
  | .l1 => { x with at1 := v }
  | .l2 => { x with at2 := v }
  | .l3 => { x with at3 := v }

/-- A lane of the module. -/
def State.lane (s : State) : LaneId → Lane
  | .l1 => s.lane1
  | .l2 => s.lane2
  | .l3 => s.lane3

/-- The module with one lane replaced. -/
def State.setLane (s : State) (l : LaneId) (x : Lane) : State :=
  match l with
  | .l1 => { s with lane1 := x }
  | .l2 => { s with lane2 := x }
  | .l3 => { s with lane3 := x }

/-- The state with one lane changed. -/
def State.upd (s : State) (l : LaneId) (f : Lane → Lane) : State := s.setLane l (f (s.lane l))

/-- The three lanes. -/
def allLanes : List LaneId := [.l1, .l2, .l3]

/-- A step of one lane: a lane without its logic supply does nothing. -/
def onLane (l : LaneId) (s : State) (f : Lane → Lane) : Host.Outcome State Fault Refusal :=
  .next (if (s.lane l).powered then s.setLane l (f (s.lane l)) else s)

/-- A step of one lane at an instant of its lane time, which never goes back (R38, Time, units and ranges). -/
def onLaneAt (l : LaneId) (t : Nat) (s : State) (f : Lane → Lane) : Host.Outcome State Fault Refusal :=
  onLane l s fun x => f { x with now := max x.now t }

/-- A step of one lane at an instant that may reach the whole state of the module. -/
def onStateAt (l : LaneId) (t : Nat) (s : State) (f : State → State) : Host.Outcome State Fault Refusal :=
  .next (if (s.lane l).powered then f (s.upd l fun x => { x with now := max x.now t }) else s)

/-- A step of a lane whether or not its logic supply is on: what the Sump, the supplies and the stage's comparator
do. -/
def onSump (l : LaneId) (t : Nat) (s : State) (f : Lane → Lane) : Host.Outcome State Fault Refusal :=
  .next (s.setLane l (f { s.lane l with now := max (s.lane l).now t }))

/-- A step of the arbiter tile, which does nothing without its supply (R86). -/
def onArb (s : State) (f : Arbiter → Arbiter) : Host.Outcome State Fault Refusal :=
  .next (if s.arb.powered then { s with arb := f s.arb } else s)

/-- The offset of lane time from the network-time counter at an instant: the counter goes on at its last frequency (R324). -/
def NetSt.offsetAt (n : NetSt) (t : Nat) : Int := n.offset + (n.rate * (((t : Int) - n.offAt : Int) : Rat)).floor

/-- Which calibration the factory image of a lane's cartridge holds (R379). -/
def NvSt.calOf (n : NvSt) (lane : Nat) : Nat := 4 * n.cal + lane % 4

/-- The code that an object holds. -/
def Lane.obj (l : Lane) (o : O.Obj) : Nat := kvGet o.dflt l.objs o.key

/-- The calibration that a lane uses. -/
def Lane.cal (l : Lane) : Nat := l.nv.calOf (l.obj O.laneNumber)

/-- Write an object's code. -/
def Lane.setObj (l : Lane) (o : O.Obj) (v : Nat) : Lane := { l with objs := kvSet o.dflt l.objs o.key v }

/-- A boolean object. -/
def Lane.flag (l : Lane) (o : O.Obj) : Bool := l.obj o = 1

/-- Write a boolean object. -/
def Lane.setFlag (l : Lane) (o : O.Obj) (b : Bool) : Lane := l.setObj o (b2n b)

/-- One count more in a counter of `w` bits at an instant; past its last code the specification states no value. -/
def countUp (w key now v : Nat) : Nat :=
  if v + 1 < 2 ^ w then v + 1 else Config.countEnd key now % 2 ^ w

/-- One count more in a 32-bit counter object. -/
def Lane.inc (l : Lane) (o : O.Obj) : Lane := l.setObj o (countUp 32 o.key l.now (l.obj o))

/-- One count more in a 16-bit counter object. -/
def Lane.inc16 (l : Lane) (o : O.Obj) : Lane := l.setObj o (countUp 16 o.key l.now (l.obj o))

/-- One count more in an 8-bit counter object. -/
def Lane.inc8 (l : Lane) (o : O.Obj) : Lane := l.setObj o (countUp 8 o.key l.now (l.obj o))

/-- `n` counts more in a 32-bit counter object. -/
def Lane.incBy (l : Lane) (o : O.Obj) : Nat → Lane
  | 0 => l
  | n + 1 => (l.inc o).incBy o n

/-- One count more, if a condition holds. -/
def Lane.incIf (l : Lane) (o : O.Obj) (b : Bool) : Lane := if b then l.inc o else l

/-- The bytes that an object of type OCTETS, STR or DOMAIN holds. -/
def Lane.oct (l : Lane) (o : O.Obj) : List Byte := kvGet [] l.octs o.key

/-- Write an object of type OCTETS, STR or DOMAIN. -/
def Lane.setOct (l : Lane) (o : O.Obj) (v : List Byte) : Lane := { l with octs := kvSet [] l.octs o.key v }

/-- Element `i` of an array object of 16-bit elements, `n` of them, the first most significant (R367). -/
def Lane.arr16 (l : Lane) (o : O.Obj) (n i : Nat) : Nat := bits (l.obj o) (16 * (n - 1 - i)) 16

/-- Write an array object of 16-bit elements. -/
def Lane.setArr16 (l : Lane) (o : O.Obj) (vs : List Nat) : Lane :=
  l.setObj o (vs.foldl (fun a v => a * 65536 + v % 65536) 0)

/-- The word that a register holds. -/
def Lane.reg (l : Lane) (r : Rg.Reg) : Nat := kvGet r.reset l.regs r.addr

/-- Write a register's word. -/
def Lane.setReg (l : Lane) (r : Rg.Reg) (v : Nat) : Lane :=
  { l with regs := kvSet r.reset l.regs r.addr (v % 2 ^ 32) }

/-- A field of a register. -/
def Lane.fld (l : Lane) (r : Rg.Reg) (lo w : Nat) : Nat := bits (l.reg r) lo w

/-- Write a field of a register. -/
def Lane.setFld (l : Lane) (r : Rg.Reg) (lo w x : Nat) : Lane := l.setReg r (putBits (l.reg r) lo w x)

/-- A bit of a register. -/
def Lane.rbit (l : Lane) (r : Rg.Reg) (i : Nat) : Bool := bitOf (l.reg r) i

/-- Write a bit of a register. -/
def Lane.setRbit (l : Lane) (r : Rg.Reg) (i : Nat) (b : Bool) : Lane := l.setFld r i 1 (b2n b)

/-- Set a bit of a register if a condition holds. -/
def Lane.raiseBit (l : Lane) (r : Rg.Reg) (i : Nat) (b : Bool) : Lane := if b then l.setRbit r i true else l

/-- The code in a slot that E1 reads (R108, R207). -/
def Lane.slot (l : Lane) (i : Nat) : Nat := kvGet 0 l.slots i

/-- Write a slot. -/
def Lane.setSlot (l : Lane) (i v : Nat) : Lane := { l with slots := kvSet 0 l.slots i (v % 65536) }

/-- Write slots from an index up. -/
def Lane.setSlots (l : Lane) (i : Nat) : List Nat → Lane
  | [] => l
  | v :: vs => (l.setSlot i v).setSlots (i + 1) vs

/-- A stage of a lane (R229). -/
def Lane.stg (l : Lane) : Stage → StageSt
  | .steer => l.steer
  | .brake n => l.brakes[n]

/-- A lane with one stage replaced. -/
def Lane.setStg (l : Lane) (st : Stage) (x : StageSt) : Lane :=
  match st with
  | .steer => { l with steer := x }
  | .brake n => { l with brakes := l.brakes.set n x }

/-- A lane with one stage changed. -/
def Lane.updStg (l : Lane) (st : Stage) (f : StageSt → StageSt) : Lane := l.setStg st (f (l.stg st))

/-- The nine stages of a lane. -/
def allStages : List Stage := .steer :: (List.finRange 8).map Stage.brake

/-- The eight brake stages of a lane. -/
def brakeStages : List Stage := (List.finRange 8).map Stage.brake

/-- A peer of a lane. -/
def Lane.peer (l : Lane) : Peer → PeerSt
  | .lo => l.peerLo
  | .hi => l.peerHi

/-- A lane with what it holds of one peer replaced. -/
def Lane.setPeer (l : Lane) (p : Peer) (x : PeerSt) : Lane :=
  match p with
  | .lo => { l with peerLo := x }
  | .hi => { l with peerHi := x }

/-- A lane with what it holds of one peer changed. -/
def Lane.updPeer (l : Lane) (p : Peer) (f : PeerSt → PeerSt) : Lane := l.setPeer p (f (l.peer p))

/-- Both peers. -/
def bothPeers : List Peer := [.lo, .hi]

/-- The other peer. -/
def otherPeer : Peer → Peer
  | .lo => .hi
  | .hi => .lo

/-- Subindex offset of a peer in the objects of R68. -/
def peerIx : Peer → Nat
  | .lo => 0
  | .hi => 1

/-- Number of a stage where a list of nine runs: 0 steering, n + 1 brake stage n. -/
def stageIx : Stage → Nat
  | .steer => 0
  | .brake n => n.val + 1

/-- Number of a leg (R98). -/
def legIx : Leg → Nat
  | .u => 0
  | .v => 1
  | .w => 2

/-- Number of a switch in the order UH, UL, VH, VL, WH, WL (R108). -/
def switchIx (s : Switch) : Nat := 2 * legIx s.leg + (if s.high then 0 else 1)

/-- Element `i` of a list of truth values, false beyond its end. -/
def nthB (l : List Bool) (i : Nat) : Bool := l.getD i false

/-- The byte at an address of a memory; an unlisted address reads as 0. -/
def memRead (m : List (Nat × Byte)) (a : Nat) : Byte := kvGet 0 m a

/-- Write one byte of a memory. -/
def memWrite (m : List (Nat × Byte)) (a : Nat) (b : Byte) : List (Nat × Byte) := kvSet 0 m a b

/-- Write bytes from an address up. -/
def memWriteAll (m : List (Nat × Byte)) (a : Nat) : List Byte → List (Nat × Byte)
  | [] => m
  | b :: bs => memWriteAll (memWrite m a b) (a + 1) bs

/-- `n` bytes from an address up. -/
def memReadAll (m : List (Nat × Byte)) (a : Nat) : Nat → List Byte
  | 0 => []
  | n + 1 => memRead m a :: memReadAll m (a + 1) n

/-- A memory in canonical form: addresses strictly ascend and no listed byte is 0. -/
def memWf (m : List (Nat × Byte)) : Bool := kvAscending m && m.all (fun c => c.2 ≠ 0)

end Sys2Proof.Machine
end

