-- ==== Sys2Proof/Machine/Arbiter.lean ====
section
/-!
DEFINITION. Claim arbitration at the shared outputs (R69 to R89): the two halves and their evaluation, the channel
diagnostics, the safe-state timers, and what a lane does with the arbiter's status frame.
-/
namespace Sys2Proof.Machine

/-- A half of the arbiter. -/
def Arbiter.half (a : Arbiter) : ArbHalf → HalfSt
  | .halfA => a.halfA
  | .halfB => a.halfB

/-- The arbiter with one half replaced. -/
def Arbiter.setHalf (a : Arbiter) (h : ArbHalf) (x : HalfSt) : Arbiter :=
  match h with
  | .halfA => { a with halfA := x }
  | .halfB => { a with halfB := x }

/-- The lanes other than one. -/
def othersOf (x : LaneId) : List LaneId := allLanes.filter (· ≠ x)

/-- Does a claim frame of a lane carry an eviction notice against lane x? (R78) -/
def noticeAgainst (src x : LaneId) (f : ClaimFrame) : Bool :=
  if peerId src .lo = x then bitOf f.evictNotice.toNat 0
  else if peerId src .hi = x then bitOf f.evictNotice.toNat 1 else false

/-- The duty of an output at an instant: a ramped vent falls linearly to 0 over 2.0 s (R71). -/
def rampDuty (d t0 t : Nat) : Nat := if t0 + 2000000000 ≤ t then 0 else (roundDiv (d * (t0 + 2000000000 - t) : Nat) 2000000000).toNat

/-- Time passes at the arbiter: the outputs in ramped vent follow their ramps (R71). -/
def Arbiter.at_ (a : Arbiter) (t : Nat) : Arbiter :=
  let now := max a.now t
  { a with
    now := now
    outState := a.outState.zipIdx.map fun p => match a.ramp.getD p.2 none with
      | some (d, t0) => rampDuty d t0 now
      | none => p.1 }

/-- An output goes to its safe state: ramped or immediate vent under the latched SAFE_MODE (R71, R85). -/
def Arbiter.vent (a : Arbiter) (n : Nat) : Arbiter :=
  let d := nth a.outState n
  if (a.ramp.getD n none).isSome then a
  else if bitOf a.safeMode n && d ≠ 0 then { a with ramp := a.ramp.set n (some (d, a.now)) }
  else { a with outState := a.outState.set n 0, ramp := a.ramp.set n none }

/-- Every output goes to its safe state and the stop line opens (R85). -/
def Arbiter.allToSafe (a : Arbiter) : Arbiter :=
  { (List.range 8).foldl Arbiter.vent a with allSafe := true, stopCmd := false, winner := 0 }

/-- A channel is held in its safe state with a cause (R87). A channel already held keeps its cause. -/
def Arbiter.hold (a : Arbiter) (n cause : Nat) : Arbiter :=
  if nthB a.chanFault n then a
  else { a with chanFault := a.chanFault.set n true, chanCause := a.chanCause.set n cause }.vent n

/-- The safe-state timer of a half expires (R85): at once, without the other half. -/
def Arbiter.expire (a : Arbiter) (h : ArbHalf) : Arbiter :=
  let x := a.half h
  if x.fault || x.safe || a.now < x.timer + 500000 then a
  else (a.setHalf h { x with safe := true }).allToSafe

/-- Is a received claim frame one of the link's lane with a matching CRC? A claim of 0 carries no lane number (R75,
R79). -/
def frameIds (ln : Nat) (f : ClaimFrame) (crc : BitVec 16) : Bool :=
  decide (crc = crc16 (claimBytes f)) && decide (bits f.source.toNat 0 2 = ln)
  && (decide (f.claim = 0) || decide (bits f.claim.toNat 0 2 = ln))

/-- A link takes a valid frame (R79, R82). -/
def LinkSt.take (k : LinkSt) (link : LaneId) (t : Nat) (f : ClaimFrame) : LinkSt :=
  { frame := some f, endAt := some t, ref := some (f.counter.toNat, t)
    clean := allLanes.zipIdx.map fun p => if noticeAgainst link p.1 f then 0 else nth k.clean p.2 + 1 }

/-- A half receives a frame on a link (R79, R85): the first one after 500 µs without a valid frame only sets the counter
reference; otherwise COUNTER must have advanced by 1 to 15. A valid non-zero claim of a lane that is not disregarded starts
the safe-state timer again. -/
def HalfSt.receive (x : HalfSt) (link : LaneId) (t : Nat) (f : ClaimFrame) (crc : BitVec 16) : HalfSt :=
  let k := x.links.of link
  if x.fault || !frameIds (laneNo link) f crc then x
  else
    match k.ref with
    | none => { x with links := x.links.upd link { k with ref := some (f.counter.toNat, t) } }
    | some (c, t0) =>
      if t0 + 500000 ≤ t then { x with links := x.links.upd link { k with ref := some (f.counter.toNat, t) } }
      else
        let adv := (f.counter.toNat + 65536 - c) % 65536
        if decide (1 ≤ adv ∧ adv ≤ 15) then
          { x with links := x.links.upd link (k.take link t f)
                   timer := if f.claim ≠ 0 && !nthB x.disregard (laneNo link - 1) then t else x.timer }
        else x

/-- CLAIM_FRAME (R79, R83): a timer that expires at the same instant acts first. -/
def execClaimFrame (h : ArbHalf) (link : LaneId) (t : Nat) (f : ClaimFrame) (crc : BitVec 16) (s : State) :
    Host.Outcome State Fault Refusal :=
  onArb s fun a =>
    let a := (a.at_ t).expire h
    a.setHalf h ((a.half h).receive link t f crc)

/-- Did the last valid frame of a link end within the preceding 250 µs? (R72) -/
def LinkSt.fresh (k : LinkSt) (t : Nat) : Bool :=
  match k.endAt with
  | some e => decide (e ≤ t ∧ t ≤ e + 250000)
  | none => false

/-- A half's disregard at an evaluation (R82): set for x when both other lanes are current, not disregarded themselves,
and carry a notice; cleared when some lane is current and every current lane has sent 3 valid frames without one. The lanes are
judged in order, each by the disregards that stand by then, so that at most one is disregarded at a time (assumption log 108). -/
def HalfSt.judgeDisregard (x : HalfSt) (t : Nat) : HalfSt :=
  let cur := fun (d : List Bool) (l : LaneId) => (x.links.of l).fresh t && !nthB d (laneNo l - 1)
  let keeps := allLanes.map fun v =>
    let on := (othersOf v).filter (cur x.disregard)
    let clear := !on.isEmpty && on.all fun o => 3 ≤ nth (x.links.of o).clean (laneNo v - 1)
    nthB x.disregard (laneNo v - 1) && !clear
  { x with disregard := allLanes.foldl (fun (d : List Bool) v =>
      let named := (othersOf v).all fun o =>
        cur d o && (match (x.links.of o).frame with | some f => noticeAgainst o v f | none => false)
      d.set (laneNo v - 1) (named || nthB d (laneNo v - 1))) keeps }

/-- Is a lane current at a half? (R72 step 1) -/
def HalfSt.current (x : HalfSt) (t : Nat) (l : LaneId) : Bool :=
  (x.links.of l).fresh t && !nthB x.disregard (laneNo l - 1)

/-- Is a non-zero claim of a lane current at a half? (R75, R85) -/
def HalfSt.claimsNow (x : HalfSt) (t : Nat) (l : LaneId) : Bool :=
  x.current t l && (match (x.links.of l).frame with | some f => decide (f.claim ≠ 0) | none => false)

/-- The candidate frame of a half: the highest non-zero claim among current lanes (R72 step 2). -/
def HalfSt.candidate (x : HalfSt) (t : Nat) : Option ClaimFrame :=
  (allLanes.filterMap fun l => if x.current t l then (x.links.of l).frame else none).foldl
    (fun b f => if f.claim = 0 then b else match b with
      | none => some f
      | some g => if g.claim < f.claim then some f else some g) none

/-- The command of a claim frame: everything a winner's frame carries but its counter and notices (R72, R78). -/
def sameCommand (f g : ClaimFrame) : Bool :=
  decide (f.claim = g.claim) && decide (f.outCmd = g.outCmd) && decide (f.control = g.control)
  && decide (f.safeMode = g.safeMode) && decide (f.chanHold = g.chanHold) && decide (f.chanClear = g.chanClear)

/-- Do the two candidates agree? (R72 step 4) -/
def agree : Option ClaimFrame → Option ClaimFrame → Bool
  | none, none => true
  | some f, some g => sameCommand f g
  | _, _ => false

/-- The command of a winner at one output (R74, R85, R87): CHAN_CLEAR releases a held channel whose checks pass, CHAN_HOLD
holds it with cause 5; where both are set the hold prevails, with the cause that stands (assumption log 11); a degraded arbiter only
lowers or keeps a duty. -/
def Arbiter.applyOut (f : ClaimFrame) (sense : ArbSense) (a : Arbiter) (n : Nat) : Arbiter :=
  let a := if nthB a.chanFault n && bitOf f.chanClear.toNat n && bitOf sense.checkPass.toNat n && !bitOf f.chanHold.toNat n then
      { a with chanFault := a.chanFault.set n false, chanCause := a.chanCause.set n 0 } else a
  let a := if bitOf f.chanHold.toNat n then a.hold n 5 else a
  if nthB a.chanFault n then a
  else
    let d := (f.outCmd.getD n 0).toNat
    if a.degraded && nth a.outState n < d then a
    else { a with outState := a.outState.set n d, ramp := a.ramp.set n none }

/-- The winner's command is applied (R72, R74, R86). -/
def Arbiter.apply (a : Arbiter) (f : ClaimFrame) (sense : ArbSense) : Arbiter :=
  let a := { a with safeMode := f.safeMode.toNat }
  let a := (List.range 8).foldl (Arbiter.applyOut f sense) a
  { a with winner := f.claim.toNat, cmdCounter := f.counter.toNat,
           stopCmd := bitOf f.control.toNat 0 && (!a.degraded || a.stopCmd) }

/-- An agreed candidate wins; out of the safe state only one whose claim has been current at the evaluation before (R85). Until then
WINNER stays 0 (assumption log 107). -/
def Arbiter.win (a : Arbiter) (f : ClaimFrame) (was : List Bool) (sense : ArbSense) : Arbiter :=
  let ln := bits f.claim.toNat 0 2
  if a.allSafe then
    if nthB was (ln - 1) then
      { a with allSafe := false, halfA := { a.halfA with safe := false }, halfB := { a.halfB with safe := false } }.apply f sense
    else a
  else a.apply f sense

/-- Both halves have failed: the frozen switches open (R74, outcome Z of R66). -/
def Arbiter.openAll (a : Arbiter) : Arbiter :=
  { a with outState := List.replicate 8 0, ramp := List.replicate 8 none, stopCmd := false, allSafe := true, winner := 0 }

/-- The status frame of R81. A lane is shown current where it is at both halves, and disregarded where it is at one
(assumption log 108). -/
def Arbiter.statusFrame (a : Arbiter) : StatusFrame where
  arbFlags := BitVec.ofNat 8 (b2n (!a.halfA.fault) + 2 * b2n (!a.halfB.fault) + 4 * b2n a.degraded + 8 * b2n a.allSafe
    + 16 * b2n a.agreed + 128 * (a.evalCount % 2))
  winner := BitVec.ofNat 16 a.winner
  evalCount := BitVec.ofNat 16 a.evalCount
  current := BitVec.ofNat 8 (packBits a.current)
  disregard := BitVec.ofNat 8 (packBits (List.zipWith (· || ·) a.halfA.disregard a.halfB.disregard))
  outState := a.outState.map (BitVec.ofNat 8)
  chanFault := BitVec.ofNat 8 (packBits a.chanFault)
  chanCause := BitVec.ofNat 32 (a.chanCause.foldl (fun v c => v * 16 + c % 16) 0)
  stopState := BitVec.ofNat 8 (b2n a.stopCmd + 2 * b2n a.stopSensed)
  cmdCounter := BitVec.ofNat 16 a.cmdCounter

/-- One evaluation (R72, R74, R81, R82, R85): each half on its own data; a half that has found a fault accepts nothing
more and the other works alone under the limits of R74; the sending half returns the status frame. Where the halves agree, half
A's frame gives CMD_COUNTER (assumption log 109). A half that has failed sends no status frame on its turn, and WINNER stays where the
working half has no candidate (assumption log 108). -/
def Arbiter.evaluate (a : Arbiter) (t : Nat) (sense : ArbSense) : Arbiter :=
  let a := ((a.at_ t).expire .halfA).expire .halfB
  let was := a.claimed
  let ha := if a.halfA.fault then a.halfA else a.halfA.judgeDisregard t
  let hb := if a.halfB.fault then a.halfB else a.halfB.judgeDisregard t
  let cur := allLanes.map fun l => (a.halfA.fault || ha.current t l) && (a.halfB.fault || hb.current t l)
    && !(a.halfA.fault && a.halfB.fault)
  let claims := allLanes.map fun l => ha.claimsNow t l && hb.claimsNow t l
  let a := { a with halfA := ha, halfB := hb, evalCount := (a.evalCount + 1) % 65536, current := cur, claimed := claims,
                    stopSensed := sense.stopClosed }
  let ca := ha.candidate t
  let cb := hb.candidate t
  let a :=
    if ha.fault && hb.fault then { a with agreed := false }
    else if ha.fault || hb.fault then
      match (if ha.fault then cb else ca) with
      | some f => if a.allSafe then { a with agreed := false } else { a with agreed := false }.apply f sense
      | none => { a with agreed := false }
    else if agree ca cb then
      match ca with
      | some f => { a with agreed := true, disagreeRun := 0 }.win f was sense
      | none => { a with agreed := true, disagreeRun := 0, winner := 0 }
    else { a with agreed := false, disagreeRun := a.disagreeRun + 1,
                  degraded := a.degraded || decide (3 ≤ a.disagreeRun + 1) }
  let sender := if a.evalCount % 2 = 0 then a.halfA.fault else a.halfB.fault
  { a with status := if sender then a.status else some a.statusFrame }

/-- ARBITER_EVALUATION (R72). -/
def execArbiterEvaluation (t : Nat) (sense : ArbSense) (s : State) : Host.Outcome State Fault Refusal :=
  onArb s fun a => a.evaluate t sense

/-- A half finds a fault in itself (R74): it freezes its switches and accepts nothing more; the arbiter is degraded; with
both halves failed the switches open. -/
def Arbiter.failHalf (a : Arbiter) (h : ArbHalf) : Arbiter :=
  let a := { a.setHalf h { a.half h with fault := true } with degraded := true }
  if a.halfA.fault && a.halfB.fault then a.openAll else a

/-- HALF_FAULT (R74). -/
def execHalfFault (h : ArbHalf) (t : Nat) (s : State) : Host.Outcome State Fault Refusal :=
  onArb s fun a => (a.at_ t).failHalf h

/-- HANDSHAKE_TIMEOUT (R74): a half misses the other's handshake for 300 µs, with the same effect. Where the half has failed before,
it is the other one that has stopped its handshake. -/
def execHandshakeTimeout (h : ArbHalf) (t : Nat) (s : State) : Host.Outcome State Fault Refusal :=
  onArb s fun a =>
    let a := a.at_ t
    if (a.half h).fault then a.failHalf (match h with | .halfA => .halfB | .halfB => .halfA) else a.failHalf h

/-- SAFE_STATE_TIMER (R85): the half's timer has run 500 µs since the last valid non-zero claim frame. -/
def execSafeStateTimer (h : ArbHalf) (t : Nat) (s : State) : Host.Outcome State Fault Refusal :=
  onArb s fun a => (a.at_ t).expire h

/-- The slot of the test cycle that belongs to a half and an output (R87). -/
def slotOfTest (h : ArbHalf) (out : Nat) : Nat := 2 * out + (match h with | .halfA => 0 | .halfB => 1)

/-- The slot of the cycle of 500 ms, in 16 slots of 31.25 ms, in which an instant lies (R87). -/
def testSlot (t : Nat) : Nat := t % 500000000 / 31250000

/-- Does a half test its switch of an output with a pulse now (R83, R87)? In its slot, or in the slot after the one in which its test
was cut; half B tests every energised output, half A one held at duty 255. -/
def Arbiter.testDue (a : Arbiter) (h : ArbHalf) (out : Nat) : Bool :=
  let d := nth a.outState out
  let k := slotOfTest h out
  (decide (testSlot a.now = k) || decide (a.offPulse.getD k none = some (a.now / 31250000)))
    && (match h with | .halfA => decide (d = 255) | .halfB => decide (d ≠ 0))

/-- OFF_PULSE_TEST (R83, R87): a switch commanded off that stays high is cause 3 or 4, in a test pulse or at a command to 0; a
pulse that a command change cuts judges nothing, and the test is repeated at the next slot. -/
def execOffPulseTest (h : ArbHalf) (out : Fin 8) (t : Nat) (staysHigh cut : Bool) (s : State) :
    Host.Outcome State Fault Refusal :=
  onArb s fun a =>
    let a := a.at_ t
    let cause := match h with | .halfA => 3 | .halfB => 4
    let again := fun (b : Option Nat) => { a with offPulse := a.offPulse.set (slotOfTest h out) b }
    if nth a.outState out = 0 then (if staysHigh then a.hold out cause else a)
    else if !a.testDue h out then a
    else if cut then again (some (a.now / 31250000 + 1))
    else if staysHigh then (again none).hold out cause
    else again none

/-- OPEN_LOAD (R87): below 30 mA with duty 255 for 10 ms. -/
def execOpenLoad (out : Fin 8) (milliamp heldMs : Nat) (s : State) : Host.Outcome State Fault Refusal :=
  onArb s fun a =>
    if decide (nth a.outState out = 255) && decide (milliamp < 30) && decide (10 ≤ heldMs) then a.hold out 1 else a

/-- OVERCURRENT (R87): above 4.5 A for 20 ms, or above 12 A at any time. -/
def execOvercurrent (out : Fin 8) (milliamp heldMs : Nat) (s : State) : Host.Outcome State Fault Refusal :=
  onArb s fun a =>
    if (decide (4500 < milliamp) && decide (20 ≤ heldMs)) || decide (12000 < milliamp) then a.hold out 2 else a

/-- OUTPUT_NOT_FOLLOWING_DUTY (R87): measured and agreed duty differ by more than 4 counts for 10 ms. -/
def execOutputNotFollowingDuty (out : Fin 8) (measured : BitVec 8) (heldMs : Nat) (s : State) :
    Host.Outcome State Fault Refusal :=
  onArb s fun a =>
    let d := nth a.outState out
    if (decide (d + 4 < measured.toNat) || decide (measured.toNat + 4 < d)) && decide (10 ≤ heldMs) then a.hold out 6
    else a

/-- ARBITER_POWER_UP (R86): SAFE_MODE 0, every output off, the stop line open. -/
def execArbiterPowerUp (t : Nat) (s : State) : Host.Outcome State Fault Refusal :=
  .next { s with arb := { powered := true, now := t, halfA := { timer := t }, halfB := { timer := t } } }

/-- What a lane takes from a status frame (R77, R81, R89): the objects, the winner, the tenure of a lane that is not it,
and the instants at which outputs changed. -/
def Lane.takeStatus (l : Lane) (me : LaneId) (f : StatusFrame) : Lane :=
  let l := (((l.setObj O.arbWinner f.winner.toNat).setObj O.arbFlags f.arbFlags.toNat).setObj O.arbDisregard
    f.disregard.toNat).setObj O.arbStopState f.stopState.toNat
  let l := l.incIf O.arbDisagreements (!bitOf f.arbFlags.toNat 4)
  let out := fun (l : Lane) (n : Nat) =>
    let d := (f.outState.getD n 0).toNat
    let l := if (decide (d = 0)) = (decide (l.obj (O.outStateObj n) = 0)) then l
      else { l with claim := { l.claim with outAt := l.claim.outAt.set n l.now } }
    let cause := bits f.chanCause.toNat (4 * (7 - n)) 4
    let l := (l.setObj (O.outStateObj n) d).setObj (O.outFault n) cause
    if bitOf f.chanFault.toNat n then l
    else { l with claim := { l.claim with chanClear := l.claim.chanClear.set n false } }
  let l := (List.range 8).foldl out l
  let win := decide (f.winner ≠ 0) && decide (bits f.winner.toNat 0 2 = laneNo me)
  let l := if win && !l.claim.winner then l.inc16 O.wins else l
  { l with claim := { l.claim with winner := win, status := some f,
                                   tenure := if win then l.claim.tenure else min l.claim.tenure 62 } }

/-- ARBITER_STATUS_FRAME (R81, R89): a wrong CRC is counted and the frame not used. -/
def execArbiterStatusFrame (l : LaneId) (t : Nat) (f : StatusFrame) (crc : BitVec 16) (s : State) :
    Host.Outcome State Fault Refusal :=
  onLaneAt l t s fun x => if crc = crc16 (statusBytes f) then x.takeStatus l f else x.inc O.statusErrors

/-- CLAIM_WINDOW_END (R77): windows end at the multiples of 100 ms; a healthy one raises TENURE, any other sets it to 0; only the
winner reaches 63. -/
def execClaimWindowEnd (l : LaneId) (t : Nat) (s : State) : Host.Outcome State Fault Refusal :=
  onLaneAt l t s fun x =>
    let c := x.claim
    let ten := if c.claiming && c.winHealthy then min (c.tenure + 1) (if c.winner then 63 else 62) else 0
    if t % 100000000 ≠ 0 then x else
    { x with claim := { c with tenure := ten, winHealthy := c.claiming } }

/-- OUT_FAULT_CLEAR (R46, R87 to R89): 0 requests the clear of a held output and ends the exclusions of readings of its contactor;
any other value is refused. -/
def execOutFaultClear (l : LaneId) (n : Fin 8) (v : BitVec 8) (t : Nat) (s : State) : Host.Outcome State Fault Refusal :=
  onLaneAt l t s fun x =>
    if v = 0 then
      let c := [0, 1, 2].foldl (fun (c : ClaimSt) i =>
        { c with fbRun := c.fbRun.set (3 * n + i) 0, fbOut := c.fbOut.set (3 * n + i) false }) x.claim
      { x with claim := { c with chanClear := c.chanClear.set n true, chanHold := c.chanHold.set n false } }
    else x

/-- The feedback reading of a lane for an output (R88): none where the output names no input of role 4. -/
def Lane.fbMismatch (l : Lane) (n feedback : Nat) : Option Bool :=
  let k := l.obj (O.outFbInput n)
  if decide (k < 4) && decide (bits (l.obj O.fbRole) (8 * (3 - k)) 8 = 4) then
    let closed := bitOf feedback k != l.flag (O.outFbInvert n)
    some (closed != decide (l.obj (O.outStateObj n) ≠ 0))
  else none

/-- The wait of R88 after an output's change. -/
def Lane.fbWaited (l : Lane) (n : Nat) : Bool :=
  let w := if l.obj (O.outStateObj n) = 0 then l.obj (O.outFbDropout n) else l.obj (O.outFbPickup n)
  decide (nth l.claim.outAt n + 1000000 * w ≤ l.now)

/-- The readings of the claiming lanes for an output: lane number and mismatch, excluded ones left out (R88). -/
def Lane.fbReadings (l : Lane) (me : LaneId) (n : Nat) : List (Nat × Bool) :=
  let own := if l.claim.claiming then (l.fbMismatch n l.sio.fb).map fun b => (laneNo me, b) else none
  let peers := bothPeers.filterMap fun p => match (l.peer p).last with
    | some f => if bitOf f.status.toNat 0 && !(l.peer p).evicted then
        (l.fbMismatch n f.feedback.toNat).map fun b => (laneNo (peerId me p), b) else none
    | none => none
  ((own.toList ++ peers).filter fun r => !nthB l.claim.fbOut (3 * n + r.1 - 1))

/-- CONTACTOR_FEEDBACK_COMPARE (R88): a majority of mismatches makes the winner hold the channel; a lane alone against the
majority in 3 consecutive comparisons is excluded, which it records as an event. -/
def execContactorFeedbackCompare (l : LaneId) (out : Fin 8) (t : Nat) (s : State) : Host.Outcome State Fault Refusal :=
  onLaneAt l t s fun x =>
    let n := out.val
    if x.claim.claiming && x.fbWaited n then
      let rs := x.fbReadings l n
      let bad := (rs.filter fun r => r.2).length
      let odd := if bad = 1 && decide (3 ≤ rs.length) then rs.filter (fun r => r.2)
        else if bad + 1 = rs.length && decide (3 ≤ rs.length) then rs.filter (fun r => !r.2) else []
      let upd := fun (c : ClaimSt) (ln : Nat) =>
        let i := 3 * n + ln - 1
        let run := if odd.any fun r => r.1 = ln then nth c.fbRun i + 1 else 0
        { c with fbRun := c.fbRun.set i run, fbOut := if 3 ≤ run then c.fbOut.set i true else c.fbOut,
                 fbEvents := c.fbEvents + b2n (decide (3 ≤ run) && decide (ln = laneNo l)) }
      let x := { x with claim := [1, 2, 3].foldl upd x.claim }
      if rs.length < 2 * bad && x.claim.winner then
        { x with claim := { x.claim with chanHold := x.claim.chanHold.set n true } }
      else x
    else x

end Sys2Proof.Machine
end

