-- ==== Sys2Proof/Machine/Banks.lean ====
section
/-!
DEFINITION. The coefficient memory (R135 to R138): reading the fields of a bank, least significant byte first, which bank
is active, and writing the standby bank.
-/
namespace Sys2Proof.Machine

/-- Size of a bank in bytes (R135). -/
def bankSize : Nat := 0x210000

/-- Bytes, little endian, at an offset of a bank (R14, R137). -/
def bankLE (m : List (Nat × Byte)) (off n : Nat) : Nat := ofBytesLE (memReadAll m off n)

/-- Is bank 1 the active one? (MX_STAT BANK, R135) -/
def Lane.bank1Active (l : Lane) : Bool := l.rbit Rg.mxStat 1

/-- The active bank. -/
def Lane.activeBank (l : Lane) : List (Nat × Byte) := if l.bank1Active then l.mx.bank1 else l.mx.bank0

/-- The standby bank. -/
def Lane.standbyBank (l : Lane) : List (Nat × Byte) := if l.bank1Active then l.mx.bank0 else l.mx.bank1

/-- Is the standby bank eligible? (R139) -/
def Lane.standbyEligible (l : Lane) : Bool := if l.bank1Active then l.mx.eligible0 else l.mx.eligible1

/-- Set the eligibility of the standby bank, in MX_STAT too. -/
def Lane.setStandbyEligible (l : Lane) (b : Bool) : Lane :=
  let m := if l.bank1Active then { l.mx with eligible0 := b } else { l.mx with eligible1 := b }
  ({ l with mx := m }).setRbit Rg.mxStat 3 b

/-- A pending swap ends with a reason of MX_STAT SWAP_REFUSE (R140, R158). -/
def Lane.refuseSwap (l : Lane) (code : Nat) : Lane :=
  let l := (l.setFld Rg.mxStat 8 8 code).setObj O.swapResult code
  ({ l with mx := { l.mx with swap := none } }).setRbit Rg.mxStat 2 false

/-- A write to the standby bank (R138, R158): its eligibility goes, a check under way has failed, and a pending swap is
refused with "standby modified". Bytes beyond the bank are not written. -/
def Lane.writeStandby (l : Lane) (off : Nat) (bs : List Byte) : Lane :=
  let bs := bs.take (bankSize - off)
  let m := memWriteAll l.standbyBank off bs
  let l := { l with mx := if l.bank1Active then { l.mx with bank0 := m } else { l.mx with bank1 := m } }
  let l := l.setStandbyEligible false
  let l := if l.mx.checking then { l with mx := { l.mx with modified := true } } else l.setObj O.standbyState 0
  if l.mx.swap.isSome then l.refuseSwap 4 else l

/-- Offset of a loop's descriptor in a bank (R135). -/
def loopDesc (loop : Nat) : Nat := 0x100 + 64 * loop

/-- Is a loop present in a bank: LOOPS of its header (R137). -/
def loopPresent (m : List (Nat × Byte)) (loop : Nat) : Bool := bitOf (bankLE m 6 2) loop

/-- A matrix descriptor (R137). -/
structure MatDesc where
  rows : Nat
  cols : Nat
  shift : Int
  offset : Nat
deriving DecidableEq, Repr

/-- Descriptor `k` of a loop. -/
def matDesc (m : List (Nat × Byte)) (loop k : Nat) : MatDesc :=
  let a := 0x400 + 256 * loop + 8 * k
  ⟨bankLE m a 1, bankLE m (a + 1) 1, toI 8 (bankLE m (a + 2) 1), bankLE m (a + 4) 4⟩

/-- Offset of a bench block of a loop (R135). -/
def blockBase (loop b : Nat) : Nat :=
  if loop = 0 then 0x10000 + b * 0x4000 else 0x110000 + (loop - 1) * 0x20000 + b * 0x800

/-- Words in a bench block of a loop (R135). -/
def blockWords (loop : Nat) : Nat := if loop = 0 then 4096 else 512

/-- A word of a loop's bench block. -/
def blockWord (m : List (Nat × Byte)) (loop b w : Nat) : Nat := bankLE m (blockBase loop b + 4 * w) 4

/-- Word i of a loop's tube table (R135, R148). -/
def tubeWord (m : List (Nat × Byte)) (loop i : Nat) : Nat := bankLE m (0x1900 + 96 * loop + 4 * i) 4

/-- Instruction word i of a loop's program (R135). -/
def progWord (m : List (Nat × Byte)) (loop i : Nat) : Nat := bankLE m (0x2000 + 2048 * loop + 4 * i) 4

/-- A byte of a loop's bench table (R143). -/
def benchByte (m : List (Nat × Byte)) (loop off : Nat) : Nat := bankLE m (0x1000 + 256 * loop + off) 1

/-- A half-word of a loop's bench table (R143), to be read as signed. -/
def benchI16 (m : List (Nat × Byte)) (loop off : Nat) : Nat := bankLE m (0x1000 + 256 * loop + off) 2

end Sys2Proof.Machine
end

