-- ==== Sys2Proof/Machine/StageOps.lean ====
section
/-!
DEFINITION. What every power stage shares: the choice of the steering set's safe state (R95), stopping a stage, an
occurrence in the fault collector with the uniform reaction (R301 to R306), fault classes of R64 and R65, and protective
trips with their automatic clears (R256 to R262).
-/
namespace Sys2Proof.Machine

/-- Does a stage's soft turn-off still run, within its 2.0 µs (R258)? -/
def StageSt.softRuns (s : StageSt) (t : Nat) : Bool := match s.softFrom with | some t0 => decide (t < t0 + 2000) | none => false

/-- A stage drives no longer: its gates go to their off level, those of a soft turn-off by its own two levels (R258, R263, R269). -/
def StageSt.stop (s : StageSt) (t : Nat) : StageSt := { s with driving := false, gate := if s.softRuns t then s.gate else .off }

/-- What the comparator of R95 finds at the terminals of the winding at an instant. -/
def Lane.seeTerminals (l : Lane) (above : Bool) : Lane := { l with gate := { l.gate with emfHigh := above, emfAt := l.now } }

/-- The comparator finds the terminals above the DC link now. Of an instant that no command gives it a reading, BACK_EMF_ABOVE_LINK
brings what it finds (assumption log 141). -/
def Lane.terminalsAbove (l : Lane) : Bool := l.gate.emfHigh && decide (l.gate.emfAt = l.now)

/-- The comparator of R95: with all six switches off it shorts the set, and latches the short, while the terminal voltage
lies above the DC link. It chooses when a soft turn-off has ended (R259). -/
def Lane.chooseSafe (l : Lane) : Lane := l.raiseBit Rg.gdStat 12 (l.terminalsAbove && !l.steer.softRuns l.now)

/-- A reading of the terminals at a reload or a t5: the comparator keeps watching an open set, and shorts it (R95). -/
def Lane.watchTerminals (l : Lane) (above : Bool) : Lane :=
  let l := l.seeTerminals above
  if l.steer.driving then l else l.chooseSafe

/-- The steering stage ceases driving; the comparator chooses its safe state (R95). -/
def Lane.ceaseSteer (l : Lane) : Lane :=
  ({ l with steer := l.steer.stop l.now }).chooseSafe

/-- All six switches of a brake stage off; its winding is open (R202). -/
def Lane.openBrake (l : Lane) (n : Fin 8) : Lane :=
  { l with brakes := l.brakes.set n (l.brakes[n].stop l.now) }

/-- Every brake stage stops with its winding open. -/
def Lane.openBrakes (l : Lane) : Lane := (List.finRange 8).foldl Lane.openBrake l

/-- A stage stops driving. -/
def Lane.ceaseStage (l : Lane) : Stage → Lane
  | .steer => l.ceaseSteer
  | .brake n => l.openBrake n

/-- The Spall record of a source, all zero where none is listed (R302). -/
def Coll.spall (c : Coll) (src : Nat) : SpallRec :=
  (c.recs.find? fun r => r.src = src).getD { src := src }

/-- The records with one replaced, ascending by source. -/
def putSpall (r : SpallRec) : List SpallRec → List SpallRec
  | [] => [r]
  | q :: qs => if r.src < q.src then r :: q :: qs else if r.src = q.src then r :: qs else q :: putSpall r qs

/-- Is any LATCHED bit set? (R302) -/
def Coll.anyLatched (c : Coll) : Bool := c.recs.any fun r => bitOf r.flags 0

/-- The record after an occurrence (R301, R302): times, count, flags and data; an injected-only one sets INJ. -/
def SpallRec.occur (r : SpallRec) (data t : Nat) (inj firstCause : Bool) : SpallRec :=
  { r with
    first := if r.count = 0 then t else r.first
    last := t
    count := min (r.count + 1) 0xFFFFFFFF
    flags := if inj then putBits r.flags 1 1 1
             else putBits (putBits (if firstCause then putBits r.flags 2 1 1 else r.flags) 1 1 0) 0 1 1
    injCount := if inj then min (r.injCount + 1) 0xFFFF else r.injCount
    data := data % 2 ^ 32 }

/-- FIRST_CAUSE of R304: the first cause in bits 7:0, the occurrences since the last clear above. -/
def Coll.firstCause (c : Coll) : Nat := c.firstSrc + 256 * c.occ

/-- Does a source become the first cause at an instant although one is latched: of several sources in one cycle the lowest number is the
first cause (R304)? -/
def Coll.displaces (c : Coll) (src t : Nat) : Bool :=
  c.anyLatched && decide (c.errorAt = t) && decide (src < c.firstSrc)

/-- Is a source that asserts at an instant the first cause (R304)? -/
def Coll.takesFirst (c : Coll) (src t : Nat) : Bool := !c.anyLatched || c.displaces src t

/-- A record that is no longer the first cause's. -/
def SpallRec.notFirst (r : SpallRec) : SpallRec := { r with flags := putBits r.flags 2 1 0 }

/-- A real occurrence of a source at an instant: its record, LATCHED, and the error state (R301 to R304, R306 step 1). Where it displaces
the first cause of its own cycle, it takes that one's place in the fault log too; a new first cause waits for its copy there (R312). -/
def Coll.occurAs (c : Coll) (src data t : Nat) (displaces : Bool) : Coll :=
  let first := !c.anyLatched || displaces
  { c with
    recs := putSpall ((c.spall src).occur data t false first) (if displaces then c.recs.map SpallRec.notFirst else c.recs)
    error := true
    errorAt := if c.error then c.errorAt else t
    requal := false
    requalSlice := false
    firstSrc := if first then src else c.firstSrc
    occ := if c.anyLatched then countUp 24 0x700002 t c.occ else 1
    logDue := if first then (if displaces then c.logDue.dropLast else c.logDue) ++ [src] else c.logDue }

/-- A real occurrence of a source that the collector reads at an instant (R301, R304). -/
def Coll.occurReal (c : Coll) (src data t : Nat) : Coll := c.occurAs src data t (c.displaces src t)

/-- An injected-only occurrence (R308). -/
def Coll.occurInjected (c : Coll) (src data t : Nat) : Coll :=
  { c with recs := putSpall ((c.spall src).occur data t true false) c.recs }

/-- The claim is forced to 0 and tenure restarts (R306 step 4). -/
def Lane.dropClaim (l : Lane) : Lane :=
  { l with claim := { l.claim with claiming := false, tenure := 0, winHealthy := false } }

/-- The uniform reaction of R306 after the error state is set: stages to their safe states, claim to 0. -/
def Lane.react (l : Lane) : Lane := l.ceaseSteer.openBrakes.dropClaim

/-- An occurrence of a source, which displaces the first cause of its cycle or not, and the reaction (R301, R304, R306). -/
def Lane.latchAs (l : Lane) (src data : Nat) (displaces : Bool) : Lane :=
  ({ l with coll := l.coll.occurAs src data l.now displaces }).react

/-- A source asserts: its occurrence, and the reaction (R301, R306). -/
def Lane.latch (l : Lane) (src data : Nat) : Lane := l.latchAs src data (l.coll.displaces src l.now)

/-- A source that E0 asserts for what the collector has taken just before: its reading comes in a later cycle (R65, R301, R306). -/
def Lane.latchAfter (l : Lane) (src data : Nat) : Lane := l.latchAs src data false

/-- The class of R64 that a lane has had longest: 1 LE, 3 HV, 4 BS; 0 none. -/
def Lane.firstClass (l : Lane) : Nat := l.drive.firstClass

/-- A fault class strikes a lane (R64); a second one of another class raises source 0x08 (R65). -/
def Lane.strike (l : Lane) (cls : Nat) : Lane :=
  if l.drive.firstClass = 0 then { l with drive := { l.drive with firstClass := cls } }
  else if l.drive.firstClass = cls then l
  else l.latchAfter 0x08 (l.drive.firstClass + 16 * cls)

/-- An error source asserts: occurrence, reaction, and the second fault of R65 when the lane has a class already. -/
def Lane.raise (l : Lane) (src data : Nat) : Lane := (l.latch src data).strike 1

/-- An error source asserts if a condition holds. -/
def Lane.raiseIf (l : Lane) (b : Bool) (src data : Nat) : Lane := if b then l.raise src data else l

/-- The longest standing class once some have ended: HV or BS while it stands, LE while an error is latched. -/
def Lane.endClass (l : Lane) (cls : Nat) : Lane :=
  if l.drive.firstClass = cls then
    { l with drive := { l.drive with firstClass :=
        if l.coll.error && cls ≠ 1 then 1 else if l.drive.hvClass && cls ≠ 3 then 3
        else if l.drive.bsClass && cls ≠ 4 then 4 else 0 } }
  else l

/-- Class HV begins (R64). -/
def Lane.hvFault (l : Lane) : Lane :=
  if l.drive.hvClass then l else ({ l with drive := { l.drive with hvClass := true } }).strike 3

/-- Class BS begins (R64). -/
def Lane.bsFault (l : Lane) : Lane :=
  if l.drive.bsClass then l else ({ l with drive := { l.drive with bsClass := true } }).strike 4

/-- Class HV ends (R64). -/
def Lane.hvEnd (l : Lane) : Lane :=
  if l.drive.hvClass then ({ l with drive := { l.drive with hvClass := false } }).endClass 3 else l

/-- Class BS ends (R64). -/
def Lane.bsEnd (l : Lane) : Lane :=
  if l.drive.bsClass then ({ l with drive := { l.drive with bsClass := false } }).endClass 4 else l

/-- The automatic clears within the preceding 1 s; the window is open at its early end (R262). -/
def StageSt.tries (s : StageSt) (t : Nat) : Nat := (s.clears.filter fun c => t < c + 1000000000).length

/-- Bit of GD_STAT that a stage's trip sets (R268). -/
def tripBit : Stage → Nat
  | .steer => 3
  | .brake n => 4 + n.val

/-- Counter objects of a stage's trips: since start and over life (R270). -/
def tripsObj : Stage → O.Obj
  | .steer => O.steerTrips
  | .brake n => O.bgTrips n.val

/-- Trips over life (R270). -/
def tripsLifeObj : Stage → O.Obj
  | .steer => O.steerTripsLife
  | .brake n => O.bgTripsLife n.val

/-- Source "protective trips exhausted" of a stage (R300). -/
def exhaustedSrc : Stage → Nat
  | .steer => 0x16
  | .brake n => 0x30 + n.val

/-- Is the stage in a protective trip? (R268) -/
def Lane.tripped (l : Lane) (st : Stage) : Bool := l.rbit (Rg.gdTrip st) 16

/-- The GD_TRIP word of a new trip (R268). -/
def tripWord (cause legs switches tries : Nat) (inBlank : Bool) : Nat :=
  cause + 16 * (legs % 8) + 128 * (switches % 64) + 2 ^ 13 * b2n inBlank + 2 ^ 14 * min tries 3 + 2 ^ 16

/-- A trip is exhausted: the error of R262 with the word of the last trip. -/
def Lane.exhaust (l : Lane) (st : Stage) : Lane :=
  (l.updStg st fun s => { s with exhausted := true }).raise (exhaustedSrc st) (l.reg (Rg.gdTrip st))

/-- A new protective trip (R260): the record, the counters, the stage stops (with a soft turn-off where `soft`, R258),
and with 3 automatic clears in the preceding 1 s the trip is exhausted (R262). -/
def Lane.newTrip (l : Lane) (st : Stage) (cause legs switches : Nat) (inBlank soft held : Bool) : Lane :=
  let t := l.now
  let n := (l.stg st).tries t
  let l := (l.setReg (Rg.gdTrip st) (tripWord cause legs switches n inBlank)).setReg (Rg.gdTripTime st) t
  let l := ((l.setRbit Rg.gdStat (tripBit st) true).inc (tripsObj st)).inc (tripsLifeObj st)
  let l := { l with claim := { l.claim with winHealthy := false } }
  let l := l.updStg st fun s =>
    { s with tripAt := t, causeAt := t, causeHeld := held, railOk := false, truncRun := 0,
             afterTrip := true, softFrom := if soft then some t else none, gate := if soft && s.driving then .plateau else .off }
  let l := if soft then l.updStg st fun s => { s with driving := false } else l.ceaseStage st
  if 3 ≤ n then l.exhaust st else l

/-- A cause of a protective trip (R260). While the stage's soft turn-off runs, a detector joins the trip (R258); while the
stage waits to retry, the cause is recorded and the wait starts again (R269); otherwise it is a new trip. Gross current
within the tick of a desaturation of the same switch makes the cause 2 (R257). -/
def Lane.trip (l : Lane) (st : Stage) (cause legs switches : Nat) (inBlank soft held : Bool) : Lane :=
  let s := l.stg st
  if !l.tripped st then l.newTrip st cause legs switches inBlank soft held
  else
    let w := l.reg (Rg.gdTrip st)
    let joins := soft && (match s.softFrom with | some t0 => l.now ≤ t0 + 2000 | none => false)
    let sameTick := decide (cause = 2) && decide (l.now < s.tripAt + 4) && (bits w 7 6 == switches)
    let cause' := if joins then (if sameTick then 2 else bits w 0 4) else cause
    let w := putBits w 0 4 cause'
    let w := if joins then
        putBits (putBits (putBits w 4 3 (bits w 4 3 ||| legs)) 7 6 (bits w 7 6 ||| switches)) 13 1
          (b2n (bitOf w 13 || inBlank)) else w
    (l.setReg (Rg.gdTrip st) w).updStg st fun s =>
      { s with causeAt := l.now, causeHeld := s.causeHeld || held,
               railOk := if joins then s.railOk else false }

/-- The automatic clear of a trip, a try (R262): the trip ends and the stage may drive again from its next boundary. -/
def Lane.autoClear (l : Lane) (st : Stage) : Lane :=
  let l := (l.setRbit (Rg.gdTrip st) 16 false).setRbit Rg.gdStat (tripBit st) false
  let l := l.updStg st fun s => { s with clears := (l.now :: s.clears).take 4, railOk := false, softFrom := none }
  l.setFld (Rg.gdTrip st) 14 2 (min ((l.stg st).tries l.now) 3)

/-- The retry of R262: a trip whose last cause went at least 10 ms ago, whose rail check passed and that is not exhausted
clears. -/
def Lane.tryRetry (l : Lane) (st : Stage) : Lane :=
  let s := l.stg st
  if l.tripped st && s.railOk && !s.causeHeld && !s.exhausted && decide (s.causeAt + 10000000 ≤ l.now)
  then l.autoClear st else l

/-- A held cause of a trip has gone; the wait runs from now (R262). -/
def Lane.causeGone (l : Lane) (st : Stage) : Lane :=
  l.updStg st fun s => if s.causeHeld then { s with causeHeld := false, causeAt := l.now } else s

/-- An accepted clear ends the exhausted trips (R262). -/
def Lane.endExhausted (l : Lane) : Lane :=
  allStages.foldl (fun l st =>
    if (l.stg st).exhausted then
      ((l.setRbit (Rg.gdTrip st) 16 false).setRbit Rg.gdStat (tripBit st) false).updStg st
        fun s => { s with exhausted := false, railOk := false, causeHeld := false, softFrom := none }
    else l) l

end Sys2Proof.Machine
end

