-- ==== Sys2Proof/Machine/Contactors.lean ====
section
/-!
DEFINITION. The contactor drives and their sequences (R287 to R292) and the drives a variant provides (R2).
-/
namespace Sys2Proof.Machine

/-- Brake drives of a lane by variant code: 1 SKT-3H10-B24, 2 SKT-3H10-B12, 3 SKT-3H10-B00 (R1, R2). -/
def drivesOf : Nat → Nat
  | 1 => 8
  | 2 => 4
  | _ => 0

/-- Brake drives that the variant provides in this lane (R2). -/
def Lane.nDrives (l : Lane) : Nat := drivesOf (l.obj O.variantCode)

/-- Does the variant serve a wheel end, numbered from 0? (R1, R2, R201) -/
def Lane.servesW (l : Lane) (w : Nat) : Bool := decide (2 * (w % 4) + 1 < l.nDrives)

/-- Does a stage exist in the variant (R2, R3)? -/
def Lane.hasStage (l : Lane) : Stage → Bool
  | .steer => true
  | .brake n => decide (n.val < l.nDrives)

/-- Has the lane left its reset-safe state? A lane that fails its self-test or cannot read its variant never does (R5, R442,
R445). -/
def Lane.started (l : Lane) : Bool := decide (l.pwr.selftest = .passed)

/-- CT_STATE of SIO_CT (R294). -/
def Lane.ctState (l : Lane) : Nat := l.fld Rg.sioCt 8 3

/-- The feedback inputs after inversion, 1 for closed (R290, R294). -/
def Lane.fbRead (l : Lane) (raw : Nat) : Nat := (raw ^^^ l.obj O.fbInvert) % 16

/-- Role of feedback input k: 0 none, 1 KP, 2 KN, 3 PRE, 4 shared (R288). -/
def Lane.fbRole (l : Lane) (k : Nat) : Nat := bits (l.obj O.fbRole) (8 * (3 - k)) 8

/-- Write CT_STATE. -/
def Lane.setCtState (l : Lane) (v : Nat) : Lane := l.setFld Rg.sioCt 8 3 v

/-- A contactor drive of a lane (R287). -/
def Lane.ct (l : Lane) : CtDrive → CtSt
  | .kp => l.sio.kp
  | .kn => l.sio.kn
  | .pre => l.sio.pre

/-- A lane with one contactor drive replaced. -/
def Lane.setCt (l : Lane) (d : CtDrive) (x : CtSt) : Lane :=
  match d with
  | .kp => { l with sio := { l.sio with kp := x } }
  | .kn => { l with sio := { l.sio with kn := x } }
  | .pre => { l with sio := { l.sio with pre := x } }

/-- Number of a contactor drive: 0 KP, 1 KN, 2 PRE (R300). -/
def ctIx : CtDrive → Nat
  | .kp => 0
  | .kn => 1
  | .pre => 2

/-- Command a drive; DRV of SIO_CT follows (R294). A command that changes nothing starts no new wait. -/
def Lane.drv (l : Lane) (d : CtDrive) (on : Bool) : Lane :=
  let c := l.ct d
  let l := if c.on = on then l else l.setCt d { c with on := on, cmdAt := l.now, retestAt := none, abandoned := false }
  l.setRbit Rg.sioCt (1 + ctIx d) on

/-- All three drives off. -/
def Lane.drvAllOff (l : Lane) : Lane := ((l.drv .kp false).drv .pre false).drv .kn false

/-- The opening sequence of R289 begins: KP and PRE off, KN follows after 20 ms. An open set of contactors stays open; KN's abandoned
pick-up is not compared with its feedback any more (R295). -/
def Lane.openContactors (l : Lane) : Lane :=
  if l.ctState = 0 || l.ctState = 6 then (l.setRbit Rg.sioCt 0 false)
  else
    let l := ((l.drv .kp false).drv .pre false).setRbit Rg.sioCt 0 false
    let l := { l with sio := { l.sio with seqAt := l.now, kn := { l.sio.kn with abandoned := l.ctState = 1 } } }
    l.setCtState 5

/-- The closing sequence of R289 begins with KN, from open contactors whose enable switch is closed; after a precharge
timeout at most once every 10 s. A lane held in its reset-safe state closes none (R5). -/
def Lane.closeContactors (l : Lane) : Lane :=
  let l := l.setRbit Rg.sioCt 0 l.started
  if l.started && l.sio.enable && (l.ctState = 0 || (l.ctState = 6 && l.sio.seqAt + 10000000000 ≤ l.now)) then
    let l := { l with sio := { l.sio with seqAt := l.now } }
    (l.drv .kn true).setCtState 1
  else l

/-- What the inputs with a drive's role read (R288, R290). -/
def Lane.feedbacks (l : Lane) (d : CtDrive) (raw : Nat) : List Bool :=
  ((List.range 4).filter fun k => decide (l.fbRole k = ctIx d + 1)).map fun k => bitOf (l.fbRead raw) k

/-- The test of the common enable switch, with all drives off (R291). The specification gives it no failing outcome (assumption log
146). -/
def Lane.testEnable (l : Lane) : Lane :=
  if l.sio.kp.on || l.sio.kn.on || l.sio.pre.on then l else { l with sio := { l.sio with enTested := some l.now } }

/-- Are the HV contactors closed? (R39 CAPABILITY bit 2) -/
def Lane.hvClosed (l : Lane) : Bool := l.ctState = 4

/-- The precondition of R264 as the lane's state shows it: the contactors closed after precharge; the brake supply present. -/
def Lane.diagMet (l : Lane) : Stage → Bool
  | .steer => l.hvClosed
  | .brake _ => l.drive.brakePresent

/-- Does a stage's run of the off-state diagnostics start (R264)? It exists, owes the run, does not drive, and meets the precondition. -/
def Lane.diagStarts (l : Lane) (st : Stage) : Bool :=
  let s := l.stg st
  l.hasStage st && decide (s.diag = .due) && !s.driving && !s.diagRun && l.diagMet st

/-- DIAG_RUN shows whether the diagnostics of some stage run (R268). -/
def Lane.showDiag (l : Lane) : Lane := l.setRbit Rg.gdStat 13 (allStages.any fun st => (l.stg st).diagRun)

/-- A stage that owes its off-state diagnostics runs them as soon as its precondition is met; a run whose precondition goes ends, and
is owed (R264). -/
def Lane.diagStep (l : Lane) (st : Stage) : Lane :=
  if l.diagStarts st then l.updStg st fun s => { s with diagRun := true, diagFrom := l.now }
  else if (l.stg st).diagRun && !l.diagMet st then l.updStg st fun s => { s with diagRun := false }
  else l

/-- The stages' off-state diagnostics run side by side (R264). -/
def Lane.diagStart (l : Lane) : Lane := (allStages.foldl Lane.diagStep l).showDiag

/-- Every stage needs its off-state diagnostics again (R264): after a start, a rearm or a clear. -/
def Lane.diagDueAll (l : Lane) : Lane :=
  (allStages.foldl (fun l st => l.updStg st fun s => { s with diag := if s.diag = .failed then .failed else .due }) l).diagStart

/-- The DC link is present and the contactors are closed: class HV ends (R64). -/
def Lane.hvCheck (l : Lane) : Lane := if l.hvClosed && l.drive.linkPresent then l.hvEnd else l

/-- A drive's test pulse has been discarded (R292): the test is repeated 10 ms later; the eighth discard in a row is the
error "output test starved". -/
def Lane.discardPulse (l : Lane) (d : CtDrive) : Lane :=
  let c := l.ct d
  let l := (l.setCt d { c with discardRun := c.discardRun + 1, retestAt := some (l.now + 10000000) }).inc O.offpDiscards
  if c.discardRun + 1 = 8 then l.raise 0x40 (ctIx d) else l

/-- An off-pulse of an energised drive (R291, R292): a real demand discards it; it passes when the output fell below 2 V
within 150 µs; the second failed cycle in a row is the error "contactor drive stuck on". -/
def Lane.offPulse (l : Lane) (d : CtDrive) (fellAfterUs : Option Nat) (demand : Bool) : Lane :=
  let c := l.ct d
  if !c.on then l
  else if demand then l.discardPulse d
  else
    let ok := match fellAfterUs with | some u => u ≤ 150 | none => false
    let l := l.setCt d { c with discardRun := 0, retestAt := none, failRun := if ok then 0 else c.failRun + 1 }
    if !ok && decide (c.failRun + 1 = 2) then l.raise 0x3F (ctIx d) else l

end Sys2Proof.Machine
end

