-- ==== Sys2Proof/Machine/Digest.lean ====
section
/-!
DEFINITION. SHA3-256 under FIPS 202, the digest of every signed or compared byte string of the module (R389), and the
CRC-8 of the wake bus (R441).
-/
namespace Sys2Proof.Machine

/-- Word `i` of the 1600-bit state, held as its 25 words, word `x + 5 y` that of column x and row y. -/
def kWord (a : List (BitVec 64)) (i : Nat) : BitVec 64 := a.getD i 0

/-- The five words of row `y`. -/
def kRow (a : List (BitVec 64)) (y : Nat) : List (BitVec 64) := (a.drop (5 * y)).take 5

/-- The exclusive or of two lists of words, word by word. -/
def xorWords (a b : List (BitVec 64)) : List (BitVec 64) := List.zipWith (fun v w => v ^^^ w) a b

/-- The exclusive or of the rows: the parity of every column. -/
def kParity (a : List (BitVec 64)) : List (BitVec 64) :=
  [1, 2, 3, 4].foldl (fun p y => xorWords p (kRow a y)) (kRow a 0)

/-- Theta: every row takes the parity of the column before it and that of the column after it, turned by one bit. -/
def kTheta (a : List (BitVec 64)) : List (BitVec 64) :=
  let p := kParity a
  let mix := xorWords (p.rotateRight 1) ((p.rotateLeft 1).map fun w => w.rotateLeft 1)
  (List.range 5).flatMap fun y => xorWords (kRow a y) mix

/-- Rho and pi together, as the walk of FIPS 202 from column `x`, row `y`: the word found at step `t` is turned by
(t + 1)(t + 2) / 2 bits and put down at column y, row 2 x + 3 y, where the walk goes on. -/
def kWalk (a : List (BitVec 64)) : Nat → Nat → Nat → Nat → List (BitVec 64) → List (BitVec 64)
  | 0, _, _, _, out => out
  | n + 1, t, x, y, out =>
    let y2 := (2 * x + 3 * y) % 5
    kWalk a n (t + 1) y y2
      (out.set (y + 5 * y2) ((kWord a (x + 5 * y)).rotateLeft ((t + 1) * (t + 2) / 2 % 64)))

/-- Chi on one row: a word is turned over where the next one is 0 and the one after it is 1. -/
def kChiRow (r : List (BitVec 64)) : List (BitVec 64) :=
  xorWords r (List.zipWith (fun v w => ~~~ v &&& w) (r.rotateLeft 1) (r.rotateLeft 2))

/-- The shift register of iota: one step of x^8 + x^6 + x^5 + x^4 + 1. -/
def kShift (r : BitVec 8) : BitVec 8 := if r.getLsbD 7 then (r <<< 1) ^^^ 0x71#8 else r <<< 1

/-- Iota's constant of a round, whose bits 0, 1, 3, 7, 15, 31 and 63 are seven steps of the register, and the register
after them. -/
def kConst (r : BitVec 8) : BitVec 64 × BitVec 8 :=
  [0, 1, 3, 7, 15, 31, 63].foldl (fun (q : BitVec 64 × BitVec 8) i =>
    (if q.2.getLsbD 0 then q.1 ||| (1#64 <<< i) else q.1, kShift q.2)) (0, r)

/-- `n` rounds of Keccak-f[1600] with the register at `r`. -/
def kRounds : Nat → BitVec 8 → List (BitVec 64) → List (BitVec 64)
  | 0, _, a => a
  | n + 1, r, a =>
    let c := kConst r
    let b := kTheta a
    let w := kWalk b 24 0 1 0 b
    kRounds n c.2 (xorWords ((List.range 5).flatMap fun y => kChiRow (kRow w y)) (c.1 :: List.replicate 24 0))

/-- Keccak-f[1600]: 24 rounds, the register starting at 1. -/
def keccakF (a : List (BitVec 64)) : List (BitVec 64) := kRounds 24 1#8 a

/-- `n` words from bytes, eight each, the first byte least significant. -/
def wordsOfBytes : Nat → List Byte → List (BitVec 64)
  | 0, _ => []
  | n + 1, bs => BitVec.ofNat 64 (ofBytesLE (bs.take 8)) :: wordsOfBytes n (bs.drop 8)

/-- `n` blocks of 136 bytes taken in, each before a permutation; the capacity's eight words take nothing. -/
def sha3Absorb : Nat → List (BitVec 64) → List Byte → List (BitVec 64)
  | 0, a, _ => a
  | n + 1, a, bs =>
    sha3Absorb n (keccakF (xorWords a (wordsOfBytes 17 bs ++ List.replicate 8 0))) (bs.drop 136)

/-- The padding of SHA3 for a message of `n` bytes. -/
def sha3Pad (n : Nat) : List Byte :=
  let p := 136 - n % 136
  if p = 1 then [0x86] else [0x06] ++ List.replicate (p - 2) 0 ++ [0x80]

/-- SHA3-256 (FIPS 202). -/
def sha3 (bs : List Byte) : List Byte :=
  let m := bs ++ sha3Pad bs.length
  let a := sha3Absorb (m.length / 136) (List.replicate 25 0) m
  (a.take 4).flatMap fun w => bytesLE 8 w.toNat

/-- The bytes of an ASCII label. -/
def ascii (s : String) : List Byte := s.toList.map fun c => BitVec.ofNat 8 c.toNat

/-- One bit of the CRC-8 of R441. -/
def crc8Bit (c : BitVec 8) : BitVec 8 := if c.getLsbD 7 then (c <<< 1) ^^^ 0x2F#8 else c <<< 1

/-- One byte of the CRC-8 of R441. -/
def crc8Byte (c b : BitVec 8) : BitVec 8 :=
  crc8Bit (crc8Bit (crc8Bit (crc8Bit (crc8Bit (crc8Bit (crc8Bit (crc8Bit (c ^^^ b))))))))

/-- The CRC-8 of R441. -/
def crc8 (bs : List Byte) : BitVec 8 := bs.foldl crc8Byte 0xFF#8

end Sys2Proof.Machine
end

