-- ==== Sys2Proof/Machine/Pwm.lean ====
section
/-!
DEFINITION. PWM generation and load groups (R229 to R247): commits, update points, Scree, narrow windows, the refresh
governor, voltage conversion, and the dead-time adaptation at a boundary (R252).
-/
namespace Sys2Proof.Machine

/-- Active period of a stage in ticks (R231). -/
def Lane.per (l : Lane) (st : Stage) : Nat := l.fld (Rg.pwmPerAct st) 0 16

/-- Capture window of a stage in ticks (R99). -/
def window : Stage → Nat
  | .steer => 50
  | .brake _ => 100

/-- The counters of a stage (R247): splits, clamps, narrow-window clamps, saturations, collisions. -/
def splitsObj : Stage → O.Obj
  | .steer => O.steerSplits
  | .brake n => O.bpSplits n.val
/-- Duty clamps (R236). -/
def dclampsObj : Stage → O.Obj
  | .steer => O.steerDclamps
  | .brake n => O.bpDclamps n.val
/-- Narrow-window clamps (R240). -/
def nwClampsObj : Stage → O.Obj
  | .steer => O.steerNwClamps
  | .brake n => O.bpNwClamps n.val
/-- Conversion saturations (R238). -/
def vsatsObj : Stage → O.Obj
  | .steer => O.steerVsats
  | .brake n => O.bpVsats n.val
/-- Direct commits refused with COLLIDE (R246). -/
def collidesObj : Stage → O.Obj
  | .steer => O.steerCollides
  | .brake n => O.bpCollides n.val

/-- The range of a stage's period in ticks (R234). -/
def periodOk : Stage → Nat → Bool
  | .steer, p => decide (6250 ≤ p ∧ p ≤ 25000)
  | .brake _, p => decide (7813 ≤ p ∧ p ≤ 15625)

/-- A leg voltage in sixteenths of a tick of a period p at supply code v (R238): the duty and whether VSAT is set. -/
def duty16 (p v c : Nat) : Nat × Bool :=
  if v < 0x0AAB ∨ 0x8000 ≤ v then (8 * p, true)
  else
    let d := roundDiv (16 * p * (v + 2 * toI 16 c)) (2 * v)
    if d < 0 then (0, true) else if 16 * p < d.toNat then (16 * p, true) else (d.toNat, false)

/-- The order of four bits reversed (R239). -/
def bitrev4 (m : Nat) : Nat := 8 * bits m 0 1 + 4 * bits m 1 1 + 2 * bits m 2 1 + bits m 3 1

/-- The whole-tick duty of a period of Scree phase m (R239). -/
def dEff (scree : Bool) (m duty : Nat) : Nat :=
  duty / 16 + (if scree && decide (bitrev4 m < duty % 16) then 1 else 0)

/-- Does a commit at a counter value meet a point at `at_` ticks? (R233) -/
def meets (count at_ : Nat) : Bool := count + 8 ≤ at_

/-- The counter value of a stage at an instant, rounded up to the next tick edge (R229, R232). -/
def Lane.countAt (l : Lane) (st : Stage) (t : Nat) : Nat := (t - (l.stg st).reloadAt + 3) / 4

/-- Place an accepted set in the pending set of the next update point it meets, or of the point after (R232, R233). In the tick of the
mid-period point the next point is the boundary, though the mid-period transfer may still be to come. -/
def Lane.place (l : Lane) (st : Stage) (count : Nat) (set : LgSet) : Lane :=
  let p := l.per st
  let mid := l.rbit (Rg.pwmCtl st) 1
  let nextMid := mid && decide (count < p / 2)
  let ok := meets count (if nextMid then p / 2 else p)
  let atMid := if ok then nextMid else (!nextMid && mid)
  let midTick := mid && decide (count = p / 2) && !(l.stg st).pastMid
  let l := l.setReg (Rg.pwmClat st) (count % 65536 + 2 ^ 16 * b2n (!ok) + 2 ^ 17 * b2n atMid)
  let l := l.raiseBit (Rg.pwmStat st) 4 (!ok)
  l.updStg st fun s => if ok && !midTick then { s with pendNow := some set } else { s with pendNext := some set }

/-- The E1 set being delivered to a stage takes its place once its completion has come (R232, R233). -/
def Lane.settle (l : Lane) (st : Stage) (t : Nat) : Lane :=
  match (l.stg st).coming with
  | some (at_, set) =>
    if at_ ≤ t then (l.updStg st fun s => { s with coming := none }).place st (l.countAt st at_) set else l
  | none => l

/-- The shadow set of a load group (R232). -/
def Lane.shadow (l : Lane) (st : Stage) : LgSet :=
  ⟨l.fld (Rg.pwmPerSh st) 0 16, [l.reg (Rg.pwmDutySh st 0), l.reg (Rg.pwmDutySh st 1), l.reg (Rg.pwmDutySh st 2)]⟩

/-- A commit attempt at a counter value (R155, R232 to R235): refused with SPLIT or PERCHG, or placed. Every attempt clears
PER_W and DUTY_W. `fits`: the frame schedule fits the steering period of the set. -/
def Lane.commitLg (l : Lane) (st : Stage) (count : Nat) (fits : Bool) : Lane :=
  let w := l.fld (Rg.pwmLgctl st) 2 4
  let set := l.shadow st
  let l' := l.setFld (Rg.pwmLgctl st) 2 4 0
  if l.rbit (Rg.pwmCtl st) 2 && !(w = 0 || w = 15) then (l'.setRbit (Rg.pwmStat st) 0 true).inc (splitsObj st)
  else if !periodOk st set.per || (decide (st = .steer) && decide (set.per ≠ l.per st) && (l.steer.driving || !fits)) then
    (l'.setRbit (Rg.pwmStat st) 5 true).incIf O.steerPerchg (st = .steer)
  else l'.place st count set

/-- One duty as it becomes active under a period (R236, R240): its code, DCLAMP and NW_CLAMP. -/
def clampDuty (nw : Bool) (w p d : Nat) : Nat × Bool × Bool :=
  let dc := decide (p < d / 16)
  let d := if dc then 16 * p else min d (16 * p)
  if nw && decide (d < 16 * w) then (16 * w, dc, true)
  else if nw && decide (16 * (p - w) < d) then (16 * (p - w), dc, true)
  else (d, dc, false)

/-- A set becomes the active set as a whole, each duty clamped (R232, R236, R240). -/
def Lane.activate (l : Lane) (st : Stage) (set : LgSet) : Lane :=
  let nw := l.rbit (Rg.pwmCtl st) 3
  let cs := set.duty.map (clampDuty nw (window st) set.per)
  let l := l.setFld (Rg.pwmPerAct st) 0 16 set.per
  let l := (List.range 3).foldl (fun l i => l.setReg (Rg.pwmDutyAct st i) ((cs.getD i (0, false, false)).1)) l
  let nd := (cs.filter fun c => c.2.1).length
  let nn := (cs.filter fun c => c.2.2).length
  let l := (l.raiseBit (Rg.pwmStat st) 1 (nd ≠ 0)).incBy (dclampsObj st) nd
  (l.raiseBit (Rg.pwmStat st) 7 (nn ≠ 0)).incBy (nwClampsObj st) nn

/-- Dead time of a switch in ticks (R268). -/
def Lane.dt (l : Lane) (st : Stage) (sw : Nat) : Nat :=
  if sw < 4 then l.fld (Rg.gdDt0 st) (8 * sw) 8 else l.fld (Rg.gdDt1 st) (8 * (sw - 4)) 8

/-- Write a dead time. -/
def Lane.setDt (l : Lane) (st : Stage) (sw v : Nat) : Lane :=
  if sw < 4 then l.setFld (Rg.gdDt0 st) (8 * sw) 8 v else l.setFld (Rg.gdDt1 st) (8 * (sw - 4)) 8 v

/-- Initial dead time of a stage in ticks (R251, R270). -/
def Lane.dtInit (l : Lane) : Stage → Nat
  | .steer => (roundDiv (l.obj O.steerDtInit) 4).toNat
  | .brake _ => (roundDiv (l.obj O.brakeDtInit) 4).toNat

/-- The bounds of a stage's dead time in ticks (R251). -/
def dtBounds : Stage → Nat × Nat
  | .steer => (5, 100)
  | .brake _ => (10, 250)

/-- The supply of a stage in millivolt, from its supply slot (R108, R207, R238). -/
def Lane.supplyMv (l : Lane) (st : Stage) : Nat :=
  match st with
  | .steer => l.fld (Rg.pwmVConv st) 0 16 * 1200000 / 32768
  | .brake _ => l.fld (Rg.pwmVConv st) 0 16 * 100000 / 32768

/-- The sign of an integer. -/
def signI (z : Int) : Int := if z < 0 then -1 else if 0 < z then 1 else 0

/-- The step of R252 for a dead time `dt` from its record and whether the leg's other record is soft; `td0` in ps. -/
def dtStep (r : Option EdgeRec) (otherSoft : Bool) (td0 margin dtInit dt : Nat) : Int :=
  match r with
  | none => 0
  | some r =>
    if !r.valid then 0
    else if r.soft then
      let num : Int := 9 * (500 * r.tSlew : Nat) - 4 * (td0 : Int)
      signI (-((-num) / 20000) + margin - dt)
    else if r.hard && otherSoft then -1
    else if r.hard then signI ((dtInit : Int) - dt)
    else 1

/-- The last transition record of a leg in the ending period, rising or falling (R252). -/
def lastRec (rs : List EdgeRec) (leg : Nat) (rise : Bool) : Option EdgeRec :=
  (rs.filter fun r => !r.probe && r.leg = leg && r.rise = rise).getLast?

/-- One dead time adjusted at the boundary (R252): the rising record governs a high side, the falling one a low side. -/
def Lane.adaptDt (st : Stage) (l : Lane) (sw : Nat) : Lane :=
  let rs := (l.stg st).perRecs
  let high := sw % 2 = 0
  let soft := match lastRec rs (sw / 2) (!high) with | some r => r.soft | none => false
  let margin := match st with | .steer => l.obj O.steerDtMargin | .brake _ => l.obj O.brakeDtMargin
  let ix := stageIx st
  let z : Int := (l.dt st sw : Int) + dtStep (lastRec rs (sw / 2) high) soft (Config.tD0 l.cal ix (l.supplyMv st)) margin
    (l.dtInit st) (l.dt st sw)
  let b := dtBounds st
  l.setDt st sw (max (b.1 : Int) (min b.2 z)).toNat

/-- The dead times of a stage at its boundary: adapted, or at the initial value while adaptation is disabled (R251,
R252). -/
def Lane.adaptDead (l : Lane) (st : Stage) : Lane :=
  let on := l.rbit Rg.gdCtl (match st with | .steer => 9 | .brake _ => 10)
  let l := (List.range 6).foldl (if on then Lane.adaptDt st else fun l sw => l.setDt st sw (l.dtInit st)) l
  l.updStg st fun s => { s with perRecs := [] }

/-- Is the period of a leg a refresh period? (R242) -/
def refreshes (p fall dt : Nat) : Bool := fall + dt + 60 ≤ p

/-- The run of a leg since its last refresh period, 4 bits (R231, R242). -/
def Lane.rfRun (l : Lane) (st : Stage) (leg : Nat) : Nat := l.fld (Rg.pwmRfsh st) (4 * leg) 4

/-- A brake leg's period ends: the refresh governor counts it (R242). -/
def Lane.countRefresh (st : Stage) (l : Lane) (leg : Nat) : Lane :=
  let ok := refreshes (l.per st) (nth (l.stg st).fall leg) (l.dt st (2 * leg + 1))
  l.setFld (Rg.pwmRfsh st) (4 * leg) 4 (if ok then 0 else min (l.rfRun st leg + 1) 15)

/-- A leg's command in the period that begins: the Scree duty, limited by the governor in a brake stage when 7 periods
were no refresh or a refresh is forced (R239, R242); the high side of a leg whose bootstrap is locked out stays off (R250). -/
def Lane.beginLeg (st : Stage) (l : Lane) (leg : Nat) : Lane :=
  let p := l.per st
  let d := dEff (l.rbit (Rg.pwmCtl st) 4) (l.fld (Rg.pwmCnt st) 16 4) (l.reg (Rg.pwmDutyAct st leg))
  let duty := l.reg (Rg.pwmDutyAct st leg) / 16
  let lim := p - 60 - l.dt st (2 * leg + 1)
  match st with
  | .steer => l.updStg st fun s => { s with fall := s.fall.set leg d, limit := s.limit.set leg 0xFFFFF }
  | .brake n =>
    let forced := nthB (l.stg st).forced leg
    if nthB (l.stg st).bootOut leg then l.updStg st fun s => { s with fall := s.fall.set leg 0, limit := s.limit.set leg 0 } else
    let insert := decide (7 ≤ l.rfRun st leg)
    if forced || insert then
      let l := l.updStg st fun s => { s with fall := s.fall.set leg (min duty lim), limit := s.limit.set leg lim,
                                             forced := s.forced.set leg false }
      let l := if forced then (l.setRbit (Rg.pwmStat st) 8 true).inc (O.bpRfshForced n.val) else l
      if insert && !forced then l.inc (O.bpRfshInserted n.val) else l
    else l.updStg st fun s => { s with fall := s.fall.set leg d, limit := s.limit.set leg 0xFFFFF }

/-- The speculative set transferred at an update point as a fallback (R152, R238): converted with the V_CONV in force and
active at once. -/
def Lane.fallbackVolts (l : Lane) (st : Stage) (u : List Nat) : Lane :=
  let p := l.per st
  let v := l.fld (Rg.pwmVConv st) 0 16
  let ds := (List.range 3).map fun i => duty16 p v (nth u i)
  let n := (ds.filter fun d => d.2).length
  ((l.raiseBit (Rg.pwmStat st) 6 (n ≠ 0)).incBy (vsatsObj st) n).activate st ⟨p, ds.map fun d => d.1⟩

/-- The loop that actuates a stage (R121). -/
def stageLoop : Stage → Fin 9
  | .steer => 0
  | .brake n => ⟨n.val + 1, by omega⟩

/-- An update point of a stage (R152, R158, R159, R231): after an overburden the speculative set transfers, a fallback, or the
active set stays, a hold, and a set that came after its deadline waits for the next point; HOLD and FALLBACK tell of the last point. -/
def Lane.overPoint (l : Lane) (st : Stage) : Lane :=
  let o := (l.stg st).atPoint
  let l := (l.setRbit (Rg.pwmStat st) 2 (o = some none)).setRbit (Rg.pwmStat st) 3 (o.isSome && decide (o ≠ some none))
  let l := if st = .steer then l.setFld Rg.mxStat 16 2 (match o with | none => 0 | some none => 1 | some (some _) => 2) else l
  let l := l.updStg st fun s => { s with atPoint := none }
  match o with
  | none => l
  | some none => l.inc (O.holds (stageLoop st))
  | some (some u) => (l.fallbackVolts st u).inc (O.fallbacks (stageLoop st))

/-- The transfer at a boundary (R232, R247): the pending set becomes active, the set for the point after becomes pending
for the next; a brake period written to the dictionary comes in with it, E4's commit (R247). -/
def Lane.transferBoundary (l : Lane) (st : Stage) : Lane :=
  let l := l.settle st l.now
  let s := l.stg st
  let active : LgSet := ⟨l.per st, [l.reg (Rg.pwmDutyAct st 0), l.reg (Rg.pwmDutyAct st 1), l.reg (Rg.pwmDutyAct st 2)]⟩
  let set := match s.pendNow, s.perReq with
    | some x, some p => some { x with per := p }
    | some x, none => some x
    | none, some p => some { active with per := p }
    | none, none => none
  if s.atPoint.isSome then
    let l := (l.updStg st fun s => { s with pendNow := s.pendNext.orElse fun _ => s.pendNow, pendNext := none, perReq := none }).overPoint st
    match s.perReq with
    | some p => l.activate st ⟨p, (List.range 3).map fun i => l.reg (Rg.pwmDutyAct st i)⟩
    | none => l
  else
    let l := (l.updStg st fun s => { s with pendNow := s.pendNext, pendNext := none, perReq := none }).overPoint st
    match set with
    | some x => l.activate st x
    | none => l

/-- What comes with a stage's new period (R229, R239, R242, R256): Scree phase, leg commands, truncation run; the stage
starts to drive where `may` holds, which releases a latched short (R95). -/
def Lane.beginPeriod (l : Lane) (st : Stage) (may : Bool) : Lane :=
  let l := l.setReg (Rg.pwmCnt st) (putBits 0 16 4 (l.fld (Rg.pwmCnt st) 16 4 + 1))
  let l := (List.range 3).foldl (Lane.beginLeg st) l
  let l := l.updStg st fun s =>
    { s with reloadAt := l.now, periods := s.periods + 1, truncRun := if s.truncNow then s.truncRun else 0,
             truncNow := false, pastMid := false, afterTrip := s.afterTrip && !(s.driving || may),
             driving := s.driving || may, gate := if s.driving || may then .driven else .off }
  if decide (st = .steer) && l.steer.driving then
    l.setRbit Rg.gdStat 12 false
  else l

/-- The boundary of a stage whose counter runs (R229): refresh count, dead times, transfer, new period. -/
def Lane.boundary (l : Lane) (st : Stage) (may : Bool) : Lane :=
  if l.rbit (Rg.pwmCtl st) 0 then
    let l := match st with
      | .steer => l
      | .brake _ => (List.range 3).foldl (Lane.countRefresh st) l
    (((l.adaptDead st).transferBoundary st).beginPeriod st may)
  else l

/-- A leg at a mid-period transfer (R237): high legs fall at the new duty or at once, low legs stay low; a limit of the
governor holds for the period (R246). -/
def midLeg (h fall lim d : Nat) : Nat := if fall ≤ h then fall else max h (min d lim)

/-- Does the governor limit a leg in the period? Scree adds no tick then (R242). -/
def limited (lim : Nat) : Bool := decide (lim ≠ 0xFFFFF)

/-- The legs of a period go on at its mid-point under the active duties (R237, R239, R242). -/
def Lane.midLegs (l : Lane) (st : Stage) : Lane :=
  let m := l.fld (Rg.pwmCnt st) 16 4
  let sc := l.rbit (Rg.pwmCtl st) 4
  l.updStg st fun s =>
    { s with fall := (List.range 3).map fun i =>
        midLeg (l.per st / 2) (nth s.fall i) (nth s.limit i) (dEff (sc && !limited (nth s.limit i)) m (l.reg (Rg.pwmDutyAct st i))) }

/-- The mid-period point (R229, R234, R237): a pending set of the active period transfers; one of another period waits for
the boundary. -/
def Lane.midPoint (l : Lane) (st : Stage) : Lane :=
  if l.rbit (Rg.pwmCtl st) 0 && l.rbit (Rg.pwmCtl st) 1 then
    let l := (l.settle st l.now).updStg st fun s => { s with pastMid := true }
    let late := (l.stg st).atPoint.isSome
    let l := if late then l.updStg st fun s => { s with pendNext := s.pendNext.orElse fun _ => s.pendNow, pendNow := none } else l
    let l := l.overPoint st
    let l := if late then l.midLegs st else l
    match (l.stg st).pendNow with
    | none => l.updStg st fun s => { s with pendNow := s.pendNext, pendNext := none }
    | some set =>
      if set.per ≠ l.per st then
        l.updStg st fun s =>
          { s with pendNow := match s.pendNext with | some x => some x | none => s.pendNow, pendNext := none }
      else
        ((l.updStg st fun s => { s with pendNow := s.pendNext, pendNext := none }).activate st set).midLegs st
  else l


/-- A rise of EN (R231): the counter starts at 0, Scree phase, pending sets and active duties clear; a brake counter starts
PHASE ticks after the first steering reload for which that instant is not past (R241). -/
def Lane.enRise (l : Lane) (st : Stage) : Lane :=
  let l := (l.setRbit (Rg.pwmCtl st) 0 true).setReg (Rg.pwmCnt st) 0
  let l := (List.range 3).foldl (fun l i => l.setReg (Rg.pwmDutyAct st i) 0) l
  let at_ := match st with
    | .steer => l.now
    | .brake _ =>
      let a := l.smp.reloadAt + 4 * l.fld (Rg.pwmPhase st) 0 16
      let per := 4 * l.per .steer
      if l.now ≤ a then a else a + (l.now - a + per - 1) / per * per
  l.updStg st fun s =>
    { s with coming := none, atPoint := none, pendNow := none, pendNext := none, reloadAt := at_, pastMid := false, fall := [0, 0, 0],
             limit := [0xFFFFF, 0xFFFFF, 0xFFFFF] }

/-- A fall of EN (R246): pending sets are discarded, the legs go low at once, then both switches of each leg are off. -/
def Lane.enFall (l : Lane) (st : Stage) : Lane :=
  let l := (l.setRbit (Rg.pwmCtl st) 0 false).updStg st fun s =>
    { s with coming := none, atPoint := none, pendNow := none, pendNext := none, fall := [0, 0, 0] }
  if (l.stg st).softFrom.isSome && l.tripped st then l else l.ceaseStage st

/-- An E1 commit of three leg voltages that is complete at an instant (R232, R238): conversion with the latched V_CONV, all four
shadow values written, PER_W and DUTY_W cleared as by every attempt; the set takes its place at its completion. -/
def Lane.commitVolts (l : Lane) (st : Stage) (at_ : Nat) (u : List Nat) : Lane :=
  let p := l.per st
  let v := l.fld (Rg.pwmVConv st) 0 16
  let ds := (List.range 3).map fun i => duty16 p v (nth u i)
  let n := (ds.filter fun d => d.2).length
  let l := l.setFld (Rg.pwmPerSh st) 0 16 p
  let l := (List.range 3).foldl (fun l i => l.setReg (Rg.pwmDutySh st i) ((ds.getD i (0, false)).1)) l
  let l := (l.raiseBit (Rg.pwmStat st) 6 (n ≠ 0)).incBy (vsatsObj st) n
  let l := (l.setFld (Rg.pwmLgctl st) 2 4 0).settle st l.now
  let set : LgSet := ⟨p, ds.map fun d => d.1⟩
  (l.updStg st fun s => { s with coming := some (at_, set) }).settle st l.now

end Sys2Proof.Machine
end

