-- ==== Sys2Proof/Machine/Exchange.lean ====
section
/-!
DEFINITION. The exchange between lanes and what the lane makes of it at t5 (R41 to R68): checks on frames, voting of
inputs and Demands, verdicts, eviction, re-qualification and the module state.
-/
namespace Sys2Proof.Machine

/-- What the four delivery checks of R41 say of a peer's frame in a sample. -/
structure FrameChecks where
  presence : Bool
  timing : Bool
  integrity : Bool
  sequence : Bool
deriving DecidableEq, Repr

/-- Do all four delivery checks pass? -/
def FrameChecks.ok (c : FrameChecks) : Bool := c.presence && c.timing && c.integrity && c.sequence

/-- The checks of R41 at t5 on the frame received in a sample that began at `reload`: a frame whose end has not come by
7.9 µs fails Timing only. -/
def checkFrame (reload no : Nat) (got : Option (ExchFrame × BirixRx)) : FrameChecks :=
  match got with
  | none => ⟨false, true, true, true⟩
  | some (f, rx) =>
    if rx.start < reload || reload + 8000 ≤ rx.start then ⟨false, true, true, true⟩
    else match rx.fin with
      | none => ⟨true, false, true, true⟩
      | some e =>
        if reload + 7900 < e then ⟨true, false, true, true⟩
        else ⟨true, decide (reload + 7200 ≤ e), decide (rx.crc = crc32 (exchBytes f)), decide (f.sampleNo.toNat = no)⟩

/-- Time of a Birix frame on its link, in nanoseconds: 64b/66b coding at 2 Gbit/s (chapter Lanes, Birix links). -/
def birixNs (bytes : Nat) : Nat := bytes * 33 / 8

/-- When a frame other than the exchange frame starts on the link to a peer (R37): once the link is free, and only if it ends
0.2 µs before the next exchange send instant, of this sample or of any later one; otherwise when that exchange frame has ended. -/
def Lane.linkStart (l : Lane) (p : Peer) (bytes : Nat) : Nat :=
  let t := max l.now (l.peer p).linkFree
  let d := birixNs bytes
  let send := l.smp.reloadAt + 6500
  let per := 4 * l.per .steer
  let k := (t - send) / per
  let after := max t (send + k * per + birixNs 256)
  let next := send + (k + 1) * per
  if t + d + 200 ≤ send then t else if after + d + 200 ≤ next then after else next + birixNs 256

/-- The link to a peer takes a frame of a size (R37): the instant of its start is kept, and the link is free at its end. -/
def Lane.takeLink (l : Lane) (p : Peer) (bytes : Nat) : Lane :=
  let t := l.linkStart p bytes
  let l := { l with out := { l.out with starts := l.out.starts ++ [(p, t)] } }
  l.updPeer p fun q => { q with linkFree := t + birixNs bytes }

/-- EXCHANGE_FRAME (R41, R42): the first frame that begins in a sample before its t5 waits for t5; number and claim of one
whose CRC matches serve R42. -/
def execExchangeFrame (l : LaneId) (rx : BirixRx) (f : ExchFrame) (s : State) : Host.Outcome State Fault Refusal :=
  onLaneAt l (rx.fin.getD rx.start) s fun x =>
    x.updPeer rx.peer fun p =>
      let here := decide (x.smp.reloadAt ≤ rx.start) && decide (rx.start < x.smp.reloadAt + 8000)
      let p := if p.got.isNone && here then { p with got := some (f, rx) } else p
      if rx.crc = crc32 (exchBytes f) then { p with crcLast := some (f.sampleNo.toNat, bitOf f.status.toNat 0) } else p

/-- A peer's frame is judged (R41): a frame that passed the four checks delivers its values. -/
def PeerSt.judge (p : PeerSt) (reload no : Nat) : PeerSt × FrameChecks :=
  let c := checkFrame reload no p.got
  let f := p.got.map fun g => g.1
  let q := { p with
    got := none
    got0 := if c.presence && c.timing && c.integrity then f.map fun g => (g.sampleNo.toNat, bitOf g.status.toNat 0) else none
    silent := if c.presence then 0 else p.silent + 1
    now := if c.ok then f else none
    presRun := if c.presence then 0 else p.presRun + 1
    badRun := if c.timing && c.integrity && c.sequence then 0 else p.badRun + 1
    failed := if c.ok then 0 else p.failed + 1
    heard := p.heard || c.ok
    last := if c.ok then f else p.last }
  (q, c)

/-- Does the peer claim, by its frame of this sample or the last that passed? -/
def PeerSt.claims (p : PeerSt) : Bool :=
  match p.last with
  | some f => bitOf f.status.toNat 0 && !p.evicted
  | none => false

/-- Does the peer claim in this sample, as R44 counts? -/
def PeerSt.claimsNow (p : PeerSt) : Bool :=
  match p.now with
  | some f => bitOf f.status.toNat 0 && !p.evicted
  | none => false

/-- Was the lane claiming in its own frame of the sample? (R44) -/
def Lane.ownClaims (l : Lane) : Bool :=
  match l.smp.own with
  | some f => bitOf f.status.toNat 0
  | none => false

/-- The claiming lanes' frames of the sample with their lane numbers, in lane order (R44, R48). -/
def Lane.claimFrames (l : Lane) (me : LaneId) : List (Nat × ExchFrame) :=
  let own := if l.ownClaims then l.smp.own.toList.map fun f => (laneNo me, f) else []
  let ps := bothPeers.flatMap fun p =>
    if (l.peer p).claimsNow then (l.peer p).now.toList.map fun f => (laneNo (peerId me p), f) else []
  [1, 2, 3].flatMap fun n => (own ++ ps).filter fun x => x.1 = n

/-- The value of voted input n in a frame and whether it is valid at its source (R43, R44). -/
def frameInput (f : ExchFrame) (n : Nat) : Nat × Bool :=
  if n < 4 then ((f.sentVal.getD n 0).toNat, bitOf f.sentOk.toNat n)
  else ((f.anaVal.getD (n - 4) 0).toNat, bitOf f.anaOk.toNat (n - 4))

/-- The distance of two Q15 codes. -/
def q15Dist (a b : Nat) : Nat := (toI 16 a - toI 16 b).natAbs

/-- What a vote yields (R45): the value, whether there is one, the lanes that disagree, single-source. -/
structure VoteOut where
  value : Nat
  now : Bool
  against : List Nat
  single : Bool
deriving DecidableEq, Repr

/-- The voted value of two values outside tolerance (R45): by fallback 0 MODEL, 1 LOW, 2 HIGH; without a prediction MODEL
acts as LOW. Answers whether the first value is taken. -/
def takeFirst (fallback a b : Nat) (pred : Option Nat) : Bool :=
  let low := decide (toI 16 a ≤ toI 16 b)
  match fallback, pred with
  | 1, _ => low
  | 2, _ => !low
  | _, none => low
  | _, some p =>
    if q15Dist a p < q15Dist b p then true
    else if q15Dist b p < q15Dist a p then false
    else if Config.voteTie (if low then a else b) (if low then b else a) p then low else !low

/-- The vote of R45 over the values that take part, by lane number. -/
def voteOf (tol fallback held : Nat) (pred : Option Nat) (vs : List (Nat × Nat)) : VoteOut :=
  match vs with
  | [(n1, a), (n2, b), (n3, c)] =>
    let m := ofI 16 (middle (toI 16 a) (toI 16 b) (toI 16 c))
    ⟨m, true, ([(n1, a), (n2, b), (n3, c)].filter fun x => tol < q15Dist x.2 m).map fun x => x.1, false⟩
  | [(n1, a), (n2, b)] =>
    if q15Dist a b ≤ tol then ⟨ofI 16 (roundDiv (toI 16 a + toI 16 b) 2), true, [], false⟩
    else if takeFirst fallback a b pred then ⟨a, true, [n2], false⟩ else ⟨b, true, [n1], false⟩
  | [(n1, a)] =>
    let out := match fallback, pred with
      | 0, some p => decide (tol < q15Dist a p)
      | _, _ => false
    ⟨a, true, if out then [n1] else [], true⟩
  | _ => ⟨held, false, [], false⟩

/-- The vote of one input at t5 (R44 to R47): value, runs of disagreement, exclusion at the third, single and lost. An excluded
value is compared with the voted one; the owning lane records its exclusion as an event, and a lane a thin vote. -/
def Lane.voteInput (me : LaneId) (l : Lane) (n : Fin 10) : Lane :=
  let v := l.votes[n]
  if !l.flag (O.voteEnable n) then
    { l with votes := l.votes.set n { v with now := false, runs := [0, 0, 0], outOfTol := false } }
  else
    let st := l.obj (O.voteStatus n)
    let tol := l.obj (O.voteTol n)
    let all := (l.claimFrames me).filterMap fun x =>
      let iv := frameInput x.2 n
      if iv.2 then some (x.1, iv.1) else none
    let pred := if v.have_ then some v.voted else none
    let r := voteOf tol (l.obj (O.voteFallback n)) v.voted pred (all.filter fun x => !bitOf st (x.1 - 1))
    let against := r.against ++ ((all.filter fun x =>
      bitOf st (x.1 - 1) && r.now && decide (tol < q15Dist x.2 r.value)).map fun x => x.1)
    let runs := (List.range 3).map fun i => if (i + 1) ∈ against then nth v.runs i + 1 else 0
    let excl := packBits ((List.range 3).map fun i => bitOf st i || decide (3 ≤ nth runs i))
    let own := bitOf excl (laneNo me - 1) && !bitOf st (laneNo me - 1)
    let thin := !l.flag (O.voteEssential n) && (r.single && !bitOf st 3 || !r.now && !bitOf st 4)
    let v' : VoteIn := { voted := r.value, have_ := v.have_ || r.now, now := r.now, runs := runs,
                         outOfTol := !against.isEmpty, events := v.events + b2n own + b2n thin }
    let l := { l with votes := l.votes.set n v' }
    (l.setObj (O.voteStatus n) (excl + 8 * b2n r.single + 16 * b2n (!r.now))).setObj (O.votedValue n) r.value

/-- The votes of all inputs (R45). -/
def Lane.voteAll (l : Lane) (me : LaneId) : Lane := (List.finRange 10).foldl (Lane.voteInput me) l

/-- An essential voted input is single-source or lost (R47). -/
def Lane.essentialLost (l : Lane) : Bool :=
  (List.range 10).any fun n => l.flag (O.voteEnable n) && l.flag (O.voteEssential n)
    && bits (l.obj (O.voteStatus n)) 3 2 ≠ 0

/-- The Demand that a frame carries, in the open session; none where it carries none (R39, R48). -/
def frameDemand (session : Option Nat) (f : ExchFrame) : Option DemandRec :=
  if f.demandSeq = 0 || session ≠ some f.session.toNat then none
  else some { session := f.session.toNat, epoch := f.demandEpoch.toNat, seq := f.demandSeq.toNat,
              crc := f.demandCrc.toNat, motion := padTo 40 f.demandMotion }

/-- The number by which Demands are ordered (R48). -/
def DemandRec.rank (d : DemandRec) : Nat := d.epoch * 2 ^ 32 + d.seq

/-- The outcome of R48: the Demand used, the lanes that a disagreement counts against, and a split. -/
structure DemandVote where
  use : Option DemandRec
  against : List Nat
  split : Bool
deriving DecidableEq, Repr

/-- The choice of R48 among the copies with the highest number, by lane. -/
def demandVoteOf (cs : List (Nat × DemandRec)) : DemandVote :=
  match cs with
  | [] => ⟨none, [], false⟩
  | [(_, d)] => ⟨some d, [], false⟩
  | [(n1, a), (n2, b)] => if a.crc = b.crc then ⟨some a, [], false⟩ else ⟨none, [n1, n2], false⟩
  | (n1, a) :: (n2, b) :: (n3, c) :: _ =>
    if a.crc = b.crc && b.crc = c.crc then ⟨some a, [], false⟩
    else if a.crc = b.crc then ⟨some a, [n3], false⟩
    else if a.crc = c.crc then ⟨some a, [n2], false⟩
    else if b.crc = c.crc then ⟨some b, [n1], false⟩
    else ⟨none, [], true⟩

/-- Is a Demand's (DEMAND_EPOCH, DEMAND_SEQ), as rank, newer than another's in a session (R351)? Both count on past their ends. -/
def newerRank (r r0 : Nat) : Bool :=
  let de := (r / 2 ^ 32 + 65536 - r0 / 2 ^ 32 % 65536) % 65536
  let ds := (r + 2 ^ 32 - r0 % 2 ^ 32) % 2 ^ 32
  if de = 0 then decide (1 ≤ ds ∧ ds < 2 ^ 31) else decide (de ≤ 32767)

/-- The Demand vote at t5 (R48, R49, R185): the voted Demand, and when its number last advanced. The highest number is the newest in the
order of R351 (assumption log 123). -/
def Lane.voteDemand (l : Lane) (me : LaneId) : Lane :=
  let cs := (l.claimFrames me).filterMap fun x => (frameDemand l.dem.session x.2).map fun d => (x.1, d)
  let top := match cs with | [] => 0 | c :: r => r.foldl (fun (m : Nat) x => if newerRank x.2.rank m then x.2.rank else m) c.2.rank
  let v := demandVoteOf (cs.filter fun x => x.2.rank = top)
  let l := l.incIf O.demandSplits v.split
  let adv := match v.use, l.dem.voted with
    | some d, some w => newerRank d.rank w.rank || decide (d.session ≠ w.session)
    | some _, none => true
    | none, _ => false
  { l with dem := { l.dem with
      voted := if v.use.isSome then v.use else l.dem.voted
      votedAt := if adv then l.smp.reloadAt else l.dem.votedAt
      disagree := [1, 2, 3].map fun n => decide (n ∈ v.against) } }

/-- Three or more of a lane's voted inputs are excluded (R51). -/
def Lane.manyExcluded (l : Lane) (ln : Nat) : Bool :=
  decide (3 ≤ ((List.range 10).filter fun n => l.flag (O.voteEnable n) && bitOf (l.obj (O.voteStatus n)) (ln - 1)).length)

/-- The verdict byte of a frame on lane x, from lane src (R50). -/
def verdictOn (src x : LaneId) (f : ExchFrame) : Nat :=
  if peerId src .lo = x then f.verdictLo.toNat else f.verdictHi.toNat

/-- Does the other peer's most recent frame that passed carry a faulty verdict on this peer? (R52) -/
def Lane.concurring (l : Lane) (me : LaneId) (p : Peer) : Bool :=
  match (l.peer (otherPeer p)).last with
  | some f => decide (bits (verdictOn (peerId me (otherPeer p)) (peerId me p) f) 0 3 = 3)
  | none => false

/-- The verdict on one peer (R50, R51) and its conflict (R55). -/
def Lane.judgePeer (me : LaneId) (l : Lane) (p : Peer) (c : FrameChecks) : Lane :=
  let q := l.peer p
  let ln := laneNo (peerId me p)
  let dem := nthB l.dem.disagree (ln - 1)
  let many := l.manyExcluded ln
  let flags := 8 * b2n (!(c.presence && c.timing && c.sequence)) + 16 * b2n (!c.integrity) + 32 * b2n many + 64 * b2n dem
  let q := { q with demRun := if dem then q.demRun + 1 else 0 }
  let l := l.setPeer p q
  if !q.claims then
    l.setPeer p { q with verdict := flags, faulty := false, alone := 0, conflict := false,
                         concurs := false, presRun := 0, badRun := 0, demRun := 0 }
  else
    let declare := decide (2 ≤ q.presRun) || decide (3 ≤ q.badRun) || decide (3 ≤ q.demRun) || many
    let faulty := q.faulty || declare
    let suspect := !c.ok || dem || many
    let kind := if faulty then 3 else if suspect then 2 else 1
    let con := l.concurring me p
    let alone := if faulty && !con then q.alone + 1 else 0
    let l := l.incIf (O.peerSuspectCount (peerIx p)) (kind = 2)
    let l := l.incIf (O.peerDeclarations (peerIx p)) (faulty && !q.faulty)
    let newConflict := decide (16 ≤ alone) && !q.conflict
    let l := l.incIf O.verdictConflicts newConflict
    l.setPeer p { q with verdict := kind + flags, faulty := faulty, alone := alone, concurs := con,
                         conflict := decide (16 ≤ alone) }

/-- The gate-power latch (R53, R268). -/
def Lane.gateCut (l : Lane) : Bool := l.rbit Rg.gdStat 0

/-- The eviction line to one peer (R52, R54): asserted on two faulty verdicts, not while the own gate power is cut. -/
def Lane.evictPeer (l : Lane) (p : Peer) : Lane :=
  let q := l.peer p
  if q.faulty && q.concurs && !q.lineOut && !l.gateCut then
    ((l.setPeer p { q with lineOut := true }).inc16 (O.peerEvictions (peerIx p)))
  else l

/-- From the sample after the cut a peer is evicted (R53, R56): the own line to it is out, and the other peer's last frame that
passed shows its line out too. -/
def Lane.markCut (me : LaneId) (l : Lane) (p : Peer) : Lane :=
  let o := peerId me (otherPeer p)
  let out := match (l.peer (otherPeer p)).last with
    | some f => bitOf f.evictOut.toNat (if peerId o .lo = peerId me p then 0 else 1)
    | none => false
  l.updPeer p fun q => { q with evicted := q.evicted || (q.lineOut && out) }

/-- Does a peer's last frame that passed carry a faulty verdict on a lane, while the peer claims? -/
def Lane.accuses (l : Lane) (me : LaneId) (p : Peer) (x : LaneId) : Bool :=
  (l.peer p).claims && (match (l.peer p).last with
    | some f => decide (bits (verdictOn (peerId me p) x f) 0 3 = 3)
    | none => false)

/-- The samples in which a peer has held a faulty verdict on this lane or on the other peer without a concurring one (R55). -/
def Lane.countAccusing (me : LaneId) (l : Lane) (p : Peer) : Lane :=
  let o := otherPeer p
  let onMe := l.accuses me p me && !l.accuses me o me
  let onOther := l.accuses me p (peerId me o) && !(l.peer o).faulty
  l.updPeer p fun q => { q with accMe := if onMe then q.accMe + 1 else 0, accOther := if onOther then q.accOther + 1 else 0 }

/-- The stop that a verdict conflict requires of the module stands (R55): a verdict of the lane's own, or one that a peer's
frames carry. -/
def Lane.conflictStands (l : Lane) : Bool :=
  bothPeers.any fun p => ((l.peer p).conflict && (l.peer p).faulty && !(l.peer p).concurs)
    || decide (16 ≤ (l.peer p).accMe) || decide (16 ≤ (l.peer p).accOther)

/-- Is a peer's frame of this sample an agreeing one? (R59) -/
def Lane.agreeing (l : Lane) (me : LaneId) (p : Peer) : Bool :=
  match (l.peer p).now with
  | none => false
  | some f =>
    let ln := laneNo (peerId me p)
    let ins := (List.finRange 10).all fun n =>
      let iv := frameInput f n
      !l.flag (O.voteEnable n) || !l.votes[n].now || !iv.2
        || decide (q15Dist iv.1 (l.obj (O.votedValue n)) ≤ l.obj (O.voteTol n))
    let dm := match l.dem.voted with
      | some d => decide (f.demandSeq.toNat = d.seq) && decide (f.demandCrc.toNat = d.crc)
      | none => decide (f.demandSeq = 0)
    bitOf f.status.toNat 3 && decide (f.claim = 0) && ins && dm && bitOf f.angleStatus.toNat 0
      && !nthB l.dem.disagree (ln - 1)

/-- The exclusions of a lane's values end, in every voted input and every feedback (R46, R88). -/
def Lane.endExclusions (l : Lane) (ln : Nat) : Lane :=
  let l := (List.range 10).foldl (fun (l : Lane) n =>
    l.setObj (O.voteStatus n) (putBits (l.obj (O.voteStatus n)) (ln - 1) 1 0)) l
  let keep := fun (i : Nat) (b : Bool) => b && decide (i % 3 ≠ ln - 1)
  { l with claim := { l.claim with fbOut := (List.range 24).map fun i => keep i (nthB l.claim.fbOut i) } }

/-- A lane that does not claim itself sees that a peer has re-qualified: the peer re-qualifies, and the other lane finds it
good, or claims no longer (R57, R59). -/
def Lane.foundGood (l : Lane) (me : LaneId) (p : Peer) : Bool :=
  let o := otherPeer p
  let asks := match (l.peer p).now with
    | some f => bitOf f.status.toNat 3 && decide (f.claim = 0)
    | none => false
  asks && (!(l.peer o).claims || (match (l.peer o).last with
    | some f => decide (bits (verdictOn (peerId me o) (peerId me p) f) 0 3 = 1)
    | none => false))

/-- A lane follows a peer's re-qualification (R46, R50, R57, R59): from the third agreeing sample in a row, and as long as its
frames agree, a peer that does not claim is re-qualified; its exclusions end, the line to it is released, and a claiming lane
marks it good. A lane that does not claim takes the judgement of the one that does. -/
def Lane.followRequal (me : LaneId) (l : Lane) (p : Peer) : Lane :=
  let q := l.peer p
  if q.claims then l.setPeer p { q with agreeRun := 0, requalified := false }
  else
    let run := if l.ownClaims then (if l.agreeing me p then min 3 (q.agreeRun + 1) else 0)
      else if l.foundGood me p then 3 else 0
    let found := decide (3 ≤ run)
    let l := if found && !q.requalified then l.endExclusions (laneNo (peerId me p)) else l
    l.setPeer p { q with agreeRun := run, requalified := found, lineOut := q.lineOut && !found, evicted := q.evicted && !found,
                         verdict := q.verdict + b2n (found && l.ownClaims) }

/-- Does every claiming peer's frame of this sample carry a good verdict on the lane? With no claiming peer it holds
(R59). -/
def Lane.peersFindGood (l : Lane) (me : LaneId) : Bool :=
  bothPeers.all fun p => !(l.peer p).claims || (match (l.peer p).now with
    | some f => decide (bits (verdictOn (peerId me p) me f) 0 3 = 1)
    | none => false)

/-- The classification of a peer's set (R94), with the receiver's estimate of its back-EMF in volt and the link voltages
on 1,200 V. A peer whose last frame that passed has no sentinel, but STATUS bit 0 or CAPABILITY bit 0 clear, is taken as open
(assumption log 113). -/
def PeerSt.classify (p : PeerSt) (emfV ownLink : Nat) : PeerSt :=
  let lost := decide (2 ≤ p.failed) || p.evicted || !p.heard
  if lost then
    let link := match p.last with | some f => f.vLink.toNat | none => ownLink
    let short := p.lostShort || decide (link * 1200 ≤ emfV * 32768)
    { p with mode := 3, lostShort := short }
  else
    let q := { p with lostShort := false }
    match p.last with
    | none => { q with mode := 3 }
    | some f =>
      if f.uCmd.any (· = 0x8001#16) then { q with mode := 2 }
      else if f.uCmd.any (· = 0x8000#16) then { q with mode := 1 }
      else if bitOf f.status.toNat 0 && bitOf f.capability.toNat 0 then { q with mode := 0 } else { q with mode := 1 }

/-- The module's counts at t5 (R60): the lanes that claim, steer and brake, one bit a lane. -/
def Lane.countLanes (l : Lane) (me : LaneId) : Nat × Nat × Nat :=
  (l.claimFrames me).foldl (fun c x =>
    let b := 2 ^ (x.1 - 1)
    (c.1 + b, c.2.1 + (if bitOf x.2.capability.toNat 0 then b else 0),
      c.2.2 + (if bitOf x.2.capability.toNat 1 then b else 0))) (0, 0, 0)

/-- The number of lanes in a three-bit set. -/
def popLanes (v : Nat) : Nat := ((unpackBits 3 v).filter id).length

/-- The authority fraction as a Q15 code (R62): by steering lanes and whether overdrive is in force in all of them. -/
def authority (steer : Nat) (od : Bool) : Nat :=
  match steer with
  | 3 => 0x7FFF
  | 2 => if od then 0x7FFF else q15 (667 / 1000)
  | 1 => if od then 0x4000 else q15 (333 / 1000)
  | _ => 0

/-- The maximum permitted speed (R62); 0xFFFF is no limit. -/
def Lane.speedMax (l : Lane) (c st br : Nat) : Nat :=
  let dup := if st = 2 || br = 2 then l.obj O.speedMaxDuplex else 0xFFFF
  let sim := if st = 1 || br = 1 || (decide (0 < c) && (st = 0 || br = 0)) then l.obj O.speedMaxSimplex else 0xFFFF
  min dup sim

/-- Does the module require a controlled stop? (R63) A degraded arbiter has it required in the cells of R66 without C too (assumption log 163). -/
def Lane.stopNeeded (l : Lane) (c st br : Nat) : Bool :=
  decide (c = 1) || st = 1 || br = 1 || (decide (0 < c) && (st = 0 || br = 0))
  || (match l.claim.status with | some f => bitOf f.arbFlags.toNat 2 | none => false)
  || l.essentialLost || l.conflictStands

/-- The distance between the own reload and a peer's in the sample, in nanoseconds of own lane time (R27, R38), within half a
period either way. -/
def Lane.noteAlign (l : Lane) (p : Peer) (f : Option ExchFrame) : Lane :=
  match f with
  | none => l
  | some f =>
    let per : Int := 4 * l.per .steer
    let d := ((l.smp.reloadAt : Int) - ((f.reloadTime.toNat : Int) - (l.peer p).offset)) % max per 1
    l.updPeer p fun q => { q with align := some (if per < 2 * d then d - per else d) }

/-- Do the own reloads lie within 50 ns of those of every claiming peer? (R27) -/
def Lane.aligned (l : Lane) : Bool :=
  bothPeers.all fun p => !(l.peer p).claims || (match (l.peer p).align with | some d => decide (d.natAbs ≤ 50) | none => false)

/-- The peer from which a lane takes its sample number (R42 step 2), by the frames whose CRC matched: the lowest-numbered
claiming peer, else the lowest-numbered lower peer that sends frames (one was missing in at most one sample). -/
def Lane.sourcePeer (l : Lane) (me : LaneId) : Option Peer :=
  let hears := fun (p : Peer) => decide ((l.peer p).silent < 2) && (l.peer p).crcLast.isSome
  let claims := fun (p : Peer) => match (l.peer p).crcLast with | some c => c.2 && !(l.peer p).evicted | none => false
  match bothPeers.find? fun (p : Peer) => hears p && claims p with
  | some p => some p
  | none => bothPeers.find? fun (p : Peer) => hears p && decide (laneNo (peerId me p) < laneNo me)

/-- The reloads to which a lane aligns its own (R27, R42 step 3): a claiming lane those of the claiming peers, another lane those of
its source peer. -/
def Lane.alignTo (l : Lane) (me : LaneId) : List Int :=
  if l.ownClaims then bothPeers.filterMap fun (p : Peer) => if (l.peer p).claims then (l.peer p).align else none
  else match l.sourcePeer me with | some p => (l.peer p).align.toList | none => []

/-- The trim of the period that runs (R27, R42, R244): towards the mean of the claiming lanes' reloads or to the source peer's, by
one tick while the steering stage drives and by any amount while it does not; a lane whose reloads are aligned may drive again
(R141). -/
def Lane.planTrim (l : Lane) (me : LaneId) : Lane :=
  let ds := l.alignTo me
  let mean := roundDiv (ds.foldl (fun (a : Int) d => a + d) 0) (ds.length + b2n l.ownClaims)
  let ticks : Int := if ds.isEmpty then 0
    else if l.steer.driving then (if 2 < mean then -1 else if mean < -2 then 1 else 0) else -(roundDiv mean 4)
  { l with smp := { l.smp with trim := ticks, realign := l.smp.realign && !l.aligned } }

/-- The module state at t5 (R60 to R63): objects of R68, and the time that runs while a stop is required. -/
def Lane.moduleState (l : Lane) (me : LaneId) : Lane :=
  let k := l.countLanes me
  let c := popLanes k.1
  let st := popLanes k.2.1
  let br := popLanes k.2.2
  let fs := (l.claimFrames me).filter fun x => bitOf x.2.capability.toNat 0
  let od := fs.all fun x => bitOf x.2.status.toNat 5
  let bud := fs.foldl (fun m x => min m x.2.overdriveBudget.toNat) 0xFFFF
  let l := (((l.setObj O.moduleState c).setObj O.lanesClaiming k.1).setObj O.steerLanes k.2.1).setObj O.brakeLanes k.2.2
  let l := (l.setObj O.authorityFraction (authority st od)).setObj O.speedLimitActive (l.speedMax c st br)
  let l := if fs.isEmpty then l else l.setObj O.overdriveBudget bud
  let need := l.stopNeeded c st br
  let l := l.setFlag O.stopRequired need
  let from_ := if need then some (l.claim.stopFrom.getD l.now) else none
  let passed := match from_ with | some t0 => decide (t0 + 1000000 * l.obj O.simplexStopTime ≤ l.now) | none => false
  { l with claim := { l.claim with stopFrom := from_, stopDue := passed } }

/-- EVICTION_LINE (R53, R54): the level of an incoming line. -/
def execEvictionLine (l : LaneId) (p : Peer) (level : Bool) (t : Nat) (s : State) : Host.Outcome State Fault Refusal :=
  onLaneAt l t s fun x =>
    (x.updPeer p fun q => { q with lineIn := level }).setRbit Rg.gdStat (1 + peerIx p) level

/-- An incoming line counts unless the lane has asserted its own line to that peer (R54). -/
def Lane.lineCounts (l : Lane) (p : Peer) : Bool := (l.peer p).lineIn && !(l.peer p).lineOut

/-- GATE_POWER_LATCH (R53, R55, R58): both incoming lines asserted together for 1 µs cut gate power; the Sump counts it,
saturating at 3. -/
def execGatePowerLatch (l : LaneId) (t : Nat) (vTermAbove : Bool) (s : State) : Host.Outcome State Fault Refusal :=
  onLaneAt l t s fun x =>
    let x := x.seeTerminals vTermAbove
    if x.lineCounts .lo && x.lineCounts .hi && !x.gateCut then
      let x := ((x.setRbit Rg.gdStat 0 true).setFld Rg.gdCtl 0 9 0).inc16 O.gpwrCuts
      let x := x.setFld Rg.sumpEvict 0 2 (min (x.fld Rg.sumpEvict 0 2 + 1) 3)
      let x := { x with gate := { x.gate with porSince := false } }
      let x := bothPeers.foldl (fun x p => x.updPeer p fun q => { q with lineOut := false }) x
      (x.ceaseSteer.openBrakes).strike 1
    else x

/-- REARM (R57, R263): clears the latch after a power-on reset of E0 with both lines deasserted; otherwise it is ignored
and counted. -/
def execRearm (l : LaneId) (t : Nat) (s : State) : Host.Outcome State Fault Refusal :=
  onLaneAt l t s fun x =>
    if x.gate.porSince && !x.peerLo.lineIn && !x.peerHi.lineIn then ((x.setRbit Rg.gdStat 0 false).setRbit Rg.gdStat 14 false).diagDueAll
    else x.inc O.rearmRefused

/-- SHORT_RELEASE (R95, R268): the estimated back-EMF has been below half the link for 10 ms and the lane is not evicted. -/
def execShortRelease (l : LaneId) (t : Nat) (s : State) : Host.Outcome State Fault Refusal :=
  onLaneAt l t s fun x =>
    let low := match x.gate.emfLowSince with | some t0 => decide (t0 + 10000000 ≤ x.now) | none => false
    if low && !x.gateCut then x.setRbit Rg.gdStat 12 false else x

/-- VOTE_STATUS_RESET (R46, R68): 0 resets the exclusions of an input; any other value is refused. -/
def execVoteStatusReset (l : LaneId) (n : Fin 10) (v : BitVec 8) (t : Nat) (s : State) :
    Host.Outcome State Fault Refusal :=
  onLaneAt l t s fun x =>
    if v = 0 then
      let x := x.setObj (O.voteStatus n) (x.obj (O.voteStatus n) / 8 * 8)
      { x with votes := x.votes.set n { x.votes[n] with runs := [0, 0, 0] } }
    else x

/-- SIMPLEX_STOP_TIME_END (R63): the time from the requirement is over while it holds. -/
def execSimplexStopTimeEnd (l : LaneId) (t : Nat) (s : State) : Host.Outcome State Fault Refusal :=
  onLaneAt l t s fun x =>
    match x.claim.stopFrom with
    | some t0 =>
      if t0 + 1000000 * x.obj O.simplexStopTime ≤ x.now then { x with claim := { x.claim with stopDue := true } } else x
    | none => x

/-- BIRIX_TYPE_UNKNOWN (R36): a frame of a type that is not in the table is discarded and counted. -/
def execBirixTypeUnknown (l : LaneId) (p : Peer) (ty : BitVec 8) (s : State) : Host.Outcome State Fault Refusal :=
  onLane l s fun x =>
    if 1 ≤ ty.toNat ∧ ty.toNat ≤ 5 then x
    else x.updPeer p fun q => { q with unknownTypes := countUp 32 0 x.now q.unknownTypes }

/-- The network-time counter beside lane time that moves by a step. -/
def NetSt.shifted (n : NetSt) (d : Int) : NetSt :=
  { n with offset := n.offset + d, offAt := n.offAt + d, seen := n.seen.map fun e => (e.1, e.2.1 + d, e.2.2 + d) }

/-- Lane time moves by a step (R38, R443): the offsets from the peers and from network time change by it. The instants that commands
carry from then on are lane time as it stands. -/
def Lane.shiftTime (l : Lane) (d : Int) : Lane :=
  let l := { l with smp := { l.smp with slew := l.smp.slew + d }, net := l.net.shifted d }
  bothPeers.foldl (fun (l : Lane) p => l.updPeer p fun q => { q with offset := q.offset - d }) l

/-- The lane time of a start where no peer claims (R443): network time where the lane has it, otherwise it goes on. -/
def Lane.startTime (l : Lane) : Lane :=
  if l.smp.timeSet || bothPeers.any fun p => (l.peer p).claims then l
  else
    let l := if l.obj O.netTimeSource ≠ 0 then l.shiftTime (-l.net.offsetAt l.now) else l
    { l with smp := { l.smp with timeSet := true } }

/-- LISTEN_END (R42, R443): 2 ms times the lane number after its links came up, the lane takes the number of its source peer, or
counts from 0. -/
def execListenEnd (l : LaneId) (t : Nat) (s : State) : Host.Outcome State Fault Refusal :=
  onLaneAt l t s fun x =>
    if x.smp.listening && decide (x.smp.listenUntil ≤ x.now) then
      { x.startTime with smp := { x.startTime.smp with listening := false, takeNo := true } }
    else x

/-- The number of the sample that starts (R42): one more, or taken from the source peer, or 0. -/
def Lane.nextSampleNo (l : Lane) (me : LaneId) : Nat :=
  if l.smp.takeNo then
    match l.sourcePeer me with
    | some p => (match (l.peer p).crcLast with | some c => c.1 + 1 | none => 0) % 2 ^ 32
    | none => 0
  else (l.smp.no + 1) % 2 ^ 32

/-- R42 step 5: a lane that does not claim finds, in 3 samples in a row, the number of every claiming peer whose frame is
otherwise correct different from its own. -/
def Lane.resync (l : Lane) : Lane :=
  let fs := bothPeers.filterMap fun (p : Peer) => match (l.peer p).got0 with
    | some c => if c.2 && !(l.peer p).evicted then some c.1 else none
    | none => none
  let diff := !fs.isEmpty && fs.all fun (no : Nat) => decide (no ≠ l.smp.no)
  if l.claim.claiming || !diff then { l with smp := { l.smp with diffRun := 0 } }
  else if 3 ≤ l.smp.diffRun + 1 then
    ({ l with smp := { l.smp with diffRun := 0, takeNo := true } }).inc O.sampleResyncs
  else { l with smp := { l.smp with diffRun := l.smp.diffRun + 1 } }

end Sys2Proof.Machine
end

