-- ==== Sys2Proof/Machine/Drive.lean ====
section
/-!
DEFINITION. The steering drive (R90 to R119): edge-timer records and what is derived from them at a reload, the torque
share, and the current, voltage, speed and temperature limits formed at t5.
-/
namespace Sys2Proof.Machine

/-- Capacity of a stage's edge-timer buffer (R97). -/
def bufferSize : Stage → Nat
  | .steer => 15
  | .brake _ => 31

/-- A record goes to the open buffer of its stage; beyond the capacity it is lost, the overflow flag is set and the event
counted, one for each lost record (R97, assumption log 111). -/
def Lane.pushRec (l : Lane) (st : Stage) (r : EdgeRec) : Lane :=
  let l := l.updStg st fun s => { s with perRecs := s.perRecs ++ [r] }
  if (l.stg st).openRecs.length < bufferSize st then l.updStg st fun s => { s with openRecs := s.openRecs ++ [r] }
  else (l.setRbit Rg.etStat (stageIx st) true).inc O.etOverflows

/-- The transition record of an edge (R98): SOFT at least 10 ns before the complementary turn-on command, HARD after it. A crossing
in a period without such a command is SOFT and not HARD (assumption log 112). -/
def edgeRecord (e : EdgeIn) (ovlp plim : Bool) (scree : Nat) : EdgeRec where
  tCross := e.cross % 2 ^ 19
  leg := legIx e.leg
  rise := e.rise
  soft := match e.onCmd with | some c => decide (e.cross + 20 ≤ c) | none => true
  hard := match e.onCmd with | some c => decide (c < e.cross) | none => false
  valid := true
  ovlp := ovlp
  plim := plim
  probe := false
  scree := scree
  tSlew := min e.slew 0xFFF
  tCmd := e.cmdTick % 65536

/-- The capture window of a stage in units of 0.5 ns (R99). -/
def windowH (st : Stage) : Nat := 8 * window st

/-- Does a crossing fall into the capture window of a record that crossed before it? -/
def EdgeRec.covers (r : EdgeRec) (w cross : Nat) : Bool := !r.probe && decide (r.tCross ≤ cross) && decide (cross < r.tCross + w)

/-- A crossing in the capture window of an earlier record: of the same leg it takes VALID away, of another leg it sets OVLP (R98,
R99). -/
def EdgeRec.meet (w leg cross : Nat) (r : EdgeRec) : EdgeRec :=
  if !r.covers w cross then r else if r.leg = leg then { r with valid := false } else { r with ovlp := true }

/-- A crossing is held against the records of its stage: those of the open buffer and of the period, and those latched at the
reload, whose instants count from the reload before. -/
def StageSt.meetAll (s : StageSt) (w leg cross len : Nat) : StageSt :=
  { s with openRecs := s.openRecs.map (EdgeRec.meet w leg cross), perRecs := s.perRecs.map (EdgeRec.meet w leg cross),
           latched := s.latched.map (EdgeRec.meet w leg (cross + len)) }

/-- Did another leg of the stage cross less than a capture window before? (R98, R230) -/
def StageSt.overlaps (s : StageSt) (w leg cross len : Nat) : Bool :=
  (s.openRecs.any fun r => r.covers w cross && decide (r.leg ≠ leg))
  || (s.latched.any fun r => r.covers w (cross + len) && decide (r.leg ≠ leg))

/-- EDGE_CROSSING (R97 to R99, R253): one record of the crossing while the edge timers are enabled; a turn-on held for more
than 1 tick is counted. -/
def execEdgeCrossing (l : LaneId) (stage : Stage) (e : EdgeIn) (s : State) : Host.Outcome State Fault Refusal :=
  onLane l s fun x =>
    let x := x.incIf O.steerGateWaits (decide (stage = Stage.steer) && decide (1 < e.gateHold))
    if x.rbit Rg.etCtl 0 then
      let w := windowH stage
      let len := 2 * (x.smp.reloadAt - x.smp.prevReload)
      let leg := legIx e.leg
      let g := x.stg stage
      let r := edgeRecord e (g.overlaps w leg (e.cross % 2 ^ 19) len) (nthB g.plim leg) (x.fld (Rg.pwmCnt stage) 16 4)
      (x.updStg stage fun g =>
        { g.meetAll w leg (e.cross % 2 ^ 19) len with plim := g.plim.set leg false }).pushRec stage r
    else x

/-- Probe reference of a switch, 1.25 A per count (R107, R268). -/
def Lane.probeRef (l : Lane) (sw : Nat) : Nat :=
  if sw < 4 then l.fld Rg.gdProbe0 (8 * sw) 8 else l.fld Rg.gdProbe1 (8 * (sw - 4)) 8

/-- PROBE_TRIP (R97, R107): a probe record while PROBE_EN is set and the switch's reference is not 0. -/
def execProbeTrip (l : LaneId) (sw : Switch) (cross cmdTick : Nat) (s : State) : Host.Outcome State Fault Refusal :=
  onLane l s fun x =>
    if x.rbit Rg.etCtl 0 && x.rbit Rg.etCtl 2 && decide (x.probeRef (switchIx sw) ≠ 0) then
      let r : EdgeRec :=
        { tCross := cross % 2 ^ 19, leg := legIx sw.leg, rise := sw.high, soft := false, hard := false, valid := false,
          ovlp := false, plim := false, probe := true, scree := x.fld (Rg.pwmCnt .steer) 16 4, tSlew := 0,
          tCmd := cmdTick % 65536 }
      let x := { x with drive := { x.drive with limFlags := x.drive.limFlags ||| (64 * 2 ^ switchIx sw) } }
      x.pushRec .steer r
    else x

/-- The words of a record (R98). -/
def EdgeRec.word0 (r : EdgeRec) : Nat :=
  r.tCross + 2 ^ 19 * r.leg + 2 ^ 21 * b2n r.rise + 2 ^ 22 * b2n r.soft + 2 ^ 23 * b2n r.hard + 2 ^ 24 * b2n r.valid
  + 2 ^ 25 * b2n r.ovlp + 2 ^ 26 * b2n r.plim + 2 ^ 27 * b2n r.probe + 2 ^ 28 * r.scree
/-- Word 1 of a record (R98). -/
def EdgeRec.word1 (r : EdgeRec) : Nat := r.tSlew + 2 ^ 12 * r.tCmd

/-- Step 2 of R29: the buffers of the ending sample are latched and fresh ones open (R97, R99). -/
def Lane.latchEdges (l : Lane) : Lane :=
  let l := allStages.foldl (fun l st => l.updStg st fun s => { s with latched := s.openRecs, openRecs := [] }) l
  let l := l.setReg Rg.etCntS l.steer.latched.length
  (List.finRange 8).foldl (fun l n =>
    let c := l.brakes[n].latched.length
    if n.val < 4 then l.setFld Rg.etCntB0 (8 * n.val) 5 c else l.setFld Rg.etCntB1 (8 * (n.val - 4)) 5 c) l

/-- Time above mid-rail of a node over a sample of `len` (0.5 ns units), and its state at the end, from the crossings in
order (R100). -/
def timeHigh : List (Nat × Bool) → Nat → Nat → Bool → Nat × Bool
  | [], len, from_, high => (if high then len - from_ else 0, high)
  | (t, rise) :: r, len, from_, high =>
    let rest := timeHigh r len t rise
    ((if high then t - from_ else 0) + rest.1, rest.2)

/-- Applied mean voltage of a leg relative to the midpoint, a code on the supply's scale (R100). -/
def uApp (v high len : Nat) : Nat := codeI 16 (roundDiv ((v : Int) * (2 * high - len)) (2 * len))

/-- Applied voltages of a stage's legs over a sample of `len`, and the node states at its end (R100, R206). -/
def appliedVolts (g : StageSt) (v len : Nat) : List Nat × List Bool :=
  let one := fun i =>
    let rs := (g.latched.filter fun r => !r.probe && r.leg = i).map fun r => (r.tCross, r.rise)
    timeHigh rs len 0 (nthB g.highStart i)
  let hs := (List.range 3).map one
  (hs.map fun h => uApp v h.1 len, hs.map fun h => h.2)

/-- A cue of a leg (R101, R103). -/
inductive Cue
  | valid (code tick : Nat) (ovlp : Bool)
  | saturated
  | below
  | dropped
deriving DecidableEq, Repr

/-- Charge to mid-rail of a leg in femtocoulomb (R101), from the factory charge, the external capacitance in picofarad and the
supply in millivolt. -/
def qMid (qStg cExt : Nat) (mv : Rat) : Rat := qStg + cExt * mv / 2

/-- The code of a charge in femtocoulomb over a time in picoseconds, a current in milliampere, on a full scale in milliampere
(R13, R101). -/
def cueCode (q : Rat) (ps scale : Nat) : Nat := codeI 16 (roundRat (q / ps * 32768 / scale))

/-- The cue of a leg from its records (R101, R103). `ok`: c_ext is measured and CUE_EN is set. Of two soft crossings the one with
the longer slew has the smaller magnitude. -/
def cueOf (ok : Bool) (q : Rat) (td0 tgl : Nat) (rs : List EdgeRec) : Cue :=
  let soft := rs.filter fun r => r.soft && r.valid
  if !ok then .dropped
  else if soft.isEmpty then
    if (rs.filter fun r => r.soft).isEmpty && decide (2 ≤ rs.length) && rs.all (fun r => r.hard) then .below else .dropped
  else
    let inRange := soft.filter fun r => decide (td0 < 500 * r.tSlew) && decide (3 * tgl ≤ 2 * (500 * r.tSlew - td0))
    match inRange with
    | [] => .saturated
    | r :: rest =>
      let best := rest.foldl (fun (b : EdgeRec) x => if b.tSlew < x.tSlew then x else b) r
      let m : Int := cueCode q (500 * best.tSlew - td0) 280000
      .valid (ofI 16 (if best.rise then -m else m)) (roundDiv best.tCross 8).toNat best.ovlp

/-- The steering slots 0 to 10 of a reload (R100 to R103, R108): applied voltages, cues, their instants and flags, limit
flags; and the cue range of the sample. -/
def Lane.steerSlots (l : Lane) (vLink : Nat) : Lane :=
  let len := 2 * (l.smp.reloadAt - l.smp.prevReload)
  let g := l.steer
  let a := appliedVolts g vLink (if len = 0 then 1 else len)
  let volts : Rat := (vLink * 1200000 : Nat) / 32768
  let mv := vLink * 1200000 / 32768
  let td0 := Config.tD0 l.cal 0 mv
  let tgl := Config.tGl l.cal 0 mv
  let cue := fun i =>
    let ok := nthB l.gate.cextOk i && l.rbit Rg.etCtl 1
    cueOf ok (qMid (Config.qStg l.cal mv) (l.reg (Rg.etCext i)) volts) td0 tgl (g.latched.filter fun r => !r.probe && r.leg = i)
  let cs := (List.range 3).map cue
  let flags := cs.zipIdx.foldl (fun f c => f + 2 ^ c.2 * (match c.1 with
    | .valid _ _ o => 1 + 4096 * b2n o
    | .saturated => 8
    | .below => 64
    | .dropped => 512)) 0
  let l := l.setSlots 0 a.1
  let l := l.setSlots 3 (cs.map fun c => match c with | .valid m _ _ => m | _ => 0)
  let l := l.setSlots 6 (cs.map fun c => match c with | .valid _ t _ => t | _ => 0)
  let l := (l.setSlot 9 flags).setSlot 10 l.drive.limFlags
  let q := qMid (Config.qStg l.cal mv) (l.reg (Rg.etCext 0)) volts
  let l := (l.setObj O.cueRangeHi (cueCode (2 * q) (3 * tgl) 280000)).setObj O.cueRangeLo (cueCode q (390000 - td0) 280000)
  let n := (cs.filter fun c => match c with | .valid .. => true | _ => false).length
  let l := l.incBy O.cueValidCount n
  { l with steer := { l.steer with highStart := a.2 }, drive := { l.drive with limFlags := 0 } }

/-- Are the motor objects configured and within the ranges of R90? -/
def Lane.motorOk (l : Lane) : Bool :=
  let p := l.obj O.steerPolePairs
  let psi := f32Val (l.obj O.steerPsiM)
  let ld := f32Val (l.obj O.steerLd)
  let lq := f32Val (l.obj O.steerLq)
  let rs := f32Val (l.obj O.steerRs)
  decide (1 ≤ p ∧ p ≤ 16) && decide (0 < psi) && decide (1 / 10000 ≤ ld ∧ ld ≤ 2 / 100)
  && decide (1 / 10000 ≤ lq ∧ lq ≤ 2 / 100) && decide (5 / 1000 ≤ rs ∧ rs ≤ 2)
  && decide (8 * ld ≤ 10 * lq ∧ lq ≤ 3 * ld) && decide (psi ≤ 155 * ld)

/-- T_R of R110 as a rational: 3 × 1.5 × p × psi_m × 155.6 A. -/
def Lane.ratedTorque (l : Lane) : Rat := 9 / 2 * (l.obj O.steerPolePairs : Rat) * f32Val (l.obj O.steerPsiM) * (1556 / 10)

/-- The code of a current on 280 A from an F32 object in ampere. -/
def codeAmp (f : Nat) : Nat := q15 (f32Val f / 280)

/-- U_MAX as a code on 1,200 V (R117): STEER_KV × V_LINK / √3, KV capped where the narrow-window option limits depth. -/
def Lane.uMax (l : Lane) : Nat :=
  let p := l.per .steer
  let cap := if l.rbit (Rg.pwmCtl .steer) 3 then (roundDiv (32768 * (p - 100) : Nat) p).toNat else 0x7FFF
  let kv := min (l.obj O.steerKv) cap
  let x := kv * l.slot 11
  sqrtRatio (x * x) (3 * 2 ^ 30)

/-- The coolant factor of R483 in parts of 10,000 from T13 in 0.01 degrees. -/
def coolantFactor (t : Int) : Nat :=
  if t ≤ 6000 then 10000
  else if t ≤ 7000 then (10000 - roundDiv (2000 * (t - 6000)) 1000).toNat
  else if t ≤ 8000 then (8000 - roundDiv (8000 * (t - 7000)) 1000).toNat
  else 0

/-- A derating line (R115, R484): none below its start, falling to 0 at 15 degrees above it. -/
def derateCap (cont : Nat) (t start : Int) : Nat :=
  if t ≤ start then cont else if start + 1500 ≤ t then 0 else (roundDiv (cont * (start + 1500 - t)) 1500).toNat

/-- A post slot of the steering loop as it stands (R130). -/
def Lane.posted (l : Lane) (i : Nat) : Nat := kvGet 0 l.mx.loops[0].posts i

/-- A post slot of the steering loop as the exchange frame carries it: posted in time, else as before (R109). -/
def Lane.framePost (l : Lane) (i : Nat) : Nat := kvGet 0 l.mx.loops[0].postsF i

/-- The amplitude of the posted currents as a code on 280 A (R116). -/
def Lane.postedAmp (l : Lane) : Nat :=
  let a := toI 16 (l.posted 0)
  let b := toI 16 (l.posted 1)
  sqrtRound (a * a + b * b).toNat

/-- The number of steering lanes found at t5 (R60). -/
def Lane.steerCount (l : Lane) : Nat := popLanes (l.obj O.steerLanes)

/-- Overdrive ends at its threshold and returns 10 degrees below (R115, R484). -/
def odOut (was : Bool) (t end_ : Int) : Bool := decide (end_ ≤ t) || (was && decide (end_ - 1000 ≤ t))

/-- The reserve and budget after an interval (R61, R114): spent in full, refilled at a tenth. -/
def spend (have_ max_ dt : Nat) (over_ : Bool) : Nat := if over_ then have_ - dt else min max_ (have_ + dt / 10)

/-- I_MAX moves towards its target at 2 A per ms (R114), in millionths of a code. -/
def slewIMax (cur target dt : Nat) : Nat :=
  let d := dt * 65536 / 280
  if cur < target then min target (cur + d) else max target (cur - d)

/-- The current circle of a sample (R113 to R115, R483): overdrive, sustained limit, reserve, budget and I_MAX. -/
def Lane.currentCircle (l : Lane) : Lane :=
  let d := l.drive
  let dt := if d.lastT5 = 0 then 0 else l.now - d.lastT5
  let amp := l.postedAmp
  let dev := toI 16 d.tDev
  let wind := toI 16 d.tWind
  let outD := odOut d.odDevOut dev (toI 16 (l.obj O.devTempOdEnd))
  let outW := odOut d.odWindOut wind (toI 16 (l.obj O.windTempOdEnd))
  let n := l.steerCount
  let budget := spend d.budgetNs 30000000000 dt (decide (0x471D < amp))
  let reserve := spend d.reserveNs 2000000000 dt (decide (d.sustained < amp))
  let od := l.flag O.overdriveEnable && !outD && !outW && ((n = 2 && decide (0 < budget)) || n = 1)
  let base := if od then 0x6AAC else 0x471D
  let cap := min (derateCap 0x471D dev (toI 16 (l.obj O.devTempDerate))) (derateCap 0x471D wind (toI 16 (l.obj O.windTempDerate)))
  let hot := decide (toI 16 (l.obj O.devTempDerate) < dev) || decide (toI 16 (l.obj O.windTempDerate) < wind)
  let cool := (roundDiv ((base * coolantFactor (toI 16 d.tCool) : Nat) : Int) 10000).toNat
  let sus := if hot then min cap cool else cool
  let peak := decide (0 < reserve) && decide (dev < toI 16 (l.obj O.devTempDerate))
  let target := (if peak then 0x7FFF else sus) * 1000000
  let iu := slewIMax d.iMaxU target dt
  let l := { l with drive := { d with odDevOut := outD, odWindOut := outW, budgetNs := budget, reserveNs := reserve, odInForce := od,
                                      sustained := sus, iMaxU := iu, lastT5 := l.now, lastAmp := amp } }
  let code := (roundDiv iu 1000000).toNat
  let l := (l.setSlot 30 code).setObj O.iMaxActive code
  (l.setObj O.peakReserve (reserve / 1000000)).setObj O.odBudgetOwn (budget / 1000000)

/-- The errors of R115 and R116 at t5; a temperature raises its error once for each time that it has been held. -/
def Lane.circleErrors (l : Lane) : Lane :=
  let d := l.drive
  let hotD := decide (17500 ≤ toI 16 d.tDev)
  let hotW := decide (18500 ≤ toI 16 d.tWind)
  let sD := if hotD then some (d.hotDevSince.getD l.now) else none
  let sW := if hotW then some (d.hotWindSince.getD l.now) else none
  let over_ := decide (11 * l.slot 30 < 10 * d.lastAmp)
  let run := if over_ then d.circleRun + 1 else 0
  let held := fun s : Option Nat => match s with | some t0 => decide (t0 + 10000000 ≤ l.now) | none => false
  let l := { l with drive := { d with hotDevSince := sD, hotWindSince := sW, hotDevOn := held sD, hotWindOn := held sW,
                                      circleRun := if run = 3 then 0 else run } }
  let l := l.raiseIf (held sD && !d.hotDevOn) 0x13 d.tDev
  let l := l.raiseIf (held sW && !d.hotWindOn) 0x14 d.tWind
  if run = 3 then (l.inc O.circleErrors).raise 0x11 d.lastAmp else l

/-- The electrical frequency limit in Hz (R92): 1.5 kHz, a twelfth of the switching frequency, STEER_FE_MAX. -/
def Lane.feLimit (l : Lane) : Rat := min 1500 (min ((250000000 : Rat) / (12 * l.per .steer : Nat)) (l.obj O.steerFeMax))

/-- The posted speed in Hz (R109). -/
def Lane.postedHz (l : Lane) : Rat := ((toI 16 (l.posted 4)).natAbs * 2000 : Nat) / 32768

/-- The torque demand that stands for a posted torque and speed (R92, R109): above the frequency limit only torque that reduces the speed
is allowed. The voltages that go with it are the program's (R111; assumption log 142). -/
def Lane.allowedTorque (l : Lane) (torque speed : Nat) : Nat :=
  let q := toI 16 torque
  let w := toI 16 speed
  let above := decide (l.feLimit < (w.natAbs * 2000 : Nat) / (32768 : Rat))
  if above && (decide (0 < q ∧ 0 < w) || decide (q < 0 ∧ w < 0)) then 0 else torque

/-- The speed limit of R92 on the posted speed: an event at each rise above it, an error after 10 samples above 1.2 times
it. -/
def Lane.speedLimit (l : Lane) : Lane :=
  let hz := l.postedHz
  let lim := l.feLimit
  let above := decide (lim < hz)
  let run := if decide (6 / 5 * lim < hz) then l.drive.overRun + 1 else 0
  let l := l.incIf O.speedLimitEvents (above && !l.drive.overFe)
  let l := { l with drive := { l.drive with overFe := above, overRun := if run = 10 then 0 else run } }
  l.raiseIf (run = 10) 0x12 (roundRat hz).toNat

/-- The peer modes of R94 at t5, slot PEER_MODE, and the peers' slots 16 to 27 (R108). -/
def Lane.peerModes (l : Lane) : Lane :=
  let emf := l.drive.emfV
  let l := bothPeers.foldl (fun l p => l.updPeer p fun q => q.classify emf (l.slot 11)) l
  let lo := l.peerLo
  let hi := l.peerHi
  let m := lo.mode + 4 * hi.mode
  let frame := fun q : PeerSt => q.last
  let us := fun q : PeerSt => match frame q with | some f => (List.range 3).map fun i => (f.uCmd.getD i 0).toNat | none => [0, 0, 0]
  let is := fun q : PeerSt => match frame q with | some f => (List.range 2).map fun i => (f.iDq.getD i 0).toNat | none => [0, 0]
  let th := fun q : PeerSt => match frame q with | some f => f.rotorAngle.toNat | none => 0
  let l := (l.setSlots 16 (us lo ++ us hi ++ is lo ++ is hi)).setSlots 26 [th lo, th hi]
  let l := l.setSlot 28 (m + 16 * b2n lo.now.isSome + 32 * b2n hi.now.isSome)
  l.setObj O.peerModeObj m

/-- The driving lanes of a sample (R94): peers in mode 0, and the lane itself when it drives. -/
def Lane.drivingLanes (l : Lane) : Nat :=
  b2n l.steer.driving + b2n (decide (l.peerLo.mode = 0)) + b2n (decide (l.peerHi.mode = 0))

/-- The torque share as a Q15 code (R111). -/
def shareOf (drives : Bool) (n : Nat) : Nat := if drives then q15 (1 / (n : Rat)) else 0

/-- The slots of the limits at t5 (R111, R113, R117, R118); `lost`: the lane has lost the rotor (R172). -/
def Lane.limitSlots (l : Lane) (lost : Bool) : Lane :=
  let sh := if lost then 0 else shareOf l.steer.driving l.drivingLanes
  let l := (l.setSlot 29 sh).setObj O.torqueShareObj sh
  let u := l.uMax
  let l := (l.setSlot 31 u).setObj O.uMaxActive u
  let demag := min (toI 16 (codeAmp (l.obj O.steerIDemag))) (toI 16 (l.slot 30))
  (l.setSlot 32 (codeI 16 (-demag))).setSlot 33 l.drive.tWind

/-- OVERDRIVE_BUDGET_SPENT (R61, R113): no budget is left; with two steering lanes overdrive ends. -/
def execOverdriveBudgetSpent (l : LaneId) (t : Nat) (s : State) : Host.Outcome State Fault Refusal :=
  onLaneAt l t s fun x =>
    let od := x.drive.odInForce && decide (x.steerCount = 1)
    ({ x with drive := { x.drive with budgetNs := 0, odInForce := od } }).setObj O.odBudgetOwn 0

/-- PEAK_RESERVE_SPENT (R114): no reserve is left; I_MAX falls from the next t5. -/
def execPeakReserveSpent (l : LaneId) (t : Nat) (s : State) : Host.Outcome State Fault Refusal :=
  onLaneAt l t s fun x => ({ x with drive := { x.drive with reserveNs := 0 } }).setObj O.peakReserve 0

end Sys2Proof.Machine
end

