-- ==== Sys2Proof/Machine/FaultCollection.lean ====
section
/-!
DEFINITION. The fault collector's commands (chapter Fault Collection and Spall Records, R297 to R315).
-/
namespace Sys2Proof.Machine

/-- The sources of R300 that E0 and E7 drive through COLL_FW (R299). -/
def firmwareSource (src : Nat) : Bool :=
  src ∈ [0x06, 0x07, 0x08, 0x09, 0x11, 0x12, 0x13, 0x14, 0x18, 0x19, 0x1A, 0x1B, 0x1C, 0x1D]

/-- The sources with a rail pair in use (R300). -/
def listedSource (src : Nat) : Bool :=
  decide (1 ≤ src ∧ src ≤ 0x09) || decide (0x10 ≤ src ∧ src ≤ 0x1D) || decide (0x20 ≤ src ∧ src ≤ 0x40)

/-- A pair reads asserted: it is live and no longer broken (R297). -/
def Coll.setAsserted (c : Coll) (src : Nat) : Coll :=
  { c with asserted := insertAsc src c.asserted, broken := c.broken.filter fun b => b.1 ≠ src }

/-- A pair reads broken (R297). -/
def Coll.setBroken (c : Coll) (src : Nat) (trueRail : Bool) : Coll :=
  { c with asserted := removeAsc src c.asserted
           broken := (c.broken.filter fun b => b.1 ≠ src) ++ [(src, trueRail)] }

/-- The instant from which a pair reads idle again, where it is known (R297). -/
def Coll.setHeal (c : Coll) (src : Nat) (till : Option Nat) : Coll :=
  { c with heals := (c.heals.filter fun h => h.1 ≠ src) ++ (till.toList.map fun u => (src, u)) }

/-- Has a pair's reading gone at an instant? A firmware source stays as COLL_FW drives it (R299, R301). -/
def Coll.healed (c : Coll) (src t : Nat) : Bool := c.heals.any fun h => decide (h.1 = src) && decide (h.2 ≤ t)

/-- The pairs as they read at an instant: those that have gone back to idle read so (R297, R303). -/
def Coll.settle (c : Coll) (t : Nat) : Coll :=
  { c with asserted := c.asserted.filter fun n => n ∈ c.driven || !c.healed n t
           broken := c.broken.filter fun b => !c.healed b.1 t
           heals := c.heals.filter fun h => decide (t < h.2) }

/-- The pairs as they read now. -/
def Lane.settleColl (l : Lane) : Lane := { l with coll := l.coll.settle l.now }

/-- DATA of source 0 for a broken pair (R300): the source and its pattern, the true rail in bit 9. -/
def brokenData (src : Nat) (trueRail : Bool) : Nat := src + (if trueRail then 0x300 else 0)

/-- Is this source under injection? (R308) -/
def Lane.injecting (l : Lane) (src : Nat) : Bool := l.rbit Rg.collInj 8 && l.fld Rg.collInj 0 8 = src

/-- An uncorrectable error in a loop's memory during an entry of it ends that entry without COMMIT or PREP (R157). -/
def Lane.endE1 (l : Lane) (loop : Nat) : Lane :=
  match l.mx.cur with
  | some k =>
    if k.val = loop then
      { l with mx := { l.mx with cur := none, pc := none, loops := l.mx.loops.set k { l.mx.loops[k] with entry := .none } } }
    else l
  | none => l

/-- The stages after the undoing of a clear: exhausted trips and owed diagnostics as before it. -/
def Lane.undoStages (u : ClearUndo) (l : Lane) : Lane :=
  (allStages.foldl (fun (l : Lane) st =>
    let v := u.stages.getD (stageIx st) (false, 0, false, 0)
    let l := if v.1 then (l.setRbit (Rg.gdTrip st) 16 true).setRbit Rg.gdStat (tripBit st) true else l
    l.updStg st fun g => { g with exhausted := v.1, diag := if v.2.1 = 0 then .due else if v.2.1 = 1 then .passed else .failed,
                                  diagRun := v.2.2.1, diagFrom := v.2.2.2 }) l).showDiag

/-- A reading taken in the cycle in which a clear was judged comes first, and the clear is refused with code 2 (R310, R313): what the
clear changed is as before it. -/
def Lane.undoClear (l : Lane) : Lane :=
  match l.coll.undo with
  | some u =>
    if u.at_ = l.now then
      let l := { l with coll := { l.coll with recs := u.recs, error := true, errorAt := u.errorAt, requal := false,
                                              firstSrc := u.firstSrc, occ := u.occ, clears := u.clears, undo := none } }
      let l := { l with drive := { l.drive with firstClass := u.firstClass } }
      let l := ((l.setObj O.clearsTotal (l.obj O.clearsTotal - 1)).setObj O.clearResult 2).undoStages u
      if u.reopened then ((({ l with sio := { l.sio with enable := false } }).drvAllOff).setCtState 0).setRbit Rg.sioCt 0 false else l
    else l
  | none => l

/-- A reading that sets LATCHED in the cycle of a record reset: the reset is refused (R305, R313). -/
def Lane.undoReset (l : Lane) : Lane :=
  match l.coll.resetUndo with
  | some u =>
    if u.1 = l.now then ({ l with coll := { l.coll with recs := u.2, resetUndo := none } }).setRbit Rg.collStat 5 true else l
  | none => l

/-- Before a reading is taken: the pairs that have gone idle, and what the cycle of a clear or a reset did before it (R313). -/
def Lane.takeReading (l : Lane) : Lane := (l.undoClear.undoReset).settleColl

/-- A source's pair reads asserted from now on (R157, R297, R301, R306). One that reads asserted already goes on: that is no occurrence. -/
def Lane.sourceReads (l : Lane) (src data : Nat) (till : Option Nat) : Lane :=
  let l := l.takeReading
  let l := if src = 0x05 then l.endE1 (data % 16) else l
  let was := decide (src ∈ l.coll.asserted)
  let l := { l with coll := (l.coll.setAsserted src).setHeal src till }
  if was then l else l.raise src data

/-- A source's pair reads asserted until something ends it. -/
def Lane.sourceAsserts (l : Lane) (src data : Nat) : Lane := l.sourceReads src data none

/-- BROKEN_WIRE (R297, R301, R308): an occurrence of source 0 as a pair's reading changes into broken. Both rails of a source under
injection at 1 are no broken wire. -/
def execBrokenWire (l : LaneId) (src : BitVec 8) (trueRail : Bool) (sp : RailSpan) (s : State) :
    Host.Outcome State Fault Refusal :=
  onLaneAt l sp.t s fun x =>
    if listedSource src.toNat && !(x.injecting src.toNat && trueRail) then
      let x := x.takeReading
      let was := x.coll.broken.any fun b => b.1 = src.toNat
      let x := { x with coll := (x.coll.setBroken src.toNat trueRail).setHeal src.toNat sp.till }
      if was then x else x.raise 0 (brokenData src.toNat trueRail)
    else x

/-- What the collector reads from a source when injection on it begins (R308): an asserted pair stays asserted; a pair
broken at 0/0 reads 1/0, a real fault; otherwise injected only, or injection not seen. A pair at 1/1 reads injected only. -/
def Lane.injectRead (l : Lane) (src data : Nat) (seen : Bool) : Lane :=
  let l := l.settleColl
  let l := { l with coll := { l.coll with injSeen := seen || decide ((src, true) ∈ l.coll.broken), injOpen := decide ((src, false) ∈ l.coll.broken) } }
  if src ∈ l.coll.asserted then l
  else if l.coll.injOpen then l.sourceAsserts src data
  else if l.coll.injSeen then { l with coll := l.coll.occurInjected src data l.now }
  else (l.setRbit Rg.collInj 9 true).inc O.injNotSeen

/-- What the collector reads once injection on a source has ended (R308): the broken-wire filter starts afresh, and a pair that is still
broken is found broken again. -/
def Lane.injectEnds (l : Lane) (src : Nat) : Lane :=
  let l := l.settleColl
  let open_ := l.coll.injOpen && decide (src ∈ l.coll.asserted)
  let l := { l with coll := { l.coll with injSeen := false, injOpen := false } }
  if open_ then ({ l with coll := l.coll.setBroken src false }).raise 0 (brokenData src false)
  else if (src, true) ∈ l.coll.broken then l.raise 0 (brokenData src true)
  else l

/-- SRC and EN of COLL_INJ are written (R308): an injection that they end ends, and one that they begin begins. -/
def Lane.setInjection (l : Lane) (src : Nat) (en : Bool) (data : Nat) (seen : Bool) : Lane :=
  let goes := l.injecting src && en
  let old := l.fld Rg.collInj 0 8
  let was := l.rbit Rg.collInj 8
  let l := l.setFld Rg.collInj 0 9 (src + 256 * b2n en)
  if goes then l
  else
    let l := if was then l.injectEnds old else l
    if en then l.injectRead src data seen else l

/-- INJECT (R308, R309): accepted in Assembly and Workshop, never for source 0x00. -/
def execInject (l : LaneId) (v : BitVec 16) (seen : Bool) (data : BitVec 32) (t : Nat) (s : State) :
    Host.Outcome State Fault Refusal :=
  onLaneAt l t s fun x =>
    let src := bits v.toNat 0 8
    let en := bitOf v.toNat 8
    let lc := x.obj O.lcStateObj
    if (lc = 1 || lc = 4) && decide (v.toNat < 512) && !(en && decide (src = 0)) then
      (x.setObj O.inject v.toNat).setInjection src en data.toNat seen
    else x

/-- The pairs that read broken: a pair at 1/1 whose source is under injection reads injected only (R308). -/
def Lane.readsBroken (l : Lane) : List (Nat × Bool) := l.coll.broken.filter fun b => !(l.injecting b.1 && b.2)

/-- The judgement of R310 on a clear request. -/
def Lane.judgeClear (l : Lane) : Nat :=
  if !l.coll.anyLatched then 6
  else if !l.coll.asserted.isEmpty then 2
  else if !l.readsBroken.isEmpty then 3
  else if l.rbit Rg.collInj 8 then 4
  else if 3 ≤ (l.coll.clears.filter fun c => l.now < c + 60000000000).length then 5
  else 1

/-- What a clear that is accepted now changes. -/
def Lane.clearUndo (l : Lane) : ClearUndo :=
  { at_ := l.now, recs := l.coll.recs, errorAt := l.coll.errorAt, firstSrc := l.coll.firstSrc, occ := l.coll.occ,
    clears := l.coll.clears, firstClass := l.drive.firstClass, reopened := !l.sio.enable
    stages := allStages.map fun st =>
      let g := l.stg st
      (g.exhausted, (match g.diag with | .due => 0 | .passed => 1 | .failed => 2), g.diagRun, g.diagFrom) }

/-- What an accepted clear does (R311): LATCHED, FIRST, the error state and COLL_FIRST go, re-qualification starts, the
stages need their diagnostics again (R264) and exhausted trips end (R262); after a feedback error the enable switch
closes and the closing sequence runs anew (R290). -/
def Lane.clearAccepted (l : Lane) : Lane :=
  let l := { l with coll := { l.coll with undo := some l.clearUndo } }
  let c := l.coll
  let recs := c.recs.map fun r => { r with flags := putBits (putBits r.flags 0 1 0) 2 1 0 }
  let l := { l with coll := { c with recs := recs, error := false, errorAt := 0, requal := true, requalSlice := false,
                                     firstSrc := 0, occ := 0, clears := (l.now :: c.clears).take 3 } }
  let l := (((l.inc O.clearsTotal).endExhausted).diagDueAll).endClass 1
  if l.sio.enable then l else (({ l with sio := { l.sio with enable := true } }).testEnable).closeContactors

/-- A clear request is judged on the pairs as they read (R310) and, when accepted, done (R311). One refused with code 2 is judged again
if COLL_FW deasserts in its cycle (R313). -/
def Lane.requestClear (l : Lane) : Lane :=
  let l := l.settleColl
  let r := l.judgeClear
  let l := (({ l with coll := { l.coll with refusedAt := if r = 2 then some l.now else none } }).setObj O.clearResult r)
  if r = 1 then l.clearAccepted else l

/-- COLL_FW (R299): a firmware source asserts or deasserts; a hardware source is refused and counted. -/
def execCollFw (l : LaneId) (src : BitVec 8) (assert : Bool) (data : BitVec 32) (t : Nat) (s : State) :
    Host.Outcome State Fault Refusal :=
  onLaneAt l t s fun x =>
    let n := src.toNat
    if firmwareSource n then
      if assert then
        if n ∈ x.coll.driven then x
        else ({ x with coll := { x.coll with driven := insertAsc n x.coll.driven } }).sourceAsserts n data.toNat
      else
        let x := { x with coll := { x.coll with driven := removeAsc n x.coll.driven,
                                                asserted := removeAsc n x.coll.asserted } }
        if x.coll.refusedAt = some x.now then x.requestClear else x
    else if listedSource n || n = 0 then x.inc O.fwWriteRefused else x

/-- The pairs that still read asserted or broken in the cycle that judges a clear (R310): `still` names them; a firmware
source stays as COLL_FW drives it. -/
def Coll.still (c : Coll) (still : List (BitVec 8)) : Coll :=
  { c with asserted := c.asserted.filter fun n => n ∈ c.driven || still.any fun b => b.toNat = n
           broken := c.broken.filter fun p => still.any fun b => b.toNat = p.1 }

/-- FAULT_CLEAR (R310, R311): the object takes 0 and 1 only, and 1 requests the clear. -/
def execFaultClear (l : LaneId) (v : BitVec 8) (still : List (BitVec 8)) (t : Nat) (s : State) :
    Host.Outcome State Fault Refusal :=
  onLaneAt l t s fun x =>
    let x := { x with coll := x.coll.still still }
    if v = 1 then x.requestClear else x

/-- RECORD_RESET (R305): every record to 0, refused while any LATCHED bit is set. An occurrence of the same cycle is recorded after it
(R313). -/
def execRecordReset (l : LaneId) (v : BitVec 8) (t : Nat) (s : State) : Host.Outcome State Fault Refusal :=
  onLaneAt l t s fun x =>
    if v ≠ 1 then x
    else if x.coll.anyLatched then x.setRbit Rg.collStat 5 true
    else
      let now_ := x.coll.recs.filter fun r => decide (r.last = x.now) && bitOf r.flags 1
      let c := { x.coll with recs := [], resetUndo := some (x.now, x.coll.recs) }
      { x with coll := now_.foldl (fun (c : Coll) r => c.occurInjected r.src r.data x.now) c }

/-- The fault-log entry of a source (R312, R315): 36 bytes, every field most significant byte first. -/
def logEntry (lane : Nat) (r : SpallRec) : List Byte :=
  bytesBE 1 r.src ++ bytesBE 1 lane ++ [0, 0] ++ bytesBE 8 r.first ++ bytesBE 8 r.last ++ bytesBE 4 r.count
  ++ bytesBE 2 r.flags ++ bytesBE 2 r.injCount ++ bytesBE 4 r.data ++ [0, 0, 0, 0]

end Sys2Proof.Machine
end

