-- ==== Sys2Proof/Machine/Engines.lean ====
section
/-!
DEFINITION. Engines, mailboxes, memories and monitors (R361, R451 to R463), and accesses to registers under their codes
(R7 to R9).
-/
namespace Sys2Proof.Machine

/-- The engines that E0 releases and resets (R454). -/
def ownedEngine (e : Nat) : Bool := decide (2 ≤ e ∧ e ≤ 6)

/-- ENG_RUN (R5, R454): E0 of a lane that has started releases or stops an engine of E2 to E6; its kick window starts at the release (R470). -/
def execEngRun (l : LaneId) (e : Fin 8) (run : Bool) (t : Nat) (s : State) : Host.Outcome State Fault Refusal :=
  onLaneAt l t s fun x =>
    if ownedEngine e && (x.started || !run) then
      let fresh := run && !x.rbit Rg.engCtl e
      let x := (x.setRbit Rg.engCtl e run).setRbit Rg.engStat e run
      if fresh then { x with eng := { x.eng with kickAt := x.eng.kickAt.set e none, relAt := x.eng.relAt.set e x.now } }
      else x
    else x

/-- Is the mailbox from s to d full? (R456) -/
def Lane.mbxFull (l : Lane) (s d : Nat) : Bool := l.rbit (Rg.mbxStat s d) 0

/-- A word goes into an empty mailbox (R457): FULL and the receiver's inbox bit are set. -/
def Lane.mbxPut (l : Lane) (s d w : Nat) : Lane :=
  ((l.setReg (Rg.mbxData s d) w).setRbit (Rg.mbxStat s d) 0 true).setRbit (Rg.mbxInbox d) s true

/-- The block of R435 whose clock an engine runs on; the supervisor island's goes on in Doze (R24, R431). -/
def clockBlock (e : Nat) : Option Nat :=
  match e with
  | 1 => some 1
  | 2 => some 1
  | 3 => some 2
  | 4 => some 2
  | 5 => some 3
  | 6 => some 4
  | 7 => some 5
  | _ => none

/-- Is the island of an engine stopped by the power controller: in Doze, or its block has agreed to Doze or lower (R26, R431, R435)? -/
def Lane.islandStopped (l : Lane) (e : Nat) : Bool :=
  match clockBlock e with
  | none => false
  | some b => decide (l.fld Rg.pwrStat 0 3 = 2)
      || (decide (b ∈ l.pwr.stopped) && (match l.pwr.target with | some x => decide (2 ≤ x) | none => false))

/-- A write reaches a mailbox (R457): stored and FULL, or refused with REFUSED and the sender's counter. -/
def Lane.mbxArrive (l : Lane) (s d w : Nat) : Lane :=
  if l.mbxFull s d then
    let l := l.setRbit (Rg.mbxStat s d) 1 true
    { l with eng := { l.eng with refusals := l.eng.refusals.set s (countUp 32 (0x40040000 + s) l.now (nth l.eng.refusals s)) } }
  else l.mbxPut s d w

/-- A word leaves for a mailbox (R26): while the receiver's island is stopped its handshake does not complete. -/
def Lane.mbxSend (l : Lane) (s d w : Nat) : Lane :=
  if l.islandStopped d then { l with eng := { l.eng with held := l.eng.held ++ [(s, d, w)] } } else l.mbxArrive s d w

/-- The words that waited for islands which run again are delivered, in order (R26): of two for one mailbox the second is refused here
(assumption log 162). -/
def Lane.mbxRelease (l : Lane) : Lane :=
  let out := l.eng.held.filter fun x => !l.islandStopped x.2.1
  let l := { l with eng := { l.eng with held := l.eng.held.filter fun x => l.islandStopped x.2.1 } }
  out.foldl (fun (l : Lane) x => l.mbxArrive x.1 x.2.1 x.2.2) l

/-- The doorbells whose word lies in the mailbox of an engine are done with: DB_FULL clears (R361), and an abort counts. -/
def Lane.dbDone (l : Lane) (d : Nat) (abort : Bool) : Lane :=
  (List.range 4).foldl (fun l i =>
    if l.eng.dbTo.getD i none = some d then
      let l := ({ l with eng := { l.eng with dbTo := l.eng.dbTo.set i none } }).setObj (O.dbFull i) 0
      l.incIf (O.dbAborts i) abort
    else l) l

/-- Is the mailbox interrupt of a sender asserted (R457)? E1 takes none. -/
def Lane.mbxIrq (l : Lane) (s : Nat) : Bool := decide (s ≠ 1) && decide (l.reg (Rg.mbxNote s) &&& l.reg (Rg.mbxIe s) ≠ 0)

/-- A full mailbox is emptied (R457): by its receiver (TAKEN) or by a reset of the receiver (ABORTED). -/
def Lane.mbxEmpty (l : Lane) (s d : Nat) (abort : Bool) : Lane :=
  let l := (l.setRbit (Rg.mbxStat s d) 0 false).setRbit (Rg.mbxInbox d) s false
  let l := l.setRbit (Rg.mbxNote s) (d + (if abort then 8 else 0)) true
  if s = 0 then l.dbDone d abort else l

/-- Step 4 of R457: a reset of engine d clears its full inbound mailboxes, and discards the words in a crossing towards it, with aborted
notices (R26). -/
def Lane.mbxAbortAll (l : Lane) (d : Nat) : Lane :=
  let cut := l.eng.held.filter fun x => x.2.1 = d
  let l := { l with eng := { l.eng with held := l.eng.held.filter fun x => x.2.1 ≠ d } }
  (List.range 8).foldl (fun (l : Lane) s =>
    if l.mbxFull s d then l.mbxEmpty s d true
    else if cut.any fun x => x.1 = s then
      let l := l.setRbit (Rg.mbxNote s) (d + 8) true
      if s = 0 then l.dbDone d true else l
    else l) l

/-- The watchdog of an engine trips (R454, R455). -/
def Lane.wdogTrip (l : Lane) (e : Nat) : Lane :=
  let l := l.setRbit Rg.engStat (e + 8) true
  ({ l with eng := { l.eng with kickAt := l.eng.kickAt.set e none, relAt := l.eng.relAt.set e l.now } }).raise 0x02 e

/-- ENG_KICK (R455, R470): a kick less than 100 µs or more than 2 ms after the last trips the watchdog; the first kick after
a release opens the window. E1 has no kick register. -/
def execEngKick (l : LaneId) (e : Fin 8) (t : Nat) (s : State) : Host.Outcome State Fault Refusal :=
  onLaneAt l t s fun x =>
    if e = 1 then x
    else
      let bad := match x.eng.kickAt.getD e none with
        | some p => decide (x.now < p + 100000) || decide (p + 2000000 < x.now)
        | none => false
      if bad then x.wdogTrip e
      else { x with eng := { x.eng with kickAt := x.eng.kickAt.set e (some x.now) } }

/-- No kick of a running engine for more than 2 ms, from its last kick or its release (R455). -/
def Lane.kickLate (l : Lane) (e : Nat) : Bool :=
  l.rbit Rg.engStat e && decide (((l.eng.kickAt.getD e none).getD (nth l.eng.relAt e)) + 2000000 < l.now)

/-- MAILBOX_WRITE (R26, R457): E1 sends by POST alone, and an engine whose island is stopped sends nothing. -/
def execMailboxWrite (l : LaneId) (src d : Fin 8) (w : BitVec 32) (t : Nat) (s : State) :
    Host.Outcome State Fault Refusal :=
  onLaneAt l t s fun x => if src = d || src = 1 || x.islandStopped src then x else x.mbxSend src d w.toNat

/-- DOORBELL (R361): stored with DB_FULL; while DB_FULL is set it is answered with result 8 and changes nothing. -/
def execDoorbell (l : LaneId) (d : Fin 4) (w : BitVec 32) (t : Nat) (s : State) : Host.Outcome State Fault Refusal :=
  onLaneAt l t s fun x =>
    if x.flag (O.dbFull d) then x else (x.setObj (O.doorbell d) w.toNat).setObj (O.dbFull d) 1

/-- DOORBELL_FORWARD (R361): E0 puts the word into the target's mailbox once that is empty. -/
def execDoorbellForward (l : LaneId) (d : Fin 4) (t : Nat) (s : State) : Host.Outcome State Fault Refusal :=
  onLaneAt l t s fun x =>
    let e := x.obj (O.dbRoute d)
    let waits := x.eng.held.any fun y => y.1 = 0 && y.2.1 = e
    if x.flag (O.dbFull d) && (x.eng.dbTo.getD d none).isNone && !x.mbxFull 0 e && !waits then
      let x := x.mbxSend 0 e (x.obj (O.doorbell d))
      { x with eng := { x.eng with dbTo := x.eng.dbTo.set d (some e) } }
    else x

/-- The memories of R459 by number. -/
def isMemory (m : Nat) : Bool := decide (1 ≤ m ∧ m ≤ 13)

/-- One more in element i of the array MEM_CORRECTED (R471). -/
def Lane.countCorrected (l : Lane) (m : Nat) : Lane :=
  let lo := 32 * (15 - m)
  let v := bits (l.obj O.memCorrected) lo 32
  let l := l.setObj O.memCorrected (putBits (l.obj O.memCorrected) lo 32 (countUp 32 (O.memCorrected.key + m) l.now v))
  let l := l.inc O.memCorrectedLife
  { l with eng := { l.eng with corrected := l.eng.corrected + 1 } }

/-- Replace element i of an array object of 16-bit elements, n of them. -/
def Lane.setElem16 (l : Lane) (o : O.Obj) (n i v : Nat) : Lane := l.setObj o (putBits (l.obj o) (16 * (n - 1 - i)) 16 v)

/-- The block of R446 that a memory belongs to (assumption log 120). -/
def memoryBlock (m : Nat) : Nat := ([0, 1, 1, 2, 2, 3, 3, 5, 6, 7, 2, 2, 2, 3] : List Nat).getD m 1

/-- Is the island of a memory stopped, so that it is not scrubbed (R460)? Its clock is that of an engine of its block (R24). -/
def Lane.memStopped (l : Lane) (m : Nat) : Bool :=
  l.islandStopped (match memoryBlock m with | 2 => 1 | 3 => 3 | 5 => 5 | 6 => 6 | 7 => 7 | _ => 0)

/-- A memory whose island has stopped begins a fresh pass once it runs again (R460). -/
def Lane.stopScrubs (l : Lane) : Lane :=
  { l with eng := { l.eng with passAt := (List.range 16).map fun m => if l.memStopped m then 0 else nth l.eng.passAt m } }

/-- The address of a memory's first word (R459, R135); E7's memory is named by its offset. -/
def scrubBase (m : Nat) : Nat :=
  [0, 0x10000000, 0x10100000, 0x11000000, 0x12000000, 0x13000000, 0x14000000, 0x15000000, 0x16000000, 0, 0x40040000,
   0x50000000, 0x50400000, 0x60000000].getD m 0

/-- A scrub pass of a memory begins at its first word and ends with the next one: SCRUB_PASS_TIME in ms (R460, R471). -/
def Lane.scrubPass (l : Lane) (m addr : Nat) : Lane :=
  if addr ≠ scrubBase m then l else
  let from_ := nth l.eng.passAt m
  let l := { l with eng := { l.eng with passAt := l.eng.passAt.set m l.now } }
  if from_ = 0 then l else l.setElem16 O.scrubPassTime 16 m (min ((l.now - from_) / 1000000) 0xFFFF)

/-- PROCESS_READING (R462): the deviation of each island's oscillator in 0.01 %, and an ageing event at a fall below
-5.00 %. -/
def execProcessReading (l : LaneId) (counts : List Nat) (t : Nat) (s : State) : Host.Outcome State Fault Refusal :=
  onLaneAt l t s fun x =>
    (List.range 6).foldl (fun x i =>
      let ref := Config.procFactory x.cal i
      let f := Config.procRefer x.cal i (nth counts i) (toI 16 (nth x.eng.temps i)) (nth x.eng.volts (13 + i))
      let dev := satI 16 (roundDiv (10000 * ((f : Int) - ref)) ref)
      let old := toI 16 (x.arr16 O.procDeviation 6 i)
      let x := x.setElem16 O.procDeviation 6 i (ofI 16 dev)
      if decide (dev < -500) && decide (-500 ≤ old) then (x.inc O.ageingEvents).setObj O.ageingFlag 1 else x) x

/-- The greatest of signed 16-bit codes, as an integer; the first listed where there is one. -/
def maxI (cs : List Nat) : Int := (cs.map (toI 16)).foldl max (toI 16 (nth cs 0))

/-- The monitors' latest values (R461), the extremes seen (R471), and those of the logged interval (R463). -/
def Lane.takeMonitors (l : Lane) (temps volts : List Nat) : Lane :=
  let e := l.eng
  let tMax := (List.range 14).map fun i =>
    if e.monSeen then ofI 16 (max (toI 16 (l.arr16 O.tempMaxSeen 14 i)) (toI 16 (nth temps i))) else nth temps i
  let vMin := (List.range 20).map fun i => if e.monSeen then min (l.arr16 O.voltMinSeen 20 i) (nth volts i) else nth volts i
  let vMax := (List.range 20).map fun i => if e.monSeen then max (l.arr16 O.voltMaxSeen 20 i) (nth volts i) else nth volts i
  let now : List Int := [maxI ((temps.drop 6).take 3), maxI ((temps.drop 9).take 4), maxI (temps.take 6),
    toI 16 (nth temps 13), -(nth volts 0 : Int), (nth volts 2 / 10 : Nat)]
  let age := if e.ageSeen then (List.range 6).map fun i => max (e.age.getD i 0) (now.getD i 0) else now
  let l := (l.setArr16 O.tempValues ((List.range 14).map (nth temps))).setArr16 O.voltValues ((List.range 20).map (nth volts))
  let l := ((l.setArr16 O.tempMaxSeen tMax).setArr16 O.voltMinSeen vMin).setArr16 O.voltMaxSeen vMax
  { l with eng := { e with temps := temps, volts := volts, monSeen := true, ageSeen := true, age := age } }

/-- The bytes of an ageing log entry (R463). -/
def Lane.ageEntry (l : Lane) : List Byte :=
  let a := fun i => ofI 16 (l.eng.age.getD i 0)
  bytesBE 4 (l.obj O.operatingHours) ++ ((List.range 6).flatMap fun i => bytesBE 2 (l.arr16 O.procDeviation 6 i))
  ++ bytesBE 2 (a 0) ++ bytesBE 2 (a 1) ++ bytesBE 2 (a 2) ++ bytesBE 2 (a 3)
  ++ bytesBE 2 (-(l.eng.age.getD 4 0)).toNat ++ bytesBE 2 (l.eng.age.getD 5 0).toNat ++ bytesBE 4 l.eng.corrected

/-- The ageing-log entry that is due is written, overwriting the oldest, and a new interval begins (R463). -/
def Lane.ageLog (l : Lane) : Lane :=
  if l.eng.ageDue then
    let n := l.obj O.ageLogNext
    ({ l with eng := { l.eng with log := memWriteAll l.eng.log (32 * n) l.ageEntry, ageSeen := false, corrected := 0, ageDue := false } }).setObj
      O.ageLogNext ((n + 1) % 1024)
  else l

/-- AGEING_LOG_ENTRY (R463): E0 writes the entry, once 100 operating hours have made it due. -/
def execAgeingLogEntry (l : LaneId) (t : Nat) (s : State) : Host.Outcome State Fault Refusal :=
  onLaneAt l t s fun x => x.ageLog

/-- Bin of a temperature in a histogram of R463. -/
def histBin (t : Int) : Nat := if t < -3000 then 0 else min 15 (1 + (t + 3000).toNat / 1000)

/-- One count more in an element of an array of sixteen 32-bit counters. -/
def Lane.incElem32 (l : Lane) (o : O.Obj) (i : Nat) : Lane :=
  let lo := 32 * (15 - i)
  l.setObj o (putBits (l.obj o) lo 32 (countUp 32 (o.key + i) l.now (bits (l.obj o) lo 32)))

/-- OPERATING_HOURS_TICK (R463): 0.1 h more, counted in Run and Hold, in the hours and in both histograms; after every 100 h an
ageing-log entry is due. -/
def execOperatingHoursTick (l : LaneId) (t : Nat) (s : State) : Host.Outcome State Fault Refusal :=
  onLaneAt l t s fun x =>
    if x.fld Rg.pwrStat 0 3 < 2 then
      let x := x.inc O.operatingHours
      let x := if x.obj O.operatingHours % 1000 = 0 then { x with eng := { x.eng with ageDue := true } } else x
      let x := x.incElem32 O.tempHistSteer (histBin (maxI ((x.eng.temps.drop 6).take 3)))
      x.incElem32 O.tempHistBrake (histBin (maxI ((x.eng.temps.drop 9).take 4)))
    else x

/-- Registers of a stage. -/
def stageRegs (s : Stage) : List Rg.Reg :=
  [Rg.pwmCtl s, Rg.pwmLgctl s, Rg.pwmStat s, Rg.pwmCnt s, Rg.pwmPerSh s, Rg.pwmDutySh s 0, Rg.pwmDutySh s 1,
   Rg.pwmDutySh s 2, Rg.pwmPerAct s, Rg.pwmDutyAct s 0, Rg.pwmDutyAct s 1, Rg.pwmDutyAct s 2, Rg.pwmVConv s,
   Rg.pwmPhase s, Rg.pwmClat s, Rg.pwmRfsh s, Rg.gdDt0 s, Rg.gdDt1 s, Rg.gdTrip s, Rg.gdTripTime s]

/-- The registers with an address of their own. -/
def allRegs : List Rg.Reg :=
  allStages.flatMap stageRegs
  ++ [Rg.gdCtl, Rg.gdStat, Rg.gdProbe0, Rg.gdProbe1, Rg.etCtl, Rg.etStat, Rg.etCntS, Rg.etCntB0, Rg.etCext 0, Rg.etCext 1,
      Rg.etCext 2, Rg.etCntB1, Rg.collCtl, Rg.collStat, Rg.collFirst, Rg.collInj, Rg.collClear, Rg.collFw, Rg.pwrCtl,
      Rg.pwrStat, Rg.pwrAgree, Rg.sumpWakeLast, Rg.sumpWakeEn, Rg.sumpUnit, Rg.sumpBad, Rg.sumpTimeLo, Rg.sumpTimeHi,
      Rg.sumpEvict, Rg.sioCtl, Rg.sioStat, Rg.sioSlot, Rg.sioCt, Rg.mxCtl, Rg.mxStat, Rg.mxSwap, Rg.mxSwapSample,
      Rg.engCtl, Rg.engStat, Rg.busRefused]
  ++ (List.range 8).flatMap (fun i => [Rg.etQstg i, Rg.mbxInbox i, Rg.mbxNote i, Rg.mbxIe i, Rg.collLiveT i,
      Rg.collLiveC i, Rg.collLatch i, Rg.engKick i])
  ++ (List.range 9).map Rg.bselLoop ++ (List.range 4).map Rg.sioSup ++ (List.range 6).map Rg.sioXchk
  ++ (List.range 8).flatMap fun d => ((List.range 8).filter fun s => s ≠ d).flatMap fun s => [Rg.mbxData s d, Rg.mbxStat s d]

/-- The register at an address. -/
def regAt (a : Nat) : Option Rg.Reg := allRegs.find? fun r => r.addr = a

/-- RW bits of a register whose write is a command of its own, or has an effect of its own: a plain write leaves them. -/
def ownRowMask (a : Nat) : Nat :=
  if a = Rg.mxCtl.addr then 3 else if a = Rg.sioCt.addr then 1 else if a = Rg.engCtl.addr then 0x7C
  else if a = Rg.collInj.addr then 0x1FF
  else if allStages.any (fun s => (Rg.pwmCtl s).addr = a) then 1 else 0

/-- The engines that may write at an address (R451, R456); none where the map has nothing to write. -/
def writers (a : Nat) : List Nat :=
  if 0x10000000 ≤ a ∧ a < 0x17000000 then [0, a / 0x1000000 - 0x10]
  else if 0x40000000 ≤ a ∧ a < 0x40001000 then [0, 3]
  else if 0x40010000 ≤ a ∧ a < 0x40018000 then [0, 4]
  else if 0x40020010 ≤ a ∧ a < 0x40020018 then [0, 3, 4]
  else if 0x40020000 ≤ a ∧ a < 0x40021000 then [0]
  else if 0x40030000 ≤ a ∧ a < 0x40031000 then [0]
  else if 0x40040840 ≤ a ∧ a < 0x40040860 then [(a - 0x40040840) / 4]
  else if 0x40040880 ≤ a ∧ a < 0x400408A0 then [(a - 0x40040880) / 4]
  else if 0x40040000 ≤ a ∧ a < 0x40040800 then [(a - 0x40040000) / 16 % 16]
  else if 0x40050000 ≤ a ∧ a < 0x40053000 then [0]
  else if 0x40060000 ≤ a ∧ a < 0x40061000 then [0]
  else if 0x40070000 ≤ a ∧ a < 0x40071000 then [0]
  else if a = Rg.sioCt.addr then [0, 5]
  else if 0x40080000 ≤ a ∧ a < 0x40081000 then [5]
  else if 0x40090000 ≤ a ∧ a < 0x40091000 then [0]
  else if 0x400A0000 ≤ a ∧ a < 0x400A1000 then [0]
  else if 0x400B0010 ≤ a ∧ a < 0x400B0030 then [0, (a - 0x400B0010) / 4]
  else if 0x400B0000 ≤ a ∧ a < 0x400B1000 then [0]
  else if 0x400C0000 ≤ a ∧ a < 0x400C1000 then [0]
  else if 0x50000000 ≤ a ∧ a < 0x50210000 then [0]
  else if 0x50400000 ≤ a ∧ a < 0x50610000 then [0]
  else []

/-- Is an address in the map of R451, for reading? -/
def mapped (a : Nat) : Bool := !(writers a).isEmpty || decide (0x60000000 ≤ a ∧ a < 0x60400000)

/-- Bytes of the local memory at an address of R459; none where no memory lies. -/
def memTop (a : Nat) : Nat :=
  match a / 0x1000000 with
  | 0x10 => 0x10180000
  | 0x11 => 0x11004000
  | 0x12 => 0x12010000
  | 0x13 => 0x13010000
  | 0x14 => 0x14010000
  | 0x15 => 0x15008000
  | 0x16 => 0x16140000
  | _ => 0

/-- An access is refused on the bus and counted (R451). -/
def Lane.busRefuse (l : Lane) : Lane :=
  (l.setReg Rg.busRefused (countUp 32 Rg.busRefused.addr l.now (l.reg Rg.busRefused))).inc O.busRefusedObj

/-- A word written under the codes of R7: RW bits take the value, W1C bits clear at 1 unless the hardware sets them in the
same cycle (R9), and every other bit stays: a 1 written to a reserved bit has no effect (assumption log 36). A MODE of 5 to 7 is refused by
PWR_CTL, which keeps the one it has (R449). -/
def writeWord (r : Rg.Reg) (old v hw : Nat) : Nat :=
  let mode := if r.addr = Rg.pwrCtl.addr && decide (5 ≤ bits v 0 3) then 7 else 0
  let rw := r.rw &&& (0xFFFFFFFF ^^^ (ownRowMask r.addr ||| mode))
  let a := (old &&& (0xFFFFFFFF ^^^ rw)) ||| (v &&& rw)
  (a &&& (0xFFFFFFFF ^^^ (r.w1c &&& v))) ||| (hw &&& r.w1c)

/-- Does a bank-memory address lie in the active bank? (R138) -/
def Lane.inActive (l : Lane) (a : Nat) : Bool := decide (0x50400000 ≤ a) = l.bank1Active

/-- A write of a shadow register sets PER_W or its bit of DUTY_W (R231). -/
def Lane.markShadow (l : Lane) (a : Nat) : Lane :=
  allStages.foldl (fun (l : Lane) st =>
    let l := if a = (Rg.pwmPerSh st).addr then l.setRbit (Rg.pwmLgctl st) 2 true else l
    (List.range 3).foldl (fun (l : Lane) i => if a = (Rg.pwmDutySh st i).addr then l.setRbit (Rg.pwmLgctl st) (3 + i) true else l) l) l

/-- The counter of a stage at the latest instant of lane time: COUNT and PAST_MID of PWM_CNT, beside the Scree phase (R229,
R231). -/
def Lane.counter (l : Lane) (st : Stage) : Nat :=
  let p := l.per st
  let run := l.rbit (Rg.pwmCtl st) 0
  let c := if run then min ((l.now - (l.stg st).reloadAt) / 4) (p - 1) else 0
  c + 2 ^ 16 * l.fld (Rg.pwmCnt st) 16 4 + 2 ^ 20 * b2n (run && decide (p / 2 ≤ c))

/-- PWM_LGCTL with what is pending (R231, R234). -/
def Lane.lgView (l : Lane) (st : Stage) : Nat :=
  let s := l.stg st
  let per := match s.pendNow with | some x => decide (x.per ≠ l.per st) | none => false
  4 * l.fld (Rg.pwmLgctl st) 2 4 + 64 * b2n s.pendNow.isSome + 128 * b2n s.pendNext.isSome + 256 * b2n per

/-- GD_TRIP of a stage; TRIES counts the automatic clears of the last second (R268). -/
def Lane.tripView (l : Lane) (st : Stage) : Nat := putBits (l.reg (Rg.gdTrip st)) 14 2 (min ((l.stg st).tries l.now) 3)

/-- The word of a stage's register that follows from the counter, the pending sets or the clears of its trips. -/
def Lane.stageView (l : Lane) (a : Nat) : Option Nat :=
  match allStages.find? fun st => decide (a = (Rg.pwmCnt st).addr) || decide (a = (Rg.pwmLgctl st).addr)
    || decide (a = (Rg.gdTrip st).addr) with
  | some st => some (if a = (Rg.pwmCnt st).addr then l.counter st else if a = (Rg.gdTrip st).addr then l.tripView st else l.lgView st)
  | none => none

/-- The word of a register as a read finds it: the collector's status, first cause and latched bits follow its records
(R314), a sensor supply its monitor and the test-pulse slot lane time (R294, R461), ET_QSTG the factory's words (R99), and a stage's counter and pending sets
their state (R231). -/
def Lane.regView (l : Lane) (r : Rg.Reg) : Nat :=
  let c := l.coll.settle l.now
  if r.addr = Rg.collStat.addr then
    packBits [c.error, c.requal, l.rbit Rg.collInj 8, !c.asserted.isEmpty, !l.settleColl.readsBroken.isEmpty, l.rbit Rg.collStat 5]
  else if r.addr = Rg.collFirst.addr then c.firstCause
  else if r.addr = Rg.collClear.addr then 256 * l.obj O.clearResult
  else if (Rg.collLiveT 0).addr ≤ r.addr ∧ r.addr < (Rg.collLiveT 0).addr + 32 then
    let k := (r.addr - (Rg.collLiveT 0).addr) / 4
    packBits ((List.range 32).map fun i => decide (32 * k + i ∈ c.asserted) || decide ((32 * k + i, true) ∈ c.broken)
      || l.injecting (32 * k + i) && c.injSeen)
  else if (Rg.collLiveC 0).addr ≤ r.addr ∧ r.addr < (Rg.collLiveC 0).addr + 32 then
    let k := (r.addr - (Rg.collLiveC 0).addr) / 4
    packBits ((List.range 32).map fun i => !decide (32 * k + i ∈ c.asserted) && !decide ((32 * k + i, false) ∈ c.broken))
  else if (Rg.collLatch 0).addr ≤ r.addr ∧ r.addr < (Rg.collLatch 0).addr + 32 then
    let k := (r.addr - (Rg.collLatch 0).addr) / 4
    packBits ((List.range 32).map fun i => bitOf (c.spall (32 * k + i)).flags 0)
  else if (Rg.etQstg 0).addr ≤ r.addr ∧ r.addr < (Rg.etQstg 0).addr + 32 then
    Config.etQstgWord l.cal ((r.addr - (Rg.etQstg 0).addr) / 4) % 2 ^ 32
  else if (Rg.sioSup 0).addr ≤ r.addr ∧ r.addr < (Rg.sioSup 0).addr + 16 then
    10 * nth l.eng.volts (5 + (r.addr - (Rg.sioSup 0).addr) / 4) % 2 ^ 13
  else if r.addr = Rg.sioSlot.addr then l.now % 9600000 / 100000
  else (l.stageView r.addr).getD (l.reg r)

/-- A Spall record in the internal address space: 32 bytes, least significant first (R14, R302). -/
def SpallRec.words (r : SpallRec) : List Byte :=
  bytesLE 8 r.first ++ bytesLE 8 r.last ++ bytesLE 4 r.count ++ bytesLE 2 r.flags ++ bytesLE 2 r.injCount ++ bytesLE 4 r.data
  ++ [0, 0, 0, 0]

/-- The word of a latched edge-timer record at an offset of its buffer (R97, R98). -/
def StageSt.edgeWord (st : StageSt) (off : Nat) : Nat :=
  match st.latched[off / 8]? with
  | some r => if off % 8 < 4 then r.word0 else r.word1
  | none => 0

/-- The word at an address that is no register's: a latched edge record (R97), a Spall record (R314), a local memory (R459), the coefficient memory
(R135), the capture buffer (R465); elsewhere in a block nothing lies and the word is 0. -/
def Lane.wordAt (l : Lane) (a : Nat) : Nat :=
  if a < 0x18000000 then ofBytesLE (memReadAll l.eng.mem (a / 4 * 4) 4)
  else if 0x40030100 ≤ a ∧ a < 0x40030178 then l.steer.edgeWord (a - 0x40030100)
  else if 0x40030200 ≤ a ∧ a < 0x40030A00 then (l.stg (.brake (Fin.ofNat 8 ((a - 0x40030200) / 0x100)))).edgeWord (a % 0x100)
  else if 0x40051000 ≤ a ∧ a < 0x40053000 then
    ofBytesLE (((l.coll.spall ((a - 0x40051000) / 32)).words.drop (a % 32 / 4 * 4)).take 4)
  else if 0x60000000 ≤ a then ofBytesLE (memReadAll l.cap.buf ((a - 0x60000000) / 4 * 4) 4)
  else if 0x50000000 ≤ a then
    bankLE (if 0x50400000 ≤ a then l.mx.bank1 else l.mx.bank0) (a % 0x400000 / 4 * 4) 4
  else 0

/-- Does the map have a word to read at an address? (R451, R459) -/
def readable (a : Nat) : Bool := mapped a && (decide (0x18000000 ≤ a) || decide (a / 4 * 4 + 4 ≤ memTop a))

end Sys2Proof.Machine
end

