-- ==== Sys2Proof/Machine/Matrix.lean ====
section
/-!
DEFINITION. The matrix engine (R121 to R159): instructions on a loop's window, entries and their squashes, the order of E1's
work, the sequencer that runs a loop's program from the active bank as time goes on, overburdens, the bench selector, and bank
swaps. E1 is brought up to the instant of every command that acts on it or on what it writes (`onE1`).
-/
namespace Sys2Proof.Machine

/-- The stage that a loop actuates (R121, R131). -/
def loopStage (k : Fin 9) : Stage := if h : k.val = 0 then .steer else .brake ⟨k.val - 1, by omega⟩

/-- A loop of E1. -/
def Lane.loop (l : Lane) (k : Fin 9) : LoopSt := l.mx.loops[k]

/-- A lane with one loop replaced. -/
def Lane.setLoop (l : Lane) (k : Fin 9) (x : LoopSt) : Lane := { l with mx := { l.mx with loops := l.mx.loops.set k x } }

/-- A lane with one loop changed. -/
def Lane.updLoop (l : Lane) (k : Fin 9) (f : LoopSt → LoopSt) : Lane := l.setLoop k (f (l.loop k))

/-- The nine loops. -/
def allLoops : List (Fin 9) := List.finRange 9

/-- Does a word lie in a banked region: X, U or Y? (R127) -/
def bankedWord (a : Nat) : Bool := a < 0x40

/-- Is a shadow copy valid? (R128) -/
def LoopSt.shadowAt (p : LoopSt) (a : Nat) : Option Nat := (p.shw.find? fun w => w.1 = a).map fun w => w.2

/-- A read of a data word (R127, R128): the valid shadow copy, the committed copy, or a parameter word. -/
def LoopSt.rd (p : LoopSt) (a : Nat) : Nat :=
  if bankedWord a then (p.shadowAt a).getD (kvGet 0 p.win a)
  else if a < 0xE0 then kvGet 0 p.win a
  else if a < 0x100 then nth p.par (a - 0xE0)
  else 0

/-- The value of a data word in units of 2 to the -31 (R124). -/
def LoopSt.rdI (p : LoopSt) (a : Nat) : Int := toI 32 (p.rd a)

/-- A write of a data word (R128): a banked word goes to its shadow copy; region P is not written. -/
def LoopSt.wr (p : LoopSt) (a v : Nat) : LoopSt :=
  if bankedWord a then { p with shw := kvPut a (v % 2 ^ 32) p.shw }
  else if a < 0xE0 then { p with win := kvSet 0 p.win a (v % 2 ^ 32) }
  else p

/-- Writes from an address up. -/
def LoopSt.wrAll (p : LoopSt) (a : Nat) : List Nat → LoopSt
  | [] => p
  | v :: vs => (p.wr a v).wrAll (a + 1) vs

/-- The commit of R128: every valid shadow word becomes the committed copy. -/
def LoopSt.promote (p : LoopSt) : LoopSt :=
  { p with win := p.shw.foldl (fun w x => kvSet 0 w x.1 x.2) p.win, shw := [] }

/-- A discard of the shadow copies and of VALID (R128, R149). -/
def LoopSt.discard (p : LoopSt) : LoopSt := { p with shw := [], specValid := false }

/-- `n` words from an address up. -/
def LoopSt.vec (p : LoopSt) (a n : Nat) : List Nat := (List.range n).map fun i => p.rd (a + i)

/-- `n` values from an address up. -/
def LoopSt.vecI (p : LoopSt) (a n : Nat) : List Int := (List.range n).map fun i => p.rdI (a + i)

/-- One more saturation per element that saturates (R125, R126). -/
def Lane.countSats (l : Lane) (k : Fin 9) (n : Nat) : Lane := l.incBy (O.satEvents k) n

/-- The Q8.48 term of one product (R125): x in Q1.31, c in Q1.23, scaled by 2 to the power of the shift. -/
def mvmTerm (x c shift : Int) : Int :=
  let e := shift - 6
  if 0 ≤ e then x * c * 2 ^ e.toNat else roundDiv (x * c) (2 ^ (-e).toNat)

/-- An addition to an accumulator with saturation (R124, R125), and the saturations so far. -/
def accAdd (a : Int × Nat) (t : Int) : Int × Nat :=
  let s := a.1 + t
  let r := satI 56 s
  (r, if r = s then a.2 else a.2 + 1)

/-- The bench block in force for a loop (R159). -/
def Lane.blockOf (l : Lane) (k : Nat) : Nat := l.fld (Rg.bselLoop k) 8 6

/-- The value of a coefficient word: Q1.23 in bits 23:0 (R136). -/
def coefI (w : Nat) : Int := toI 24 (w % 2 ^ 24)

/-- One row of an MVM on the accumulator (R125). -/
def mvmRow (m : List (Nat × Byte)) (k b : Nat) (d : MatDesc) (xs : List Int) (a0 : Int) (i : Nat) : Int × Nat :=
  xs.zipIdx.foldl (fun a x => accAdd a (mvmTerm x.1 (coefI (blockWord m k b (d.offset + i * d.cols + x.2))) d.shift)) (a0, 0)

/-- MVM (R125, R128, R131). -/
def Lane.mvm (l : Lane) (k : Fin 9) (acc wb : Bool) (mat src dst : Nat) : Lane :=
  let m := l.activeBank
  let d := matDesc m k mat
  let p := l.loop k
  let xs := p.vecI src d.cols
  let rows := (List.range d.rows).map fun i => mvmRow m k (l.blockOf k) d xs (if acc then p.acc.getD i 0 else 0) i
  let out := rows.map fun r => let q := roundDiv r.1 (2 ^ 17); (satI 32 q, decide (satI 32 q ≠ q))
  let sats := sumNat (rows.map fun r => r.2) + (if wb then (out.filter fun o => o.2).length else 0)
  let l := l.countSats k sats
  if wb then l.updLoop k fun p => { p.wrAll dst (out.map fun o => ofI 32 o.1) with acc := [] }
  else l.updLoop k fun p => { p with acc := rows.map fun r => r.1 }

/-- VADD and VSUB (R126, R131): element by element, saturating, or modulo 2 to the 32 with WRAP. -/
def Lane.vecOp (l : Lane) (k : Fin 9) (wrap : Bool) (f : Int → Int → Int) (n src dst : Nat) : Lane :=
  let p := l.loop k
  let rs := (List.range n).map fun i => f (p.rdI (dst + i)) (p.rdI (src + i))
  let sats := if wrap then 0 else (rs.filter fun r => satI 32 r ≠ r).length
  (l.countSats k sats).updLoop k fun p => p.wrAll dst (rs.map fun r => ofI 32 (if wrap then r else satI 32 r))

/-- SAT (R126, R131): each element clamped to -2^-K to 2^-K - 2^-31. -/
def Lane.satVec (l : Lane) (k : Fin 9) (n sh dst : Nat) : Lane :=
  let p := l.loop k
  let b : Int := 2 ^ (31 - sh)
  let rs := (p.vecI dst n).map fun x => (x, max (-b) (min (b - 1) x))
  (l.countSats k (rs.filter fun r => r.1 ≠ r.2).length).updLoop k fun p => p.wrAll dst (rs.map fun r => ofI 32 r.2)

/-- A value clamped between two bounds; bounds that leave nothing between them have no stated result. -/
def clampI (x lo hi : Int) : Nat :=
  if hi < lo then Config.limOpen (ofI 32 x) (ofI 32 lo) (ofI 32 hi) 0 % 2 ^ 32 else ofI 32 (max lo (min hi x))

/-- A component scaled by b over the square root of m, to nearest. -/
def scaleTo (x b : Int) (m : Nat) : Int :=
  let v : Int := sqrtRatio (x * x * (b * b)).toNat m
  if x < 0 then -v else v

/-- LIM mode 1 (R131): the pair scaled so its magnitude is at most b. -/
def circleLim (x y b : Int) : List Nat :=
  if b < 0 then [Config.limOpen (ofI 32 x) (ofI 32 y) (ofI 32 b) 1 % 2 ^ 32, Config.limOpen (ofI 32 x) (ofI 32 y) (ofI 32 b) 2 % 2 ^ 32]
  else
    let m := (x * x + y * y).toNat
    if (m : Int) ≤ b * b then [ofI 32 x, ofI 32 y] else [ofI 32 (scaleTo x b m), ofI 32 (scaleTo y b m)]

/-- LIM mode 2 (R131): the first clamped to the magnitude, the second to what is left of it. -/
def priorityLim (x y b : Int) : List Nat :=
  if b < 0 then [Config.limOpen (ofI 32 x) (ofI 32 y) (ofI 32 b) 3 % 2 ^ 32, Config.limOpen (ofI 32 x) (ofI 32 y) (ofI 32 b) 4 % 2 ^ 32]
  else
    let d := max (-b) (min b x)
    let r : Int := sqrtRatio (b * b - d * d).toNat 1
    [ofI 32 d, ofI 32 (max (-r) (min r y))]

/-- LIM (R131); a MODE that names no operation changes nothing. -/
def Lane.limVec (l : Lane) (k : Fin 9) (mode n bnd dst : Nat) : Lane :=
  l.updLoop k fun p => match mode with
    | 0 => p.wrAll dst ((List.range n).map fun i => clampI (p.rdI (dst + i)) (p.rdI (bnd + i)) (p.rdI (bnd + n + i)))
    | 1 => p.wrAll dst (circleLim (p.rdI dst) (p.rdI (dst + 1)) (p.rdI bnd))
    | 2 => p.wrAll dst (priorityLim (p.rdI dst) (p.rdI (dst + 1)) (p.rdI bnd))
    | _ => p

/-- SEL (R131). -/
def Lane.selVec (l : Lane) (k : Fin 9) (bit : Nat) (pol : Bool) (n src dst : Nat) : Lane :=
  l.updLoop k fun p => if bitOf p.cr bit = pol then p.wrAll dst (p.vec src n) else p

/-- d and q of three phase quantities at an angle in turns, amplitude invariant (R91). -/
def toDq (ph : List Int) (turn : Rat) : Rat × Rat :=
  ph.zipIdx.foldl (fun a x =>
    let r := turn - (x.2 : Rat) / 3
    (a.1 + 2 / 3 * x.1 * cosTurn r, a.2 - 2 / 3 * x.1 * sinTurn r)) (0, 0)

/-- The phase quantity i of d and q at an angle in turns (R91). -/
def ofDq (d q : Int) (turn : Rat) (i : Nat) : Rat :=
  let r := turn - (i : Rat) / 3
  (d : Rat) * cosTurn r - (q : Rat) * sinTurn r

/-- The angle register as a fraction of a turn (R124). -/
def turnOf (ar : Nat) : Rat := (ar : Rat) / 65536

/-- LD (R129, R131): slots as the entry sees them. -/
def Lane.ldVec (l : Lane) (k : Fin 9) (mode n slot dst : Nat) : Lane :=
  l.updLoop k fun p =>
    let s := fun i => kvGet 0 p.seen (slot + i)
    match mode with
    | 0 => p.wrAll dst ((List.range n).map fun i => ofI 32 (toI 16 (s i) * 65536))
    | 1 => p.wrAll dst ((List.range n).map fun i => s i * 32768)
    | 2 =>
      let dq := toDq ((List.range 3).map fun i => toI 16 (s i)) (turnOf p.ar)
      p.wrAll dst [codeI 32 (roundRat (65536 * dq.1)), codeI 32 (roundRat (65536 * dq.2))]
    | _ => p

/-- A data word rounded to Q1.15 (R13, R130). -/
def toQ15 (x : Int) : Nat := codeI 16 (roundDiv x 65536)

/-- May a loop store to a post slot? (R130, R209) -/
def postSlotOk (k : Fin 9) (s : Nat) : Bool :=
  if k.val = 0 then decide (s ≤ 10) || decide (16 ≤ s ∧ s ≤ 47) else decide (s ≤ 3)

/-- Quotient rounded up. -/
def ceilDiv (a b : Nat) : Nat := (a + b - 1) / b

/-- The end of the last instruction of a loop's run, in half nanoseconds. -/
def LoopSt.doneH (p : LoopSt) : Nat := 2 * p.startAt + 5 * p.cyc

/-- Is a post of the loop in time for the exchange frame of its sample: by 6.0 µs after the reload (R109)? -/
def LoopSt.postInTime (p : LoopSt) (reload : Nat) : Bool := decide (p.doneH ≤ 2 * reload + 12000)

/-- One post (R13, R109, R130, R209): the slot takes it; the exchange frame of the sample carries it only when it is in time. A store
to a reserved slot stores nothing. -/
def LoopSt.post (k : Fin 9) (ok : Bool) (p : LoopSt) (slot v : Nat) : LoopSt :=
  if !postSlotOk k slot then p
  else
    let p := { p with posts := kvSet 0 p.posts slot v }
    if ok then { p with postsF := kvSet 0 p.postsF slot v, postedBy := insertAsc slot p.postedBy } else p

/-- ST (R130, R209): data words to post slots. -/
def Lane.stVec (l : Lane) (k : Fin 9) (n src ps : Nat) : Lane :=
  let reload := l.smp.reloadAt
  l.updLoop k fun p =>
    (List.range n).foldl (fun (q : LoopSt) i => q.post k (p.postInTime reload) (ps + i) (toQ15 (p.rdI (src + i)))) p

/-- Have the values of R109 come in time: the five of the exchange frame and the six magnitudes? -/
def LoopSt.postsIn (p : LoopSt) (n : Nat) : Bool := (List.range n).all fun i => decide (i ∈ p.postedBy)

/-- A sample starts: the next exchange frame carries the posts as they stand (R109, R130). -/
def Lane.newPosts (l : Lane) : Lane := l.updLoop 0 fun p => { p with postsF := p.posts, postedBy := [] }

/-- LDC (R131). -/
def Lane.ldc (l : Lane) (k : Fin 9) (tgt space : Bool) (a : Nat) : Lane :=
  l.updLoop k fun p =>
    let v := if space then kvGet 0 p.seen a else p.rd a / 65536
    if tgt then { p with ar := v } else { p with cr := v }

/-- The slots of a loop as they stand: slot i of loop k is slot 64 k + i of the lane (R129, R207). -/
def Lane.slotsOf (l : Lane) (k : Nat) : List (Nat × Nat) :=
  (List.range 64).filterMap fun i => let v := l.slot (64 * k + i); if v = 0 then none else some (i, v)

/-- VALID of a loop's speculative set, in the stage's PWM_STAT too (R147, R231). -/
def Lane.setSpecValid (l : Lane) (k : Fin 9) (b : Bool) : Lane :=
  (l.updLoop k fun p => { p with specValid := b }).setRbit (Rg.pwmStat (loopStage k)) 9 b

/-- Counter of a squash cause (R149, R160). -/
def squashObj (k cause : Nat) : O.Obj :=
  match cause with
  | 1 => O.squashTube k
  | 2 => O.squashBench k
  | 3 => O.squashBank k
  | _ => O.squashOther k

/-- A squash (R149): shadow copies and VALID go, the cause is counted. -/
def Lane.squash (l : Lane) (k : Fin 9) (cause : Nat) : Lane :=
  let l := (l.updLoop k LoopSt.discard).setRbit (Rg.pwmStat (loopStage k)) 9 false
  let l := (l.inc (O.squashTotal k)).inc (squashObj k cause)
  if k = 0 then l.setFld Rg.mxStat 4 4 cause else l

/-- Begin an entry (R127, R129): region P is reloaded from the bench block, and the slots are those of now. -/
def Lane.beginEntry (l : Lane) (k : Fin 9) (e : EntryKind) : Lane :=
  let par := (List.range 32).map fun i => blockWord l.activeBank k (l.blockOf k) i
  let seen := l.slotsOf k
  l.updLoop k fun p => { p with entry := e, cycEntry := 0, par := par, seen := seen }

/-- The channels of a TUBE that lie outside their tubes (R148). -/
def Lane.tubeOut (l : Lane) (k : Fin 9) (n tub src : Nat) : List Nat :=
  (List.range n).filter fun i =>
    let t := tubeWord l.activeBank k (tub + i)
    decide (t ≠ 0) && decide (t < ((l.loop k).rdI (src + i)).natAbs)

/-- TUBE (R147, R148): every checked channel inside sets VALID; one outside squashes, and FULL starts 4 cycles later, which pass
with TUBE's own (`insCost`). It acts in CORR alone. -/
def Lane.tube (l : Lane) (k : Fin 9) (n tub src : Nat) : Lane :=
  if (l.loop k).entry ≠ .corr then l
  else
    let out := l.tubeOut k n tub src
    if out.isEmpty then l.setSpecValid k true
    else
      let l := l.setObj (O.tubeViolMask k) (sumNat (out.map fun i => 2 ^ (tub + i)) % 2 ^ 32)
      (l.squash k 1).beginEntry k .full

/-- The leg voltages of PREP and COMMIT (R131): three words, or d and q at AR by the inverse transforms. -/
def LoopSt.legs (p : LoopSt) (dq : Bool) (src : Nat) : List Nat :=
  if dq then (List.range 3).map fun i => codeI 16 (roundRat (ofDq (p.rdI src) (p.rdI (src + 1)) (turnOf p.ar) i / 65536))
  else (List.range 3).map fun i => toQ15 (p.rdI (src + i))

/-- PREP (R147): the speculative set is written with VALID 0. -/
def Lane.prep (l : Lane) (k : Fin 9) (dq : Bool) (src : Nat) : Lane :=
  let u := (l.loop k).legs dq src
  (l.updLoop k fun p => { p with spec := u }).setSpecValid k false

/-- Half nanoseconds, rounded up to ticks of 4 ns. -/
def ticksUp (h : Int) : Nat := ((h + 7) / 8).toNat

/-- The instant of delivery of a commit that ends now, in half nanoseconds of lane time (R132): 25 ns after the last cycle. -/
def LoopSt.deliverH (p : LoopSt) : Nat := 2 * p.startAt + 5 * p.cyc + 50

/-- Does a commit delivered at an instant meet its deadline? (R152) -/
def Lane.commitInTime (l : Lane) (k : Fin 9) (h : Nat) : Bool :=
  let p := l.per .steer
  let c := ticksUp ((h : Int) - 2 * (l.loop k).reload)
  if k.val = 0 && l.rbit (Rg.pwmCtl .steer) 1 then meets c (p / 2) else meets c p

/-- COMMIT (R128, R131, R148, R151 to R153, R160): the legs' voltages go to the load group at the counter value of their
delivery, the shadow words are promoted, Y goes to E0, latency and a late commit are recorded. -/
def Lane.commitE1 (l : Lane) (k : Fin 9) (dq : Bool) (src : Nat) : Lane :=
  let p := l.loop k
  let st := loopStage k
  let u := p.legs dq src
  let h := p.deliverH
  let ok := l.commitInTime k h
  let l := l.commitVolts st (ceilDiv h 2) u
  let lat := min (ticksUp ((h : Int) - 2 * p.startAt + p.startH)) 0xFFFF
  let l := (l.setObj (O.commitLatLast k) lat).setObj (O.commitLatMax k) (max lat (l.obj (O.commitLatMax k)))
  let l := l.incIf (O.lateCommits k) (!ok)
  l.updLoop k fun p =>
    let q := p.promote
    { q with uCmd := u, yCopy := (List.range 24).map fun i => kvGet 0 q.win (0x28 + i), fresh := p.fresh || ok,
             commitNos := if ok && k = 0 then (l.smp.no :: p.commitNos).take 2 else p.commitNos,
             committed := true, inTime := p.inTime || ok, obRun := if ok then 0 else p.obRun }

/-- POST (R26, R134): the word goes to E1's mailbox to the engine, or is dropped and counted when that is full. -/
def Lane.postWord (l : Lane) (k : Fin 9) (eng src : Nat) : Lane :=
  if eng = 1 then l
  else if l.mbxFull 1 eng || (l.eng.held.any fun x => x.1 = 1 && x.2.1 = eng) then l.inc (O.postDrops k)
  else l.mbxSend 1 eng ((l.loop k).rd src)

/-- Cycles of an instruction (R132); an MVM takes its matrix's rows and columns. -/
def insCycles (m : List (Nat × Byte)) (k : Nat) : E1Ins → Nat
  | .endI => 2
  | .mvm _ _ mat _ _ => let d := matDesc m k mat.toNat; ceilDiv d.rows 4 * d.cols + 6
  | .vadd _ _ len _ _ => ceilDiv (len.val + 1) 4 + 3
  | .vsub _ len _ _ => ceilDiv (len.val + 1) 4 + 3
  | .sat len _ _ => ceilDiv (len.val + 1) 4 + 3
  | .lim mode len _ _ => if mode = 0 then ceilDiv (len.val + 1) 4 + 3 else 24
  | .sel _ _ len _ _ => ceilDiv (len.val + 1) 4 + 3
  | .ld mode len _ _ => if mode = 2 then 20 else ceilDiv (len.val + 1) 2 + 4
  | .st len _ _ => ceilDiv (len.val + 1) 2 + 4
  | .ldc .. => 4
  | .tube len _ _ => ceilDiv (len.val + 1) 4 + 4
  | .prep .. => 10
  | .commit .. => 10
  | .post .. => 3

/-- Cycles of an instruction of a loop's entry (R132, R147): 4 more for a TUBE that a channel fails, after which FULL starts. -/
def Lane.insCost (l : Lane) (k : Fin 9) (i : E1Ins) : Nat :=
  insCycles l.activeBank k i + match i with
    | .tube len tub src =>
      if (l.loop k).entry = .corr && !(l.tubeOut k (len.val + 1) tub.toNat src.toNat).isEmpty then 4 else 0
    | _ => 0

/-- E1 is running loops (R159). -/
def Lane.e1Runs (l : Lane) : Bool := l.rbit Rg.mxStat 0

/-- E1 runs its loops in the present sample: in Hold only where the sample number is a multiple of HOLD_DIV (R431, R432). -/
def Lane.e1Due (l : Lane) : Bool :=
  l.e1Runs && (decide (l.fld Rg.pwrStat 0 3 ≠ 1) || decide (l.smp.no % l.obj O.holdDiv = 0))

/-- Speculation is enabled: SPEC_EN as it stood at the last reload (R149, R158). -/
def Lane.specOn (l : Lane) : Bool := l.mx.spec

/-- Does a loop exist: the steering loop, or that of a brake drive of the variant (R2, R121)? -/
def Lane.loopExists (l : Lane) (k : Fin 9) : Bool := decide (k.val ≤ l.nDrives)

/-- END (R122, R131): the entry ends; a brake loop's SPEC follows its CORR or FULL at once, and then the loop is done. -/
def Lane.endEntry (l : Lane) (k : Fin 9) : Lane :=
  if decide (k ≠ 0) && decide ((l.loop k).entry ≠ .spec) && l.specOn then l.beginEntry k .spec
  else
    let l := l.updLoop k fun p => { p with entry := .none }
    { l with mx := { l.mx with cur := none, pc := none } }

/-- The operation of an instruction on a loop (R131). -/
def Lane.e1op (l : Lane) (k : Fin 9) : E1Ins → Lane
  | .endI => l.endEntry k
  | .mvm acc wb mat src dst => l.mvm k acc wb mat.toNat src.toNat dst.toNat
  | .vadd wrap copy len src dst =>
    if copy then l.updLoop k fun p => p.wrAll dst.toNat (p.vec src.toNat (len.val + 1))
    else l.vecOp k wrap (· + ·) (len.val + 1) src.toNat dst.toNat
  | .vsub wrap len src dst => l.vecOp k wrap (· - ·) (len.val + 1) src.toNat dst.toNat
  | .sat len sh dst => l.satVec k (len.val + 1) sh.val dst.toNat
  | .lim mode len bnd dst => l.limVec k mode.val (len.val + 1) bnd.toNat dst.toNat
  | .sel bit pol len src dst => l.selVec k bit.val pol (len.val + 1) src.toNat dst.toNat
  | .ld mode len slot dst => l.ldVec k mode.val (len.val + 1) slot.toNat dst.toNat
  | .st len src ps => l.stVec k (len.val + 1) src.toNat ps.toNat
  | .ldc tgt space a => l.ldc k tgt space a.toNat
  | .tube len tub src => l.tube k (len.val + 1) tub.toNat src.toNat
  | .prep dq src => l.prep k dq src.toNat
  | .commit dq src => l.commitE1 k dq src.toNat
  | .post eng src => l.postWord k eng.val src.toNat

/-- One instruction of the loop whose entry runs (R131, R132): its cycles pass, then its operation is done; with no entry
open there is nothing to do. -/
def Lane.e1 (l : Lane) (i : E1Ins) : Lane :=
  match l.mx.cur with
  | none => l
  | some k =>
    let c := l.insCost k i
    (l.updLoop k fun p => { p with cyc := p.cyc + c, cycEntry := p.cycEntry + c }).e1op k i

/-- Instruction index at which an entry begins (R137). -/
def entryIndex (m : List (Nat × Byte)) (k : Nat) : EntryKind → Nat
  | .none => 0
  | .corr => bankLE m (loopDesc k + 4) 2
  | .full => bankLE m (loopDesc k + 6) 2
  | .spec => bankLE m (loopDesc k + 8) 2

/-- The next instruction of an entry whose program stands in the bank; none where the word is no instruction (it cannot stand
in an eligible bank, R133). -/
def Lane.nextIns (l : Lane) : Option E1Ins :=
  match l.mx.cur, l.mx.pc with
  | some k, some i => decodeE1 (progWord l.activeBank k i)
  | _, _ => none

/-- One instruction of a program in the bank; a change of entry goes on at that entry (R122). -/
def Lane.stepProgram (l : Lane) (k : Fin 9) (pc : Nat) (i : E1Ins) : Lane :=
  let e := (l.loop k).entry
  let l := l.e1 i
  let e' := (l.loop k).entry
  if l.mx.cur.isNone then l
  else { l with mx := { l.mx with pc := some (if e = e' then pc + 1 else entryIndex l.activeBank k e') } }

/-- The instant at which E1 is free (R154): the end of what it has run, in nanoseconds rounded up. -/
def Lane.e1Free (l : Lane) : Nat := allLoops.foldl (fun m k => max m (ceilDiv (l.loop k).doneH 2)) 0

/-- Order among work that waits (R154): a steering run, then SPEC, then brake slots by their start. -/
def E1Due.before (a b : E1Due) : Bool :=
  let rank := fun (x : E1Due) => if x.loop ≠ 0 then 2 else b2n x.spec
  decide (rank a < rank b) || (decide (rank a = rank b) && decide (a.due ≤ b.due))

/-- The work to begin next (R154): at the instant at which E1 is free, the first in order of what has fallen due by then; where nothing
has, what falls due first. -/
def Lane.nextWork (l : Lane) : Option E1Due :=
  let ready := l.mx.waiting.filter fun w => decide (w.due ≤ l.e1Free)
  let pick := fun (f : E1Due → E1Due → Bool) (ws : List E1Due) =>
    ws.foldl (fun (m : Option E1Due) w => match m with | none => some w | some x => if f x w then some x else some w) none
  if ready.isEmpty then
    pick (fun a b => decide (a.due < b.due) || (decide (a.due = b.due) && a.before b)) l.mx.waiting
  else pick E1Due.before ready

/-- The first cause of a squash among those that a run finds (R149). -/
def firstCause (c : Nat) : Nat :=
  if bitOf c 0 then 3 else if bitOf c 1 then 2 else if bitOf c 2 then 4 else if bitOf c 3 then 5 else 0

/-- The entry that a run begins with, and its squash (R122, R149, R158): a pending cause forces FULL at once; with speculation off
every run is FULL, and no squash is counted but that of the first run after the write which turned it off. -/
def Lane.beginRun (l : Lane) (k : Fin 9) (start due : Nat) : Lane :=
  let c := (l.loop k).cause
  let cause := firstCause c
  let l := if cause ≠ 0 && (l.specOn || (l.loop k).specWas) then l.squash k cause
    else if l.specOn then l else l.updLoop k LoopSt.discard
  let e := if l.specOn && decide (cause = 0) then EntryKind.corr else EntryKind.full
  let from_ := if k = 0 then l.smp.reloadAt else due
  (l.updLoop k fun p => { p with specWas := l.specOn, cause := 0, cyc := 0, startH := 2 * (start - from_), startAt := start,
                                 committed := false }).beginEntry k e

/-- The steering SPEC begins (R122, R129, R154). -/
def Lane.beginSpec (l : Lane) (start : Nat) : Lane :=
  (l.updLoop 0 fun p => { p with startH := 2 * (start - l.smp.reloadAt), startAt := start, cyc := 0 }).beginEntry 0 .spec

/-- Work begins at an instant (R154): its program runs from the active bank, or its instructions come as commands where the bank
holds none for the loop (assumption log 5). -/
def Lane.beginWork (l : Lane) (w : E1Due) (start : Nat) : Lane :=
  let k := w.loop
  let l := { l with mx := { l.mx with waiting := l.mx.waiting.filter fun x => x ≠ w } }
  let l := if w.spec then l.beginSpec start else l.beginRun k start w.due
  let pc := if loopPresent l.activeBank k then some (entryIndex l.activeBank k (l.loop k).entry) else none
  { l with mx := { l.mx with cur := some k, pc := pc } }

/-- What E1 does next no later than an instant (R132, R154): the instruction of the open entry that ends by then, or the work that
begins by then while no entry is open. -/
def Lane.e1Turn (l : Lane) (t : Nat) : Option Lane :=
  match l.mx.cur, l.mx.pc, l.nextIns with
  | some k, some pc, some i =>
    if (l.loop k).doneH + 5 * l.insCost k i ≤ 2 * t then some (l.stepProgram k pc i) else none
  | none, _, _ => match l.nextWork with
    | some w => let start := max w.due l.e1Free; if start ≤ t then some (l.beginWork w start) else none
    | none => none
  | _, _, _ => none

/-- Everything that E1 does up to an instant. -/
def Lane.e1Turns (t : Nat) : Nat → Lane → Lane
  | 0, l => l
  | f + 1, l => match l.e1Turn t with
    | some l => Lane.e1Turns t f l
    | none => l

/-- E1 runs up to an instant; an instruction takes at least 2 cycles, so the bound is not reached within a second. -/
def Lane.e1Until (l : Lane) (t : Nat) : Lane := l.e1Turns t 200000000

/-- A command of a lane that E1 has run up to. -/
def onE1 (l : LaneId) (t : Nat) (s : State) (f : Lane → Lane) : Host.Outcome State Fault Refusal :=
  onLaneAt l t s fun x => f (x.e1Until x.now)

/-- A run of a loop falls due (R147, R149, R152, R153): VALID goes; a run of the loop that has reached neither COMMIT nor END is
abandoned, which is a squash with cause STALE; the run owes its commit. -/
def Lane.runDue (l : Lane) (k : Fin 9) (due : Nat) : Lane :=
  let p := l.loop k
  let was := l.mx.waiting.any fun w => w.loop = k
  let stale := was || decide (p.entry = .spec) || (!p.committed && (decide (p.entry ≠ .none) || !p.shw.isEmpty))
  let l := l.setSpecValid k false
  let l := l.updLoop k fun p =>
    { p with entry := .none, cause := if stale then p.cause ||| 8 else p.cause, reload := l.smp.reloadAt, inTime := false, owes := true,
             postedBy := if k = 0 then p.postedBy else [] }
  { l with mx := { l.mx with
      waiting := (l.mx.waiting.filter fun w => w.loop ≠ k) ++ [⟨k, false, due⟩]
      cur := if l.mx.cur = some k then none else l.mx.cur
      pc := if l.mx.cur = some k then none else l.mx.pc } }

/-- Step 5 of R29: the captures are handed over 0.3 µs after the reload and the steering run begins; VALID goes at every reload
(R147). SPEC_EN as written since the last reload is in force from here, with the CONFIG causes that waited (R149, R158), and no commit of
this sample has been made (R161). -/
def Lane.steeringRun (l : Lane) : Lane :=
  let l := l.mx.config.foldl (fun (l : Lane) k => l.updLoop (Fin.ofNat 9 k) fun p => { p with cause := p.cause ||| 4 }) l
  let l := { l with mx := { l.mx with spec := l.rbit Rg.mxCtl 1, config := [] } }
  let l := l.updLoop 0 fun p => { p with fresh := false }
  if l.e1Due then (l.runDue 0 (l.smp.reloadAt + 300)).e1Until (l.smp.reloadAt + 300) else l.setSpecValid 0 false

/-- Is a brake loop's slot due at an instant (R137): in a sample whose number modulo SLOT_DIV is SLOT_PHASE, SLOT_START ticks after
the reload? A loop for which the bank holds no program has no slot of its own, and its commands place it (assumption log 5). -/
def Lane.slotDue (l : Lane) (k : Fin 9) : Bool :=
  let m := l.activeBank
  let div := bankLE m (loopDesc k + 0x16) 1
  !loopPresent m k || (decide (div ≠ 0) && decide (l.smp.no % div = bankLE m (loopDesc k + 0x17) 1)
    && decide ((l.now - l.smp.reloadAt) / 4 = bankLE m (loopDesc k + 0x14) 2))

/-- The slot of a brake loop of the variant (R121, R137, R147, R154): its run falls due, and begins once E1 is free. -/
def Lane.brakeRun (l : Lane) (k : Fin 9) : Lane :=
  if !l.loopExists k || !l.slotDue k then l
  else if l.e1Due then (l.runDue k l.now).e1Until l.now else l.setSpecValid k false

/-- SPEC (R122, R154): the steering SPEC falls due and begins once E1 is free, before any waiting slot. With speculation off it has
nothing to prepare (assumption log 114). -/
def execSpec (l : LaneId) (t : Nat) (s : State) : Host.Outcome State Fault Refusal :=
  onE1 l t s fun x =>
    if x.e1Due && x.specOn then
      ({ x with mx := { x.mx with waiting := x.mx.waiting ++ [E1Due.mk 0 true x.now] } }).e1Until x.now
    else x

/-- LG_CANCEL (R232): both pending sets are discarded, a set that is complete by then among them. -/
def execLgCancel (l : LaneId) (stage : Stage) (s : State) : Host.Outcome State Fault Refusal :=
  onLane l s fun x => ((x.e1Until x.now).settle stage x.now).updStg stage fun g => { g with pendNow := none, pendNext := none }

/-- PWM_EN (R5, R231, R246): a write of EN; its rise and its fall act. No engine of a lane that has not started raises it. -/
def execPwmEn (l : LaneId) (stage : Stage) (en : Bool) (t : Nat) (s : State) : Host.Outcome State Fault Refusal :=
  onE1 l t s fun x =>
    let x := x.settle stage x.now
    if en = x.rbit (Rg.pwmCtl stage) 0 || (en && !x.started) then x else if en then x.enRise stage else x.enFall stage

/-- ENG_RESET (R454, R457, R470): mailboxes, notices and the kick window of the engine start afresh. -/
def execEngReset (l : LaneId) (e : Fin 8) (t : Nat) (s : State) : Host.Outcome State Fault Refusal :=
  onE1 l t s fun x =>
    if ownedEngine e then
      let x := ((x.mbxAbortAll e).setReg (Rg.mbxNote e) 0).setReg (Rg.mbxIe e) 0
      { x with eng := { x.eng with kickAt := x.eng.kickAt.set e none, relAt := x.eng.relAt.set e x.now } }
    else x

/-- MID_PERIOD_POINT (R229, R237): E1's commits up to the point take their place. -/
def execMidPeriodPoint (l : LaneId) (stage : Stage) (t : Nat) (s : State) : Host.Outcome State Fault Refusal :=
  onE1 l t s fun x => x.midPoint stage

/-- SOURCE_ASSERTED (R157, R301): a reserved source never asserts (R300). An entry that E1 has ended by then keeps its commit. -/
def execSourceAsserted (l : LaneId) (src : BitVec 8) (data : BitVec 32) (vTermAbove : Bool) (sp : RailSpan) (s : State) :
    Host.Outcome State Fault Refusal :=
  onE1 l sp.t s fun x =>
    let x := x.seeTerminals vTermAbove
    if listedSource src.toNat then x.sourceReads src.toNat data.toNat sp.till else x

/-- MVM (R125). -/
def execMvm (l : LaneId) (acc wb : Bool) (mat src dst : BitVec 8) (s : State) : Host.Outcome State Fault Refusal :=
  onLane l s fun x => x.e1 (.mvm acc wb mat src dst)
/-- VADD (R126). -/
def execVadd (l : LaneId) (wrap copy : Bool) (len : Fin 32) (src dst : BitVec 8) (s : State) :
    Host.Outcome State Fault Refusal := onLane l s fun x => x.e1 (.vadd wrap copy len src dst)
/-- VSUB (R126). -/
def execVsub (l : LaneId) (wrap : Bool) (len : Fin 32) (src dst : BitVec 8) (s : State) :
    Host.Outcome State Fault Refusal := onLane l s fun x => x.e1 (.vsub wrap len src dst)
/-- SAT (R126, R131). -/
def execSat (l : LaneId) (len : Fin 32) (k : Fin 16) (dst : BitVec 8) (s : State) :
    Host.Outcome State Fault Refusal := onLane l s fun x => x.e1 (.sat len k dst)
/-- LIM (R131). -/
def execLim (l : LaneId) (mode : Fin 4) (len : Fin 32) (bnd dst : BitVec 8) (s : State) :
    Host.Outcome State Fault Refusal := onLane l s fun x => x.e1 (.lim mode len bnd dst)
/-- SEL (R131). -/
def execSel (l : LaneId) (bit : Fin 16) (pol : Bool) (len : Fin 32) (src dst : BitVec 8) (s : State) :
    Host.Outcome State Fault Refusal := onLane l s fun x => x.e1 (.sel bit pol len src dst)
/-- LD (R129, R131). -/
def execLd (l : LaneId) (mode : Fin 4) (len : Fin 32) (slot dst : BitVec 8) (s : State) :
    Host.Outcome State Fault Refusal := onLane l s fun x => x.e1 (.ld mode len slot dst)
/-- ST (R130). -/
def execSt (l : LaneId) (len : Fin 32) (src pslot : BitVec 8) (s : State) : Host.Outcome State Fault Refusal :=
  onLane l s fun x => x.e1 (.st len src pslot)
/-- LDC (R131). -/
def execLdc (l : LaneId) (tgt space : Bool) (addr : BitVec 8) (s : State) : Host.Outcome State Fault Refusal :=
  onLane l s fun x => x.e1 (.ldc tgt space addr)
/-- TUBE (R148); after a failure a program in the bank goes on with FULL. -/
def execTube (l : LaneId) (len : Fin 32) (tub src : BitVec 8) (s : State) : Host.Outcome State Fault Refusal :=
  onLane l s fun x => x.e1 (.tube len tub src)
/-- PREP (R147). -/
def execPrep (l : LaneId) (dq : Bool) (src : BitVec 8) (s : State) : Host.Outcome State Fault Refusal :=
  onLane l s fun x => x.e1 (.prep dq src)
/-- COMMIT (R128). -/
def execCommit (l : LaneId) (dq : Bool) (src : BitVec 8) (s : State) : Host.Outcome State Fault Refusal :=
  onLane l s fun x => x.e1 (.commit dq src)
/-- POST (R134). -/
def execPost (l : LaneId) (eng : Fin 8) (src : BitVec 8) (s : State) : Host.Outcome State Fault Refusal :=
  onLane l s fun x => x.e1 (.post eng src)
/-- END (R131, R154): work that waits begins. -/
def execEndEntry (l : LaneId) (s : State) : Host.Outcome State Fault Refusal :=
  onLane l s fun x => let x := x.e1 .endI; x.e1Until (max x.now x.e1Free)

/-- Source of an overburden error (R152, R300). -/
def overburdenSrc (k : Fin 9) : Nat := if k.val = 0 then 0x10 else 0x20 + (k.val - 1)

/-- OVERBURDEN (R152): no commit of a run has met its deadline; at the next update point of the stage the speculative set with VALID
transfers, a fallback, or the active set is kept, a hold (`overPoint`). The third in a row is an error. A run has one. -/
def execOverburden (l : LaneId) (loop : Fin 9) (t : Nat) (s : State) : Host.Outcome State Fault Refusal :=
  onE1 l t s fun x =>
    let p := x.loop loop
    if !x.loopExists loop || !p.owes || p.inTime then x
    else
      let x := (x.inc (O.overburdens loop)).updStg (loopStage loop) fun g =>
        { g with atPoint := some (if p.specValid then some p.spec else none) }
      let run := p.obRun + 1
      let x := x.updLoop loop fun p => { p with owes := false, obRun := if run = 3 then 0 else run }
      x.raiseIf (run = 3) (overburdenSrc loop) (if p.specValid then 2 else 1)

/-- MX_RUN (R5, R144, R159): RUN starts or stops E1's loops; at a start each axis holds the bin of its value. A lane that has not
started runs none. -/
def execMxRun (l : LaneId) (run : Bool) (t : Nat) (s : State) : Host.Outcome State Fault Refusal :=
  onE1 l t s fun x =>
    if run && !x.started then x else
    let fresh := run && !x.rbit Rg.mxCtl 0
    let x := (x.setRbit Rg.mxCtl 0 run).setRbit Rg.mxStat 0 run
    let x := if fresh || !run then
        allLoops.foldl (fun x k => x.updLoop k fun p => { p with started := false, entry := .none, committed := true, owes := false }) x
      else x
    if run then x else { x with mx := { x.mx with cur := none, pc := none, waiting := [] } }

/-- A CONFIG cause of a loop waits for the next reload (R149, R158). -/
def Lane.configCause (l : Lane) (k : Nat) : Lane := { l with mx := { l.mx with config := insertAsc k l.mx.config } }

/-- SPEC_EN (R149, R158, R160): written in the object and the register; a CONFIG squash at the next reload. -/
def Lane.writeSpecEn (l : Lane) (en : Bool) : Lane :=
  allLoops.foldl (fun (l : Lane) (k : Fin 9) => l.configCause k) ((l.setRbit Rg.mxCtl 1 en).setFlag O.specEnable en)

/-- SPEC_EN. -/
def execSpecEn (l : LaneId) (en : Bool) (t : Nat) (s : State) : Host.Outcome State Fault Refusal :=
  onLaneAt l t s fun x => x.writeSpecEn en

/-- BENCH_FORCE (R146): in Assembly and Workshop a block from 0 to 63, or 0xFF to release, which squashes with CONFIG from the next
reload (R149). -/
def Lane.writeBenchForce (l : Lane) (k : Fin 9) (v : Nat) : Lane :=
  let lc := l.obj O.lcStateObj
  if (lc = 1 || lc = 4) && (decide (v < 64) || v = 255) then
    let release := decide (v = 255) && decide (l.obj (O.benchForce k) ≠ 255)
    let l := l.setObj (O.benchForce k) v
    if release then l.configCause k else l
  else l

/-- BENCH_FORCE (R146), of a loop that exists (R3). -/
def execBenchForce (l : LaneId) (loop : Fin 9) (v : BitVec 8) (t : Nat) (s : State) : Host.Outcome State Fault Refusal :=
  onLaneAt l t s fun x => if x.loopExists loop then x.writeBenchForce loop v.toNat else x

/-- The bin that contains a value among rising thresholds (R144). -/
def binOf (thr : List Int) (v : Int) : Nat := (thr.filter fun b => b ≤ v).length

/-- The bin kept while the value stays within it and its hysteresis, else the bin that contains the value (R144). -/
def keepBin (thr : List Int) (hys v : Int) (i : Nat) : Nat :=
  let lowOk := match i with | 0 => true | j + 1 => decide (thr.getD j 0 - hys ≤ v)
  let highOk := decide (thr.length ≤ i) || decide (v < thr.getD i 0 + hys)
  if lowOk && highOk && decide (i ≤ thr.length) then i else binOf thr v

/-- An axis of a bench table (R143): source slot, magnitude, unsigned, thresholds, hysteresis. -/
structure Axis where
  src : Nat
  mag : Bool
  uns : Bool
  thr : List Int
  hys : Int
deriving DecidableEq, Repr

/-- A slot value under the axis's slot format (R143). -/
def axisVal (uns : Bool) (v : Nat) : Int := if uns then (v : Int) else toI 16 v

/-- Axis a of a loop's bench table (R143): thresholds and hysteresis are signed, whatever the slot's format. -/
def axisOf (m : List (Nat × Byte)) (k a : Nat) : Axis :=
  let f := benchByte m k (2 * a + 1)
  let uns := bitOf f 1
  let base := [0x08, 0x18, 0x20].getD a 0
  let n := [7, 3, 1].getD a 0
  { src := benchByte m k (2 * a), mag := bitOf f 0, uns := uns,
    thr := (List.range n).map fun i => toI 16 (benchI16 m k (base + 2 * i)),
    hys := toI 16 (benchI16 m k (base + 2 * n)) }

/-- The value of an axis: its slot, signed or unsigned, as a magnitude where the flags say so (R143, R144). A source of 64 or more names
no slot of the loop; it reads slot 64 k + AXIS_SRC of the lane (assumption log 115, DESIGN CHOICE). -/
def Lane.axisValue (l : Lane) (k : Nat) (x : Axis) : Int :=
  let v := axisVal x.uns (l.slot (64 * k + x.src))
  if x.mag then (v.natAbs : Int) else v

/-- The bench selector of a loop at a reload (R144 to R146): bins, cell and block; a block that changes is a bench change. -/
def Lane.selectBench (l : Lane) (k : Fin 9) : Lane :=
  let m := l.activeBank
  let r := Rg.bselLoop k
  let olds := [l.fld r 14 3, l.fld r 17 2, l.fld r 19 1]
  let bins := (List.range 3).map fun a =>
    let x := axisOf m k a
    let v := l.axisValue k x
    keepBin x.thr x.hys v (if (l.loop k).started then nth olds a else binOf x.thr v)
  let cell := nth bins 0 + 8 * nth bins 1 + 32 * nth bins 2
  let force := l.obj (O.benchForce k)
  let block := if force = 255 then benchByte m k (0x40 + cell) % 64 else force % 64
  let changed := decide (block ≠ l.blockOf k) && (l.loop k).started
  let w := cell + 256 * block + 2 ^ 14 * nth bins 0 + 2 ^ 17 * nth bins 1 + 2 ^ 19 * nth bins 2
    + 2 ^ 20 * b2n (decide (force ≠ 255)) + 2 ^ 21 * b2n changed
  let l := l.setReg r w
  l.updLoop k fun p => { p with started := true, cause := if changed then p.cause ||| 2 else p.cause }

/-- Step 4 of R29: the bench selector of every loop of the variant, while E1 runs (R121). -/
def Lane.selectBenches (l : Lane) : Lane :=
  if l.e1Runs then (allLoops.filter l.loopExists).foldl Lane.selectBench l else l

/-- PERIOD_TICKS of a bank (R137). -/
def bankPeriod (m : List (Nat × Byte)) : Nat := bankLE m 0xC 2

/-- Does the reload at which a sample starts take the pending swap? (R140, R158) -/
def Lane.swapDue (l : Lane) : Bool :=
  match l.mx.swap with
  | none => false
  | some (_, tgt) =>
    decide (l.mx.swapAt + 32 ≤ l.smp.reloadAt)
      && (match tgt with | none => true | some s => decide ((l.smp.no + (2 ^ 32 - s)) % 2 ^ 32 < 2 ^ 31))

/-- A new steering period makes the lane align its reload again before it drives (R27, R141). -/
def Lane.realignReload (l : Lane) : Lane := { l with smp := { l.smp with realign := true } }

/-- The swap itself (R141, R142): banks change places with their eligibility, every loop is squashed with BANK at its next run, and
the steering period is the new bank's. -/
def Lane.applySwap (l : Lane) : Lane :=
  let l := l.setRbit Rg.mxStat 1 (!l.bank1Active)
  let l := (l.setRbit Rg.mxStat 3 l.standbyEligible).setRbit Rg.mxStat 2 false
  let l := l.setObj O.standbyState (if l.standbyEligible then 2 else 0)
  let l := { l with mx := { l.mx with swap := none } }
  let p := bankPeriod l.activeBank
  let l := if p = l.per .steer then l
    else ((l.setFld (Rg.pwmPerAct .steer) 0 16 p).setFld (Rg.pwmPerSh .steer) 0 16 p).realignReload
  let l := (l.setObj O.swapResult 0xFF).setObj O.swapSampleDone l.smp.no
  allLoops.foldl (fun l k => l.updLoop k fun q => { q with cause := q.cause ||| 1 }) l

/-- Step 3 of R29: a pending swap whose sample starts is applied, or refused when the bank is not eligible, or changes the
period while a steering stage of the module drives (R140 to R142). `fits`: the schedule of the bank fits its period (R155). -/
def Lane.swapStep (l : Lane) (fits moduleDrives : Bool) : Lane :=
  if l.swapDue then
    if !l.standbyEligible || !fits then l.refuseSwap 2
    else if decide (bankPeriod l.standbyBank ≠ bankPeriod l.activeBank) && moduleDrives then l.refuseSwap 3
    else l.applySwap
  else l

/-- A swap request becomes pending (R140). While another one is pending it takes its place (assumption log 116, DESIGN CHOICE). -/
def Lane.requestSwap (l : Lane) (host : Bool) (tgt : Option Nat) : Lane :=
  ({ l with mx := { l.mx with swap := some (host, tgt), swapAt := l.now } }).setRbit Rg.mxStat 2 true

/-- SWAP_REQUEST as a lane applies it at t5 of sample S_c (R140): 0 is the earliest sample; fewer than 16 samples away is
refused with "too late". -/
def Lane.swapRequest (l : Lane) (target : Nat) : Lane :=
  let d := (target + (2 ^ 32 - l.smp.no)) % 2 ^ 32
  if target = 0 then l.requestSwap true (some ((l.smp.no + 16) % 2 ^ 32))
  else if d < 16 ∨ 2 ^ 31 ≤ d then
    (l.setFld Rg.mxStat 8 8 1).setObj O.swapResult 1
  else l.requestSwap true (some target)

/-- SWAP_REQUEST (R140). -/
def execSwapRequest (l : LaneId) (target : BitVec 32) (t : Nat) (s : State) : Host.Outcome State Fault Refusal :=
  onLaneAt l t s fun x => x.swapRequest target.toNat

/-- MX_SWAP_REQ (R140, R159): E0's own request, for the sample in MX_SWAP_SAMPLE, or for the next reload where that is 0. -/
def execMxSwapReq (l : LaneId) (t : Nat) (s : State) : Host.Outcome State Fault Refusal :=
  onLaneAt l t s fun x =>
    let g := x.reg Rg.mxSwapSample
    x.requestSwap false (if g = 0 then none else some g)

/-- MX_SWAP_CANCEL (R159): a pending swap is cancelled. -/
def execMxSwapCancel (l : LaneId) (t : Nat) (s : State) : Host.Outcome State Fault Refusal :=
  onLaneAt l t s fun x => ({ x with mx := { x.mx with swap := none } }).setRbit Rg.mxStat 2 false

/-- COEF_STANDBY_IMAGE (R138, R158): bytes of the standby bank. -/
def execCoefStandbyImage (l : LaneId) (off : Nat) (data : List Byte) (t : Nat) (s : State) :
    Host.Outcome State Fault Refusal :=
  onLaneAt l t s fun x => x.writeStandby off data

/-- COEF_STANDBY_CHECK (R139): 1 starts the check of the standby bank. -/
def execCoefStandbyCheck (l : LaneId) (v : BitVec 8) (t : Nat) (s : State) : Host.Outcome State Fault Refusal :=
  onLaneAt l t s fun x =>
    if v = 1 then ({ x with mx := { x.mx with checking := true, modified := false } }).setObj O.standbyState 1 else x

/-- The count stored for an entry in its loop descriptor (R137). -/
def storedCycles (m : List (Nat × Byte)) (k : Nat) : EntryKind → Nat
  | .none => 0
  | .corr => bankLE m (loopDesc k + 0xC) 2
  | .full => bankLE m (loopDesc k + 0x10) 2
  | .spec => bankLE m (loopDesc k + 0x12) 2

/-- Cycles since the open entry of a loop began: by the clock where its program stands in the bank, else those of its commands. -/
def Lane.entryCycles (l : Lane) (k : Fin 9) : Nat :=
  let p := l.loop k
  if l.mx.pc.isSome then (2 * l.now - 2 * p.startAt) / 5 - (p.cyc - p.cycEntry) else p.cycEntry

/-- Has the open entry run 32 cycles beyond the count stored for it? (R455) -/
def Lane.e1Late (l : Lane) : Bool :=
  match l.mx.cur with
  | none => false
  | some k => decide (storedCycles l.activeBank k (l.loop k).entry + 32 ≤ l.entryCycles k)

/-- WATCHDOG_TRIP (R455): no kick within 2 ms, or an E1 entry 32 cycles beyond its count. -/
def execWatchdogTrip (l : LaneId) (e : Fin 8) (t : Nat) (s : State) : Host.Outcome State Fault Refusal :=
  onE1 l t s fun x => if (if e = 1 then x.e1Late else x.kickLate e) then x.wdogTrip e else x

/-- A corrected word of E1's memories takes one cycle of the entry that runs (R132, R158): its data windows and the active bank (R459). -/
def Lane.stallE1 (l : Lane) (mem : Nat) : Lane :=
  match l.mx.cur with
  | some k =>
    if mem = 3 || mem = (if l.bank1Active then 0xC else 0xB) then
      l.updLoop k fun p => { p with cyc := p.cyc + 1, cycEntry := p.cycEntry + 1 }
    else l
  | none => l

/-- Is a word corrected by its read? (R458) -/
def isSingle : WordError → Bool
  | .single _ => true
  | _ => false

/-- Does a word of a memory belong to a loop: to its data window, or in the active bank to its program, its bench block in force or its
descriptors (R135, R157, R459; assumption log 143)? -/
def Lane.wordOfLoop (l : Lane) (k : Fin 9) (mem addr : Nat) : Bool :=
  let a := addr % 0x400000
  let inside := fun (base size : Nat) => decide (base ≤ a) && decide (a < base + size)
  if mem = 3 then decide (addr % 0x4000 / 0x400 = k.val)
  else decide (mem = (if l.bank1Active then 0xC else 0xB)) && (inside (loopDesc k) 64 || inside (0x400 + 256 * k.val) 256
    || inside (0x2000 + 2048 * k.val) 2048 || inside (blockBase k (l.blockOf k)) (if k = 0 then 0x4000 else 0x800))

/-- An error in a word that cannot be corrected (R157, R458): of the loop whose entry runs, which it ends, source 0x05; otherwise
0x04. -/
def Lane.uncorrectable (l : Lane) (mem addr : Nat) : Lane :=
  let other := l.raise 0x04 (mem + 256 * (addr / 4 % 2 ^ 24))
  match l.mx.cur with
  | some k => if l.wordOfLoop k mem addr then (l.endE1 k.val).raise 0x05 (k.val + 256 * (addr / 4 % 2 ^ 24)) else other
  | none => other

/-- SCRUB (R157, R458, R460): a corrected bit is counted; a word corrected in each of 3 passes is a stuck bit; an error that
cannot be corrected raises its source; the scrubber of a stopped island rests. -/
def execScrub (l : LaneId) (mem : Fin 16) (addr : BitVec 32) (e : WordError) (t : Nat) (s : State) :
    Host.Outcome State Fault Refusal :=
  onE1 l t s fun x =>
    let k := mem.val * 2 ^ 32 + addr.toNat
    if !isMemory mem || x.memStopped mem then x
    else
      let x := x.scrubPass mem.val addr.toNat
      let x := if isSingle e then x.stallE1 mem else x
      match e with
      | .none => { x with eng := { x.eng with scrub := kvDel k x.eng.scrub } }
      | .uncorrectable => x.uncorrectable mem.val addr.toNat
      | .single bit =>
        let run := kvGet 0 x.eng.scrub k + 1
        let x := (x.countCorrected mem).setObj O.memLastCorr (mem.val * 2 ^ 56 + bit.toNat * 2 ^ 48 + addr.toNat)
        ({ x with eng := { x.eng with scrub := kvPut k (min run 4) x.eng.scrub } }).incIf O.memStuck (decide (run = 3))

/-- MAILBOX_TAKE (R26, R456, R457): the receiver takes the word; any other engine, and an empty mailbox, read 0. An engine whose island is
stopped reads nothing. -/
def execMailboxTake (l : LaneId) (src d reader : Fin 8) (t : Nat) (s : State) : Host.Outcome State Fault Refusal :=
  onE1 l t s fun x =>
    if x.islandStopped reader then x
    else if reader = d && decide (src ≠ d) && x.mbxFull src d then
      ({ x with bus := x.reg (Rg.mbxData src d) }).mbxEmpty src d false
    else { x with bus := 0 }

/-- The stages that drive with their driver enable cleared cease driving (R95, R268). -/
def Lane.ceaseDisabled (l : Lane) : Lane :=
  allStages.foldl (fun (l : Lane) st => if (l.stg st).driving && !l.rbit Rg.gdCtl (stageIx st) then l.ceaseStage st else l) l

/-- E0 writes SRC and EN of COLL_INJ (R308, R309, R314): a write that selects source 0x00 to inject is refused, and changes neither. Whether
the injection is seen, no command says. -/
def Lane.writeInjection (l : Lane) (me : LaneId) (v : Nat) : Lane :=
  let src := bits v 0 8
  let en := bitOf v 8
  if en && decide (src = 0) then l
  else l.setInjection src en (Config.injData src l.now) (Config.railSeen (laneNo me) src l.now)

/-- REGISTER_WRITE (R7 to R9, R451): accepted from the engines of the block only; a word of a local memory or of the standby
bank is stored least significant byte first, and the active bank cannot be written (R138). While the gate-power latch is set the
driver enables stay 0 (R263); a stage whose enable is cleared ceases driving (R95, R268). -/
def execRegisterWrite (l : LaneId) (eng : Fin 8) (addr : BitVec 32) (v hwSet : BitVec 32) (t : Nat) (s : State) :
    Host.Outcome State Fault Refusal :=
  onE1 l t s fun x =>
    let a := addr.toNat
    if !decide (eng.val ∈ writers a) || eng = 1 then x.busRefuse
    else if a < 0x18000000 then
      if a / 4 * 4 + 4 ≤ memTop a then
        { x with eng := { x.eng with mem := memWriteAll x.eng.mem (a / 4 * 4) (bytesLE 4 v.toNat) } }
      else x.busRefuse
    else if 0x50000000 ≤ a then
      if x.inActive a then x.busRefuse else x.writeStandby (a % 0x400000 / 4 * 4) (bytesLE 4 v.toNat)
    else match regAt a with
      | some r =>
        let x := (x.setReg r (writeWord r (x.reg r) v.toNat hwSet.toNat)).markShadow a
        let x := if x.gateCut then x.setFld Rg.gdCtl 0 9 0 else x
        if r.addr = Rg.gdCtl.addr then x.ceaseDisabled
        else if r.addr = Rg.collInj.addr then x.writeInjection l v.toNat else x
      | none => x

/-- READ_CLEAR_REGISTER (R7, R9, R451, R454): a read returns the word with what the hardware sets in the same cycle and clears the
RC bits; a read of LANE_TIME_LO latches LANE_TIME_HI; a word that is no register's is read as it stands; outside the map
the read is refused. -/
def execReadClearRegister (l : LaneId) (addr : BitVec 32) (hwSet : BitVec 32) (t : Nat) (s : State) :
    Host.Outcome State Fault Refusal :=
  onE1 l t s fun x =>
    let a := addr.toNat
    if a = (Rg.laneTime false).addr then
      ({ x with bus := x.now % 2 ^ 32 }).setReg (Rg.laneTime true) (x.now / 2 ^ 32)
    else if a = (Rg.laneTime true).addr then { x with bus := x.reg (Rg.laneTime true) }
    else match regAt a with
      | some r =>
        let x := allStages.foldl (fun (x : Lane) st => x.settle st x.now) x
        let w := x.regView r ||| (hwSet.toNat &&& r.rc)
        let x := { x with bus := w }
        if r.rc = 0 then x else x.setReg r (x.reg r &&& (0xFFFFFFFF ^^^ r.rc))
      | none => if readable a then { x with bus := x.wordAt a } else ({ x with bus := 0 }).busRefuse

end Sys2Proof.Machine
end

