-- ==== Sys2Proof/Machine/Security.lean ====
section
/-!
DEFINITION. Signed formats (R389 to R396): the Unit Number in force, signatures, certificates, images and rollback
counters.
-/
namespace Sys2Proof.Machine

/-- `n` bytes at an offset as a number, most significant byte first (R14). -/
def be (b : List Byte) (off n : Nat) : Nat := ofBytesBE ((b.drop off).take n)

/-- `n` bytes at an offset. -/
def slice (b : List Byte) (off n : Nat) : List Byte := (b.drop off).take n

/-- Are `n` bytes at an offset all zero? -/
def zeros (b : List Byte) (off n : Nat) : Bool := (slice b off n).all fun x => x = 0

/-- The Unit Number in force: 0x3FFFF where the lane has no valid enrolment (R393). -/
def Lane.unitNo (l : Lane) : Nat := if l.obj O.enrolState = 1 then l.obj O.unitNumber % 2 ^ 18 else 0x3FFFF

/-- A signature over bytes, under a context of R389. -/
def sigOk (key signed : List Byte) (ctx : String) (sig : List Byte) : Bool :=
  Config.mlDsaVerify key (sha3 signed) (ascii ctx) sig

/-- A signature by the identity key of a lane over a digest, 2,420 bytes (R387, R389). -/
def laneSign (me : LaneId) (digest : List Byte) (ctx : String) : List Byte :=
  padTo 2420 (Config.mlDsaSign (laneNo me) digest (ascii ctx))

/-- The number of a lane's next draw of random numbers: the lanes draw apart. -/
def Lane.drawNo (l : Lane) (me : LaneId) : Nat := 4 * l.ka.draws + laneNo me

/-- 32 bytes of E7's random number generator, conditioned through SHA3-256 (R388). -/
def Lane.random32 (l : Lane) (me : LaneId) : List Byte := sha3 (Config.trng (l.drawNo me))

/-- ROOT_KEY: the Rhoust root public key, 1,312 bytes (R387). -/
def rootKey : List Byte := padTo 1312 Config.rootKey

/-- MODULE_SERIAL: 12 characters (R386). -/
def moduleSerial : List Byte := padTo 12 Config.moduleSerial

/-- CARTRIDGE_SERIAL: 12 characters (R386), of the cartridge with which the lane was made or of one fitted since. -/
def Lane.cartridgeSerial (l : Lane) (me : LaneId) : List Byte :=
  padTo 12 (if l.oct O.cartridgeSerial = [] then Config.cartridgeSerial (laneNo me) else l.oct O.cartridgeSerial)

/-- The header of a certificate: MAGIC, LAYOUT, KIND and the reserved byte (R390, R391). -/
def certHead (b : List Byte) (kind : Nat) : Bool :=
  decide (be b 0 4 = 0x534B4345) && decide (be b 4 2 = 1) && decide (be b 6 1 = kind) && zeros b 7 1

/-- Does the lane accept an identity certificate? (R390, R392) -/
def Lane.idCertOk (l : Lane) (me : LaneId) (b : List Byte) : Bool :=
  decide (b.length = 3804) && certHead b 1 && decide (slice b 0x18 12 = l.cartridgeSerial me) && zeros b 0x24 4
  && decide (slice b 0x28 32 = sha3 rootKey) && decide (slice b 0x48 1312 = l.oct O.idPublicKey)
  && sigOk rootKey (b.take 0x568) "SKT3-CERT" (slice b 0x568 2420)

/-- Does the lane accept an enrolment certificate? (R391, R392) -/
def Lane.enrolOk (l : Lane) (me : LaneId) (b : List Byte) : Bool :=
  decide (b.length = 2612) && certHead b 2 && decide (be b 0x18 4 ≤ 0x3FFFE)
  && decide (slice b 0x1C 12 = moduleSerial)
  && decide (l.oct O.fleetCaKey ≠ []) && decide (slice b 0x28 32 = sha3 (l.oct O.fleetCaKey))
  && decide (slice b (0x48 + 32 * (laneNo me - 1)) 32 = sha3 (l.oct O.idPublicKey)) && zeros b 0xA8 24
  && sigOk (l.oct O.fleetCaKey) (b.take 0xC0) "SKT3-CERT" (slice b 0xC0 2420)

/-- A rollback counter (R398). -/
def Lane.rollback (l : Lane) (kind : Nat) : Nat := bits (l.obj O.rollbackCounters) (32 * (3 - kind)) 32

/-- Is LENGTH allowed for an image type, and equal to the bytes at hand? (R394, R395) -/
def imgLenOk (ty len : Nat) (content : List Byte) : Bool :=
  decide (content.length = len)
  && (match ty with | 1 => decide (len ≤ 6291456) | 2 => decide (len = 2158592) | _ => decide (len ≤ 262144))

/-- The code of R396 that verifying an image ends with; 0 is a pass. The bank serial is that of the content of a bank. -/
def Lane.verifyImage (l : Lane) (me : LaneId) (ty : Nat) (m content : List Byte) (bankSerial : Nat) : Nat :=
  let target := be m 0x18 4 % 2 ^ 18
  let key := if be m 7 1 ≤ 1 then l.oct (O.imageKey (be m 7 1)) else []
  if be m 0 4 ≠ 0x534B5349 || be m 4 2 ≠ 1 || be m 6 1 ≠ ty || !zeros m 0x24 28 || !zeros m 0x60 32 || !zeros m 0x9F4 1548
  then 1
  else if (target ≠ l.unitNo && target ≠ 0x3FFFF) || !bitOf (be m 0x1C 1) (laneNo me - 1)
    || l.obj O.variantCode = 0 || !bitOf (be m 0x1D 1) (l.obj O.variantCode - 1) || l.obj O.cartridgeHwRev < be m 0x1E 2
  then 2
  else if be m 8 4 < l.rollback (ty - 1) then 3
  else if !imgLenOk ty (be m 0xC 4) content || slice m 0x40 32 ≠ sha3 content
    || (ty = 2 && (be m 8 4 ≠ bankSerial || be m 0x20 4 ≠ bankSerial))
  then 4
  else if key = [] || !sigOk key (m.take 0x80) "SKT3-IMG" (slice m 0x80 2420) then 5
  else 0

/-- BANK_SERIAL of a bank (R137). -/
def bankSerial (m : List (Nat × Byte)) : Nat := bankLE m 8 4

/-- The manifest of a bank: its signature block (R395). -/
def bankManifest (m : List (Nat × Byte)) : List Byte := memReadAll m 0x8000 4096

/-- The content of a bank: all of it but the signature block (R395). -/
def bankContent (m : List (Nat × Byte)) : List Byte := memReadAll m 0 0x8000 ++ memReadAll m 0x9000 0x207000

/-- Verification of a bank (R139 step 3, R396). -/
def Lane.verifyBank (l : Lane) (me : LaneId) (m : List (Nat × Byte)) : Nat :=
  l.verifyImage me 2 (bankManifest m) (bankContent m) (bankSerial m)

/-- CONTENT_DIGEST of a manifest, 32 zero bytes where there is none (R406). -/
def imgDigest (manifest : List Byte) : List Byte := padTo 32 (slice manifest 0x40 32)

/-- REVISION of a manifest, 0 where there is none. -/
def imgRevision (manifest : List Byte) : Nat := be manifest 0x20 4

/-- The revision that the lane's cartridge reports with the FW_REVISION, major number in bits 31:24. -/
def fwMajor (rev : Nat) : Nat := bits rev 24 8

end Sys2Proof.Machine
end

