-- ==== Sys2Proof/Machine/BankCheck.lean ====
section
/-!
DEFINITION. The check of a coefficient bank (R123, R133, R136, R137, R139, R143) and its frame schedule (R154, R155).
Assumption log 72.
-/
namespace Sys2Proof.Machine

/-- Loop descriptor fields (R137): a byte and a half-word at an offset. -/
def loopByte (m : List (Nat × Byte)) (k off : Nat) : Nat := bankLE m (loopDesc k + off) 1

/-- A half-word of a loop descriptor. -/
def loopHalf (m : List (Nat × Byte)) (k off : Nat) : Nat := bankLE m (loopDesc k + off) 2

/-- The instructions of an entry up to its first END, if it stands within the instructions in use (R133). -/
def entryFrom (ws : List Nat) : Option (List E1Ins) :=
  match ws with
  | [] => none
  | w :: r => match decodeE1 w with
    | none => none
    | some .endI => some [.endI]
    | some i => (entryFrom r).map fun is => i :: is

/-- The instruction words in use of a loop. -/
def progWords (m : List (Nat × Byte)) (k : Nat) : List Nat :=
  (List.range (min 512 (loopHalf m k 0xA))).map fun i => progWord m k i

/-- An entry of a loop's program (R122, R137). -/
def entryOfProg (m : List (Nat × Byte)) (k : Nat) (e : EntryKind) : Option (List E1Ins) :=
  entryFrom ((progWords m k).drop (entryIndex m k e))

/-- The region of a data word with its first word and its length in a loop (R127): X, U, Y, W, P. -/
def regionOf (m : List (Nat × Byte)) (k a : Nat) : Nat × Nat :=
  if a < 0x20 then (0, loopByte m k 0) else if a < 0x28 then (0x20, loopByte m k 1) else if a < 0x40 then (0x28, loopByte m k 2)
  else if a < 0xE0 then (0x40, 0xA0) else (0xE0, 0x20)

/-- Does a vector lie within the loop's window of 256 words (R127)? -/
def inWindow (a n : Nat) : Bool := decide (a + n ≤ 256)

/-- May a vector be written: within the window, with no word of region P? -/
def writable (a n : Nat) : Bool := decide (a + n ≤ 0xE0)

/-- Does the length of an operand of MVM match its vector (R133): within one region, and the whole of X, U or Y when it begins there? -/
def lenMatches (m : List (Nat × Byte)) (k a n : Nat) : Bool :=
  let r := regionOf m k a
  decide (a + n ≤ r.1 + r.2) && (decide (a ≠ r.1) || decide (0x40 ≤ a) || decide (n = r.2))

/-- Are the operands of an instruction within what R133 allows? -/
def operandsOk (m : List (Nat × Byte)) (k : Nat) : E1Ins → Bool
  | .mvm _ wb mat src dst =>
    let d := matDesc m k mat.toNat
    decide (mat.toNat < loopByte m k 3) && lenMatches m k src.toNat d.cols
      && (!wb || (writable dst.toNat d.rows && lenMatches m k dst.toNat d.rows))
  | .vadd _ _ len src dst => inWindow src.toNat (len.val + 1) && writable dst.toNat (len.val + 1)
  | .vsub _ len src dst => inWindow src.toNat (len.val + 1) && writable dst.toNat (len.val + 1)
  | .sat len _ dst => writable dst.toNat (len.val + 1)
  | .lim mode len bnd dst =>
    inWindow bnd.toNat (if mode = 0 then 2 * (len.val + 1) else 1) && writable dst.toNat (len.val + 1)
  | .sel _ _ len src dst => inWindow src.toNat (len.val + 1) && writable dst.toNat (len.val + 1)
  | .ld mode len slot dst =>
    decide (slot.toNat + len.val + 1 ≤ 64) && writable dst.toNat (if mode = 2 then 2 else len.val + 1)
  | .st len src ps =>
    inWindow src.toNat (len.val + 1) && (if h : k < 9 then
      (List.range (len.val + 1)).all fun i => postSlotOk ⟨k, h⟩ (ps.toNat + i) else false)
  | .ldc _ space a => if space then decide (a.toNat < 64) else inWindow a.toNat 1
  | .tube len tub src => decide (tub.toNat + len.val + 1 ≤ 24) && inWindow src.toNat (len.val + 1)
  | .prep dq src => inWindow src.toNat (if dq then 2 else 3)
  | .commit dq src => inWindow src.toNat (if dq then 2 else 3)
  | .post eng src => decide (eng ≠ 1) && inWindow src.toNat 1
  | .endI => true

/-- Rows of chained MVMs agree: one with ACC follows an MVM of as many rows (R133); after an MVM with WB, which cleared the accumulator,
one with ACC is not chained and has any number of rows (assumption log 164). -/
def chainOk (m : List (Nat × Byte)) (k : Nat) (open_ : Option Nat) : List E1Ins → Bool
  | [] => true
  | .mvm acc wb mat _ _ :: r =>
    let n := (matDesc m k mat.toNat).rows
    (match acc, open_ with | true, some n0 => decide (n = n0) | _, _ => true) && chainOk m k (if wb then none else some n) r
  | _ :: r => chainOk m k open_ r

/-- Kinds of instructions that R133 counts. -/
def isTube : E1Ins → Bool
  | .tube .. => true
  | _ => false

/-- Is an instruction a PREP? -/
def isPrep : E1Ins → Bool
  | .prep .. => true
  | _ => false

/-- Is an instruction a COMMIT? -/
def isCommit : E1Ins → Bool
  | .commit .. => true
  | _ => false

/-- How often a kind of instruction occurs. -/
def countOf (p : E1Ins → Bool) (is : List E1Ins) : Nat := (is.filter p).length

/-- The instructions up to and including the first of a kind. -/
def uptoKind (p : E1Ins → Bool) : List E1Ins → List E1Ins
  | [] => []
  | i :: r => if p i then [i] else i :: uptoKind p r

/-- Cycles of instructions of a loop (R132). -/
def cyclesOf (m : List (Nat × Byte)) (k : Nat) (is : List E1Ins) : Nat := sumNat (is.map (insCycles m k))

/-- TUBE, COMMIT and PREP stand where R133 wants them. -/
def entryShapes (c f s : List E1Ins) : Bool :=
  decide (countOf isTube c = 1) && decide (countOf isCommit c = 1) && (uptoKind isCommit c).any isTube && !c.any isPrep
  && decide (countOf isCommit f = 1) && !f.any isTube && !f.any isPrep
  && decide (countOf isPrep s = 1) && !s.any isTube && !s.any isCommit

/-- The limits of R123 on a loop's sizes and matrices. -/
def sizesOk (m : List (Nat × Byte)) (k : Nat) : Bool :=
  let s := decide (k = 0)
  let lim := fun (a b : Nat) => if s then a else b
  decide (loopByte m k 0 ≤ lim 32 12) && decide (loopByte m k 1 ≤ lim 8 4) && decide (loopByte m k 2 ≤ lim 24 8)
  && decide (loopByte m k 3 ≤ lim 32 16) && decide (loopHalf m k 0xA ≤ 512)
  && (List.range (loopByte m k 3)).all fun i =>
    let d := matDesc m k i
    decide (1 ≤ d.rows ∧ d.rows ≤ lim 32 12) && decide (1 ≤ d.cols ∧ d.cols ≤ lim 32 12)
      && decide (-8 ≤ d.shift ∧ d.shift ≤ 7) && decide (d.offset + d.rows * d.cols ≤ blockWords k)

/-- The stored cycle counts and the cycle limits of R123. -/
def cyclesOk (m : List (Nat × Byte)) (k : Nat) (c f s : List E1Ins) : Bool :=
  let cc := cyclesOf m k c
  let cp := cyclesOf m k (uptoKind isTube c)
  let cf := cyclesOf m k f
  let cs := cyclesOf m k s
  decide (loopHalf m k 0xC = cc) && decide (loopHalf m k 0xE = cp) && decide (loopHalf m k 0x10 = cf)
  && decide (loopHalf m k 0x12 = cs)
  && (if k = 0 then decide (cc ≤ 320) && decide (cp + 4 + cf ≤ 2240) && decide (cs ≤ 2000) else decide (cp + 4 + cf + cs ≤ 600))

/-- R133 on a loop's program. -/
def programOk (m : List (Nat × Byte)) (k : Nat) : Bool :=
  sizesOk m k && (progWords m k).all (fun w => (decodeE1 w).isSome)
  && match entryOfProg m k .corr, entryOfProg m k .full, entryOfProg m k .spec with
    | some c, some f, some s =>
      (c ++ f ++ s).all (operandsOk m k) && [c, f, s].all (chainOk m k none) && entryShapes c f s && cyclesOk m k c f s
    | _, _, _ => false

/-- Is a word a coefficient: bits 31:24 repeat bit 23 (R136)? -/
def coefOk (w : Nat) : Bool := decide (bits w 23 9 = 0) || decide (bits w 23 9 = 511)

/-- Every coefficient of a loop's 64 blocks (R136). -/
def coefsOk (m : List (Nat × Byte)) (k : Nat) : Bool :=
  (List.range 64).all fun b => (List.range (loopByte m k 3)).all fun i =>
    let d := matDesc m k i
    (List.range (d.rows * d.cols)).all fun j => coefOk (blockWord m k b (d.offset + j))

/-- Do thresholds rise strictly, with a hysteresis of at least 0 and less than half the smallest gap (R143)? -/
def axisOk (x : Axis) : Bool :=
  let gaps := (List.range (x.thr.length - 1)).map fun i => x.thr.getD (i + 1) 0 - x.thr.getD i 0
  decide (0 ≤ x.hys) && gaps.all fun g => decide (0 < g) && decide (2 * x.hys < g)

/-- R143 on a loop's bench table. -/
def benchOk (m : List (Nat × Byte)) (k : Nat) : Bool :=
  (List.range 3).all (fun a => axisOk (axisOf m k a)) && (List.range 64).all fun c => decide (benchByte m k (0x40 + c) < 64)

/-- Loops present in a bank. -/
def loopsOf (m : List (Nat × Byte)) : List Nat := (List.range 9).filter (loopPresent m)

/-- What the schedule needs of a brake slot, in half nanoseconds: its start and the lengths to the delivery of its COMMIT and
to its end. -/
structure SlotPlan where
  loop : Nat
  start : Nat
  toCommit : Nat
  total : Nat
deriving DecidableEq, Repr

/-- Cycles to the end of the COMMIT on the squash path of a loop, with 16 corrected memory errors (R155). -/
def squashToCommit (m : List (Nat × Byte)) (k : Nat) : Nat :=
  let f := (entryOfProg m k .full).getD []
  loopHalf m k 0xE + 4 + cyclesOf m k (uptoKind isCommit f) + 16

/-- Cycles of the squash path of a loop (R155). -/
def squashCycles (m : List (Nat × Byte)) (k : Nat) : Nat := loopHalf m k 0xE + 4 + loopHalf m k 0x10 + 16

/-- Cycles of a loop's SPEC (R155). -/
def specCycles (m : List (Nat × Byte)) (k : Nat) : Nat := loopHalf m k 0x12 + 16

/-- A brake loop's slot. -/
def slotPlan (m : List (Nat × Byte)) (k : Nat) : SlotPlan :=
  ⟨k, 8 * loopHalf m k 0x14, 5 * squashToCommit m k + 50, 5 * (squashCycles m k + specCycles m k)⟩

/-- Does a brake loop's slot run in samples of a residue modulo 4? (R137) -/
def slotRuns (m : List (Nat × Byte)) (k s : Nat) : Bool := decide (s % loopByte m k 0x16 = loopByte m k 0x17)

/-- Insert a slot by its start. -/
def insertSlot (x : SlotPlan) : List SlotPlan → List SlotPlan
  | [] => [x]
  | y :: r => if x.start < y.start then x :: y :: r else y :: insertSlot x r

/-- The slots of a sample in the order of their starts. -/
def slotsIn (m : List (Nat × Byte)) (s : Nat) : List SlotPlan :=
  ((loopsOf m).filter fun k => k ≠ 0 && slotRuns m k s).foldl (fun a k => insertSlot (slotPlan m k) a) []

/-- What a planned sample shows: the delivery of the steering PREP, each slot with its COMMIT, and the last end. -/
structure Plan where
  prep : Nat := 0
  commits : List Nat := []
  last : Nat := 0
deriving DecidableEq, Repr

/-- The brake slots that remain once SPEC has run (R154). -/
def planSlots (free : Nat) (p : Plan) : List SlotPlan → Plan
  | [] => p
  | b :: r =>
    let st := max free b.start
    planSlots (st + b.total) { p with commits := p.commits ++ [st + b.toCommit], last := st + b.total } r

/-- The steering SPEC and the brake slots, SPEC first among waiting work (R154). `toPrep` and `spec` are its lengths. -/
def planAll (toPrep spec free : Nat) (p : Plan) : List SlotPlan → Plan
  | [] => { p with prep := max free 16000 + toPrep }
  | b :: r =>
    let ts := max free 16000
    let tb := max free b.start
    if ts ≤ tb then planSlots (ts + spec) { p with prep := ts + toPrep } (b :: r)
    else planAll toPrep spec (tb + b.total) { p with commits := p.commits ++ [tb + b.toCommit], last := tb + b.total } r

/-- The plan of the samples of a residue modulo 4. -/
def planOf (m : List (Nat × Byte)) (s : Nat) : Plan :=
  let sp := (entryOfProg m 0 .spec).getD []
  planAll (5 * (cyclesOf m 0 (uptoKind isPrep sp) + 16) + 50) (5 * specCycles m 0) (600 + 5 * squashCycles m 0) {} (slotsIn m s)

/-- The delivery of the steering COMMIT on the squash path, in half nanoseconds. -/
def fullEnd (m : List (Nat × Byte)) : Nat := 600 + 5 * squashToCommit m 0 + 50

/-- Does the frame schedule of a bank meet every limit of R155 at a steering period in ticks? -/
def scheduleFits (m : List (Nat × Byte)) (ticks : Nat) : Bool :=
  let per := 8 * ticks
  decide (6250 ≤ ticks ∧ ticks ≤ 25000) && decide (fullEnd m ≤ 12000)
  && (loopsOf m).all (fun k => k = 0 || (decide (2400 ≤ 8 * loopHalf m k 0x14)
      && (loopByte m k 0x16 = 1 || loopByte m k 0x16 = 2 || loopByte m k 0x16 = 4)
      && decide (loopByte m k 0x17 < loopByte m k 0x16)))
  && (List.range 4).all fun s =>
    let p := planOf m s
    decide (p.prep ≤ 28000) && decide (p.last + 2000 ≤ per) && p.commits.all fun c => decide (c + 64 ≤ per)

/-- The check of R155 at the bank's own PERIOD_TICKS. -/
def scheduleOk (m : List (Nat × Byte)) : Bool := scheduleFits m (bankPeriod m)

/-- The worst of the four residues of a figure. -/
def worstOf (f : Nat → Nat) : Nat := (List.range 4).foldl (fun a s => max a (f s)) 0

/-- CYC_WORST of a loop of a bank (R160). -/
def cycWorstOf (m : List (Nat × Byte)) (k : Nat) : Nat :=
  if loopPresent m k then min 65535 (squashCycles m k + specCycles m k) else 0

/-- E1 cycles of a sample in the worst case. -/
def loadCycles (m : List (Nat × Byte)) (s : Nat) : Nat :=
  cycWorstOf m 0 + sumNat ((slotsIn m s).map fun x => cycWorstOf m x.loop)

/-- Objects 0x5020 for a bank: FULL, SPEC and last slot in nanoseconds after the reload, and the load (R160). -/
def schedFigure (m : List (Nat × Byte)) (sub : Nat) : Nat :=
  if !loopPresent m 0 then 0 else
  match sub with
  | 1 => min 65535 (ceilDiv (fullEnd m) 2)
  | 2 => min 65535 (ceilDiv (worstOf fun s => (planOf m s).prep) 2)
  | 3 => min 65535 (ceilDiv (worstOf fun s => (planOf m s).last) 2)
  | _ => if bankPeriod m = 0 then 0 else q15 ((5 * worstOf (loadCycles m) : Nat) / ((8 * bankPeriod m : Nat) : Rat))

/-- Does an instant lie in the gap that the worst case of R155 leaves to the self-test slices of the matrix island (R156): from the end of
the last brake slot, and of the steering entries, to 2.5 µs before the next reload? While E1 runs no loops nothing holds a slice off. -/
def Lane.sliceGap (l : Lane) (t : Nat) : Bool :=
  let m := l.activeBank
  let from_ := worstOf fun s => max (planOf m s).last (max (planOf m s).prep (fullEnd m))
  !l.e1Runs || (decide (2 * l.smp.reloadAt + from_ ≤ 2 * t) && decide (t + 2500 ≤ l.smp.reloadAt + 4 * l.per .steer))

/-- The loops that a lane's variant provides, as LOOPS of a bank header (R137, R139). -/
def Lane.wantLoops (l : Lane) : Nat := 2 ^ (l.nDrives + 1) - 1

/-- The first failing step of R139 on a bank, 0 where all pass. -/
def Lane.checkBank (l : Lane) (me : LaneId) (m : List (Nat × Byte)) : Nat :=
  if bankLE m 0 4 ≠ 0x534B4342 || bankLE m 4 2 ≠ 1 || bankLE m 6 2 ≠ l.wantLoops then 1
  else if memReadAll m 0x20 32 ≠ sha3 (memReadAll m 0x40 0x7FC0 ++ memReadAll m 0x9000 0x207000) then 2
  else if l.verifyBank me m ≠ 0 then 3
  else if !(loopsOf m).all (programOk m) then 4
  else if !(loopsOf m).all (fun k => coefsOk m k && benchOk m k) then 5
  else if !scheduleOk m then 6 else 0

/-- The check of the standby bank ends (R139); a write to it since the start has made it fail (R158). STANDBY_FAIL keeps the code of
the last check that failed (assumption log 117, DESIGN CHOICE). -/
def Lane.standbyChecked (l : Lane) (me : LaneId) : Lane :=
  let l := { l with mx := { l.mx with checking := false } }
  if l.mx.modified then (({ l with mx := { l.mx with modified := false } }).setStandbyEligible false).setObj O.standbyState 3
  else
    let c := l.checkBank me l.standbyBank
    let l := if c = 0 ∨ 3 ≤ c then l.setObj O.imgVerifyLast (l.verifyBank me l.standbyBank) else l
    let l := if c = 0 then l else l.setObj O.standbyFail c
    (l.setStandbyEligible (c = 0)).setObj O.standbyState (if c = 0 then 2 else 3)

/-- LG_COMMIT (R155, R232, R246): a direct commit at a counter value; one in the tick of an E1 commit is refused with COLLIDE, and one
that changes the steering period to one at which the frame schedule of the active bank does not fit with PERCHG (assumption log 118). -/
def execLgCommit (l : LaneId) (stage : Stage) (count : Nat) (withE1 : Bool) (s : State) :
    Host.Outcome State Fault Refusal :=
  onLane l s fun x =>
    let at_ := (x.stg stage).reloadAt + 4 * count
    let x := x.e1Until at_
    let same := match (x.stg stage).coming with
      | some (e, _) => decide (x.countAt stage e = count)
      | none => false
    let x := x.settle stage at_
    if withE1 || same then
      ((x.setFld (Rg.pwmLgctl stage) 2 4 0).setRbit (Rg.pwmStat stage) 10 true).inc (collidesObj stage)
    else x.commitLg stage count (scheduleFits x.activeBank (x.shadow stage).per)

/-- STANDBY_CHECK_DONE (R139). -/
def execStandbyCheckDone (l : LaneId) (t : Nat) (s : State) : Host.Outcome State Fault Refusal :=
  onLaneAt l t s fun x => if x.mx.checking then x.standbyChecked l else x

end Sys2Proof.Machine
end

