-- ==== Sys2Proof/Machine/SafeIo.lean ====
section
/-!
DEFINITION. Safe inputs and outputs (R271 to R296): supplies and their dips, ratiometric and SENT inputs, the rotor angle
interface, safe-stop channels, contactors with feedback and test pulses, and the schedule image.
-/
namespace Sys2Proof.Machine

/-- The class of a slot's reading (R273): 0 dip seen, 1 not seen, 2 indeterminate. -/
def dipClass (r : SlotReading) : Nat :=
  if r.v1 = 0 then Config.dipOfZero r.v2 % 3
  else if 100 * r.v2 ≤ 93 * r.v1 then 0 else if 97 * r.v1 ≤ 100 * r.v2 then 1 else 2

/-- Does supply `sup` of lane `ln` dip in slot k under its pattern? (R272) -/
def dips (ln sup pattern k : Nat) : Bool := decide (k % 12 = 4 * (ln - 1) + sup) && bitOf pattern (k / 12)

/-- A point of the check after a slot (R273). -/
def DipPoint.step (p : DipPoint) (k cls : Nat) (expected : Bool) : DipPoint :=
  if cls = 2 then { p with indet := p.indet + 1 }
  else if cls = 0 && !expected then { p with unexpected := some (p.unexpected.getD k) }
  else if cls = 1 && expected then { p with missed := true }
  else p

/-- A point at the end of a frame (R273, R274): a frame that is not judged advances and resets nothing; the second frame
in a row that is not clean makes the point invalid, the eighth clean one valid again. -/
def DipPoint.judge (p : DipPoint) (whole : Bool) : DipPoint :=
  let q : DipPoint := { badRun := p.badRun, goodRun := p.goodRun, invalid := p.invalid }
  if !whole || p.spoilt || decide (8 < p.indet) then q
  else if p.unexpected.isNone && !p.missed then
    { q with badRun := 0, goodRun := p.goodRun + 1, invalid := p.invalid && decide (p.goodRun + 1 < 8) }
  else { q with badRun := p.badRun + 1, goodRun := 0, invalid := p.invalid || decide (2 ≤ p.badRun + 1) }

/-- Was a judged frame of a point not clean? (R273) -/
def DipPoint.unclean (p : DipPoint) (whole : Bool) : Bool :=
  whole && !p.spoilt && decide (p.indet ≤ 8) && (p.unexpected.isSome || p.missed)

/-- A sensor supply. -/
def Lane.sup (l : Lane) (n : Nat) : SupplySt := l.sio.sups.getD n {}

/-- A lane with one sensor supply replaced. -/
def Lane.setSup (l : Lane) (n : Nat) (x : SupplySt) : Lane := { l with sio := { l.sio with sups := l.sio.sups.set n x } }

/-- The points that a supply feeds cannot be judged in the present frame (R295). -/
def Lane.spoilSupply (l : Lane) (n : Nat) : Lane :=
  let sup := l.sio.supPts.set n { l.sio.supPts.getD n {} with spoilt := true }
  let ana := l.sio.anaPts.zipIdx.map fun p => if l.obj (O.anaSupply p.2) = n then { p.1 with spoilt := true } else p.1
  { l with sio := { l.sio with supPts := sup, anaPts := ana } }

/-- A cause of a supply's protective trip (R274): codes of SUP_STATE. The supply goes off; a trip after 3 automatic clears
within the preceding 1 s is the error "sensor supply s". -/
def Lane.supTrip (l : Lane) (n cause : Nat) : Lane :=
  let x := l.sup n
  if x.tripped then (l.setObj (O.supplyState n) cause).setSup n { x with causeAt := l.now }
  else
    let tries := (x.clears.filter fun c => l.now < c + 1000000000).length
    let l := (l.setObj (O.supplyState n) cause).inc (O.supTrips n)
    let l := (l.setRbit Rg.sioStat n true).setRbit Rg.sioCtl n false
    let l := l.setSup n { x with tripped := true, causeAt := l.now, exhausted := decide (3 ≤ tries) }
    let l := { l with claim := { l.claim with winHealthy := false } }
    l.raiseIf (3 ≤ tries) (0x38 + n) cause

/-- A tripped supply is off; a sense voltage above its normal band shows that a cause of its trip still holds (R271, R274), in
millivolt (assumption log 147). -/
def Lane.supHeld (readings : List SlotReading) (l : Lane) (n : Nat) : Lane :=
  match readings[n]? with
  | some r => if (l.sup n).tripped && (decide (5250 < r.v1) || decide (5250 < r.v2)) then l.setSup n { l.sup n with causeAt := l.now } else l
  | none => l

/-- TEST_PULSE_SLOT (R272, R273): every sense and input is classified in the slot of lane time. -/
def execTestPulseSlot (l : LaneId) (t : Nat) (sup ana : List SlotReading) (s : State) : Host.Outcome State Fault Refusal :=
  onLaneAt l t s fun x =>
    let k := t % 9600000 / 100000
    let ln := laneNo l
    let exp := fun n => dips ln n (nth x.sio.patterns n) k && !(x.sup n).tripped
    let spoil := fun n => dips ln n (nth x.sio.patterns n) k && (x.sup n).tripped
    let sp := x.sio.supPts.zipIdx.map fun p =>
      let q := match sup[p.2]? with | some r => p.1.step k (dipClass r) (exp p.2) | none => p.1
      { q with spoilt := q.spoilt || spoil p.2 }
    let ap := x.sio.anaPts.zipIdx.map fun p =>
      let n := x.obj (O.anaSupply p.2)
      let q := match ana[p.2]? with | some r => p.1.step k (dipClass r) (exp n) | none => p.1
      { q with spoilt := q.spoilt || spoil n }
    (List.range 4).foldl (Lane.supHeld sup) { x with sio := { x.sio with supPts := sp, anaPts := ap } }

/-- The end of a frame at a ratiometric input (R274, R294): SIO_XCHK, ANA_XFAIL, and the cross-check event at the second
frame in a row that is not clean. -/
def Lane.judgeAna (whole : Bool) (l : Lane) (i : Nat) : Lane :=
  let p := l.sio.anaPts.getD i {}
  let q := p.judge whole
  let slot := p.unexpected.getD 0x7F
  let l := if p.unclean whole then l.setReg (Rg.sioXchk i) slot else l
  let l := (l.setRbit Rg.sioStat (4 + i) q.invalid)
  let l := if p.unclean whole && q.badRun = 2 then (l.inc O.xchkEvents).setObj O.xchkLast slot else l
  { l with sio := { l.sio with anaPts := l.sio.anaPts.set i q } }

/-- The end of a frame at a supply sense (R274): the second frame in a row that is not clean trips the supply; SENT_XFAIL shows
the channels that it feeds while the sense is invalid (R278). -/
def Lane.judgeSup (whole : Bool) (l : Lane) (n : Nat) : Lane :=
  let p := l.sio.supPts.getD n {}
  let q := p.judge whole
  let trip := p.unclean whole && decide (2 ≤ q.badRun)
  let l := { l with sio := { l.sio with supPts := l.sio.supPts.set n { q with badRun := if trip then 0 else q.badRun } } }
  let l := (List.range 4).foldl (fun (l : Lane) c => if l.obj (O.sentSupply c) = n then l.setRbit Rg.sioStat (10 + c) q.invalid else l) l
  if trip then l.supTrip n 3 else l

/-- The fields of a schedule image: patterns, off-pulse offsets and TS_EN (R293). -/
def imgPatterns (b : List Byte) : List Nat := ((b.drop 4).take 4).map BitVec.toNat
/-- Off-pulse offsets of an image, 0.1 ms per count (R293). -/
def imgOffp (b : List Byte) : List Nat :=
  [ofBytesBE ((b.drop 8).take 2), ofBytesBE ((b.drop 10).take 2), ofBytesBE ((b.drop 12).take 2)]

/-- Number of bits set in a byte. -/
def popByte (v : Nat) : Nat := ((unpackBits 8 v).filter id).length

/-- Distance of two offsets modulo the 500 ms cycle, in counts of 0.1 ms (R293). -/
def offDist (a b : Nat) : Nat := let d := (a + 5000 - b) % 5000; min d (5000 - d)

/-- Is a schedule image accepted? (R293) -/
def imgOk (lifeCycle : Nat) (b : List Byte) : Bool :=
  let o := imgOffp b
  let ts := ((b.getD 14 0).toNat) % 4
  decide (b.length = 32)
  && decide (ofBytesBE ((b.drop 28).take 4) = (crc32 (b.take 28)).toNat)
  && decide (ofBytesBE (b.take 2) = 0x5349) && decide (b.getD 2 0 = 1)
  && (imgPatterns b).all (fun p => decide (2 ≤ popByte p ∧ popByte p ≤ 6))
  && o.all (fun v => decide (v ≤ 4997))
  && decide (100 ≤ offDist (nth o 0) (nth o 1)) && decide (100 ≤ offDist (nth o 1) (nth o 2))
  && decide (100 ≤ offDist (nth o 0) (nth o 2))
  && (decide (ts = 3) || decide (lifeCycle = 1) || decide (lifeCycle = 4))

/-- A new image takes effect at the start of a frame; the counts of R274 restart (R293). One that is not accepted is an event. -/
def Lane.takeImage (l : Lane) : Lane :=
  match l.sio.nextImg with
  | none => l
  | some b =>
    let ok := imgOk (l.obj O.lcStateObj) b
    let l := { l with sio := { l.sio with
      nextImg := none,
      patterns := if ok then imgPatterns b else [0x96, 0x96, 0x96, 0x96],
      offp := if ok then imgOffp b else [1000, 2500, 4000],
      tsEn := if ok then (b.getD 14 0).toNat % 4 else 3,
      imgEvents := l.sio.imgEvents + b2n (!ok),
      supPts := List.replicate 4 {}, anaPts := l.sio.anaPts.map fun (p : DipPoint) => ({ invalid := p.invalid } : DipPoint) } }
    (l.setRbit Rg.sioStat 18 (!ok || decide (b = factorySchedule))).setRbit Rg.sioCtl 5 (l.rbit Rg.sioCtl 4 && decide (l.sio.tsEn ≠ 0))

/-- E5 starts (R271, R273, R285, R291, R293, R294): the stored image runs, the supplies that are not tripped are on, and so are
dips and test pulses; the frame in progress is not judged. -/
def Lane.startSio (l : Lane) : Lane :=
  let l := { l with sio := { l.sio with frameWhole := false } }
  l.setReg Rg.sioCtl (packBits (((List.range 4).map fun n => !(l.sup n).tripped) ++ [true, decide (l.sio.tsEn ≠ 0), true]))

/-- E5 stops in Doze (R435): supplies and test sources are off. -/
def Lane.stopSio (l : Lane) : Lane := l.setReg Rg.sioCtl 0

/-- TEST_PULSE_FRAME_END (R273, R274, R293): the frame is judged, and the next one starts. -/
def execTestPulseFrameEnd (l : LaneId) (t : Nat) (s : State) : Host.Outcome State Fault Refusal :=
  onLaneAt l t s fun x =>
    let w := x.sio.frameWhole
    let x := (List.range 6).foldl (Lane.judgeAna w) x
    let x := (List.range 4).foldl (Lane.judgeSup w) x
    let x := { x with sio := { x.sio with frameWhole := true } }
    x.takeImage

/-- SUPPLY_OUT_OF_BAND (R5, R274): protective trip, cause 1, of a supply of a started lane. -/
def execSupplyOutOfBand (l : LaneId) (n : Fin 4) (t : Nat) (s : State) : Host.Outcome State Fault Refusal :=
  onLaneAt l t s fun x => if x.started then x.supTrip n 1 else x

/-- SUPPLY_OVERCURRENT (R5, R274): protective trip, cause 2, of a supply of a started lane. -/
def execSupplyOvercurrent (l : LaneId) (n : Fin 4) (t : Nat) (s : State) : Host.Outcome State Fault Refusal :=
  onLaneAt l t s fun x => if x.started then x.supTrip n 2 else x

/-- SUPPLY_TRIP_CLEAR (R274, R295): 10 ms after the last cause the supply is on again; the frame is not judged for it. An
exhausted trip clears once the lane's error is cleared. -/
def execSupplyTripClear (l : LaneId) (n : Fin 4) (t : Nat) (s : State) : Host.Outcome State Fault Refusal :=
  onLaneAt l t s fun x =>
    let u := x.sup n
    if u.tripped && decide (u.causeAt + 10000000 ≤ x.now) && (!u.exhausted || !x.coll.error) then
      let x := (x.setObj (O.supplyState n) 0).setRbit Rg.sioStat n false
      let x := x.setRbit Rg.sioCtl n true
      (x.setSup n { u with tripped := false, exhausted := false, clears := (x.now :: u.clears).take 4 }).spoilSupply n
    else x

/-- One nibble of the CRC4 of R277, polynomial x^4 + x^3 + x^2 + 1, before the next nibble is added. -/
def crc4Shift (c : Nat) : Nat :=
  let step := fun v : Nat => if 8 ≤ v then (2 * v % 16) ^^^ 13 else 2 * v
  step (step (step (step c)))

/-- The CRC4 of the data nibbles: seed 5; the recommended method ends with a zero nibble, the legacy method does not
(R277). -/
def crc4 (legacy : Bool) (ns : List (BitVec 4)) : Nat :=
  let c := ns.foldl (fun c n => (crc4Shift c) ^^^ n.toNat) 5
  if legacy then c else crc4Shift c

/-- The unsigned field of data nibbles `first` to `first + n - 1` (R278). -/
def nibField (ns : List (BitVec 4)) (first n : Nat) : Nat :=
  ((ns.drop first).take n).foldl (fun a b => a * 16 + b.toNat) 0

/-- Is a synchronisation pulse of 56 ticks, in nanoseconds, accepted (R277)? Its tick lies within 25 % of SENT_TICK, and it agrees with
the receiver's last one within 1/64; the angle interface takes any tick from 3 µs to 90 µs. -/
def Lane.syncOk (l : Lane) (ch sync : Nat) : Bool :=
  let last := (l.sio.sent.getD ch {}).sync
  let n := 560 * l.obj (O.sentTick ch)
  (if ch < 4 then decide (3 * n ≤ 4 * sync ∧ 4 * sync ≤ 5 * n) else decide (168000 ≤ sync ∧ sync ≤ 5040000))
  && (decide (last = 0) || decide (64 * ((sync : Int) - last).natAbs ≤ last))

/-- Data nibbles in a frame of a receiver (R281, R296). -/
def Lane.sentNibbles (l : Lane) (ch : Nat) : Nat :=
  if ch < 4 then bits (l.obj (O.sentOptions ch)) 2 4 + 1 else if l.obj O.angSentField = 1 then 4 else 3

/-- One of the two bits of successive status nibbles as a number; the frames stand newest first. -/
def serialWord (b : Nat) (ss : List Nat) : Nat :=
  ss.foldr (fun s v => 2 * v + b2n (bitOf s b)) 0

/-- The CRC6 of an enhanced serial message over its 24 bits in the order of their frames: polynomial x^6 + x^4 + x^3 + 1, seed 21
(SAE J2716; PRESUMED, assumption log 139). -/
def crc6 (bs : List Bool) : Nat :=
  let step := fun (c : Nat) (b : Bool) => if 32 ≤ c then ((2 * c % 64) + b2n b) ^^^ 25 else 2 * c + b2n b
  (bs ++ List.replicate 6 false).foldl step 21

/-- The serial message that ends with the newest of the frames (R277): a short one of 16 frames, or an enhanced one of 18 with
8 bits of identifier and 12 of data or with 4 and 16. The layouts are those of SAE J2716 (PRESUMED, assumption log 139). -/
def serialMessage (legacy : Bool) (ss : List Nat) : Option (Nat × Nat) :=
  let short := ss.take 16
  let w := serialWord 0 short
  let nibble := fun k => BitVec.ofNat 4 (bits w k 4)
  let top := serialWord 1 ss
  let low := serialWord 0 ss
  if short.length = 16 && decide (serialWord 1 short = 2 ^ 15) && decide (bits w 0 4 = crc4 legacy [nibble 12, nibble 8, nibble 4]) then
    some (bits w 12 4, bits w 4 8)
  else if ss.length = 18 && decide (bits top 11 7 = 126) && !bitOf top 5 && !bitOf top 0
      && decide (bits low 12 6 = crc6 ((List.range 12).flatMap fun i => [bitOf low (11 - i), bitOf top (11 - i)])) then
    some (if bitOf top 10 then (bits top 6 4, 4096 * bits top 1 4 + bits low 0 12)
      else (16 * bits top 6 4 + bits top 1 4, bits low 0 12))
  else none

/-- SENT_FRAME (R277): a frame that fails a check is counted, and a serial message in which it falls is lost; a valid one becomes the
latest of its receiver, and may end a serial message. Channel 4 is the angle interface. -/
def execSentFrame (l : LaneId) (ch : Fin 5) (f : SentRx) (s : State) : Host.Outcome State Fault Refusal :=
  onLaneAt l f.endTime s fun x =>
    let o := if ch.val < 4 then x.obj (O.sentOptions ch) else 0
    let ok := x.syncOk ch f.sync && decide (f.nibbles.length = x.sentNibbles ch)
      && (!bitOf o 1 || f.pausePulse) && decide (f.crc.toNat = crc4 (bitOf o 0) f.nibbles)
    let q := x.sio.sent.getD ch {}
    if ok then
      let fl := if ch.val < 4 then x.obj (O.sentField ch) else 8 * (x.sentNibbles ch - 1)
      let raw := nibField f.nibbles (bits fl 0 3) (bits fl 3 3 + 1)
      let ss := (f.status.toNat / 4 :: q.serial).take 18
      let n : SentSt := { valid := true, endTime := f.endTime, raw := raw, status := f.status.toNat,
                          prevEnd := if q.valid then q.endTime else 0, prevRaw := if q.valid then q.raw else 0, sync := f.sync,
                          serial := ss, message := (serialMessage (bitOf o 0) ss).orElse fun _ => q.message }
      { x with sio := { x.sio with sent := x.sio.sent.set ch n } }
    else ({ x with sio := { x.sio with sent := x.sio.sent.set ch { q with sync := f.sync, serial := [] } } }).inc O.sentFrameFaults

/-- RESOLVER_UPDATE (R279): the angle, speed and error flags (R282, bits 6:3) of an excitation peak. -/
def execResolverUpdate (l : LaneId) (t : Nat) (angle : BitVec 16) (speed : Code) (flags : BitVec 4) (s : State) :
    Host.Outcome State Fault Refusal :=
  onLaneAt l t s fun x =>
    { x with sio := { x.sio with resAngle := angle.toNat, resSpeed := speed.toNat, resFlags := flags.toNat,
                                 resAt := t, resSeen := true } }

/-- Does a supply dip at an instant: from 25 µs to 75 µs into a slot of its pattern, while it is on? (R272, R295) -/
def Lane.inDip (l : Lane) (me : LaneId) (n t : Nat) : Bool :=
  dips (laneNo me) n (nth l.sio.patterns n) (t % 9600000 / 100000) && !(l.sup n).tripped
  && decide (25000 ≤ t % 100000 ∧ t % 100000 ≤ 75000)

/-- The ratio of one conversion in 1/32768 (R275). -/
def AnaConv.ratio (c : AnaConv) : Rat :=
  if c.sense = 0 then ((Config.ratioOfZero c.vIn % 32768 : Nat) : Rat) else 32768 * (c.vIn : Rat) / c.sense

/-- The conversions that make a sample's value (R275): those of the 16 µs before the reload outside the dips of the input's supply. -/
def Lane.anaConvs (l : Lane) (me : LaneId) (c : Captures) (i : Nat) : List AnaConv :=
  (c.ana.getD i []).filter fun a => decide (a.age ≤ 16000) && !l.inDip me (l.obj (O.anaSupply i)) (l.now - a.age)

/-- The mean ratio of a sample, or the one held where no conversion remains (R275). -/
def Lane.anaRatio (l : Lane) (me : LaneId) (c : Captures) (i : Nat) : Rat :=
  let v := l.anaConvs me c i
  if v = [] then l.sio.ratios.getD i 0 else (v.map AnaConv.ratio).sum / v.length

/-- One ratiometric input at a reload (R275, R276): its mean ratio or the one held; its exchange value and validity. -/
def Lane.sampleAna (me : LaneId) (c : Captures) (l : Lane) (i : Nat) : Lane :=
  let r := l.anaRatio me c i
  let inWin := decide ((toI 16 (l.obj (O.anaLo i)) : Rat) ≤ r) && decide (r ≤ toI 16 (l.obj (O.anaHi i)))
  let ok := inWin && !(l.sup (l.obj (O.anaSupply i))).tripped && !(l.sio.anaPts.getD i {}).invalid
  let v := if ok then q15 ((r - toI 16 (l.obj (O.anaZero i))) / 32768 * f32Val (l.obj (O.anaScale i))) else 0
  let l := l.incIf O.anaRangeEvents (!inWin)
  { l with sio := { l.sio with ratios := l.sio.ratios.set i r, anaVal := l.sio.anaVal.set i v,
                               anaOk := putBits l.sio.anaOk i 1 (b2n ok) } }

/-- One SENT channel at a reload (R278): its exchange value and validity. -/
def Lane.sampleSent (l : Lane) (c : Nat) : Lane :=
  let q := l.sio.sent.getD c {}
  let ok := q.valid && decide (l.now ≤ q.endTime + 1000 * l.obj (O.sentTimeout c))
    && decide (q.status &&& l.obj (O.sentStatMask c) = 0) && !(l.sup (l.obj (O.sentSupply c))).tripped
    && !(l.sio.supPts.getD (l.obj (O.sentSupply c)) {}).invalid
  let v := if ok then q15 (((q.raw : Rat) - l.obj (O.sentZero c)) * f32Val (l.obj (O.sentScale c))) else 0
  { l with sio := { l.sio with sentVal := l.sio.sentVal.set c v, sentOk := putBits l.sio.sentOk c 1 (b2n ok) } }

/-- An angle moved on at a speed, Q15 on 2,000 Hz, for some nanoseconds: 65,536 counts a turn. -/
def moveAngle (angle : Nat) (speed : Int) (ns : Nat) : Nat := ofI 16 ((angle : Int) + roundDiv (speed * ns) 250000)

/-- The interface angle in counts of a sensor turn, its speed on 2,000 Hz, its date, and its error flags (R279 to R282). -/
def Lane.rawAngle (l : Lane) : Nat × Int × Nat × Nat :=
  if l.obj O.angMode = 0 then
    (l.sio.resAngle, toI 16 l.sio.resSpeed, l.sio.resAt, if l.sio.resSeen then 8 * l.sio.resFlags else 8)
  else
    let q := l.sio.sent.getD 4 {}
    let a := fun r : Nat => if l.obj O.angSentField = 1 then r else 16 * r
    let dt := q.endTime - q.prevEnd
    let sp := if q.prevEnd = 0 || dt = 0 then 0 else satI 16 (roundDiv (toI 16 (ofI 16 ((a q.raw : Int) - a q.prevRaw)) * 250000) dt)
    let late := !q.valid || decide (q.endTime + 3000000 < l.now)
    (a q.raw, sp, q.endTime - 1000 * l.obj O.angSentLat, (if late then 128 else 0) + 2)

/-- The angle interface at a reload (R280, R282, R283): the motor's electrical angle, extrapolated to now; while the
interface is not valid, the last valid angle at the last valid speed. -/
def Lane.sampleAngle (l : Lane) : Lane :=
  let r := l.rawAngle
  let src := if l.obj O.angMode = 0 then 0 else 2
  let err := r.2.2.2 / 8 * 8
  let p := l.obj O.steerPolePairs
  let q := l.obj O.angPRes
  let sg : Int := if l.flag O.angDir then -1 else 1
  if err = 0 then
    let th := ofI 16 ((l.obj O.angOffset : Int) + sg * roundDiv (p * r.1) q)
    let om := satI 16 (sg * roundDiv (p * r.2.1) q)
    let th := moveAngle th om (l.now - r.2.2.1)
    { l with sio := { l.sio with angle := th, speed := ofI 16 om, angleAt := l.now, angleFlags := 1 + src,
                                 badAngleRun := 0 } }
  else
    let th := moveAngle l.sio.angle (toI 16 l.sio.speed) (l.now - l.sio.angleAt)
    { l with sio := { l.sio with angle := th, angleAt := l.now, angleFlags := src + err + 256,
                                 badAngleRun := l.sio.badAngleRun + 1 } }

/-- Nanoseconds since the present or last pulse of a test source began (R285): TS1 follows TS0 by 25 ms. -/
def pulseAge (ln : Nat) (ch : Bool) (t : Nat) : Nat :=
  let off := 8000000 * (ln - 1) + (if ch then 25000000 else 0)
  (t + 50000000 - off % 50000000) % 50000000

/-- Lane time at which the present or last pulse of a test source began. -/
def pulseStart (ln : Nat) (ch : Bool) (t : Nat) : Nat := t - pulseAge ln ch t

/-- Is an instant in a channel's own pulse window: the 200 µs of the pulse and the 150 µs in which the input turns on
again? (R285) -/
def inPulse (ln : Nat) (ch : Bool) (t : Nat) : Bool := decide (pulseAge ln ch t < 350000)

/-- A safe-stop channel. -/
def Lane.ss (l : Lane) (ch : Bool) : SsSt := if ch then l.sio.ss1 else l.sio.ss0

/-- A lane with one safe-stop channel replaced. -/
def Lane.setSs (l : Lane) (ch : Bool) (x : SsSt) : Lane :=
  if ch then { l with sio := { l.sio with ss1 := x } } else { l with sio := { l.sio with ss0 := x } }

/-- The test-pulse check and the open channels shown in SIO_STAT (R294). -/
def Lane.ssBits (l : Lane) : Lane :=
  ((l.setRbit Rg.sioStat 14 (!l.sio.ss0.closed)).setRbit Rg.sioStat 15 (!l.sio.ss1.closed)).setRbit Rg.sioStat 16
    l.sio.checkOk

/-- A failed check of a channel (R285): the check stays failed until each channel has followed 20 pulses in a row. -/
def Lane.ssFail (l : Lane) (ch : Bool) : Lane :=
  let l := (l.setSs ch { l.ss ch with followed := 0 }).inc O.ssPulseFails
  ({ l with sio := { l.sio with checkOk := false } }).ssBits

/-- SAFE_STOP_TEST_PULSE (R285): followed when the input turns off within 150 µs of the pulse's start and on again within
150 µs of its end; times in µs. -/
def execSafeStopTestPulse (l : LaneId) (ch : Bool) (t : Nat) (offAfter onAfter : Option Nat) (s : State) :
    Host.Outcome State Fault Refusal :=
  onLaneAt l t s fun x =>
    let ok := (match offAfter with | some u => decide (u ≤ 150) | none => false)
      && (match onAfter with | some u => decide (u ≤ 150) | none => false)
    if !bitOf x.sio.tsEn (b2n ch) then x
    else
    let x := x.setSs ch { x.ss ch with stayedOff := onAfter.isNone }
    if ok then
      let x := x.setSs ch { x.ss ch with followed := (x.ss ch).followed + 1 }
      let good := decide (20 ≤ x.sio.ss0.followed) && decide (20 ≤ x.sio.ss1.followed)
      ({ x with sio := { x.sio with checkOk := x.sio.checkOk || good } }).ssBits
    else x.ssFail ch

/-- A channel after a 1 ms sample outside its pulse window: 3 consecutive samples open or close it (R285); one whose contact opened
during its own pulse is open at the first (R295). -/
def SsSt.sample (c : SsSt) (on : Bool) (t : Nat) : SsSt :=
  let first := c.stayedOff && !on
  let c := { c with stayedOff := false }
  if on = c.closed then { c with run := 0 }
  else if first || decide (3 ≤ c.run + 1) then { c with closed := on, run := 0, openAt := if on then c.openAt else t }
  else { c with run := c.run + 1 }

/-- SAFE_STOP_SAMPLE (R285): the two inputs as sampled every 1 ms; a sample inside a channel's own window is not
judged. -/
def execSafeStopSample (l : LaneId) (t : Nat) (on0 on1 : Bool) (s : State) : Host.Outcome State Fault Refusal :=
  onLaneAt l t s fun x =>
    let one := fun (x : Lane) (ch on : Bool) =>
      if bitOf x.sio.tsEn (b2n ch) && inPulse (laneNo l) ch t then x else x.setSs ch ((x.ss ch).sample on t)
    let x := one (one x false on0) true on1
    let one := x.sio.ss0.closed != x.sio.ss1.closed
    let x := { x with sio := { x.sio with discrepSeen := x.sio.discrepSeen && one,
                                          discrepAt := if one then some (x.sio.discrepAt.getD t) else none } }
    x.ssBits

/-- SAFE_STOP_INPUT_CHANGE (R285): the input came on again after `offNs` off; 100 µs to 400 µs outside the lane's own
pulse windows is a foreign pulse; one that overlaps an own pulse is not judged (R295). -/
def execSafeStopInputChange (l : LaneId) (ch : Bool) (offNs : Nat) (t : Nat) (s : State) :
    Host.Outcome State Fault Refusal :=
  onLaneAt l t s fun x =>
    let own := bitOf x.sio.tsEn (b2n ch)
      && (inPulse (laneNo l) ch t || decide (t - offNs ≤ pulseStart (laneNo l) ch t))
    if decide (100000 ≤ offNs ∧ offNs ≤ 400000) && !own then x.ssFail ch else x

/-- SAFE_STOP_DISCREPANCY (R286): one channel has been open for 500 ms while the other is closed. -/
def execSafeStopDiscrepancy (l : LaneId) (t : Nat) (s : State) : Host.Outcome State Fault Refusal :=
  onLaneAt l t s fun x =>
    let due := match x.sio.discrepAt with | some t0 => decide (t0 + 500000000 ≤ x.now) | none => false
    if due && !x.sio.discrepSeen then
      let x := (x.inc O.ssDiscrepancies).setRbit Rg.sioStat 17 true
      { x with sio := { x.sio with discrepSeen := true } }
    else x

/-- Does the lane demand a stop? (R286) -/
def Lane.stopDemand (l : Lane) : Bool := !l.sio.ss0.closed || !l.sio.ss1.closed || !l.sio.checkOk

/-- CLOSING_SEQUENCE (R289): E0 requests it. -/
def execClosingSequence (l : LaneId) (t : Nat) (s : State) : Host.Outcome State Fault Refusal :=
  onLaneAt l t s fun x => x.closeContactors

/-- OPENING_SEQUENCE (R289, R295): only while the steering stage does not drive. -/
def execOpeningSequence (l : LaneId) (t : Nat) (s : State) : Host.Outcome State Fault Refusal :=
  onLaneAt l t s fun x => if x.steer.driving then x else x.openContactors

/-- KN_OPEN_DELAY (R289, R291): 20 ms after KP, KN opens; the enable switch is tested after the sequence. -/
def execKnOpenDelay (l : LaneId) (t : Nat) (s : State) : Host.Outcome State Fault Refusal :=
  onLaneAt l t s fun x =>
    if x.ctState = 5 && decide (x.sio.seqAt + 20000000 ≤ x.now) then ((x.drv .kn false).setCtState 0).testEnable else x

/-- FEEDBACK_CONFIRMED (R289): KN's confirmation closes PRE, KP's opens PRE and ends the closing; with the link present
class HV ends (R64), and the steering diagnostics run (R264). The inputs with the drive's role read closed. With an error latched the
drives keep their state (R295). -/
def execFeedbackConfirmed (l : LaneId) (d : CtDrive) (r : FbRead) (s : State) : Host.Outcome State Fault Refusal :=
  onLaneAt l r.t s fun x =>
    let fs := x.feedbacks d r.fb.toNat
    if fs = [] || !fs.all id || x.coll.error then x else
    match d with
    | .kn => if x.ctState = 1 then
        let x := (x.drv .pre true).setCtState 2
        { x with sio := { x.sio with preAt := x.now } } else x
    | .kp => if x.ctState = 3 then
        let x := (x.drv .pre false).setCtState 4
        (x.hvCheck).diagStart else x
    | .pre => x

/-- PRECHARGE_COMPLETE (R289): V_LINK above PRE_MIN_V, and changed by less than 5 V since 10 ms before; KP closes. With an error latched
the drives keep their state (R295). -/
def execPrechargeComplete (l : LaneId) (t : Nat) (link : LinkVolts) (s : State) : Host.Outcome State Fault Refusal :=
  onLaneAt l t s fun x =>
    if x.ctState = 2 && !x.coll.error && decide (x.obj O.preMinV < link.now) && decide (((link.now : Int) - link.before).natAbs < 5) then
      ((x.drv .kp true).setCtState 3).setObj O.prechargeTime (min ((x.now - x.sio.preAt) / 1000000) 65535)
    else x

/-- PRECHARGE_TIMEOUT (R289): all three drives open; fault class HV. -/
def execPrechargeTimeout (l : LaneId) (t : Nat) (s : State) : Host.Outcome State Fault Refusal :=
  onLaneAt l t s fun x =>
    if x.ctState = 2 && decide (x.sio.preAt + 1000000 * x.obj O.preTimeout ≤ x.now) then
      ((x.drvAllOff).setCtState 6).hvFault
    else x

/-- The wait of R290 after a command to a drive has passed. -/
def Lane.ctWaited (l : Lane) (d : CtDrive) : Bool :=
  let c := l.ct d
  decide (c.cmdAt + 1000000 * (if c.on then l.obj O.ctPickup else l.obj O.ctDropout) ≤ l.now)

/-- Does an input with a drive's role read otherwise than the drive is commanded (R290)? -/
def Lane.mismatches (l : Lane) (d : CtDrive) (raw : Nat) : Bool := (l.feedbacks d raw).any fun b => b != (l.ct d).on

/-- FEEDBACK_MISMATCH (R290): after the wait an input that differs from its drive's command is an error; all three drives go off and the
enable switch opens. -/
def execFeedbackMismatch (l : LaneId) (d : CtDrive) (r : FbRead) (s : State) : Host.Outcome State Fault Refusal :=
  onLaneAt l r.t s fun x =>
    if x.ctWaited d && !(x.ct d).abandoned && x.mismatches d r.fb.toNat then
      let c := (x.ct d).on
      let was := x.hvClosed
      let x := x.raise (0x3C + ctIx d) (b2n c + 2 * b2n (!c))
      let x := ((x.drvAllOff).setCtState 0).setRbit Rg.sioCt 0 false
      let x := { x with sio := { x.sio with enable := false } }
      if was then x.hvFault else x
    else x

/-- Does a drive's off-pulse of the 500 ms cycle run at an instant: from its offset, for at most 250 µs? (R291, R293) -/
def Lane.inOffp (l : Lane) (d : CtDrive) (t : Nat) : Bool :=
  let o := 100000 * nth l.sio.offp (ctIx d)
  decide (o ≤ t % 500000000 ∧ t % 500000000 ≤ o + 250000)

/-- CONTACTOR_OFF_PULSE (R291, R292): at the drive's offset in the cycle. -/
def execContactorOffPulse (l : LaneId) (d : CtDrive) (t : Nat) (fellAfterUs : Option Nat) (demand : Bool) (s : State) :
    Host.Outcome State Fault Refusal :=
  onLaneAt l t s fun x => if x.inOffp d t then x.offPulse d fellAfterUs demand else x

/-- OFF_PULSE_RETEST (R292): the test that was discarded, 10 ms later. -/
def execOffPulseRetest (l : LaneId) (d : CtDrive) (t : Nat) (fellAfterUs : Option Nat) (demand : Bool) (s : State) :
    Host.Outcome State Fault Refusal :=
  onLaneAt l t s fun x =>
    match (x.ct d).retestAt with
    | some at_ => if at_ ≤ x.now then x.offPulse d fellAfterUs demand else x
    | none => x

/-- SIO_SCHEDULE_WRITE (R293): an image that is accepted waits for the next frame; one that is not makes the factory image
run. -/
def execSioScheduleWrite (l : LaneId) (img : List Byte) (t : Nat) (s : State) : Host.Outcome State Fault Refusal :=
  onLaneAt l t s fun x =>
    ({ x with sio := { x.sio with nextImg := some img } }).setOct O.sioSchedule img

end Sys2Proof.Machine
end

