-- ==== Sys2Proof/Machine/Shaper.lean ====
section
/-!
DEFINITION. Set-point shaping, host loss, the controlled stop and the Berm (R178 to R199).
-/
namespace Sys2Proof.Machine

/-- A field of the voted motion block (R349); `n` bytes at an offset. -/
def motionField (m : List Byte) (off n : Nat) : Nat := ofBytesBE ((padTo 40 m).drop off |>.take n)

/-- The voted motion block; zeros before a first Demand was voted. -/
def Lane.motion (l : Lane) : List Byte := match l.dem.voted with | some d => d.motion | none => []

/-- VEH_SPEED of the voted Demand (R349). -/
def Lane.vehSpeed (l : Lane) : Nat := motionField l.motion 4 2

/-- BRAKE_DEMAND of the voted Demand as a fraction of service force; a negative value acts as 0 (R349). -/
def Lane.voteBrake (l : Lane) : Rat := max 0 (valQ15 (motionField l.motion 6 2))

/-- PARK_REQ of the voted Demand (R349). -/
def Lane.parkReq (l : Lane) : Bool := bitOf (motionField l.motion 8 2) 0

/-- RUN_PERMIT of the voted Demand (R349, R350). -/
def Lane.runPermit (l : Lane) : Bool := bitOf (motionField l.motion 8 2) 1

/-- The steering period in seconds (R182). -/
def Lane.periodS (l : Lane) : Rat := (l.per .steer : Rat) / 250000000

/-- Absolute value. -/
def magQ (q : Rat) : Rat := if q < 0 then -q else q

/-- Sign of a rational. -/
def sgnQ (q : Rat) : Rat := if q < 0 then -1 else if 0 < q then 1 else 0

/-- A rational between -m and m. -/
def clampQ (q m : Rat) : Rat := max (-m) (min m q)

/-- The square root of a rational below 2 to the 47, to 2 to the -40. -/
def sqrtQ (q : Rat) : Rat := (isqrt (q * 2 ^ 80).floor.toNat : Rat) / 2 ^ 40

/-- The limits of R182: rate, acceleration, jerk, in degrees and seconds. -/
structure ShapeLimits where
  rateMax : Rat
  accMax : Rat
  jerkMax : Rat
deriving DecidableEq, Repr

/-- The limits in force; a rate cap of 0 means no cap (R178, R182). -/
def Lane.shapeLimits (l : Lane) : ShapeLimits where
  rateMax :=
    let r : Rat := (l.obj O.steerRateMax : Rat) / 100
    if l.shape.cap = 0 then r else min r ((l.shape.cap : Rat) / 100)
  accMax := (l.obj O.steerAccMax : Rat) / 10
  jerkMax := l.obj O.steerJerkMax

/-- v_des of R182. -/
def vDes (m : ShapeLimits) (e : Rat) : Rat :=
  let tj := m.accMax / (2 * m.jerkMax)
  sgnQ e * min m.rateMax (m.accMax * (sqrtQ (tj * tj + 2 * magQ e / m.accMax) - tj))

/-- A reference: angle, rate, acceleration and jerk. -/
structure Ref where
  pos : Rat
  rate : Rat
  acc : Rat
  jerk : Rat
deriving DecidableEq, Repr

/-- One step of the shaping law (R182) over `t` seconds. -/
def shapeStep (m : ShapeLimits) (t target : Rat) (r : Ref) : Ref :=
  let v := vDes m (target - r.pos)
  let dv := v - r.rate
  let aDes := sgnQ dv * min m.accMax (sqrtQ (2 * m.jerkMax * magQ dv))
  let a := r.acc + clampQ (aDes - r.acc) (m.jerkMax * t)
  let p := r.pos + r.rate * t + (2 * r.acc + a) / 6 * t * t
  let w := r.rate + (r.acc + a) / 2 * t
  if magQ (target - p) < 5 / 1000 && magQ w < 5 / 100 && magQ a < 5 / 10 then ⟨target, 0, 0, 0⟩
  else ⟨p, w, a, (a - r.acc) / t⟩

/-- The reference of the present sample. -/
def ShapeSt.ref (s : ShapeSt) : Ref := ⟨f32Val s.pos, f32Val s.rate, f32Val s.acc, 0⟩

/-- Steps 40 to 47 of the slots are written from the prepared reference (R179, R196). -/
def Lane.refSlots (l : Lane) : Lane :=
  let s := l.shape
  let p := q15 (f32Val s.nPos / 60)
  let v := q15 (f32Val s.nRate / 100)
  let a := q15 (f32Val s.nAcc / 1000)
  let l := l.setSlots 40 [p, v, a, q15 (f32Val s.nJerk / 10000), if s.l2 then l.obj O.bermIdAdd else 0, 0, 0, 0]
  (((l.setObj O.shapePos p).setObj O.shapeRate v).setObj O.shapeAcc a).setObj O.shapeTarget (q15 (f32Val s.target / 60))

/-- The step for the next sample is prepared or replaced (R180). -/
def Lane.prepareStep (l : Lane) : Lane :=
  let r := shapeStep l.shapeLimits l.periodS (f32Val l.shape.target) l.shape.ref
  { l with shape := { l.shape with nPos := f32Of r.pos, nRate := f32Of r.rate, nAcc := f32Of r.acc, nJerk := f32Of r.jerk } }

/-- The step for the next sample as it stands at t5, and its slots (R129, R179, R180). -/
def Lane.prepareRef (l : Lane) : Lane := l.prepareStep.refSlots

/-- The rest position of R188 step 1. -/
def restPos (m : ShapeLimits) (r : Ref) : Rat :=
  r.pos + sgnQ r.rate * (r.rate * r.rate / (2 * m.accMax) + magQ r.rate * m.accMax / (2 * m.jerkMax))

/-- The stop deceleration of a set of causes in 0.01 m/s² (R187). -/
def Lane.stopDecel (l : Lane) (causes : Nat) : Nat :=
  max (if bitOf causes 0 then l.obj O.hostLossDecel else 0)
    (max (if bitOf causes 1 then l.obj O.simplexStopDecel else 0)
      (if bits causes 2 2 ≠ 0 then l.obj O.stopDecelSafe else 0))

/-- The braking demand in force (R188): the stop's while one runs, else the voted one. -/
def Lane.brakeDemand (l : Lane) : Rat := if l.obj O.stopState = 1 then l.shape.dem else l.voteBrake

/-- The voted speed input of R189 in 0.1 km/h, where one is named and not lost. -/
def Lane.speedInput (l : Lane) : Option Rat :=
  let n := l.obj O.stopSpeedInput
  if h : n < 10 then
    let v := l.votes[n]
    if l.flag (O.voteEnable n) && v.now then some (magQ (valQ15 v.voted) * l.obj O.stopSpeedFs) else none
  else none

/-- A stop begins at this reload (R188, R189, R198): target frozen at the rest position, trim 1.000 and the speed it is adjusted by, and the
motion block that stays in force. -/
def Lane.beginStop (l : Lane) : Lane :=
  let d := l.voteBrake
  let rest := restPos l.shapeLimits l.shape.ref
  let dec := l.stopDecel l.shape.pend
  let l := (((l.setObj O.stopState 1).setObj O.stopCauses l.shape.pend).setObj O.stopDecelTarget dec).setObj O.stopTrim 1000
  { l with shape := { l.shape with target := f32Of rest, pend := 0, dem := d, floor := d, riseAt := l.smp.reloadAt,
                                   prevSpeed := l.speedInput, trimAt := l.now, held := some l.motion } }

/-- Park begins (R191, R221): every drive takes park hold, one that did not unlock before too. -/
def Lane.applyPark (l : Lane) : Lane :=
  { l with brk := { l.brk with parkOn := true, releasing := false, drv := l.brk.drv.map fun d => { d with unlockFailed := false },
                               locksLo := l.brk.locksLo.map fun (s : LockSeen) => if s = .back then .locked else s,
                               locksHi := l.brk.locksHi.map fun (s : LockSeen) => if s = .back then .locked else s } }

/-- Do the outputs in force show that the module is parked: every spring-brake output at duty 0 with the vehicle at rest (R191, R224;
assumption log 145)? -/
def Lane.parkShown (l : Lane) : Bool :=
  match l.claim.status with
  | some f =>
    let os := (List.range 8).filter fun n => l.obj (O.outRole n) = 1
    !os.isEmpty && os.all (fun n => decide (f.outState.getD n 0 = 0)) && decide (l.vehSpeed < 5)
  | none => false

/-- The seed of R422 takes the place of the shaper's state, of a running stop and of the lane's own; the motion block that stands when
a running stop is taken up stays in force through it (R198). The stop's floor is STOP_DEMAND of the seed, and STOP_STATE is 0 where the seed
carries no stop (assumption log 145). -/
def Lane.loadSeed (l : Lane) (b : List Byte) : Lane :=
  let f := fun off n => ofBytesBE ((b.drop off).take n)
  let rise := f 0x34 8
  let stop := decide (f 0x12 1 ≠ 0)
  let l := if stop then (((l.setObj O.stopState 1).setObj O.stopCauses (f 0x12 1)).setObj O.stopDecelTarget (f 0x14 2)).setObj
      O.stopTrim (f 0x16 2)
    else if l.obj O.stopState = 1 then (l.setObj O.stopState 0).setObj O.stopCauses 0 else l
  let l := if !stop && !l.brk.parkOn && l.parkShown then l.applyPark else l
  let dem := max 0 (valQ15 (f 0x30 2))
  let sh := { l.shape with pos := f 0 4, rate := f 4 4, acc := f 8 4, target := f 0xC 4, cap := f 0x10 2, seed := none,
                           dem := if stop then dem else l.shape.dem,
                           floor := if stop then dem else l.shape.floor, riseAt := if stop then rise else l.shape.riseAt,
                           pend := if stop then 0 else l.shape.pend, held := if stop then some l.motion else none }
  let ws := (List.finRange 12).foldl (fun (v : Vector WheelSt 12) (w : Fin 12) =>
    v.set w { v[w] with ref := max 0 (valQ15 (f (0x18 + 2 * w.val) 2)) }) l.brk.wheels
  ({ l with shape := sh, brk := { l.brk with wheels := ws } }).inc O.shaperSeeds

/-- A lane with no claiming peer seeds its shaper at rest at the posted road-wheel angle (R181). -/
def Lane.seedAtRest (l : Lane) : Lane :=
  let ang := Config.roadWheelPost ((List.range 32).map fun i => kvGet 0 (l.loop 0).posts (16 + i))
  let p := f32Of ((toI 16 (ang % 65536) : Rat) / 100)
  { l with shape := { l.shape with pos := p, rate := 0, acc := 0, nPos := p, nRate := 0, nAcc := 0, target := p } }

/-- The shaper at a reload: the prepared reference becomes the present one, or the seed addressed to this sample does; a
stop that was pending begins; the next step is prepared (R180, R181, R187, R188). -/
def Lane.shapeReload (l : Lane) : Lane :=
  let s := l.shape
  let l := { l with shape := { s with pos := s.nPos, rate := s.nRate, acc := s.nAcc } }
  let l := match s.seed with
    | some d => if d.sample = l.smp.no then l.loadSeed d.body else l
    | none => l
  let l := if l.shape.pend ≠ 0 then l.beginStop else l
  l.prepareStep

/-- Host loss at t5 (R185, R186, R198): declared, in hold, ended by a newer Demand as a recovery, or the hold is over. A Demand newer only
after the sample in which the hold ended brings the host back, but no recovery: the stop is due. -/
def Lane.hostStep (l : Lane) : Lane :=
  match l.dem.voted with
  | none => l
  | some _ =>
    let lost := decide (l.dem.votedAt + 1000000 * l.obj O.hostLossTime ≤ l.smp.reloadAt)
    let st := l.obj O.hostState
    if !lost then
      let rec_ := st = 1 || (st = 2 && decide (l.smp.reloadAt ≤ l.shape.holdEnd))
      let due := st = 2 && decide (l.shape.holdEnd < l.smp.reloadAt) && l.obj O.stopState ≠ 2 && l.shape.pend = 0
      (({ l with shape := { l.shape with lossDue := due } }).setObj O.hostState 0).incIf O.holdRecoveries rec_
    else
      let l := if st = 0 then
          ({ l with shape := { l.shape with lostAt := l.now } }).setObj O.hostState 1 |>.inc O.hostLossEvents
        else l
      if l.obj O.hostState = 1 && decide (l.shape.lostAt + 1000000 * l.obj O.hostLossHold ≤ l.now) then
        ({ l with shape := { l.shape with holdEnd := l.now } }).setObj O.hostState 2
      else l

/-- HOST_LOSS_HOLD_END (R186): the hold is over; the stop follows at t5 unless that vote brings a newer Demand. -/
def execHostLossHoldEnd (l : LaneId) (t : Nat) (s : State) : Host.Outcome State Fault Refusal :=
  onLaneAt l t s fun x =>
    if x.obj O.hostState = 1 && decide (x.shape.lostAt + 1000000 * x.obj O.hostLossHold ≤ x.now) then
      ({ x with shape := { x.shape with holdEnd := x.now } }).setObj O.hostState 2
    else x

/-- A bit of the SAFE_STOP byte in the lane's own frame or in a claiming lane's frame that passed R41 (R286, R338). -/
def Lane.safeStopBit (l : Lane) (i : Nat) : Bool :=
  (match l.smp.own with | some f => bitOf f.safeStop.toNat i | none => false)
  || bothPeers.any fun p => (l.peer p).claimsNow && (match (l.peer p).now with
    | some f => bitOf f.safeStop.toNat i
    | none => false)

/-- Is park held? PARK_STATE 2, or STOP_STATE parked in a variant without brakes. -/
def Lane.parkHeld (l : Lane) : Bool :=
  l.obj O.parkState = 2 || (decide (l.nDrives = 0) && l.obj O.stopState = 2)

/-- Is the requirement of R63 past its time and unmet: the vehicle at or above the permitted speed, or, without a limit, park
not held? -/
def Lane.requirementUnmet (l : Lane) : Bool :=
  l.claim.stopDue
    && (if l.obj O.speedLimitActive = 0xFFFF then !l.parkHeld else decide (l.obj O.speedLimitActive ≤ l.vehSpeed))

/-- The causes that hold at a t5 (R187). -/
def Lane.causesNow (l : Lane) : Nat :=
  packBits [l.obj O.hostState = 2 || l.shape.lossDue, l.requirementUnmet, l.safeStopBit 4, l.safeStopBit 3]

/-- The compatibility speed of R184 in 1/32768 of 2,000 Hz: the middle, the mean of two, or the single value of the claiming
lanes' ROTOR_SPEED. -/
def Lane.compatSpeed (l : Lane) (me : LaneId) : Rat :=
  let ws := (l.claimFrames me).map fun x => (toI 16 x.2.rotorSpeed.toNat : Rat)
  match ws with
  | [a] => a
  | [a, b] => (a + b) / 2
  | [a, b, c] => max (min a b) (min (max a b) c)
  | _ => 0

/-- Is a new target refused as a reversal? (R184) -/
def Lane.reversalRefused (l : Lane) (me : LaneId) (target : Rat) : Bool :=
  let r := l.shape.ref
  let v := vDes l.shapeLimits (target - r.pos)
  l.flag O.compatSkd2 && decide (v * r.rate < 0)
    && decide ((l.obj O.compatRevSpeed : Rat) / 10 ≤ magQ (l.compatSpeed me) * 2000 / 32768)

/-- The voted target and rate cap are taken (R178, R184), unless a stop runs or is about to begin. Clamps, and refusals, count
once for each newly voted Demand. -/
def Lane.takeTarget (l : Lane) (me : LaneId) : Lane :=
  match l.dem.voted with
  | none => l
  | some d =>
    let key := (d.session, d.rank)
    let fresh := decide (l.shape.judged ≠ some key)
    let raw := valQ15 (motionField d.motion 0 2) * 60
    let m : Rat := (l.obj O.steerAngleMax : Rat) / 100
    let tgt := clampQ raw m
    let l := { l with shape := { l.shape with cap := motionField d.motion 2 2, judged := some key } }
    let l := l.incIf O.targetClamps (fresh && decide (tgt ≠ raw))
    if f32Of tgt ≠ l.shape.target && l.reversalRefused me tgt then
      l.incIf O.reversalsRefused fresh
    else { l with shape := { l.shape with target := f32Of tgt } }

/-- How long the sources of R190 have been below 0.5 km/h; VEH_SPEED is a source while the host is present. -/
def Lane.trackSpeed (l : Lane) : Lane :=
  let inp := match l.speedInput with
    | some v => if v < 5 then some (l.shape.lowInput.getD l.now) else none
    | none => none
  let veh := if l.dem.voted.isSome && l.obj O.hostState = 0 && decide (l.vehSpeed < 5) then some (l.shape.lowVeh.getD l.now) else none
  { l with shape := { l.shape with lowInput := inp, lowVeh := veh } }

/-- Has a source been low for 1 s? -/
def Lane.lowLong (l : Lane) (since : Option Nat) : Bool :=
  match since with | some t0 => decide (t0 + 1000000000 ≤ l.now) | none => false

/-- The time of R190 source 3 in nanoseconds: a / (2 j) + v0 / a + STOP_MARGIN. -/
def Lane.standstillTime (l : Lane) : Nat :=
  let a := l.obj O.stopDecelTarget
  let j := l.obj O.stopJerk
  ceilDiv (a * 1000000000) (2 * j) + ceilDiv (l.vehSpeed * 100000000000) (36 * a) + 1000000 * l.obj O.stopMargin

/-- Standstill (R190), from the first source available. -/
def Lane.standstill (l : Lane) : Bool :=
  if l.speedInput.isSome then l.lowLong l.shape.lowInput
  else if l.dem.voted.isSome && l.obj O.hostState = 0 then l.lowLong l.shape.lowVeh
  else l.obj O.stopState = 1 && decide (l.shape.riseAt + l.standstillTime ≤ l.now)

/-- The stop's braking demand advances by a sample (R188 step 3, R189). -/
def Lane.stopDemandStep (l : Lane) : Lane :=
  let s := l.shape
  let force : Rat := (l.obj O.stopDecelTarget : Rat) / 100 * (l.obj O.stopForceGain : Rat) / 1000 * (l.obj O.stopTrim : Rat) / 1000
  let step : Rat := (l.obj O.stopForceGain : Rat) / 1000 * (l.obj O.stopJerk : Rat) / 100 * l.periodS
  let d := max s.floor (s.dem + clampQ (force - s.dem) step)
  { l with shape := { s with dem := d } }

/-- Host loss, causes, target and the next step at t5 (R178 to R190). In a module parked after a stop a cause begins none (assumption log
167). -/
def Lane.shapeT5 (l : Lane) (me : LaneId) : Lane :=
  let l := l.hostStep.trackSpeed
  let c := l.causesNow
  let st := l.obj O.stopState
  let l :=
    if st = 1 then
      let all := l.obj O.stopCauses ||| c
      ((l.setObj O.stopCauses all).setObj O.stopDecelTarget (max (l.obj O.stopDecelTarget) (l.stopDecel all))).stopDemandStep
    else if st = 0 && c ≠ 0 then { l with shape := { l.shape with pend := c } }
    else { l with shape := { l.shape with pend := 0 } }
  let l := if l.obj O.stopState ≠ 1 && l.shape.pend = 0 then l.takeTarget me else l
  l.prepareRef

/-- STOP_TRIM_UPDATE (R189): 100 ms after the stop began or after the last update, while a stop runs with a speed input; the deceleration is
the fall of speed since then. -/
def execStopTrimUpdate (l : LaneId) (t : Nat) (s : State) : Host.Outcome State Fault Refusal :=
  onLaneAt l t s fun x =>
    if x.obj O.stopState = 1 && decide (x.shape.trimAt + 100000000 ≤ x.now) then
      match x.speedInput with
      | none => { x with shape := { x.shape with prevSpeed := none, trimAt := x.now } }
      | some v =>
        let y := { x with shape := { x.shape with prevSpeed := some v, trimAt := x.now } }
        match x.shape.prevSpeed with
        | none => y
        | some v0 =>
          let dec : Rat := (x.obj O.stopDecelTarget : Rat) / 100
          let am := (v0 - v) / 36 / ((x.now - x.shape.trimAt : Nat) / 1000000000)
          let tr := (x.obj O.stopTrim : Rat) / 1000 * (1 + (dec - am) / dec / 4)
          y.setObj O.stopTrim (roundRat (max (1 / 2) (min 2 tr) * 1000)).toNat
    else x

/-- STANDSTILL (R190, R191): within a stop the module applies park. -/
def execStandstill (l : LaneId) (t : Nat) (s : State) : Host.Outcome State Fault Refusal :=
  onLaneAt l t s fun x =>
    if x.obj O.stopState = 1 && x.standstill then
      let x := ({ x with shape := { x.shape with held := none } }.setObj O.stopState 2).inc O.stopsCompleted
      x.applyPark
    else x

/-- Does a link code, signed on 1,200 V, reach a threshold in volt? -/
def reaches (code volts : Nat) : Bool := decide ((volts : Int) * 32768 ≤ toI 16 code * 1200)

/-- One Berm latch at a reload (R193): set, below-since, and whether it was set just now. -/
def bermLatch (on : Bool) (below : Option Nat) (code thr hys now : Nat) : Bool × Option Nat × Bool :=
  if reaches code thr then (true, none, !on)
  else (on, if reaches code (thr - hys) then none else some (below.getD now), false)

/-- The active Berm level (R193). -/
def ShapeSt.level (s : ShapeSt) : Nat := if s.l2 then 2 else if s.l1 then 1 else 0

/-- Berm levels 1 and 2 at a reload on slot V_LINK, and the peak (R193, R199). Source 0x17 reads idle again once the slot lies below
level 3 (assumption log 32). -/
def Lane.bermReload (l : Lane) : Lane :=
  let v := l.slot 11
  let h := l.obj O.bermHys
  let a := bermLatch l.shape.l1 l.shape.l1Below v (l.obj O.bermL1) h l.now
  let b := bermLatch l.shape.l2 l.shape.l2Below v (l.obj O.bermL2) h l.now
  let l := { l with shape := { l.shape with l1 := a.1, l1Below := a.2.1, l2 := b.1, l2Below := b.2.1 } }
  let l := (l.incIf O.bermL1Events a.2.2).incIf O.bermL2Events b.2.2
  let l := if reaches v (l.obj O.bermL3) then l else { l with coll := { l.coll with asserted := removeAsc 0x17 l.coll.asserted } }
  let volts := (roundDiv (max 0 (toI 16 v) * 1200) 32768).toNat
  (l.setObj O.bermLevel l.shape.level).setObj O.vLinkPeak (max volts (l.obj O.vLinkPeak))

/-- The resistance of R194 at the winding temperature. -/
def Lane.rsWarm (l : Lane) : Rat :=
  f32Val (l.obj O.steerRs) * (1 + f32Val (l.obj O.steerRsTc) * ((toI 16 l.drive.tWind : Rat) / 100 - 20))

/-- REGEN_LIMIT at t5 (R194), with P_SW_EST. -/
def Lane.regenLimit (l : Lane) : Lane :=
  let cur := sqrtRound ((toI 16 (l.posted 0) * toI 16 (l.posted 0) + toI 16 (l.posted 1) * toI 16 (l.posted 1))).toNat
  let psw := Config.pSw l.cal (l.slot 11) cur (l.per .steer) % 65536
  let hz : Rat := magQ ((toI 16 (l.posted 4) : Rat) * 2000 / 32768)
  let i2 : Rat := ((toI 16 (l.posted 0) * toI 16 (l.posted 0) + toI 16 (l.posted 1) * toI 16 (l.posted 1) : Int) : Rat)
    * 280 * 280 / (32768 * 32768)
  let loss := 3 / 2 * l.rsWarm * i2 + psw
  let wt := 2 * piQ * hz / l.obj O.steerPolePairs * l.ratedTorque
  let lim : Nat := if l.shape.level = 0 || decide (hz < 1) || decide (wt ≤ 0) then 0x8000 else q15 (max (-1) (-loss / wt))
  ((l.setObj O.pSwEst psw).setSlot 34 lim).setObj O.regenLimitActive lim

/-- BERM_EXIT (R193): V_LINK has stayed below the threshold less the hysteresis throughout the exit time. -/
def execBermExit (l : LaneId) (level2 : Bool) (t : Nat) (s : State) : Host.Outcome State Fault Refusal :=
  onLaneAt l t s fun x =>
    let below := if level2 then x.shape.l2Below else x.shape.l1Below
    let due := match below with | some t0 => decide (t0 + 1000000 * x.obj O.bermExitTime ≤ x.now) | none => false
    if due then
      let x := if level2 then { x with shape := { x.shape with l2 := false } } else { x with shape := { x.shape with l1 := false } }
      x.setObj O.bermLevel x.shape.level
    else x

/-- BERM_LEVEL_3 (R197): the comparator trips; the stage stops, its safe state is chosen, and the lane withdraws. -/
def execBermLevel3 (l : LaneId) (t volts : Nat) (vTermAbove : Bool) (s : State) : Host.Outcome State Fault Refusal :=
  onLaneAt l t s fun x =>
    if x.obj O.bermL3 ≤ volts then
      let x := x.seeTerminals vTermAbove
      (x.inc O.bermL3Errors).sourceAsserts 0x17 volts
    else x

/-- BERM_AUTO_CLEAR (R197): E0 issues the clear after the link has stayed low for the wait. -/
def execBermAutoClear (l : LaneId) (t : Nat) (s : State) : Host.Outcome State Fault Refusal :=
  onLaneAt l t s fun x =>
    let low := match x.shape.l1Below with | some t0 => decide (t0 + 1000000 * x.obj O.bermClearWait ≤ x.now) | none => false
    if x.flag O.bermAutoClear && low && bitOf (x.coll.spall 0x17).flags 0 then
      ({ x with coll := { x.coll with asserted := removeAsc 0x17 x.coll.asserted } }).requestClear
    else x

end Sys2Proof.Machine
end

