-- ==== Sys2Proof/Machine/Brakes.lean ====
section
/-!
DEFINITION. Brake-by-wire (R200 to R228): wheel ends and windings, Halls, clamp force, demand and capacity, position and
contact, park, spring brakes, and the slots of the brake loops.
-/
namespace Sys2Proof.Machine

/-- The wheel end, 0 to 11, that drive n of a lane serves (R200). -/
def wheelOf (me : LaneId) (n : Nat) : Nat :=
  4 * (if n % 2 = 0 then laneNo me - 1 else (laneNo me + 1) % 3) + n / 2

/-- The lanes and drives of windings A and B of a wheel end (R200): lane numbers. -/
def windingsOf (w : Nat) : (Nat × Nat) × (Nat × Nat) :=
  let q := w / 4
  ((q + 1, 2 * (w % 4)), ((q + 1) % 3 + 1, 2 * (w % 4) + 1))

/-- The partner of a drive: lane number and drive (R200). -/
def partnerOf (me : LaneId) (n : Nat) : Nat × Nat :=
  let x := windingsOf (wheelOf me n)
  if n % 2 = 0 then x.2 else x.1

/-- The peer with a lane number. -/
def peerNo (me : LaneId) (k : Nat) : Option Peer := bothPeers.find? fun p => laneNo (peerId me p) = k

/-- Is a wheel end provided by the variant and fitted? (R201, R203) -/
def Lane.fittedW (l : Lane) (w : Nat) : Bool := l.servesW w && l.flag (O.weFitted w)

/-- Is a drive provided, and its wheel end fitted? -/
def Lane.fittedD (l : Lane) (me : LaneId) (n : Nat) : Bool := decide (n < l.nDrives) && l.fittedW (wheelOf me n)

/-- A drive of the lane. -/
def Lane.bd (l : Lane) (n : Fin 8) : BrakeDrv := l.brk.drv[n]

/-- A lane with one brake drive changed. -/
def Lane.updBd (l : Lane) (n : Fin 8) (f : BrakeDrv → BrakeDrv) : Lane :=
  { l with brk := { l.brk with drv := l.brk.drv.set n (f l.brk.drv[n]) } }

/-- A wheel end. -/
def Lane.wheel (l : Lane) (w : Nat) : WheelSt := if h : w < 12 then l.brk.wheels[w] else {}

/-- A lane with one wheel end changed. -/
def Lane.updWheel (l : Lane) (w : Fin 12) (f : WheelSt → WheelSt) : Lane :=
  { l with brk := { l.brk with wheels := l.brk.wheels.set w (f l.brk.wheels[w]) } }

/-- The state of a drive (R203). -/
def Lane.brakeState (l : Lane) (me : LaneId) (n : Fin 8) : Nat :=
  let d := l.bd n
  let run := l.brakes[n].driving
  if !l.fittedD me n then 0
  else if d.parkLock && !run then 3
  else if l.tripped (.brake n) then 4
  else if run then 2
  else if l.coll.error || !d.inService then 5
  else 1

/-- CAPABILITY bit 1: the brake supply is available; always set in a variant without brakes (R4, R39). -/
def Lane.capBrake (l : Lane) : Bool := decide (l.nDrives = 0) || (l.drive.brakePresent && !l.drive.bsClass)

/-- The gate supplies that serve a stage stand, so that none of its switches is held off (R249). -/
def Lane.gatesFed (l : Lane) : Stage → Bool
  | .steer => !(l.gate.supOut.take 6).any id
  | .brake _ => !nthB l.gate.supOut 6

/-- What every stage needs to drive: the lane claims in Run, its drivers are enabled and powered, no trip stands, and the
stage has passed its off-state diagnostics; a lane made ready for removal drives no stage (R249, R260, R263, R264, R426). -/
def Lane.stageReady (l : Lane) (st : Stage) : Bool :=
  l.claim.claiming && !l.coll.error && decide (l.fld Rg.pwrStat 0 3 = 0) && !l.gateCut && l.rbit Rg.gdCtl (stageIx st)
  && l.gatesFed st && !l.tripped st && decide ((l.stg st).diag = .passed) && !l.upd.removal

/-- A drive drives its winding only while all of this holds (R203). -/
def Lane.mayBrake (l : Lane) (me : LaneId) (n : Fin 8) : Bool :=
  let d := l.bd n
  l.stageReady (.brake n) && l.capBrake && d.inService && l.fittedD me n
  && decide (d.mode ≠ 0) && (decide (d.mode ≠ 4) || (l.brakes[n].driving && d.zeroAt.isNone && decide (l.now < d.mode4At + 50000000)))

/-- The posts of a drive's loop (R209). -/
def Lane.bpost (l : Lane) (n : Fin 8) (i : Nat) : Nat := kvGet 0 (l.loop ⟨n.val + 1, by omega⟩).posts i

/-- Point i of a wheel end's stiffness table. -/
def Lane.stiffPt (l : Lane) (w i : Nat) : Nat := l.obj (O.weStiff w i)

/-- The stiffness force at a travel beyond contact (R210). -/
def Lane.stiffForce (l : Lane) (w : Nat) (x : Int) : Nat :=
  let st := l.obj (O.weStiffStep w)
  if x < 0 then 0
  else if st = 0 then Config.stiffFree x.toNat % 32768
  else
    let i := min 14 (x.toNat / st)
    let a := l.stiffPt w i
    let b := l.stiffPt w (i + 1)
    min 0x7FFF (a + (roundDiv (((b : Int) - a) * (x - i * st)) st).toNat)

/-- The travel at which the stiffness table gives a force code: the first, where several points give it (R210, R218). -/
def Lane.travelOf (l : Lane) (w : Nat) (f : Rat) : Rat :=
  let st := l.obj (O.weStiffStep w)
  let i := min 14 (((List.range 15).filter fun i => ((l.stiffPt w (i + 1) : Nat) : Rat) < f).length)
  let a : Rat := l.stiffPt w i
  let b : Rat := l.stiffPt w (i + 1)
  if f ≤ 0 then 0
  else if st = 0 || decide (b ≤ a) then Config.stiffFree (f.floor.toNat + 0x10000)
  else ((i : Rat) + (f - a) / (b - a)) * st

/-- A distance in micrometre as counts of a wheel end (R218). -/
def Lane.countsOf (l : Lane) (w um : Nat) : Nat :=
  let tr := l.obj (O.weTravel w)
  if tr = 0 then Config.stiffFree (um + 0x20000) else (roundDiv (um * 384 * l.obj (O.wePolePairs w) : Nat) tr).toNat

/-- The sector of a Hall code in the apply direction, if it is valid (R204). -/
def sectorOf (rev : Bool) (c : Nat) : Option Nat :=
  match (if rev then [5, 4, 6, 2, 3, 1] else [1, 3, 2, 6, 4, 5]).findIdx? (· = c) with
  | some s => some s
  | none => none

/-- A drive goes out of service (R205): the winding opens and the origin is lost. -/
def Lane.outOfService (l : Lane) (n : Fin 8) : Lane :=
  let l := (l.updBd n fun d => { d with inService := false, originOk := false }).setObj (O.bdInService n) 0
  l.openBrake n

/-- HALL_CHANGE (R204, R205, R217) of a drive that exists: an accepted change moves the position, or is a fault; the fourth fault
in the last 64 changes takes the drive out of service. Any movement since a park lock is kept for the next start; one that is or
may be in the release direction clears BD_PARK_POS, and a lock check sees the lowest position (R222). -/
def execHallChange (l : LaneId) (n : Fin 8) (code : BitVec 3) (t : Nat) (s : State) : Host.Outcome State Fault Refusal :=
  onLaneAt l t s fun x =>
    let d := x.bd n
    let c := code.toNat
    if c = d.code || decide (x.nDrives ≤ n.val) then x
    else
      let rev := x.flag (O.bdDir n)
      let now := sectorOf rev c
      let was := match d.lastValid with | some v => sectorOf rev v | none => none
      let step := match was, now with | some a, some b => (b + 6 - a) % 6 | _, _ => 0
      let fault := now.isNone || (decide (2 ≤ step) && decide (step ≤ 4))
      let back := decide (step = 5)
      let pos := if step = 1 then (d.pos + 64) % 65536 else if back then (d.pos + 65536 - 64) % 65536 else d.pos
      let hist := (fault :: d.faults).take 64
      let dt := if d.changeAt = 0 then none else some (x.now - d.changeAt)
      let x := x.updBd n fun d =>
        { d with code := c, lastValid := if now.isSome then some c else d.lastValid, changeAt := x.now, changeDt := dt,
                 faults := hist, faultNow := d.faultNow || fault, pos := pos,
                 moved := d.moved || decide (step ≠ 0), lockLow := min d.lockLow pos }
      let x := if 3 ≤ step then x.setObj (O.bdParkPos n) 0xFFFF else x
      let x := x.incIf (O.bdHallFaults n) fault
      if decide (4 ≤ (hist.filter id).length) && d.inService then x.outOfService n else x

/-- HALL_INVALID_HOLD (R205): an invalid code held for 2 ms. -/
def execHallInvalidHold (l : LaneId) (n : Fin 8) (t : Nat) (s : State) : Host.Outcome State Fault Refusal :=
  onLaneAt l t s fun x =>
    let d := x.bd n
    if (d.code = 0 || d.code = 7) && decide (d.changeAt + 2000000 ≤ x.now) && d.inService && decide (n.val < x.nDrives) then x.outOfService n else x

/-- BD_RESTORE (R205): back in service with the wheel end at standstill and a valid code for 100 ms. -/
def execBdRestore (l : LaneId) (n : Fin 8) (t : Nat) (s : State) : Host.Outcome State Fault Refusal :=
  onLaneAt l t s fun x =>
    let d := x.bd n
    if decide (1 ≤ d.code ∧ d.code ≤ 6) && decide (d.changeAt + 100000000 ≤ x.now) && decide (n.val < x.nDrives) then
      (x.updBd n fun d => { d with inService := true, faults := [] }).setObj (O.bdInService n) 1
    else x

/-- A winding of the lane itself runs (R215). -/
def Lane.ownWinding (l : Lane) (me : LaneId) (n : Fin 8) : Bool :=
  let b := l.brakeState me n
  b = 2 || (((l.bd n).mode = 0 || (l.bd n).mode = 4) && l.stageReady (.brake n) && l.capBrake && (l.bd n).inService
    && l.fittedD me n)

/-- A winding of a peer runs (R215), by its last frame that passed, with at most one sample failed since. -/
def Lane.peerWinding (l : Lane) (p : Peer) (drive mode : Nat) : Bool :=
  let q := l.peer p
  match q.last with
  | none => false
  | some f =>
    let b := (f.brakeState.getD drive 0).toNat
    decide (q.failed ≤ 1) && !q.evicted && (b = 2 || ((b = 1 || b = 3) && bitOf f.status.toNat 0 && bitOf f.capability.toNat 1
      && (mode = 0 || mode = 4)))

/-- Does a winding run? (R215) -/
def Lane.windingRuns (l : Lane) (me : LaneId) (x : Nat × Nat) (mode : Nat) : Bool :=
  if x.1 = laneNo me then (if h : x.2 < 8 then l.ownWinding me ⟨x.2, h⟩ else false)
  else match peerNo me x.1 with
    | some p => l.peerWinding p x.2 mode
    | none => false

/-- The number of running windings of a wheel end. -/
def Lane.runCount (l : Lane) (me : LaneId) (w : Nat) : Nat :=
  let m := (l.wheel w).mode
  b2n (l.windingRuns me (windingsOf w).1 m) + b2n (l.windingRuns me (windingsOf w).2 m)

/-- cap before the mirror rule (R215). -/
def Lane.capOf (l : Lane) (n : Nat) : Rat := if n = 2 then 1 else if n = 1 then valQ15 (l.obj O.bwSingleFrac) else 0

/-- Capacity and targets of every fitted wheel end at a t5, and BRAKE_CAPACITY (R215); WE_FLAGS bits 4 and 5. -/
def Lane.capacity (l : Lane) (me : LaneId) (d : Rat) : Lane :=
  let runs := (List.range 12).map fun w => if l.fittedW w then l.runCount me w else 0
  let cap := fun w =>
    let c := l.capOf (nth runs w)
    let m := l.obj (O.weMirror w)
    if l.flag O.bwSymmetric && decide (m ≠ 0) && l.fittedW (m - 1) then min c (l.capOf (nth runs (m - 1))) else c
  let ws := (List.range 12).filter fun w => l.fittedW w
  let share := fun w => valQ15 (l.obj (O.weShare w))
  let tot := (ws.map share).foldl (· + ·) 0
  let c := if tot = 0 then 0 else ((ws.map fun w => cap w * share w).foldl (· + ·) 0) / tot
  let l := l.setObj O.brakeCapacity (q15 c)
  (List.finRange 12).foldl (fun l (w : Fin 12) =>
    if l.fittedW w then
      let fl := l.obj (O.weFlags w)
      let fl := putBits (putBits fl 4 1 (b2n (decide (nth runs w = 1)))) 5 1 (b2n (decide (nth runs w = 0)))
      (l.setObj (O.weFlags w) fl).updWheel w fun x => { x with cap := cap w, target := min (d * share w) (cap w) }
    else l.updWheel w fun x => { x with cap := 0, target := 0 }) l

/-- Does any cause of R187 hold at this t5? -/
def Lane.anyCause (l : Lane) : Bool := decide (l.causesNow ≠ 0)

/-- Has every fitted wheel end a winding whose lane claims with CAPABILITY bit 1? (R223) -/
def Lane.allServed (l : Lane) (me : LaneId) : Bool :=
  let lanes := ((l.claimFrames me).filter fun x => bitOf x.2.capability.toNat 1).map fun x => x.1
  (List.range 12).all fun w => !l.fittedW w || decide ((windingsOf w).1.1 ∈ lanes) || decide ((windingsOf w).2.1 ∈ lanes)

/-- A drive starts MODE 5 (R223). -/
def BrakeDrv.unlock (d : BrakeDrv) (now pos : Nat) : BrakeDrv :=
  { d with mode := 5, unlockAt := now, unlockPos := pos, posRef := none, tracking := false, lockTry := 0 }

/-- The eight drives. -/
def allDrives : List (Fin 8) := List.finRange 8

/-- Is a drive in park lock, or on its way out of it? -/
def Lane.inLock (l : Lane) (me : LaneId) (n : Fin 8) : Bool := l.fittedD me n && ((l.bd n).parkLock || decide ((l.bd n).mode = 5))

/-- The locks of a peer's drives as seen. -/
def Lane.locks (l : Lane) : Peer → List LockSeen
  | .lo => l.brk.locksLo
  | .hi => l.brk.locksHi

/-- What a lane makes of a drive's BRAKE_STATE in a frame (R203, R223): a drive that leaves 3 is on its way out of its lock for at most
the 500 ms of R223 (assumption log 126). -/
def LockSeen.next (s : LockSeen) (state now : Nat) : LockSeen :=
  if state = 3 then (match s with | .out => .locked | .leaving _ => .back | x => x)
  else match s with
    | .locked => .leaving now
    | .back => .leaving now
    | .leaving t0 => if t0 + 500000000 ≤ now then .out else s
    | .out => .out

/-- The frames of a t5 show the locks of the peers' drives (R35, R41). -/
def Lane.noteLocks (l : Lane) : Lane :=
  let next := fun (p : Peer) => match (l.peer p).now with
    | some f => (List.range 8).map fun n => ((l.locks p).getD n .out).next (f.brakeState.getD n 0).toNat l.now
    | none => l.locks p
  { l with brk := { l.brk with locksLo := next .lo, locksHi := next .hi } }

/-- Is a fitted wheel end still in park lock or on its way out of it (R224)? The own drives, and those of the claiming peers as their
frames show them; `open_` leaves out the drives that returned to park lock after R223's 500 ms. -/
def Lane.anyLocked (l : Lane) (me : LaneId) (open_ : Bool) : Bool :=
  (allDrives.any fun (n : Fin 8) => l.inLock me n && !(open_ && (l.bd n).unlockFailed))
  || bothPeers.any fun p => (l.peer p).claims
    && (l.locks p).any fun s => decide (s ≠ .out) && !(open_ && decide (s = .back))

/-- A park request or release as judged at t5 (R191, R221, R223, R227). A stop that begins at the same t5 governs; a lane in Hold
judges no release (R432); a wheel end that did not unlock stays parked until park has been applied anew. -/
def Lane.parkStep (l : Lane) (me : LaneId) : Lane :=
  let b := l.brk
  if l.parkReq && !b.parkOn && l.obj O.stopState ≠ 1 && (l.obj O.stopState = 2 || !l.anyCause) then
    if l.standstill then l.applyPark
    else
      let key := l.dem.voted.map fun d => (d.session, d.rank)
      if b.refusedOf = key then l
      else ({ l with brk := { b with refusedOf := key } }).inc O.parkRefused
  else if l.dem.voted.isSome && !l.parkReq && (b.parkOn || l.anyLocked me true) && !b.releasing && !l.anyCause
      && l.obj O.stopState ≠ 1 && decide (l.fld Rg.pwrStat 0 3 = 0)
      && decide (valQ15 (l.obj O.bwReleaseMin) ≤ l.voteBrake) && l.allServed me then
    let l := { l with brk := { b with parkOn := false, releasing := true }, claim := { l.claim with stopFrom := none, stopDue := false } }
    let l := if l.obj O.stopState = 2 then (l.setObj O.stopState 0).setObj O.stopCauses 0 else l
    allDrives.foldl (fun l (n : Fin 8) => l.updBd n fun d => if d.parkLock && !d.unlockFailed then d.unlock l.now (l.bpost n 3) else d) l
  else l

/-- The force that a wheel end moves towards: the park force while park is on, else its target (R215, R221). -/
def Lane.forceGoal (l : Lane) (w : Fin 12) : Rat :=
  let x := l.brk.wheels[w]
  if l.brk.parkOn then min (valQ15 (l.obj O.bwParkForce)) x.cap else x.target

/-- FORCE_REF and its rate of every wheel end (R215). -/
def Lane.forceStep (l : Lane) : Lane :=
  let t := l.periodS
  let up : Rat := (l.obj O.bwForceRate : Rat) / 100 * t
  let down : Rat := (l.obj O.bwReleaseRate : Rat) / 100 * t
  (List.finRange 12).foldl (fun l (w : Fin 12) =>
    let g := l.forceGoal w
    l.updWheel w fun x =>
      let r := max (x.ref - down) (min (x.ref + up) g)
      { x with ref := r, rate := (r - x.ref) / t, near := if r = g then some (x.near.getD l.now) else none }) l

/-- The MODE of a wheel end that this lane does not drive, from the same voted inputs (R215). -/
def Lane.foreignModes (l : Lane) (me : LaneId) : Lane :=
  (List.finRange 12).foldl (fun l (w : Fin 12) =>
    if (windingsOf w).1.1 = laneNo me || (windingsOf w).2.1 = laneNo me then l
    else
      let x := l.brk.wheels[w]
      let long := match x.near with | some t0 => decide (t0 + 100000000 ≤ l.now) | none => false
      let m := if l.brk.parkOn then (if x.mode = 4 || (x.mode = 3 && long) then 4 else 3)
        else if 0 < x.target then 2
        else if x.mode = 2 && x.ref = 0 && (match x.near with
            | some t0 => decide (t0 + 1000000 * l.obj O.bwRetractDelay ≤ l.now) | none => false) then 1
        else if x.mode = 3 || x.mode = 4 then 2 else x.mode
      l.updWheel w fun x => { x with mode := m }) l

/-- The MODE of an own drive (R217, R218, R221, R223) at t5: without a valid origin it homes before it moves. An apply that began in
MODE 1 teaches a contact until it ends (R219). -/
def Lane.driveMode (me : LaneId) (l : Lane) (n : Fin 8) : Lane :=
  let d := l.bd n
  let w := wheelOf me n
  let x := l.wheel w
  let sets := fun m => if m = d.mode then d else { d with mode := m }
  let first := fun (m : Nat) => if d.originOk then m else 6
  let d' : BrakeDrv :=
    if !l.fittedD me n then { d with mode := 0 }
    else if d.wantHome then
      if d.mode = 5 then
        if d.pos + l.countsOf w (l.obj O.bwUnlock) ≤ d.unlockPos then { d with mode := 6, parkLock := false } else d
      else d
    else if d.mode = 5 then
      if l.bpost n 3 + l.countsOf w (l.obj O.bwUnlock) ≤ d.unlockPos then
        { d with mode := first 2, parkLock := false } else d
    else if d.mode = 6 then d
    else if l.brk.parkOn then
      if d.parkLock || d.mode = 3 || d.mode = 4 then d
      else { d with mode := first 3, nearSince := none, lockTry := 0, zeroAt := none, unlockFailed := false }
    else if d.parkLock then d
    else if d.mode = 3 || d.mode = 4 then { d with mode := 2 }
    else if 0 < x.target then
      if d.mode = 2 && (d.originOk || !d.inService) then d else { sets (first 2) with armed := d.mode = 1, tqRun := 0 }
    else d
  let near := decide (d'.mode = 3) && decide (magQ (valQ15 (l.bpost n 0) - min (valQ15 (l.obj O.bwParkForce)) x.cap) ≤ 2 / 100)
  let l := l.updBd n fun _ =>
    { d' with armed := d'.armed && decide (d'.mode = 2) && (decide (0 < x.target) || decide (x.ref ≠ 0))
              nearSince := if near then some (d'.nearSince.getD l.now) else none
              zeroSince := if x.ref = 0 then some (d'.zeroSince.getD l.now) else none }
  if h : w < 12 then l.updWheel ⟨w, h⟩ fun x => { x with mode := d'.mode } else l

/-- POS_REF of an own drive (R218), up and down at no more than BW_GAP_SPEED until it tracks the force; none reads 0xFFFF. -/
def Lane.posRefStep (me : LaneId) (l : Lane) (n : Fin 8) : Lane :=
  let d := l.bd n
  let w := wheelOf me n
  let contact := l.obj (O.bdContact n)
  if contact = 0xFFFF || !(d.mode = 1 || d.mode = 2 || d.mode = 3) then
    l.updBd n fun d => { d with posRef := none, tracking := false }
  else if d.mode = 1 then
    l.updBd n fun d => { d with posRef := some ((contact : Rat) - l.countsOf w (l.obj O.bwClearance)), tracking := false }
  else
    let goal := (contact : Rat) + l.travelOf w (min ((l.wheel w).ref * 32768) 32767)
    let step : Rat := (l.obj O.bwGapSpeed : Rat) * 384 * l.obj (O.wePolePairs w) * l.periodS
    let cur := d.posRef.getD (d.pos : Rat)
    l.updBd n fun d =>
      if d.tracking || (decide (goal ≤ cur + step) && decide (cur - step ≤ goal)) then { d with posRef := some goal, tracking := true }
      else { d with posRef := some (if cur < goal then cur + step else cur - step) }

/-- CONTACT_POS is taken (R219), and with a pad change under way it is the new-pad contact too (R220). -/
def Lane.takeContact (l : Lane) (n : Fin 8) (c : Nat) : Lane :=
  let l := l.setObj (O.bdContact n) c
  let l := if (l.bd n).pad then l.setObj (O.bdContactNew n) c else l
  l.updBd n fun d => { d with cands := [], waive := false, pad := false }

/-- Distance of two positions. -/
def posDist (a b : Nat) : Nat := ((a : Int) - b).natAbs

/-- A contact candidate is judged (R212, R219). -/
def Lane.judgeContact (l : Lane) (me : LaneId) (n : Fin 8) (c : Nat) : Lane :=
  let win := l.countsOf (wheelOf me n) (l.obj O.bwContactWin)
  let cur := l.obj (O.bdContact n)
  let d := l.bd n
  let cs := (c :: d.cands).take 3
  let three := match cs with
    | [a, b, e] => decide (posDist a b ≤ win) && decide (posDist b e ≤ win) && decide (posDist a e ≤ win)
    | _ => false
  if cur = 0xFFFF || posDist c cur ≤ win || d.waive || three then l.takeContact n c
  else (l.updBd n fun d => { d with cands := cs }).inc (O.bdContactJumps n)

/-- Contact learning after a run (R219). -/
def Lane.learnContact (me : LaneId) (l : Lane) (n : Fin 8) : Lane :=
  let d := l.bd n
  if d.mode = 2 && d.armed then
    let cf := l.obj O.bwContactF
    if toI 16 (l.bpost n 1) < toI 16 cf then l.updBd n fun d => { d with tqRun := 0 }
    else
      let c := ofI 16 ((l.bpost n 3 : Int) - roundRat (l.travelOf (wheelOf me n) (valQ15 cf * 32768)))
      let c := if d.tqRun = 0 then c else d.cand
      if 3 ≤ d.tqRun + 1 then
        (l.updBd n fun d => { d with armed := false, tqRun := 0, cand := c }).judgeContact me n c
      else l.updBd n fun d => { d with tqRun := d.tqRun + 1, cand := c }
  else l

/-- The force sensor of a drive (R211): fitted here, valid, value. -/
def Lane.sensorOf (l : Lane) (me : LaneId) (n : Fin 8) : Bool × Bool × Nat :=
  let s := l.obj (O.weSensor (wheelOf me n))
  let i := bits s 0 3
  if decide (bits s 6 2 = laneNo me) && decide (i < 6) then
    let r := l.sio.ratios.getD i 0
    let ok := decide ((32768 : Rat) ≤ 10 * r) && decide (10 * r ≤ 9 * 32768) && !(l.sup (l.obj (O.anaSupply i))).tripped && !(l.sio.anaPts.getD i {}).invalid
    (true, ok, if ok then nth l.sio.anaVal i else 0)
  else (false, false, 0)

/-- The partner's last frame that passed R41, with at most one sample failed since. -/
def Lane.partnerFrame (l : Lane) (me : LaneId) (n : Fin 8) : Option (ExchFrame × Bool) :=
  match peerNo me (partnerOf me n).1 with
  | none => none
  | some p =>
    let q := l.peer p
    if q.failed ≤ 1 then q.last.map fun f => (f, q.now.isSome) else none

/-- BRAKE_STATE and BRAKE_FORCE of the partner drive. -/
def Lane.partnerState (l : Lane) (me : LaneId) (n : Fin 8) : Nat × Nat :=
  let k := (partnerOf me n).2
  match l.partnerFrame me n with
  | some (f, _) => ((f.brakeState.getD k 0).toNat, (f.brakeForce.getD k 0).toNat)
  | none => (0, 0)

/-- The partner's force and its sensor's value, as the partner lane's frame gives them, where the sensor of the wheel end stands in that
lane and its input is valid (R39, R211, R212). -/
def Lane.partnerSensor (l : Lane) (me : LaneId) (n : Fin 8) : Option (Nat × Nat) :=
  let s := l.obj (O.weSensor (wheelOf me n))
  let i := bits s 0 3
  match l.partnerFrame me n with
  | some (f, _) =>
    if bits s 6 2 = (partnerOf me n).1 ∧ i < 6 ∧ bitOf f.anaOk.toNat i then
      some ((l.partnerState me n).2, (f.anaVal.getD i 0).toNat)
    else none
  | none => none

/-- The three comparisons of R212 outside their tolerances: partner, sensor of either lane, stiffness against torque. -/
def Lane.implausible (l : Lane) (me : LaneId) (n : Fin 8) : List Bool :=
  let x := l.wheel (wheelOf me n)
  let tol := l.obj O.bwForceTol
  let fe := l.bpost n 0
  let p := l.partnerState me n
  let s := l.sensorOf me n
  let on := decide ((l.bd n).mode = 2) && decide ((1 : Rat) / 10 ≤ x.ref)
  [on && decide (p.1 = 2) && decide (tol < q15Dist fe p.2),
   (on && s.2.1 && decide (tol < q15Dist fe s.2.2))
     || (decide (x.mode = 2) && decide ((1 : Rat) / 10 ≤ x.ref) && decide (p.1 = 2) && (match l.partnerSensor me n with
       | some v => decide (tol < q15Dist v.1 v.2)
       | none => false)),
   on && decide (2 * tol < q15Dist (l.slot (64 * (n.val + 1) + 20)) (l.bpost n 1))]

/-- How long each comparison of R212 has been outside, after a run. -/
def Lane.plausTrack (me : LaneId) (l : Lane) (n : Fin 8) : Lane :=
  let bad := l.implausible me n
  l.updBd n fun d =>
    let ts := (List.range 3).map fun i => if nthB bad i then some ((d.since.getD i none).getD l.now) else none
    { d with since := ts }

/-- A force disagreement of a drive: WE_FLAGS bit 1 and its count (R212). -/
def Lane.disagree (l : Lane) (me : LaneId) (n : Fin 8) : Lane :=
  let w := wheelOf me n
  (l.setObj (O.weFlags w) (putBits (l.obj (O.weFlags w)) 1 1 1)).inc (O.bdForceDisagree n)

/-- FORCE_PLAUSIBILITY (R212): a comparison stayed outside for its whole time; rows 0 and 1 are force disagreements, row 2
has contact relearned at the next apply. Both lanes of a wheel end make the comparisons and count them, that of a sensor in the other
lane by the values of its frame (R35). -/
def execForcePlausibility (l : LaneId) (n : Fin 8) (row : Fin 3) (t : Nat) (s : State) : Host.Outcome State Fault Refusal :=
  onLaneAt l t s fun x =>
    let hold := if row.val = 2 then 200000000 else 50000000
    let due := match (x.bd n).since.getD row none with | some t0 => decide (t0 + hold ≤ x.now) | none => false
    if !due then x
    else
      let x := x.updBd n fun d => { d with since := d.since.set row none }
      if row.val = 2 then x.updBd n fun d => { d with waive := true, cands := [] } else x.disagree l n

/-- The current limit of a drive at t5 in codes (R214, R483): continuous and peak limits derated, moved at 0.2 A per ms. -/
def Lane.currentLimit (l : Lane) (n : Fin 8) : Lane :=
  let d := l.bd n
  let dt := if d.lastT5 = 0 then 0 else l.now - d.lastT5
  let amp := (toI 16 (l.bpost n 2)).natAbs
  let reserve := spend d.reserveNs 2000000000 dt (decide (0x364E < amp))
  let temp := toI 16 (nth l.eng.temps (9 + n.val / 2))
  let derate := fun c : Nat => if temp ≤ 15000 then c else if 17500 ≤ temp then 0
    else (roundDiv ((c : Int) * (17500 - temp)) 2500).toNat
  let cont := min (derate 0x364E) (roundDiv (0x364E * coolantFactor (toI 16 (nth l.eng.temps 13)) : Nat) 10000).toNat
  let goal := (if 0 < reserve then derate 0x6666 else cont) * 1000000
  let mv := dt * 131072 / 1000
  let iu := if d.iLimU < goal then min goal (d.iLimU + mv) else max goal (d.iLimU - mv)
  let l := l.updBd n fun d => { d with iLimU := iu, reserveNs := reserve, lastT5 := l.now }
  let code := (roundDiv iu 1000000).toNat
  (l.setObj (O.bdILim n) code).setObj (O.bdPeakReserve n) (reserve / 1000000)

/-- I_Q_EST above I_LIM by more than 10 % in 3 consecutive runs trips the stage (R214, R260 cause 7). -/
def Lane.overLimit (l : Lane) (n : Fin 8) : Lane :=
  let amp := (toI 16 (l.bpost n 2)).natAbs
  let run := if 11 * l.obj (O.bdILim n) < 10 * amp then (l.bd n).overRun + 1 else 0
  let l := l.updBd n fun d => { d with overRun := if run = 3 then 0 else run }
  if run = 3 then l.trip (.brake n) 7 0 0 false false false else l

/-- WSHARE (R213). -/
def Lane.wshare (l : Lane) (me : LaneId) (n : Fin 8) : Nat :=
  if !l.brakes[n].driving then 0 else if (l.partnerState me n).1 = 2 then 0x4000 else 0x7FFF

/-- A run of a drive's loop since the last t5 is taken up: contact, overcurrent (R214, R219). -/
def Lane.afterRun (me : LaneId) (l : Lane) (n : Fin 8) : Lane :=
  let k : Fin 9 := ⟨n.val + 1, by omega⟩
  if !(l.loop k).postedBy.isEmpty then
    ((((l.updLoop k fun p => { p with postedBy := [] }).learnContact me n).overLimit n).plausTrack me n)
  else l

/-- Pad wear of a drive in counts, where its origin is valid and both contacts are known (R220). -/
def Lane.wearCounts (l : Lane) (n : Nat) : Option Int :=
  let c := l.obj (O.bdContact n)
  let c0 := l.obj (O.bdContactNew n)
  let ok := if h : n < 8 then l.brk.drv[n].originOk else false
  if ok && c ≠ 0xFFFF && c0 ≠ 0xFFFF then some ((c : Int) - c0) else none

/-- WE_WEAR in 0.01 mm, the mean over the wheel end's drives with a valid origin, and its warning and limit (R220); reaching one
sets its bit of WE_FLAGS. -/
def Lane.wearStep (me : LaneId) (pl : Peer → Lane) (l : Lane) (w : Nat) : Lane :=
  let one := fun (x : Nat × Nat) =>
    if x.1 = laneNo me then l.wearCounts x.2
    else match peerNo me x.1 with | some p => (pl p).wearCounts x.2 | none => none
  let cs := [(windingsOf w).1, (windingsOf w).2].filterMap one
  let k := 384 * l.obj (O.wePolePairs w) * cs.length
  if l.fittedW w && decide (k ≠ 0) then
    let v := (roundDiv (cs.foldl (fun (a : Int) c => a + c) 0 * l.obj (O.weTravel w)) (10 * k)).toNat
    let fl := l.obj (O.weFlags w)
    let fl := if l.obj O.bwWearWarn ≤ v then putBits fl 2 1 1 else fl
    let fl := if l.obj O.bwWearLimit ≤ v then putBits fl 3 1 1 else fl
    (l.setObj (O.weWear w) v).setObj (O.weFlags w) fl
  else l

/-- The slots of a brake loop at t5, and the drive's objects (R207, R208, R228). -/
def Lane.brakeSlotsT5 (me : LaneId) (l : Lane) (n : Fin 8) : Lane :=
  let b := 64 * (n.val + 1)
  let w := wheelOf me n
  let d := l.bd n
  let contact := l.obj (O.bdContact n)
  let fs := if contact = 0xFFFF then 0 else l.stiffForce w ((l.bpost n 3 : Int) - contact)
  let p := l.partnerState me n
  let rx := match l.partnerFrame me n with | some (_, now) => now | none => false
  let x := l.wheel w
  let pr := match d.posRef with | some q => codeU 16 (roundRat q) | none => 0xFFFF
  let l := l.setSlots (b + 20) [fs, l.wshare me n, p.2, p.1 % 8 + 256 * b2n rx, l.obj (O.bdILim n)]
  let l := l.setSlots (b + 40) [q15 x.ref, pr, d.mode, q15 (x.rate / 10), contact]
  ((l.setObj (O.bdFStiff n) fs).setObj (O.bdPos n) (l.bpost n 3)).setObj (O.bdState n) (l.brakeState me n)

/-- A duty of SPRING_MAP at a force fraction (R225). -/
def Lane.springMapAt (l : Lane) (f : Rat) : Rat :=
  let i := min 6 ((f * 7).floor.toNat)
  let a : Rat := l.obj (O.springMap i)
  let b : Rat := l.obj (O.springMap (i + 1))
  a + (b - a) * (f * 7 - i)

/-- The part of the demand that the windings serve (R225); 0 when no wheel end is fitted. -/
def Lane.served (l : Lane) : Rat :=
  let ws := (List.range 12).filter fun w => l.fittedW w
  let share := fun w => valQ15 (l.obj (O.weShare w))
  let tot := (ws.map share).foldl (· + ·) 0
  if tot = 0 then 0 else ((ws.map fun w => (l.wheel w).target).foldl (· + ·) 0) / tot

/-- The spring-brake duty in force at the arbiter in 10^-9 counts: the lowest of the outputs with that role (R224, R226). -/
def Lane.springInForce (l : Lane) : Option Nat :=
  match l.claim.status with
  | none => none
  | some f =>
    let ds := ((List.range 8).filter fun n => l.obj (O.outRole n) = 1).map fun n => (f.outState.getD n 0).toNat * 1000000000
    match ds with
    | [] => none
    | d :: ds => some (ds.foldl min d)

/-- The spring-brake duty that is aimed at (R224, R225): 0 in park and until every fitted wheel end is out of its lock. -/
def Lane.springGoal (l : Lane) (me : LaneId) (d : Rat) : Nat :=
  let deficit := max 0 (d - l.served)
  let sb := valQ15 (l.obj O.sbForce)
  let f : Rat := if sb = 0 then (if deficit = 0 then 0 else 1) else min 1 (deficit / sb)
  if l.brk.parkOn || l.anyLocked me false then 0
  else if deficit = 0 then 255000000000 else (roundRat (l.springMapAt f * 1000000000)).toNat

/-- The spring-brake duty at t5 (R224 to R226), moved by at most BW_SPRING_RATE. A lane that does not claim stands at the duty in
force; while the arbiter is degraded the duty in force is held, and is lowered only in a stop or park. -/
def Lane.springStep (l : Lane) (me : LaneId) (d : Rat) : Lane :=
  let degraded := match l.claim.status with | some f => bitOf f.arbFlags.toNat 2 | none => false
  let force := l.springInForce.getD l.brk.spring
  let cur := if l.claim.claiming then (if degraded then min force l.brk.spring else l.brk.spring) else force
  let lower := l.obj O.stopState = 1 || l.brk.parkOn
  let goal := l.springGoal me d
  let goal := if degraded then min goal cur else goal
  let step := l.obj O.bwSpringRate * l.per .steer * 4
  let v := if !l.claim.claiming || (degraded && !lower) then force
    else if cur < goal then min goal (cur + step) else max goal (cur - step)
  ({ l with brk := { l.brk with spring := v } }).setObj O.springDuty (v / 1000000000)

/-- BRAKE_STATE of a winding, by lane number and drive: the own one, or that of the peer's last frame that passed (R35). -/
def Lane.windingState (l : Lane) (me : LaneId) (x : Nat × Nat) : Nat :=
  if x.1 = laneNo me then l.brakeState me (Fin.ofNat 8 x.2)
  else match peerNo me x.1 with
    | some p => (match (l.peer p).last with | some f => (f.brakeState.getD x.2 0).toNat | none => 0)
    | none => 0

/-- Is a wheel end held by the lock of one of its drives? -/
def Lane.heldW (l : Lane) (me : LaneId) (w : Nat) : Bool :=
  let x := windingsOf w
  decide (l.windingState me x.1 = 3) || decide (l.windingState me x.2 = 3)

/-- Does a drive of a wheel end still apply park: not in lock, and fit to drive in a lane that claims? -/
def Lane.appliesW (l : Lane) (me : LaneId) (w : Nat) : Bool :=
  [(windingsOf w).1, (windingsOf w).2].any fun x =>
    let s := l.windingState me x
    (decide (s = 1) || decide (s = 2)) && (if x.1 = laneNo me then l.claim.claiming
      else match peerNo me x.1 with | some p => (l.peer p).claims | none => false)

/-- PARK_STATE (R228): held once every wheel end is and no drive still applies; partly held is a park in which some wheel end is not
held or failed its lock, or a lock that is left after a release. -/
def Lane.parkStateOf (l : Lane) (me : LaneId) : Nat :=
  let b := l.brk
  if l.nDrives = 0 then
    let d := b.spring
    if b.parkOn then (if d = 0 then 2 else 1) else if b.releasing then 3 else 0
  else
    let ws := (List.range 12).filter fun w => l.fittedW w
    let flagged := (List.range 12).any fun w => l.fittedW w && bitOf (l.obj (O.weFlags w)) 0
    let any := l.anyLocked me false
    if b.releasing then 3
    else if !b.parkOn && !any then 0
    else if b.parkOn && ws.any (l.appliesW me) then 1
    else if !ws.isEmpty && ws.all (l.heldW me) then (if flagged then 4 else 2)
    else if any || ws.any (l.heldW me) then 4
    else 1

/-- A release is complete once every fitted wheel end is out of park lock or has failed to unlock; without brakes, once the duty
has risen (R223, R224). -/
def Lane.releaseDone (l : Lane) (me : LaneId) (d : Rat) : Lane :=
  let done := if l.nDrives = 0 then decide (l.springGoal me d ≤ l.brk.spring) else !l.anyLocked me true
  if l.brk.releasing && done then { l with brk := { l.brk with releasing := false } } else l

/-- Braking at t5 (R203, R208, R210 to R226). -/
def Lane.brakeT5 (l : Lane) (me : LaneId) (pl : Peer → Lane) : Lane :=
  let d := l.brakeDemand
  let l := allDrives.foldl (Lane.afterRun me) l.noteLocks
  let l := (l.capacity me d).parkStep me
  let l := (l.forceStep).foreignModes me
  let l := allDrives.foldl (Lane.driveMode me) l
  let l := allDrives.foldl (Lane.posRefStep me) l
  let l := allDrives.foldl Lane.currentLimit l
  let l := allDrives.foldl (fun l (n : Fin 8) => if l.brakes[n].driving && !l.mayBrake me n then l.openBrake n else l) l
  let l := (List.range 12).foldl (Lane.wearStep me pl) l
  let l := allDrives.foldl (Lane.brakeSlotsT5 me) l
  let l := (l.springStep me d).releaseDone me d
  l.setObj O.parkState (l.parkStateOf me)

/-- The input slots of a brake loop at a reload (R206, R207). -/
def Lane.brakeSlotsReload (me : LaneId) (vBrake : Nat) (l : Lane) (n : Fin 8) : Lane :=
  let b := 64 * (n.val + 1)
  let len := 2 * (l.smp.reloadAt - l.smp.prevReload)
  let g := l.brakes[n]
  let a := appliedVolts g vBrake (if len = 0 then 1 else len)
  let mv := vBrake * 100000 / 32768
  let td0 := Config.tD0 l.cal (n.val + 1) mv
  let tgl := Config.tGl l.cal (n.val + 1) mv
  let q := Config.qStgBrake l.cal mv
  let one := fun i =>
    let rs := g.latched.filter fun r => !r.probe && r.leg = i
    let soft := rs.filter fun r => r.soft && r.valid
    if !l.rbit Rg.etCtl 1 then Cue.dropped
    else match soft.getLast? with
      | none => if (rs.filter fun r => r.soft).isEmpty && decide (2 ≤ rs.length) && rs.all (fun r => r.hard) then Cue.below else Cue.dropped
      | some r =>
        if decide (td0 < 500 * r.tSlew) && decide (3 * tgl ≤ 2 * (500 * r.tSlew - td0)) then
          let m : Int := cueCode q (500 * r.tSlew - td0) 50000
          Cue.valid (ofI 16 (if r.rise then -m else m)) (roundDiv r.tCross 8).toNat r.ovlp
        else Cue.saturated
  let cs := (List.range 3).map one
  let flags := cs.zipIdx.foldl (fun f c => f + 2 ^ c.2 * (match c.1 with
    | .valid _ _ o => 1 + 4096 * b2n o
    | .saturated => 8
    | .below => 64
    | .dropped => 512)) 0
  let d := l.bd n
  let us := fun ns : Nat => min (ns / 1000) 0xFFFF
  let age := if d.changeAt = 0 then 0xFFFF else us (l.now - d.changeAt)
  let dt := match d.changeDt with | some x => us x | none => 0xFFFF
  let s := match d.lastValid with | some c => (sectorOf (l.flag (O.bdDir n)) c).getD 0 | none => 0
  let theta := (roundDiv ((60 * s + 30) * 65536 : Nat) 360 + l.obj (O.bdHallOffset n)).toNat % 65536
  let sn := l.sensorOf me n
  let l := l.setSlots b (a.1 ++ (cs.map fun c => match c with | .valid m _ _ => m | _ => 0)
    ++ (cs.map fun c => match c with | .valid _ t _ => t | _ => 0)
    ++ [flags, d.trunc, vBrake, d.code + 8 * b2n d.faultNow + 16 * b2n (!d.inService) + 32 * b2n d.originOk, d.pos, age, dt,
        theta, sn.2.2, b2n sn.1 + 2 * b2n sn.2.1, nth l.eng.temps (9 + n.val / 2)])
  (l.updStg (.brake n) fun g => { g with highStart := a.2 }).updBd n fun d => { d with faultNow := false, trunc := 0 }

/-- BRAKE_SLOT (R154): the run of a brake loop at its slot. -/
def execBrakeSlot (l : LaneId) (n : Fin 8) (t : Nat) (s : State) : Host.Outcome State Fault Refusal :=
  onE1 l t s fun x => x.brakeRun ⟨n.val + 1, by omega⟩

/-- BRAKE_BOUNDARY (R203, R229, R241): the end of a brake stage's period. -/
def execBrakeBoundary (l : LaneId) (n : Fin 8) (t : Nat) (s : State) : Host.Outcome State Fault Refusal :=
  onE1 l t s fun x => x.boundary (.brake n) (x.mayBrake l n)

/-- BRAKE_PEAK_RESERVE_SPENT (R214): the reserve is spent; I_LIM falls from the next t5. -/
def execBrakePeakReserveSpent (l : LaneId) (n : Fin 8) (t : Nat) (s : State) : Host.Outcome State Fault Refusal :=
  onLaneAt l t s fun x =>
    if x.nDrives ≤ n.val then x else (x.updBd n fun d => { d with reserveNs := 0 }).setObj (O.bdPeakReserve n) 0

/-- HOMING_DONE (R217): in MODE 6 with HALL_AGE at 50 ms the count is 0 and the origin valid; a drive under service retract
then stays off (R428). -/
def execHomingDone (l : LaneId) (n : Fin 8) (t : Nat) (s : State) : Host.Outcome State Fault Refusal :=
  onLaneAt l t s fun x =>
    let d := x.bd n
    if d.mode = 6 && decide (d.changeAt + 50000000 ≤ x.now) then
      x.updBd n fun d => { d with pos := 0, originOk := true, mode := if d.wantHome then 0 else 2, parkLock := false, armed := false }
    else x

/-- PARK_FORCE_REACHED (R208, R221): within 0.02 F_R of the park force for 100 ms, MODE 4. -/
def execParkForceReached (l : LaneId) (n : Fin 8) (t : Nat) (s : State) : Host.Outcome State Fault Refusal :=
  onLaneAt l t s fun x =>
    let d := x.bd n
    let due := match d.nearSince with | some t0 => decide (t0 + 100000000 ≤ x.now) | none => false
    if d.mode = 3 && due then x.updBd n fun d => { d with mode := 4, mode4At := x.now, zeroAt := none, nearSince := none }
    else x

/-- PARK_CURRENT_ZERO (R203, R222): the current of a drive in MODE 4 has reached 0; it stops driving and the lock check
begins. -/
def execParkCurrentZero (l : LaneId) (n : Fin 8) (t : Nat) (s : State) : Host.Outcome State Fault Refusal :=
  onLaneAt l t s fun x =>
    if (x.bd n).mode = 4 && (x.bd n).zeroAt.isNone && !(x.bd n).parkLock then
      (x.updBd n fun d => { d with zeroAt := some x.now, lockPos := d.pos, lockLow := d.pos }).openBrake n
    else x

/-- LOCK_CHECK (R222): 200 ms after the current reached 0. A first failure repeats the park steps, a second is an event. -/
def execLockCheck (l : LaneId) (n : Fin 8) (t : Nat) (s : State) : Host.Outcome State Fault Refusal :=
  onLaneAt l t s fun x =>
    let d := x.bd n
    let w := wheelOf l n
    let due := match d.zeroAt with | some t0 => decide (t0 + 200000000 ≤ x.now) | none => false
    if d.mode = 4 && due && !d.parkLock then
      if d.lockPos ≤ d.lockLow + x.countsOf w (x.obj O.bwParkSlip) then
        let x := (x.updBd n fun d => { d with parkLock := true, moved := false }).setObj (O.bdParkPos n) d.pos
        x.setObj (O.weFlags w) (putBits (x.obj (O.weFlags w)) 0 1 0)
      else if d.lockTry = 0 then
        x.updBd n fun d => { d with mode := 3, lockTry := 1, zeroAt := none, nearSince := none }
      else
        let x := (x.updBd n fun d => { d with parkLock := true }).inc (O.bdParkFails n)
        x.setObj (O.weFlags w) (putBits (x.obj (O.weFlags w)) 0 1 1)
    else x

/-- UNLOCK_TIMEOUT (R223): a drive that has not unlocked within 500 ms returns to park lock, in which its wheel end stays. -/
def execUnlockTimeout (l : LaneId) (n : Fin 8) (t : Nat) (s : State) : Host.Outcome State Fault Refusal :=
  onLaneAt l t s fun x =>
    let d := x.bd n
    if d.mode = 5 && decide (d.unlockAt + 500000000 ≤ x.now) then
      let w := wheelOf l n
      let x := (x.updBd n fun d => { d with mode := 4, parkLock := true, zeroAt := some x.now, unlockFailed := true }).openBrake n
      x.setObj (O.weFlags w) (putBits (x.obj (O.weFlags w)) 0 1 1)
    else x

/-- RETRACT_DELAY (R218): FORCE_REF has stayed 0 for BW_RETRACT_DELAY; the drive takes MODE 1, homing first if its origin is
not valid. -/
def execRetractDelay (l : LaneId) (n : Fin 8) (t : Nat) (s : State) : Host.Outcome State Fault Refusal :=
  onLaneAt l t s fun x =>
    let d := x.bd n
    let due := match d.zeroSince with | some t0 => decide (t0 + 1000000 * x.obj O.bwRetractDelay ≤ x.now) | none => false
    if due && (d.mode = 0 || d.mode = 2) && x.fittedD l n && !d.wantHome && !x.brk.parkOn then
      x.updBd n fun d => { d with mode := if d.originOk then 1 else 6 }
    else x

/-- BD_PAD_CHANGED (R220, R228, R428): in Workshop, with the origin valid, the next contact learned is the new-pad contact. -/
def execBdPadChanged (l : LaneId) (n : Fin 8) (t : Nat) (s : State) : Host.Outcome State Fault Refusal :=
  onLaneAt l t s fun x =>
    if x.obj O.lcStateObj = 4 && (x.bd n).originOk && decide (n.val < x.nDrives) then x.updBd n fun d => { d with pad := true } else x

/-- The drives of a wheel end leave service retract, or begin it (R428). -/
def Lane.serviceRetract (l : Lane) (me : LaneId) (w : Nat) : Lane :=
  allDrives.foldl (fun l (n : Fin 8) =>
    if l.fittedD me n && decide (wheelOf me n + 1 = w) then
      l.updBd n fun d => { (d.unlock l.now d.pos) with wantHome := true }
    else l.updBd n fun d => { d with wantHome := false }) (l.setObj O.svcWeRetract w)

/-- SVC_WE_RETRACT (R428): in Workshop, a wheel end of 1 to 12 or 0; refused while a park release is under way (R429). -/
def execSvcWeRetract (l : LaneId) (w : BitVec 8) (t : Nat) (s : State) : Host.Outcome State Fault Refusal :=
  onLaneAt l t s fun x =>
    if x.obj O.lcStateObj = 4 && decide (w.toNat ≤ 12) && !x.brk.releasing then x.serviceRetract l w.toNat else x

/-- The drives at a start of the lane (R200, R205, R217): a stored park position gives the lock, and with no movement since also
count and origin. -/
def Lane.startDrives (l : Lane) (me : LaneId) : Lane :=
  allDrives.foldl (fun l (n : Fin 8) =>
    let p := l.obj (O.bdParkPos n)
    let l := (l.setObj (O.bdInService n) 1).setObj (O.bdWheelEnd n) (if n.val < l.nDrives then wheelOf me n + 1 else 0)
    if p = 0xFFFF then l.updBd n fun _ => {}
    else if (l.bd n).moved then l.updBd n fun _ => { moved := true, parkLock := true, mode := 4 }
    else l.updBd n fun _ => { pos := p, originOk := true, parkLock := true, mode := 4 }) l

end Sys2Proof.Machine
end

