-- ==== Sys2Proof/Machine/Capture.lean ====
section
/-!
DEFINITION. Synchronous capture (R464 to R469).
-/
namespace Sys2Proof.Machine

/-- Is a selector in the table of R464? -/
def selectorOk (v : Nat) : Bool :=
  let sp := bits v 12 4
  let lp := bits v 8 4
  let it := bits v 0 8
  match sp with
  | 0 => decide (lp ≤ 8 ∧ it < 64)
  | 1 => decide (lp ≤ 8)
  | 2 => decide (lp ≤ 8 ∧ it < 0xE0)
  | 3 => decide (lp = 0 ∧ it ≤ 127)
  | 4 => decide (lp = 0) && (decide (it ≤ 13) || decide (16 ≤ it ∧ it ≤ 35) || decide (48 ≤ it ∧ it ≤ 53))
  | 15 => decide (lp = 0 ∧ it = 0)
  | _ => false

/-- The loop that a selector names. -/
def selLoop (v : Nat) : Fin 9 := ⟨min (bits v 8 4) 8, by omega⟩

/-- The value of a channel in the sample that ends (R464, R465). -/
def Lane.capValue (l : Lane) (v : Nat) : Nat :=
  let it := bits v 0 8
  let p := l.loop (selLoop v)
  match bits v 12 4 with
  | 0 => kvGet 0 p.seen it
  | 1 => kvGet 0 p.posts it
  | 2 => kvGet 0 p.win it / 65536
  | 3 => match l.smp.own with
    | some f => let bs := exchBytes f; let bs := bs ++ bytesBE 4 (crc32 bs).toNat; ofBytesBE ((bs.drop (2 * it)).take 2)
    | none => 0
  | 4 => if it < 16 then nth l.eng.temps it else if it < 48 then nth l.eng.volts (it - 16) else l.arr16 O.procDeviation 6 (it - 48)
  | _ => 0

/-- Records that the ring holds for a number of channels (R465). -/
def capRecords (n : Nat) : Nat := if n = 0 then 0 else 4194304 / (2 * n)

/-- How many samples lie from a to b, modulo 2 to the 32. -/
def samplesFrom (a b : Nat) : Nat := (b + (2 ^ 32 - a % 2 ^ 32)) % 2 ^ 32

/-- Does sample b lie at a or after it? -/
def notBefore (a b : Nat) : Bool := decide (samplesFrom a b < 2 ^ 31)

/-- Selectors in force, in order. -/
def Lane.capSelectors (l : Lane) : List Nat := (List.range 64).map fun i => l.arr16 O.capChannels 64 i

/-- CAP_ARM at t5 of sample S (R467): 1 starts a new capture with sample S + 1, 0 stops the one that runs at the end of the
sample. -/
def Lane.armCapture (l : Lane) (v commitId : Nat) : Lane :=
  if v = 0 then { l with cap := { l.cap with stopDue := l.cap.active } }
  else if l.obj O.capMode = 0 then { l with cap := { l.cap with stopDue := l.cap.active } }
  else
    let n := l.obj O.capN
    let s := (l.smp.no + 1) % 2 ^ 32
    let c : CapSt := { active := true, mode := l.obj O.capMode, n := n, chans := l.capSelectors.take n, armId := commitId,
                       first := s, latSeen := l.cap.latSeen }
    (({ l with cap := c }).setObj O.capState 1).setObj O.capFirstSample s |>.setObj O.capWritePos 0

/-- The signed crossing of R466 bit 2. -/
def crosses (edge : Nat) (level : Int) (a b : Int) : Bool :=
  let up := decide (a < level ∧ level ≤ b)
  let down := decide (level < a ∧ b ≤ level)
  match edge with | 0 => up | 1 => down | _ => up || down

/-- The sources whose LATCHED bit is set. -/
def Coll.latchedSrcs (c : Coll) : List Nat := (c.recs.filter fun r => bitOf r.flags 0).map fun r => r.src

/-- An alignment frame of this lane (R468). -/
def Lane.capFrame (l : Lane) (me : LaneId) (phase cause sample time : Nat) : CaptureFrame :=
  { source := BitVec.ofNat 8 (laneNo me), phase := BitVec.ofNat 8 phase, cause := BitVec.ofNat 8 cause,
    armId := BitVec.ofNat 32 l.cap.armId, sample := BitVec.ofNat 32 sample, reloadTime := BitVec.ofNat 64 time }

/-- An alignment frame goes to both peers, in its time on each link (R36, R37, R468). -/
def Lane.sendCapture (l : Lane) (f : CaptureFrame) : Lane :=
  let l := bothPeers.foldl (fun (l : Lane) p => l.takeLink p 32) l
  { l with cap := { l.cap with sent := some f },
           out := { l.out with captures := l.out.captures ++ bothPeers.map fun p => (p, f) } }

/-- The trigger that sample k holds, the lowest bit first (R466). -/
def Lane.capTriggerOf (l : Lane) (vals : List Nat) : Option Nat :=
  let en := l.obj O.capTrig
  let c := l.cap
  let lat := l.coll.latchedSrcs.any fun s => !decide (s ∈ c.latSeen)
  let ch := nth vals (l.obj O.capTrigCh)
  let cr := decide (l.obj O.capTrigCh < vals.length) && (match c.chPrev with
    | some p => crosses (l.obj O.capTrigEdge) (toI 16 (l.obj O.capTrigLevel)) (toI 16 p) (toI 16 ch)
    | none => false)
  if bitOf en 0 && lat then some 0 else if bitOf en 1 && c.trigNow then some 1 else if bitOf en 2 && cr then some 2 else none

/-- The record of the sample that ends at this reload is written, its trigger judged, and the capture ends when it is
complete or stopped (R465 to R468). Called before the new sample begins. -/
def Lane.captureRecord (l : Lane) (me : LaneId) : Lane :=
  let c := l.cap
  let k := l.smp.no
  let l :=
    if !c.active || !notBefore c.first k then l
    else
      let vals := c.chans.map l.capValue
      let ring := 2 * c.n * capRecords c.n
      let buf := memWriteAll c.buf (2 * c.n * c.records % ring) (vals.flatMap fun v => bytesBE 2 v)
      let trg := if c.mode = 2 && c.trig.isNone then l.capTriggerOf vals else none
      let c1 : CapSt := { c with buf := buf, records := c.records + 1, trigNow := false,
                                 chPrev := some (nth vals (l.obj O.capTrigCh)) }
      let l := ({ l with cap := c1 }).setObj O.capWritePos (2 * c.n * (c.records + 1) % 2 ^ 32)
      let l := if c.records = 0 then
          let l := (l.setObj O.capState 2).setObj O.capFirstTime l.smp.reloadAt
          l.sendCapture (l.capFrame me 1 0 k l.smp.reloadAt)
        else l
      let l := match trg with
        | some b =>
          let l := ((l.setObj O.capState 3).setObj O.capTrigSample k).setObj O.capTrigSource b
          ({ l with cap := { l.cap with trig := some k } }).sendCapture (l.capFrame me 2 b k l.smp.reloadAt)
        | none => l
      match l.cap.trig with
      | some tr =>
        if notBefore tr k && decide (l.obj O.capPost ≤ samplesFrom tr k) then
          ({ l with cap := { l.cap with active := false } }).setObj O.capState 4
        else l
      | none => l
  let l := { l with cap := { l.cap with latSeen := l.coll.latchedSrcs } }
  if l.cap.stopDue then ({ l with cap := { l.cap with active := false, stopDue := false } }).setObj O.capState 4 else l

/-- Capture stops at an entry to Doze, Park or Off (R466). -/
def Lane.stopCapture (l : Lane) : Lane :=
  if l.cap.active then ({ l with cap := { l.cap with active := false } }).setObj O.capState 4 else l

/-- A read of the stream (R469): no value where a byte lies before the oldest one held. -/
def Lane.capRead (l : Lane) (off len : Nat) : Option (List Byte) :=
  let c := l.cap
  let w := 2 * c.n * c.records
  let ring := 2 * c.n * capRecords c.n
  let back := samplesFrom off (w % 2 ^ 32)
  if back = 0 || decide (2 ^ 31 ≤ back) || decide (len = 0) then some []
  else if min ring w < back then none
  else some ((List.range (min len back)).map fun i => memRead c.buf ((w - back + i) % ring))

/-- CAP_TRIG_NOW (R466): a write of either value of the BOOL triggers. -/
def execCapTrigNow (l : LaneId) (t : Nat) (v : BitVec 8) (s : State) : Host.Outcome State Fault Refusal :=
  onLaneAt l t s fun x => if v.toNat ≤ 1 then { x with cap := { x.cap with trigNow := x.cap.active } } else x

/-- Does an alignment frame come from the peer it names, with its CRC? -/
def captureOk (me : LaneId) (rx : BirixRx) (f : CaptureFrame) : Bool :=
  decide (rx.crc = crc32 (captureBytes f)) && rx.fin.isSome && decide (bits f.source.toNat 0 2 = laneNo (peerId me rx.peer))

/-- ARMED (R468): a peer has written its first record; nothing follows from it in the receiver. -/
def execArmed (l : LaneId) (rx : BirixRx) (f : CaptureFrame) (s : State) : Host.Outcome State Fault Refusal :=
  onLaneAt l (rx.fin.getD rx.start) s fun x => if captureOk l rx f && decide (f.phase = 1) then x else x

/-- TRIGGER (R468, R470): in mode 2 with bit 3 set, before the own records are complete, T is the earlier of both. -/
def execTrigger (l : LaneId) (rx : BirixRx) (f : CaptureFrame) (s : State) : Host.Outcome State Fault Refusal :=
  onLaneAt l (rx.fin.getD rx.start) s fun x =>
    let k := f.sample.toNat
    let earlier := match x.cap.trig with | some tr => !notBefore tr k | none => true
    if captureOk l rx f && decide (f.phase = 2) && x.cap.active && x.cap.mode = 2 && bitOf (x.obj O.capTrig) 3 && earlier then
      let x := ((x.setObj O.capState 3).setObj O.capTrigSample k).setObj O.capTrigSource (3 + 64 * laneNo (peerId l rx.peer))
      { x with cap := { x.cap with trig := some k } }
    else x

end Sys2Proof.Machine
end

