-- ==== Sys2Proof/Machine/ObjTable.lean ====
section
/-!
DEFINITION. The object tables of the dictionary as rows (R364 to R368): base key, number of indices and their step,
number of subindices, type, element count, access, store, scope, defaults, the intervals of raw codes that check 6 of
R370 admits (none listed: every code of the type), and the greatest length in bytes. An interval whose ends the
description gives as real numbers has the codes of R13: assumption log 3.
-/
namespace Sys2Proof.Machine

/-- The types of R367. -/
inductive ObjType | bool | u8 | u16 | u32 | u64 | i8 | i16 | i32 | q15 | q31 | f32 | octets | str | domain
deriving DecidableEq, Repr

/-- The access codes of R10. -/
inductive Access | const | ro | rw | wo | rwg
deriving DecidableEq, Repr

/-- The store codes of R10. -/
inductive Store | none | v | n
deriving DecidableEq, Repr

/-- One row of an object table, standing for `idxN` indices of `subN` subindices each. -/
structure ObjRow where
  base : Nat
  idxN : Nat
  step : Nat
  subN : Nat
  ty : ObjType
  count : Nat
  access : Access
  store : Store
  moduleWide : Bool
  dflts : List Nat
  range : List (Int × Int)
  maxLen : Nat
deriving DecidableEq, Repr

/-- Object rows 0x1xxx, part 1. -/
def objRows1a : List ObjRow := [
  ⟨0x120001, 1, 1, 1, .u16, 1, .rwg, .n, true, [1000], [(100, 60000)], 2⟩,
  ⟨0x120101, 1, 1, 1, .u16, 1, .rwg, .n, true, [20], [(5, 500)], 2⟩,
  ⟨0x120102, 1, 1, 1, .u8, 1, .const, .none, true, [16], [], 1⟩,
  ⟨0x140001, 1, 1, 4, .u32, 1, .wo, .v, true, [0], [], 4⟩,
  ⟨0x140005, 1, 1, 4, .bool, 1, .ro, .v, true, [0], [], 1⟩,
  ⟨0x140009, 1, 1, 4, .u8, 1, .rwg, .n, true, [2], [(2, 5)], 1⟩,
  ⟨0x14000D, 1, 1, 4, .u32, 1, .ro, .v, true, [0], [], 4⟩,
  ⟨0x121001, 1, 1, 1, .u8, 1, .ro, .v, false, [0], [], 1⟩,
  ⟨0x121002, 1, 1, 1, .u16, 1, .ro, .v, false, [0], [], 2⟩,
  ⟨0x121003, 1, 1, 1, .u8, 1, .ro, .v, false, [0], [], 1⟩,
  ⟨0x121004, 1, 1, 1, .octets, 1, .ro, .v, false, [0], [], 6⟩,
  ⟨0x121005, 1, 1, 1, .u32, 1, .ro, .v, false, [0], [], 4⟩,
  ⟨0x121101, 1, 1, 1, .u32, 1, .ro, .v, false, [0], [], 4⟩,
  ⟨0x121102, 1, 1, 1, .u32, 1, .ro, .v, false, [0], [], 4⟩,
  ⟨0x121103, 1, 1, 1, .u32, 1, .ro, .v, false, [0], [], 4⟩,
  ⟨0x121104, 1, 1, 1, .u32, 1, .ro, .v, false, [0], [], 4⟩,
  ⟨0x121105, 1, 1, 1, .u32, 1, .ro, .v, false, [0], [], 4⟩,
  ⟨0x121106, 1, 1, 1, .u32, 1, .ro, .v, false, [0], [], 4⟩,
  ⟨0x121107, 1, 1, 1, .u32, 1, .ro, .v, false, [0], [], 4⟩,
  ⟨0x121108, 1, 1, 1, .u32, 1, .ro, .v, false, [0], [], 4⟩,
  ⟨0x121109, 1, 1, 1, .u32, 1, .ro, .v, false, [0], [], 4⟩,
  ⟨0x12110A, 1, 1, 1, .u32, 1, .ro, .v, false, [0], [], 4⟩,
  ⟨0x100001, 1, 1, 1, .str, 1, .const, .none, true, [0], [], 25⟩,
  ⟨0x100002, 1, 1, 1, .str, 1, .const, .none, true, [0], [], 13⟩,
  ⟨0x100003, 1, 1, 1, .str, 1, .ro, .v, true, [0], [], 12⟩,
  ⟨0x100004, 1, 1, 1, .u8, 1, .ro, .v, true, [0], [], 1⟩,
  ⟨0x100005, 1, 1, 1, .str, 1, .ro, .v, true, [0], [], 12⟩,
  ⟨0x100006, 1, 1, 1, .u32, 1, .ro, .v, true, [0], [], 4⟩,
  ⟨0x100101, 1, 1, 1, .u8, 1, .ro, .v, false, [0], [], 1⟩,
  ⟨0x100102, 1, 1, 1, .str, 1, .ro, .v, false, [0], [], 12⟩,
  ⟨0x100103, 1, 1, 1, .u16, 1, .ro, .v, false, [0], [], 2⟩,
  ⟨0x100104, 1, 1, 1, .u32, 1, .ro, .v, false, [0], [], 4⟩,
  ⟨0x100105, 1, 1, 1, .u8, 1, .ro, .v, false, [0], [], 1⟩,
  ⟨0x100106, 1, 1, 1, .u64, 1, .ro, .v, false, [0], [], 8⟩,
  ⟨0x100107, 1, 1, 1, .u64, 1, .ro, .v, false, [0], [], 8⟩,
  ⟨0x100108, 1, 1, 1, .u32, 1, .ro, .n, false, [0], [], 4⟩,
  ⟨0x100201, 1, 1, 1, .u16, 1, .const, .none, true, [1], [], 2⟩,
  ⟨0x100202, 1, 1, 1, .domain, 1, .ro, .v, true, [0], [], 65535⟩,
  ⟨0x101001, 1, 1, 1, .u8, 1, .ro, .v, false, [0], [], 1⟩,
  ⟨0x101002, 1, 1, 1, .u32, 1, .ro, .v, false, [0], [], 4⟩]

/-- Object rows 0x1xxx, part 2. -/
def objRows1b : List ObjRow := [
  ⟨0x101003, 1, 1, 1, .u32, 1, .ro, .v, false, [0], [], 4⟩,
  ⟨0x101004, 1, 1, 1, .u32, 1, .ro, .n, false, [0], [], 4⟩,
  ⟨0x101005, 1, 1, 1, .domain, 1, .ro, .v, false, [0], [], 262144⟩,
  ⟨0x101006, 1, 1, 1, .bool, 1, .rwg, .v, false, [0], [], 1⟩,
  ⟨0x101101, 1, 1, 1, .domain, 1, .wo, .v, false, [0], [], 262144⟩,
  ⟨0x101102, 1, 1, 1, .bool, 1, .wo, .v, false, [0], [], 1⟩,
  ⟨0x101103, 1, 1, 1, .u8, 1, .ro, .v, false, [0], [], 1⟩,
  ⟨0x101104, 1, 1, 1, .u8, 1, .ro, .v, false, [0], [], 1⟩,
  ⟨0x101105, 1, 1, 1, .octets, 1, .rwg, .v, false, [0], [], 32⟩,
  ⟨0x102001, 1, 1, 1, .u32, 1, .ro, .n, false, [0], [], 4⟩,
  ⟨0x102002, 1, 1, 1, .octets, 1, .ro, .v, false, [0], [], 32⟩,
  ⟨0x102003, 1, 1, 1, .u8, 1, .ro, .v, false, [0], [], 1⟩,
  ⟨0x102004, 1, 1, 1, .u32, 1, .ro, .v, false, [0], [], 4⟩,
  ⟨0x102005, 1, 1, 1, .u32, 1, .ro, .v, false, [0], [], 4⟩,
  ⟨0x102006, 1, 1, 1, .u32, 1, .ro, .v, false, [0], [], 4⟩]

/-- Object rows 0x2xxx, part 1. -/
def objRows2a : List ObjRow := [
  ⟨0x210001, 1, 1, 1, .u8, 1, .ro, .v, true, [0], [], 1⟩,
  ⟨0x210002, 1, 1, 1, .u8, 1, .ro, .v, true, [0], [], 1⟩,
  ⟨0x210003, 1, 1, 1, .u8, 1, .ro, .v, true, [0], [], 1⟩,
  ⟨0x210004, 1, 1, 1, .u8, 1, .ro, .v, true, [0], [], 1⟩,
  ⟨0x210005, 1, 1, 1, .q15, 1, .ro, .v, true, [0], [], 2⟩,
  ⟨0x210006, 1, 1, 1, .u16, 1, .ro, .v, true, [0], [], 2⟩,
  ⟨0x210007, 1, 1, 1, .bool, 1, .ro, .v, true, [0], [], 1⟩,
  ⟨0x210008, 1, 1, 1, .u16, 1, .ro, .v, true, [30000], [], 2⟩,
  ⟨0x210009, 1, 1, 1, .u32, 1, .ro, .v, true, [0], [], 4⟩,
  ⟨0x21000A, 1, 1, 1, .u32, 1, .ro, .v, true, [0], [], 4⟩,
  ⟨0x210101, 1, 1, 1, .u16, 1, .rwg, .n, true, [300], [], 2⟩,
  ⟨0x210102, 1, 1, 1, .u16, 1, .rwg, .n, true, [200], [], 2⟩,
  ⟨0x210103, 1, 1, 1, .u16, 1, .rwg, .n, true, [10000], [(1000, 60000)], 2⟩,
  ⟨0x210104, 1, 1, 1, .u16, 1, .rwg, .n, true, [200], [(50, 400)], 2⟩,
  ⟨0x210105, 1, 1, 1, .bool, 1, .rwg, .n, true, [1], [], 1⟩,
  ⟨0x211001, 10, 1, 1, .bool, 1, .rwg, .n, true, [0], [], 1⟩,
  ⟨0x211002, 10, 1, 1, .q15, 1, .rwg, .n, true, [328], [], 2⟩,
  ⟨0x211003, 10, 1, 1, .u8, 1, .rwg, .n, true, [0], [(0, 2)], 1⟩,
  ⟨0x211004, 10, 1, 1, .bool, 1, .rwg, .n, true, [0], [], 1⟩,
  ⟨0x211005, 10, 1, 1, .u8, 1, .rw, .v, true, [0], [], 1⟩,
  ⟨0x211006, 10, 1, 1, .q15, 1, .ro, .v, true, [0], [], 2⟩,
  ⟨0x212001, 1, 1, 2, .u8, 1, .ro, .v, false, [0], [], 1⟩,
  ⟨0x212011, 1, 1, 2, .u32, 1, .ro, .v, false, [0], [], 4⟩,
  ⟨0x212021, 1, 1, 2, .u32, 1, .ro, .v, false, [0], [], 4⟩,
  ⟨0x212031, 1, 1, 2, .u16, 1, .ro, .n, false, [0], [], 2⟩,
  ⟨0x212040, 1, 1, 1, .u8, 1, .ro, .v, false, [0], [], 1⟩,
  ⟨0x212041, 1, 1, 1, .u8, 1, .ro, .none, false, [0], [], 1⟩,
  ⟨0x212042, 1, 1, 1, .u32, 1, .ro, .v, false, [0], [], 4⟩,
  ⟨0x220001, 1, 1, 1, .u16, 1, .ro, .v, true, [0], [], 2⟩,
  ⟨0x220002, 1, 1, 1, .u8, 1, .ro, .v, true, [0], [], 1⟩,
  ⟨0x220003, 1, 1, 1, .u8, 1, .ro, .v, true, [0], [], 1⟩,
  ⟨0x220004, 1, 1, 1, .u32, 1, .ro, .v, true, [0], [], 4⟩,
  ⟨0x220005, 1, 1, 1, .u8, 1, .ro, .v, true, [0], [], 1⟩,
  ⟨0x221001, 8, 1, 1, .u8, 1, .rwg, .n, true, [1, 1, 2, 2, 3, 3, 0, 0], [(0, 3)], 1⟩,
  ⟨0x221002, 8, 1, 1, .u8, 1, .rwg, .n, true, [1, 1, 0, 0, 0, 0, 0, 0], [(0, 1)], 1⟩,
  ⟨0x221003, 8, 1, 1, .u8, 1, .ro, .v, true, [0], [], 1⟩,
  ⟨0x221004, 8, 1, 1, .u8, 1, .rw, .v, true, [0], [], 1⟩,
  ⟨0x221005, 8, 1, 1, .u8, 1, .rwg, .n, true, [255], [(0, 3), (255, 255)], 1⟩,
  ⟨0x221006, 8, 1, 1, .u16, 1, .rwg, .n, true, [100], [(10, 2000)], 2⟩,
  ⟨0x221007, 8, 1, 1, .u16, 1, .rwg, .n, true, [50], [(10, 2000)], 2⟩]

/-- Object rows 0x2xxx, part 2. -/
def objRows2b : List ObjRow := [
  ⟨0x221008, 8, 1, 1, .bool, 1, .rwg, .n, true, [0], [], 1⟩,
  ⟨0x222001, 1, 1, 1, .u16, 1, .ro, .v, false, [0], [], 2⟩,
  ⟨0x222002, 1, 1, 1, .u32, 1, .ro, .v, false, [0], [], 4⟩,
  ⟨0x222003, 1, 1, 1, .u32, 1, .ro, .v, false, [0], [], 4⟩,
  ⟨0x222004, 1, 1, 1, .u16, 1, .ro, .v, false, [0], [], 2⟩,
  ⟨0x230001, 1, 1, 1, .u16, 1, .rwg, .n, true, [20], [(2, 200)], 2⟩,
  ⟨0x230002, 1, 1, 1, .u16, 1, .rwg, .n, true, [300], [(0, 5000)], 2⟩,
  ⟨0x230003, 1, 1, 1, .u16, 1, .rwg, .n, true, [200], [(50, 400)], 2⟩,
  ⟨0x230004, 1, 1, 1, .u16, 1, .rwg, .n, true, [250], [(50, 400)], 2⟩,
  ⟨0x230005, 1, 1, 1, .u16, 1, .rwg, .n, true, [200], [(50, 1000)], 2⟩,
  ⟨0x230006, 1, 1, 1, .u16, 1, .rwg, .n, true, [150], [(50, 500)], 2⟩,
  ⟨0x230007, 1, 1, 1, .u8, 1, .rwg, .n, true, [255], [(0, 9), (255, 255)], 1⟩,
  ⟨0x230008, 1, 1, 1, .u16, 1, .rwg, .n, true, [1000], [], 2⟩,
  ⟨0x230009, 1, 1, 1, .u16, 1, .rwg, .n, true, [2000], [(0, 20000)], 2⟩,
  ⟨0x230101, 1, 1, 1, .u8, 1, .ro, .v, true, [0], [], 1⟩,
  ⟨0x230102, 1, 1, 1, .u8, 1, .ro, .v, true, [0], [], 1⟩,
  ⟨0x230103, 1, 1, 1, .u8, 1, .ro, .v, true, [0], [], 1⟩,
  ⟨0x230104, 1, 1, 1, .u16, 1, .ro, .v, true, [0], [], 2⟩,
  ⟨0x230105, 1, 1, 1, .u16, 1, .ro, .v, true, [1000], [], 2⟩,
  ⟨0x230106, 1, 1, 1, .u32, 1, .ro, .v, true, [0], [], 4⟩,
  ⟨0x230107, 1, 1, 1, .u32, 1, .ro, .v, true, [0], [], 4⟩,
  ⟨0x230108, 1, 1, 1, .u32, 1, .ro, .v, true, [0], [], 4⟩]

/-- Object rows 0x3xxx, part 1. -/
def objRows3a : List ObjRow := [
  ⟨0x300001, 1, 1, 1, .u8, 1, .rwg, .n, true, [0], [(0, 16)], 1⟩,
  ⟨0x300002, 1, 1, 1, .u16, 1, .rwg, .n, true, [2000], [(0, 6000)], 2⟩,
  ⟨0x300003, 1, 1, 1, .f32, 1, .rwg, .n, true, [0], [], 4⟩,
  ⟨0x300004, 1, 1, 1, .f32, 1, .rwg, .n, true, [0], [], 4⟩,
  ⟨0x300005, 1, 1, 1, .f32, 1, .rwg, .n, true, [0], [], 4⟩,
  ⟨0x300006, 1, 1, 1, .f32, 1, .rwg, .n, true, [0], [], 4⟩,
  ⟨0x300007, 1, 1, 1, .f32, 1, .rwg, .n, true, [998295355], [], 4⟩,
  ⟨0x300008, 1, 1, 1, .f32, 1, .rwg, .n, true, [3130870098], [], 4⟩,
  ⟨0x300009, 1, 1, 1, .f32, 1, .rwg, .n, true, [0], [], 4⟩,
  ⟨0x30000A, 1, 1, 1, .u16, 1, .rwg, .n, true, [1500], [], 2⟩,
  ⟨0x300101, 1, 1, 4, .f32, 1, .rwg, .n, true, [0], [], 4⟩,
  ⟨0x300105, 1, 1, 4, .f32, 1, .rwg, .n, true, [0], [], 4⟩,
  ⟨0x300109, 1, 1, 4, .f32, 1, .rwg, .n, true, [0], [], 4⟩,
  ⟨0x300201, 1, 1, 1, .f32, 1, .ro, .v, true, [0], [], 4⟩,
  ⟨0x300202, 1, 1, 1, .q15, 1, .rwg, .n, true, [31457], [(26214, 32113)], 2⟩,
  ⟨0x300203, 1, 1, 1, .i16, 1, .rwg, .n, true, [15000], [(12000, 15500)], 2⟩,
  ⟨0x300204, 1, 1, 1, .i16, 1, .rwg, .n, true, [15500], [(10000, 16500)], 2⟩,
  ⟨0x300205, 1, 1, 1, .i16, 1, .rwg, .n, true, [16000], [(13000, 16000)], 2⟩,
  ⟨0x300206, 1, 1, 1, .i16, 1, .rwg, .n, true, [16500], [(11000, 17000)], 2⟩,
  ⟨0x300301, 1, 1, 1, .u16, 3, .ro, .v, false, [0], [], 6⟩,
  ⟨0x300302, 1, 1, 1, .q15, 1, .ro, .v, false, [0], [], 2⟩,
  ⟨0x300303, 1, 1, 1, .q15, 1, .ro, .v, false, [0], [], 2⟩,
  ⟨0x300304, 1, 1, 1, .u32, 1, .ro, .v, false, [0], [], 4⟩,
  ⟨0x300305, 1, 1, 1, .u32, 1, .ro, .v, false, [0], [], 4⟩,
  ⟨0x300306, 1, 1, 1, .u32, 1, .ro, .v, false, [0], [], 4⟩,
  ⟨0x300401, 1, 1, 1, .u16, 1, .rwg, .n, false, [248], [(40, 264)], 2⟩,
  ⟨0x300402, 1, 1, 1, .u32, 1, .ro, .v, false, [0], [], 4⟩,
  ⟨0x300403, 1, 1, 1, .bool, 1, .rw, .n, false, [1], [], 1⟩,
  ⟨0x300501, 1, 1, 1, .u8, 1, .ro, .v, false, [0], [], 1⟩,
  ⟨0x300502, 1, 1, 1, .u8, 1, .ro, .v, false, [0], [], 1⟩,
  ⟨0x300503, 1, 1, 1, .q15, 1, .ro, .v, false, [0], [], 2⟩,
  ⟨0x300504, 1, 1, 1, .q15, 1, .ro, .v, false, [0], [], 2⟩,
  ⟨0x300505, 1, 1, 1, .q15, 1, .ro, .v, false, [0], [], 2⟩,
  ⟨0x300506, 1, 1, 1, .u16, 1, .ro, .v, false, [2000], [], 2⟩,
  ⟨0x300507, 1, 1, 1, .u16, 1, .ro, .v, false, [30000], [], 2⟩,
  ⟨0x300508, 1, 1, 1, .u32, 1, .ro, .v, false, [0], [], 4⟩,
  ⟨0x300509, 1, 1, 1, .u32, 1, .ro, .v, false, [0], [], 4⟩,
  ⟨0x30050A, 1, 1, 1, .u32, 1, .ro, .v, false, [0], [], 4⟩,
  ⟨0x30050B, 1, 1, 1, .bool, 1, .wo, .v, false, [0], [], 1⟩,
  ⟨0x301001, 1, 1, 1, .u8, 1, .rwg, .n, true, [255], [(0, 23), (255, 255)], 1⟩]

/-- Object rows 0x3xxx, part 2. -/
def objRows3b : List ObjRow := [
  ⟨0x301002, 1, 1, 1, .u8, 1, .rwg, .n, true, [5], [(2, 50)], 1⟩,
  ⟨0x301003, 1, 1, 1, .u16, 1, .rwg, .n, true, [1024], [(256, 256), (512, 512), (1024, 1024), (2048, 2048), (4096, 4096)], 2⟩,
  ⟨0x301004, 1, 1, 1, .q15, 1, .rwg, .n, true, [16384], [(3277, 29491)], 2⟩,
  ⟨0x301005, 1, 1, 1, .q15, 1, .rwg, .n, true, [8192], [(1638, 29491)], 2⟩,
  ⟨0x301006, 1, 1, 1, .u16, 1, .rwg, .n, true, [60], [(10, 400)], 2⟩,
  ⟨0x301007, 1, 1, 1, .u16, 1, .rwg, .n, true, [500], [(100, 1400)], 2⟩,
  ⟨0x301008, 1, 1, 1, .f32, 1, .rwg, .n, true, [0], [], 4⟩,
  ⟨0x301009, 1, 1, 1, .u16, 1, .rwg, .n, true, [1024], [(256, 4096)], 2⟩,
  ⟨0x30100A, 1, 1, 1, .u16, 1, .rwg, .n, true, [20], [(5, 500)], 2⟩,
  ⟨0x301101, 1, 1, 24, .q31, 1, .rwg, .n, true, [0], [(0, 2147483647)], 4⟩,
  ⟨0x301201, 1, 1, 1, .u8, 1, .ro, .v, false, [0], [], 1⟩,
  ⟨0x301202, 1, 1, 1, .u32, 1, .ro, .v, false, [0], [], 4⟩,
  ⟨0x301203, 1, 1, 1, .u32, 1, .ro, .v, false, [0], [], 4⟩,
  ⟨0x301204, 1, 1, 1, .u32, 1, .ro, .v, false, [0], [], 4⟩,
  ⟨0x301205, 1, 1, 1, .u32, 1, .ro, .v, false, [0], [], 4⟩,
  ⟨0x301206, 1, 1, 1, .u32, 1, .ro, .v, false, [0], [], 4⟩,
  ⟨0x301207, 1, 1, 1, .u32, 1, .ro, .v, false, [0], [], 4⟩,
  ⟨0x301208, 1, 1, 1, .f32, 1, .ro, .v, false, [0], [], 4⟩,
  ⟨0x301209, 1, 1, 1, .u32, 1, .ro, .v, false, [0], [], 4⟩,
  ⟨0x30120A, 1, 1, 1, .u16, 1, .ro, .v, false, [0], [], 2⟩,
  ⟨0x30120B, 1, 1, 1, .u8, 1, .ro, .v, false, [0], [], 1⟩,
  ⟨0x30120C, 1, 1, 1, .u8, 1, .ro, .v, false, [0], [], 1⟩,
  ⟨0x301301, 1, 1, 24, .q15, 1, .ro, .v, false, [0], [], 2⟩,
  ⟨0x302001, 1, 1, 1, .u16, 1, .rwg, .n, true, [3800], [(500, 5900)], 2⟩,
  ⟨0x302002, 1, 1, 1, .u16, 1, .rwg, .n, true, [2000], [(100, 10000)], 2⟩,
  ⟨0x302003, 1, 1, 1, .u16, 1, .rwg, .n, true, [600], [(10, 10000)], 2⟩,
  ⟨0x302004, 1, 1, 1, .u16, 1, .rwg, .n, true, [600], [(10, 10000)], 2⟩,
  ⟨0x302005, 1, 1, 1, .bool, 1, .rwg, .n, true, [0], [], 1⟩,
  ⟨0x302006, 1, 1, 1, .u16, 1, .rwg, .n, true, [50], [(10, 500)], 2⟩,
  ⟨0x302101, 1, 1, 1, .q15, 1, .ro, .v, false, [0], [], 2⟩,
  ⟨0x302102, 1, 1, 1, .q15, 1, .ro, .v, false, [0], [], 2⟩,
  ⟨0x302103, 1, 1, 1, .q15, 1, .ro, .v, false, [0], [], 2⟩,
  ⟨0x302104, 1, 1, 1, .q15, 1, .ro, .v, false, [0], [], 2⟩,
  ⟨0x302105, 1, 1, 1, .u32, 1, .ro, .v, false, [0], [], 4⟩,
  ⟨0x302106, 1, 1, 1, .u32, 1, .ro, .v, false, [0], [], 4⟩,
  ⟨0x302107, 1, 1, 1, .u32, 1, .ro, .v, false, [0], [], 4⟩,
  ⟨0x303001, 1, 1, 1, .u16, 1, .rwg, .n, true, [900], [(700, 1000)], 2⟩,
  ⟨0x303002, 1, 1, 1, .u16, 1, .rwg, .n, true, [950], [(0, 1080)], 2⟩,
  ⟨0x303003, 1, 1, 1, .u16, 1, .rwg, .n, true, [1100], [(0, 1150)], 2⟩,
  ⟨0x303004, 1, 1, 1, .u16, 1, .rwg, .n, true, [20], [(5, 50)], 2⟩]

/-- Object rows 0x3xxx, part 3. -/
def objRows3c : List ObjRow := [
  ⟨0x303005, 1, 1, 1, .u16, 1, .rwg, .n, true, [50], [(10, 1000)], 2⟩,
  ⟨0x303006, 1, 1, 1, .q15, 1, .rwg, .n, true, [7022], [(0, 18205)], 2⟩,
  ⟨0x303007, 1, 1, 1, .bool, 1, .rwg, .n, true, [1], [], 1⟩,
  ⟨0x303008, 1, 1, 1, .u16, 1, .rwg, .n, true, [1000], [(100, 60000)], 2⟩,
  ⟨0x303101, 1, 1, 1, .u8, 1, .ro, .v, false, [0], [], 1⟩,
  ⟨0x303102, 1, 1, 1, .u32, 1, .ro, .v, false, [0], [], 4⟩,
  ⟨0x303103, 1, 1, 1, .u32, 1, .ro, .v, false, [0], [], 4⟩,
  ⟨0x303104, 1, 1, 1, .u32, 1, .ro, .n, false, [0], [], 4⟩,
  ⟨0x303105, 1, 1, 1, .u16, 1, .rw, .v, false, [0], [], 2⟩,
  ⟨0x303106, 1, 1, 1, .u16, 1, .ro, .v, false, [0], [], 2⟩,
  ⟨0x303107, 1, 1, 1, .q15, 1, .ro, .v, false, [32768], [], 2⟩,
  ⟨0x312001, 1, 1, 1, .bool, 1, .rwg, .n, true, [1], [], 1⟩,
  ⟨0x312002, 1, 1, 1, .bool, 1, .rwg, .n, true, [1], [], 1⟩,
  ⟨0x312003, 1, 1, 1, .bool, 1, .rwg, .n, true, [1], [], 1⟩,
  ⟨0x312004, 1, 1, 1, .u16, 1, .ro, .v, true, [0], [], 2⟩,
  ⟨0x312005, 1, 1, 1, .bool, 1, .rwg, .n, true, [1], [], 1⟩,
  ⟨0x312101, 1, 1, 1, .u32, 1, .ro, .v, false, [0], [], 4⟩,
  ⟨0x312102, 1, 1, 1, .u32, 1, .ro, .v, false, [0], [], 4⟩,
  ⟨0x312103, 1, 1, 1, .u32, 1, .ro, .v, false, [0], [], 4⟩,
  ⟨0x312104, 1, 1, 1, .u32, 1, .ro, .v, false, [0], [], 4⟩,
  ⟨0x312105, 1, 1, 1, .u32, 1, .ro, .v, false, [0], [], 4⟩,
  ⟨0x312106, 1, 1, 1, .u32, 1, .ro, .v, false, [0], [], 4⟩,
  ⟨0x312107, 1, 1, 1, .u32, 1, .ro, .v, false, [0], [], 4⟩,
  ⟨0x312108, 1, 1, 1, .u32, 1, .ro, .v, false, [0], [], 4⟩,
  ⟨0x304001, 1, 1, 1, .u16, 1, .rwg, .n, true, [300], [(150, 600)], 2⟩,
  ⟨0x304002, 1, 1, 1, .bool, 1, .rwg, .n, true, [1], [], 1⟩,
  ⟨0x304003, 1, 1, 1, .u16, 1, .rwg, .n, true, [200], [(20, 400)], 2⟩,
  ⟨0x304004, 1, 1, 1, .u8, 1, .rwg, .n, true, [1], [(0, 10)], 1⟩,
  ⟨0x304101, 1, 1, 1, .u16, 6, .ro, .v, false, [0], [], 12⟩,
  ⟨0x304102, 1, 1, 1, .u32, 1, .ro, .v, false, [0], [], 4⟩,
  ⟨0x304103, 1, 1, 1, .u32, 1, .ro, .v, false, [0], [], 4⟩,
  ⟨0x304104, 1, 1, 1, .u32, 1, .ro, .n, false, [0], [], 4⟩,
  ⟨0x304105, 1, 1, 1, .u32, 1, .ro, .v, false, [0], [], 4⟩,
  ⟨0x304106, 1, 1, 1, .u32, 1, .ro, .v, false, [0], [], 4⟩,
  ⟨0x304107, 1, 1, 1, .u16, 1, .rw, .v, false, [0], [], 2⟩,
  ⟨0x304108, 1, 1, 1, .u16, 9, .ro, .v, false, [0], [], 18⟩,
  ⟨0x304109, 1, 1, 1, .u16, 1, .ro, .n, false, [0], [], 2⟩,
  ⟨0x30410A, 1, 1, 1, .u32, 1, .ro, .v, false, [0], [], 4⟩]

/-- Object rows 0x4xxx, part 1. -/
def objRows4a : List ObjRow := [
  ⟨0x480001, 1, 1, 1, .q15, 1, .rwg, .n, true, [19661], [(19661, 32767)], 2⟩,
  ⟨0x480002, 1, 1, 1, .u16, 1, .rwg, .n, true, [200], [(10, 1000)], 2⟩,
  ⟨0x480003, 1, 1, 1, .u16, 1, .rwg, .n, true, [400], [(10, 1000)], 2⟩,
  ⟨0x480004, 1, 1, 1, .bool, 1, .rwg, .n, true, [1], [], 1⟩,
  ⟨0x480005, 1, 1, 1, .q15, 1, .rwg, .n, true, [26214], [(9830, 32767)], 2⟩,
  ⟨0x480006, 1, 1, 1, .q15, 1, .rwg, .n, true, [9830], [], 2⟩,
  ⟨0x480007, 1, 1, 1, .u16, 1, .rwg, .n, true, [600], [(100, 3000)], 2⟩,
  ⟨0x480008, 1, 1, 1, .u16, 1, .rwg, .n, true, [40], [(1, 200)], 2⟩,
  ⟨0x480009, 1, 1, 1, .q15, 1, .rwg, .n, true, [655], [], 2⟩,
  ⟨0x48000A, 1, 1, 1, .u16, 1, .rwg, .n, true, [300], [], 2⟩,
  ⟨0x48000B, 1, 1, 1, .q15, 1, .rwg, .n, true, [2621], [], 2⟩,
  ⟨0x48000C, 1, 1, 1, .u16, 1, .rwg, .n, true, [50], [], 2⟩,
  ⟨0x48000D, 1, 1, 1, .u16, 1, .rwg, .n, true, [100], [], 2⟩,
  ⟨0x48000E, 1, 1, 1, .u8, 1, .rwg, .n, true, [40], [(10, 50)], 1⟩,
  ⟨0x48000F, 1, 1, 1, .u16, 1, .rwg, .n, true, [200], [(0, 5000)], 2⟩,
  ⟨0x480010, 1, 1, 1, .q15, 1, .rwg, .n, true, [11469], [], 2⟩,
  ⟨0x480011, 1, 1, 1, .u16, 1, .rwg, .n, true, [128], [(16, 2550)], 2⟩,
  ⟨0x480012, 1, 1, 1, .u8, 1, .rwg, .n, true, [4], [(1, 32)], 1⟩,
  ⟨0x480013, 1, 1, 1, .u16, 1, .rwg, .n, true, [800], [], 2⟩,
  ⟨0x480014, 1, 1, 1, .u16, 1, .rwg, .n, true, [1000], [], 2⟩,
  ⟨0x480101, 1, 1, 8, .u8, 1, .rwg, .n, true, [255, 219, 182, 146, 109, 73, 36, 0], [], 1⟩,
  ⟨0x480201, 1, 1, 1, .q15, 1, .ro, .v, true, [0], [], 2⟩,
  ⟨0x480202, 1, 1, 1, .u8, 1, .ro, .v, true, [0], [], 1⟩,
  ⟨0x480203, 1, 1, 1, .u8, 1, .ro, .v, true, [0], [], 1⟩,
  ⟨0x480204, 1, 1, 1, .u32, 1, .ro, .v, true, [0], [], 4⟩,
  ⟨0x481001, 12, 1, 1, .bool, 1, .rwg, .n, true, [1], [], 1⟩,
  ⟨0x481002, 12, 1, 1, .q15, 1, .rwg, .n, true, [32767], [], 2⟩,
  ⟨0x481003, 12, 1, 1, .u8, 1, .rwg, .n, true, [0], [(0, 12)], 1⟩,
  ⟨0x481004, 12, 1, 1, .u16, 1, .rwg, .n, true, [0], [], 2⟩,
  ⟨0x481005, 12, 1, 1, .u16, 1, .rwg, .n, true, [0], [], 2⟩,
  ⟨0x481006, 12, 1, 1, .u8, 1, .rwg, .n, true, [0], [(1, 12)], 1⟩,
  ⟨0x481007, 12, 1, 1, .u16, 1, .rwg, .n, true, [0], [], 2⟩,
  ⟨0x481008, 12, 1, 1, .u8, 1, .rwg, .n, true, [0], [(0, 5), (64, 69), (128, 133), (192, 197)], 1⟩,
  ⟨0x481009, 12, 1, 1, .u16, 1, .ro, .v, true, [0], [], 2⟩,
  ⟨0x48100A, 12, 1, 1, .u8, 1, .ro, .v, true, [0], [], 1⟩,
  ⟨0x481010, 12, 1, 16, .q15, 1, .rwg, .n, true, [0], [(0, 32767)], 2⟩,
  ⟨0x400001, 8, 256, 1, .u8, 1, .ro, .v, false, [0], [], 1⟩,
  ⟨0x400002, 8, 256, 1, .u8, 1, .ro, .v, false, [0], [], 1⟩,
  ⟨0x400003, 8, 256, 1, .bool, 1, .ro, .v, false, [1], [], 1⟩,
  ⟨0x400004, 8, 256, 1, .bool, 1, .wo, .v, false, [0], [], 1⟩]

/-- Object rows 0x4xxx, part 2. -/
def objRows4b : List ObjRow := [
  ⟨0x400005, 8, 256, 1, .u32, 1, .ro, .v, false, [0], [], 4⟩,
  ⟨0x400006, 8, 256, 1, .u16, 1, .rwg, .n, false, [0], [], 2⟩,
  ⟨0x400007, 8, 256, 1, .bool, 1, .rwg, .n, false, [0], [], 1⟩,
  ⟨0x400008, 8, 256, 1, .u16, 1, .ro, .v, false, [0], [], 2⟩,
  ⟨0x400009, 8, 256, 1, .u16, 1, .ro, .n, false, [65535], [], 2⟩,
  ⟨0x40000A, 8, 256, 1, .u16, 1, .ro, .n, false, [65535], [], 2⟩,
  ⟨0x40000B, 8, 256, 1, .bool, 1, .wo, .v, false, [0], [], 1⟩,
  ⟨0x40000C, 8, 256, 1, .u16, 1, .ro, .n, false, [65535], [], 2⟩,
  ⟨0x40000D, 8, 256, 1, .q15, 1, .ro, .v, false, [0], [], 2⟩,
  ⟨0x40000E, 8, 256, 1, .q15, 1, .ro, .v, false, [0], [], 2⟩,
  ⟨0x40000F, 8, 256, 1, .u16, 1, .ro, .v, false, [2000], [], 2⟩,
  ⟨0x400010, 8, 256, 1, .u32, 1, .ro, .v, false, [0], [], 4⟩,
  ⟨0x400011, 8, 256, 1, .u32, 1, .ro, .v, false, [0], [], 4⟩,
  ⟨0x400012, 8, 256, 1, .u32, 1, .ro, .n, false, [0], [], 4⟩,
  ⟨0x482001, 1, 1, 1, .u16, 1, .rwg, .n, true, [12500], [(7813, 15625)], 2⟩,
  ⟨0x482002, 1, 1, 1, .bool, 1, .rwg, .n, true, [1], [], 1⟩,
  ⟨0x482003, 1, 1, 1, .bool, 1, .rwg, .n, true, [1], [], 1⟩,
  ⟨0x482004, 1, 1, 1, .bool, 1, .rwg, .n, true, [1], [], 1⟩,
  ⟨0x482005, 1, 1, 1, .bool, 1, .rwg, .n, true, [1], [], 1⟩,
  ⟨0x401001, 8, 256, 1, .u32, 1, .ro, .v, false, [0], [], 4⟩,
  ⟨0x401002, 8, 256, 1, .u32, 1, .ro, .v, false, [0], [], 4⟩,
  ⟨0x401003, 8, 256, 1, .u32, 1, .ro, .v, false, [0], [], 4⟩,
  ⟨0x401004, 8, 256, 1, .u32, 1, .ro, .v, false, [0], [], 4⟩,
  ⟨0x401005, 8, 256, 1, .u32, 1, .ro, .v, false, [0], [], 4⟩,
  ⟨0x401006, 8, 256, 1, .u32, 1, .ro, .v, false, [0], [], 4⟩,
  ⟨0x401007, 8, 256, 1, .u32, 1, .ro, .v, false, [0], [], 4⟩,
  ⟨0x483001, 1, 1, 1, .bool, 1, .rwg, .n, true, [1], [], 1⟩,
  ⟨0x483002, 1, 1, 1, .u16, 1, .rwg, .n, true, [100], [(40, 1000)], 2⟩,
  ⟨0x483003, 1, 1, 1, .u8, 1, .rwg, .n, true, [1], [(0, 10)], 1⟩,
  ⟨0x402001, 8, 256, 1, .u16, 6, .ro, .v, false, [0], [], 12⟩,
  ⟨0x402002, 8, 256, 1, .u32, 1, .ro, .v, false, [0], [], 4⟩,
  ⟨0x402003, 8, 256, 1, .u32, 1, .ro, .v, false, [0], [], 4⟩,
  ⟨0x402004, 8, 256, 1, .u32, 1, .ro, .n, false, [0], [], 4⟩,
  ⟨0x402005, 8, 256, 1, .u32, 1, .ro, .v, false, [0], [], 4⟩,
  ⟨0x402006, 8, 256, 1, .u32, 1, .ro, .v, false, [0], [], 4⟩,
  ⟨0x402007, 8, 256, 1, .u16, 1, .rw, .v, false, [0], [], 2⟩,
  ⟨0x402008, 8, 256, 1, .u16, 9, .ro, .v, false, [0], [], 18⟩]

/-- Object rows 0x5xxx, part 1. -/
def objRows5a : List ObjRow := [
  ⟨0x500001, 1, 1, 1, .u8, 1, .ro, .v, false, [0], [], 1⟩,
  ⟨0x500002, 1, 1, 1, .u32, 1, .ro, .v, false, [0], [], 4⟩,
  ⟨0x500003, 1, 1, 1, .u32, 1, .ro, .v, false, [0], [], 4⟩,
  ⟨0x500004, 1, 1, 1, .u8, 1, .ro, .v, false, [0], [], 1⟩,
  ⟨0x500005, 1, 1, 1, .u8, 1, .ro, .v, false, [0], [], 1⟩,
  ⟨0x500006, 1, 1, 1, .bool, 1, .rwg, .n, false, [1], [], 1⟩,
  ⟨0x500101, 1, 1, 1, .domain, 1, .wo, .v, false, [0], [], 2162688⟩,
  ⟨0x500102, 1, 1, 1, .bool, 1, .wo, .v, false, [0], [], 1⟩,
  ⟨0x500103, 1, 1, 1, .u32, 1, .wo, .v, true, [0], [], 4⟩,
  ⟨0x500104, 1, 1, 1, .u8, 1, .ro, .v, false, [0], [], 1⟩,
  ⟨0x500105, 1, 1, 1, .u32, 1, .ro, .v, false, [0], [], 4⟩,
  ⟨0x501001, 9, 1, 1, .u8, 1, .ro, .v, false, [0], [], 1⟩,
  ⟨0x501002, 9, 1, 1, .u8, 1, .ro, .v, false, [0], [], 1⟩,
  ⟨0x501003, 9, 1, 1, .u32, 1, .ro, .v, false, [0], [], 4⟩,
  ⟨0x501004, 9, 1, 1, .u32, 1, .ro, .v, false, [0], [], 4⟩,
  ⟨0x501005, 9, 1, 1, .u32, 1, .ro, .v, false, [0], [], 4⟩,
  ⟨0x501006, 9, 1, 1, .u32, 1, .ro, .v, false, [0], [], 4⟩,
  ⟨0x501007, 9, 1, 1, .u32, 1, .ro, .v, false, [0], [], 4⟩,
  ⟨0x501008, 9, 1, 1, .u32, 1, .ro, .v, false, [0], [], 4⟩,
  ⟨0x501009, 9, 1, 1, .u32, 1, .ro, .v, false, [0], [], 4⟩,
  ⟨0x50100A, 9, 1, 1, .u32, 1, .ro, .v, false, [0], [], 4⟩,
  ⟨0x50100B, 9, 1, 1, .u32, 1, .ro, .v, false, [0], [], 4⟩,
  ⟨0x50100C, 9, 1, 1, .u32, 1, .ro, .v, false, [0], [], 4⟩,
  ⟨0x50100D, 9, 1, 1, .u16, 1, .ro, .v, false, [0], [], 2⟩,
  ⟨0x50100E, 9, 1, 1, .u16, 1, .rw, .v, false, [0], [], 2⟩,
  ⟨0x50100F, 9, 1, 1, .u32, 1, .ro, .v, false, [0], [], 4⟩,
  ⟨0x501010, 9, 1, 1, .u8, 1, .rw, .v, false, [255], [(0, 63), (255, 255)], 1⟩,
  ⟨0x501011, 9, 1, 1, .u32, 1, .ro, .v, false, [0], [], 4⟩,
  ⟨0x501012, 9, 1, 1, .u16, 1, .ro, .v, false, [0], [], 2⟩,
  ⟨0x502001, 1, 1, 1, .u16, 1, .ro, .v, false, [0], [], 2⟩,
  ⟨0x502002, 1, 1, 1, .u16, 1, .ro, .v, false, [0], [], 2⟩,
  ⟨0x502003, 1, 1, 1, .u16, 1, .ro, .v, false, [0], [], 2⟩,
  ⟨0x502004, 1, 1, 1, .q15, 1, .ro, .v, false, [0], [], 2⟩,
  ⟨0x503001, 9, 1, 24, .q31, 1, .ro, .v, false, [0], [], 4⟩]

/-- Object rows 0x6xxx, part 1. -/
def objRows6a : List ObjRow := [
  ⟨0x600001, 1, 1, 1, .octets, 1, .rwg, .n, true, [0], [], 32⟩,
  ⟨0x601001, 4, 1, 1, .u8, 1, .ro, .v, false, [0], [], 1⟩,
  ⟨0x601002, 4, 1, 1, .u32, 1, .ro, .v, false, [0], [], 4⟩,
  ⟨0x602001, 6, 1, 1, .u8, 1, .rwg, .n, true, [0, 1, 2, 3, 0, 1], [(0, 3)], 1⟩,
  ⟨0x602002, 6, 1, 1, .q15, 1, .rwg, .n, true, [3277], [], 2⟩,
  ⟨0x602003, 6, 1, 1, .q15, 1, .rwg, .n, true, [29491], [], 2⟩,
  ⟨0x602004, 6, 1, 1, .q15, 1, .rwg, .n, true, [16384], [], 2⟩,
  ⟨0x602005, 6, 1, 1, .f32, 1, .rwg, .n, true, [1073741824], [], 4⟩,
  ⟨0x603001, 4, 1, 1, .u16, 1, .rwg, .n, true, [300], [(300, 9000)], 2⟩,
  ⟨0x603002, 4, 1, 1, .u8, 1, .rwg, .n, true, [16], [], 1⟩,
  ⟨0x603003, 4, 1, 1, .u8, 1, .rwg, .n, true, [20], [(0, 23)], 1⟩,
  ⟨0x603004, 4, 1, 1, .u8, 1, .rwg, .n, true, [3], [], 1⟩,
  ⟨0x603005, 4, 1, 1, .u16, 1, .rwg, .n, true, [3000], [(500, 50000)], 2⟩,
  ⟨0x603006, 4, 1, 1, .u16, 1, .rwg, .n, true, [2048], [], 2⟩,
  ⟨0x603007, 4, 1, 1, .f32, 1, .rwg, .n, true, [973068864], [], 4⟩,
  ⟨0x603008, 4, 1, 1, .u8, 1, .rwg, .n, true, [0, 1, 2, 3], [(0, 3)], 1⟩,
  ⟨0x604001, 1, 1, 1, .u8, 1, .rwg, .n, true, [0], [(0, 1)], 1⟩,
  ⟨0x604002, 1, 1, 1, .u8, 1, .rwg, .n, true, [1], [(1, 16)], 1⟩,
  ⟨0x604003, 1, 1, 1, .u16, 1, .rwg, .n, true, [0], [], 2⟩,
  ⟨0x604004, 1, 1, 1, .bool, 1, .rwg, .n, true, [0], [], 1⟩,
  ⟨0x604005, 1, 1, 1, .u8, 1, .rwg, .n, true, [40], [(20, 70)], 1⟩,
  ⟨0x604006, 1, 1, 1, .u8, 1, .rwg, .n, true, [0], [(0, 1)], 1⟩,
  ⟨0x604007, 1, 1, 1, .u16, 1, .rwg, .n, true, [0], [], 2⟩,
  ⟨0x605001, 1, 1, 1, .u16, 1, .ro, .v, false, [0], [], 2⟩,
  ⟨0x605002, 1, 1, 1, .u8, 1, .ro, .v, false, [0], [], 1⟩,
  ⟨0x605003, 1, 1, 1, .u32, 1, .ro, .v, false, [0], [], 4⟩,
  ⟨0x605004, 1, 1, 1, .u32, 1, .ro, .v, false, [0], [], 4⟩,
  ⟨0x605005, 1, 1, 1, .u8, 1, .ro, .v, false, [0], [], 1⟩,
  ⟨0x605006, 1, 1, 1, .u16, 1, .ro, .v, false, [0], [], 2⟩,
  ⟨0x606001, 1, 1, 1, .u8, 4, .rwg, .n, true, [16909060], [(0, 4)], 4⟩,
  ⟨0x606002, 1, 1, 1, .u8, 1, .rwg, .n, true, [0], [(0, 15)], 1⟩,
  ⟨0x606003, 1, 1, 1, .u16, 1, .rwg, .n, true, [100], [(10, 2000)], 2⟩,
  ⟨0x606004, 1, 1, 1, .u16, 1, .rwg, .n, true, [50], [(10, 2000)], 2⟩,
  ⟨0x606005, 1, 1, 1, .u16, 1, .rwg, .n, true, [350], [(200, 900)], 2⟩,
  ⟨0x606006, 1, 1, 1, .u16, 1, .rwg, .n, true, [1000], [(100, 3000)], 2⟩,
  ⟨0x607001, 1, 1, 1, .u32, 1, .ro, .v, false, [0], [], 4⟩,
  ⟨0x607002, 1, 1, 1, .u8, 1, .ro, .v, false, [127], [], 1⟩,
  ⟨0x607003, 1, 1, 1, .u32, 1, .ro, .v, false, [0], [], 4⟩,
  ⟨0x607004, 1, 1, 1, .u32, 1, .ro, .v, false, [0], [], 4⟩,
  ⟨0x607005, 1, 1, 1, .u32, 1, .ro, .v, false, [0], [], 4⟩]

/-- Object rows 0x7xxx, part 1. -/
def objRows7a : List ObjRow := [
  ⟨0x700001, 1, 1, 1, .u8, 1, .ro, .v, false, [0], [], 1⟩,
  ⟨0x700002, 1, 1, 1, .u32, 1, .ro, .v, false, [0], [], 4⟩,
  ⟨0x700003, 1, 1, 1, .bool, 1, .wo, .v, false, [0], [], 1⟩,
  ⟨0x700004, 1, 1, 1, .u8, 1, .ro, .v, false, [0], [], 1⟩,
  ⟨0x700005, 1, 1, 1, .u32, 1, .ro, .n, false, [0], [], 4⟩,
  ⟨0x700006, 1, 1, 1, .bool, 1, .wo, .v, false, [0], [], 1⟩,
  ⟨0x700007, 1, 1, 1, .u16, 1, .rw, .v, false, [0], [(0, 511)], 2⟩,
  ⟨0x700008, 1, 1, 1, .u32, 1, .ro, .v, false, [0], [], 4⟩,
  ⟨0x700009, 1, 1, 1, .u32, 1, .ro, .v, false, [0], [], 4⟩,
  ⟨0x700101, 1, 1, 8, .u32, 1, .ro, .v, false, [0], [], 4⟩,
  ⟨0x700109, 1, 1, 8, .u32, 1, .ro, .v, false, [0], [], 4⟩,
  ⟨0x700111, 1, 1, 8, .u32, 1, .ro, .v, false, [0], [], 4⟩,
  ⟨0x710001, 256, 1, 1, .u64, 1, .ro, .v, false, [0], [], 8⟩,
  ⟨0x710002, 256, 1, 1, .u64, 1, .ro, .v, false, [0], [], 8⟩,
  ⟨0x710003, 256, 1, 1, .u32, 1, .ro, .v, false, [0], [], 4⟩,
  ⟨0x710004, 256, 1, 1, .u16, 1, .ro, .v, false, [0], [], 2⟩,
  ⟨0x710005, 256, 1, 1, .u16, 1, .ro, .v, false, [0], [], 2⟩,
  ⟨0x710006, 256, 1, 1, .u32, 1, .ro, .v, false, [0], [], 4⟩,
  ⟨0x720001, 1, 1, 16, .octets, 1, .ro, .n, false, [0], [], 36⟩,
  ⟨0x720011, 1, 1, 1, .u8, 1, .ro, .n, false, [0], [], 1⟩]

/-- Object rows 0x8xxx, part 1. -/
def objRows8a : List ObjRow := [
  ⟨0x800001, 1, 1, 1, .u16, 1, .rwg, .n, true, [10], [(1, 4094)], 2⟩,
  ⟨0x800002, 1, 1, 1, .u16, 1, .rwg, .n, true, [10], [(1, 4094)], 2⟩,
  ⟨0x800003, 1, 1, 1, .u8, 1, .rwg, .n, true, [0], [(0, 3)], 1⟩,
  ⟨0x800004, 1, 1, 1, .u16, 1, .rwg, .n, true, [100], [(10, 500)], 2⟩,
  ⟨0x800005, 1, 1, 1, .u16, 1, .rwg, .n, true, [16], [(2, 64)], 2⟩,
  ⟨0x801001, 1, 1, 1, .u16, 1, .rwg, .n, true, [1000], [(250, 10000)], 2⟩,
  ⟨0x801002, 1, 1, 1, .u64, 1, .rwg, .n, true, [0], [], 8⟩,
  ⟨0x801003, 1, 1, 1, .u16, 1, .rwg, .n, true, [40], [(10, 200)], 2⟩,
  ⟨0x801004, 1, 1, 1, .u16, 1, .rwg, .n, true, [120], [(20, 500)], 2⟩,
  ⟨0x801005, 1, 1, 1, .bool, 1, .rwg, .n, true, [1], [], 1⟩,
  ⟨0x802001, 1, 1, 1, .u8, 1, .rwg, .n, true, [0], [(0, 1)], 1⟩,
  ⟨0x802002, 1, 1, 1, .u8, 1, .rwg, .n, true, [224], [], 1⟩,
  ⟨0x802003, 1, 1, 1, .bool, 1, .rwg, .n, true, [1], [], 1⟩,
  ⟨0x802004, 1, 1, 1, .bool, 1, .rwg, .n, true, [0], [], 1⟩,
  ⟨0x810101, 2, 1, 1, .bool, 1, .ro, .v, false, [0], [], 1⟩,
  ⟨0x810102, 2, 1, 1, .u32, 1, .ro, .v, false, [0], [], 4⟩,
  ⟨0x810103, 2, 1, 1, .u32, 1, .ro, .v, false, [0], [], 4⟩,
  ⟨0x810104, 2, 1, 1, .u32, 5, .ro, .v, false, [0], [], 20⟩,
  ⟨0x810105, 2, 1, 1, .u32, 1, .ro, .v, false, [0], [], 4⟩,
  ⟨0x810106, 2, 1, 1, .u32, 1, .ro, .v, false, [0], [], 4⟩,
  ⟨0x810107, 2, 1, 1, .u32, 1, .ro, .v, false, [0], [], 4⟩,
  ⟨0x810108, 2, 1, 1, .u32, 1, .ro, .v, false, [0], [], 4⟩,
  ⟨0x810109, 2, 1, 1, .u32, 1, .ro, .v, false, [0], [], 4⟩,
  ⟨0x811001, 1, 1, 1, .u8, 1, .ro, .v, false, [0], [], 1⟩,
  ⟨0x811002, 1, 1, 1, .i32, 1, .ro, .v, false, [0], [], 4⟩,
  ⟨0x811003, 1, 1, 1, .u64, 2, .ro, .v, false, [0], [], 16⟩,
  ⟨0x812001, 1, 1, 1, .u8, 1, .ro, .v, false, [0], [], 1⟩,
  ⟨0x812002, 1, 1, 1, .u32, 1, .ro, .v, false, [0], [], 4⟩,
  ⟨0x812003, 1, 1, 1, .u32, 1, .ro, .v, false, [0], [], 4⟩,
  ⟨0x812004, 1, 1, 1, .u8, 1, .ro, .v, false, [0], [], 1⟩,
  ⟨0x812005, 1, 1, 1, .bool, 1, .ro, .v, false, [0], [], 1⟩,
  ⟨0x812006, 1, 1, 1, .u32, 1, .ro, .v, false, [0], [], 4⟩,
  ⟨0x813001, 1, 1, 1, .u8, 1, .ro, .v, false, [0], [], 1⟩,
  ⟨0x813002, 1, 1, 1, .u32, 1, .ro, .v, false, [0], [], 4⟩,
  ⟨0x813003, 1, 1, 1, .u32, 1, .ro, .v, false, [0], [], 4⟩,
  ⟨0x813004, 1, 1, 1, .u32, 1, .ro, .v, false, [0], [], 4⟩]

/-- Object rows 0x9xxx, part 1. -/
def objRows9a : List ObjRow := [
  ⟨0x900001, 1, 1, 1, .u8, 1, .ro, .v, false, [0], [], 1⟩,
  ⟨0x900002, 1, 1, 1, .u8, 1, .rwg, .v, false, [0], [(0, 5)], 1⟩,
  ⟨0x900003, 1, 1, 1, .u8, 1, .ro, .v, false, [0], [], 1⟩,
  ⟨0x900101, 1, 1, 1, .octets, 1, .ro, .v, false, [0], [], 1312⟩,
  ⟨0x900102, 1, 1, 1, .octets, 1, .ro, .v, false, [0], [], 3804⟩,
  ⟨0x900103, 1, 1, 1, .octets, 1, .ro, .v, false, [0], [], 32⟩,
  ⟨0x900104, 1, 1, 1, .octets, 1, .rwg, .n, false, [0], [], 2612⟩,
  ⟨0x900105, 1, 1, 1, .u8, 1, .ro, .v, false, [0], [], 1⟩,
  ⟨0x900201, 1, 1, 1, .octets, 1, .const, .none, true, [0], [], 1312⟩,
  ⟨0x901001, 1, 1, 2, .octets, 1, .rwg, .n, true, [0], [], 1312⟩,
  ⟨0x901003, 1, 1, 2, .octets, 1, .rwg, .n, true, [0], [], 1312⟩,
  ⟨0x901005, 1, 1, 2, .octets, 1, .rwg, .n, true, [0], [], 1312⟩,
  ⟨0x901007, 1, 1, 1, .octets, 1, .rwg, .n, true, [0], [], 1312⟩,
  ⟨0x901101, 1, 1, 4, .octets, 1, .rwg, .n, true, [0], [], 1312⟩,
  ⟨0x901105, 1, 1, 1, .u8, 1, .rwg, .n, true, [0], [(0, 15)], 1⟩,
  ⟨0x902001, 1, 1, 1, .octets, 1, .rwg, .n, true, [0], [], 768⟩,
  ⟨0x902002, 1, 1, 1, .octets, 1, .ro, .v, true, [0], [], 32⟩,
  ⟨0x902003, 1, 1, 1, .octets, 1, .ro, .n, true, [0], [], 32⟩,
  ⟨0x902004, 1, 1, 1, .bool, 1, .wo, .v, true, [0], [], 1⟩,
  ⟨0x910001, 1, 1, 1, .domain, 1, .wo, .v, false, [0], [], 65536⟩,
  ⟨0x910002, 1, 1, 1, .octets, 1, .wo, .v, false, [0], [], 2484⟩,
  ⟨0x910003, 1, 1, 1, .bool, 1, .wo, .v, false, [0], [], 1⟩,
  ⟨0x910004, 1, 1, 1, .u8, 1, .ro, .v, false, [0], [], 1⟩,
  ⟨0x910005, 1, 1, 1, .octets, 1, .ro, .v, false, [0], [], 32⟩,
  ⟨0x910006, 1, 1, 1, .u8, 1, .ro, .v, false, [0], [], 1⟩,
  ⟨0x910007, 1, 1, 1, .u32, 1, .ro, .n, false, [0], [], 4⟩,
  ⟨0x920001, 1, 1, 1, .octets, 1, .wo, .v, false, [0], [], 32⟩,
  ⟨0x920002, 1, 1, 1, .domain, 1, .ro, .v, false, [0], [], 2740⟩,
  ⟨0x920003, 1, 1, 1, .u32, 1, .ro, .v, false, [0], [], 4⟩,
  ⟨0x930001, 1, 1, 1, .u32, 4, .ro, .v, false, [0], [], 16⟩,
  ⟨0x930002, 1, 1, 1, .u32, 4, .rwg, .v, false, [0], [], 16⟩,
  ⟨0x930003, 1, 1, 1, .u16, 4, .ro, .v, false, [0x0400040004000400], [], 8⟩,
  ⟨0x930004, 1, 1, 1, .u8, 1, .ro, .v, false, [0], [], 1⟩]

/-- Object rows 0xAxxx, part 1. -/
def objRowsAa : List ObjRow := [
  ⟨0xA00001, 1, 1, 1, .u8, 1, .wo, .v, true, [0], [(0, 4)], 1⟩,
  ⟨0xA00002, 1, 1, 1, .u8, 1, .rwg, .n, true, [1], [(0, 7)], 1⟩,
  ⟨0xA00003, 1, 1, 1, .u8, 1, .rwg, .n, true, [8], [(2, 2), (4, 4), (8, 8), (16, 16)], 1⟩,
  ⟨0xA00004, 1, 1, 1, .u16, 1, .rwg, .n, true, [0], [], 2⟩,
  ⟨0xA01001, 1, 1, 1, .u8, 1, .wo, .v, false, [0], [(0, 4)], 1⟩,
  ⟨0xA01002, 1, 1, 1, .u8, 1, .ro, .v, false, [0], [], 1⟩,
  ⟨0xA01003, 1, 1, 1, .u8, 1, .ro, .v, false, [0], [], 1⟩,
  ⟨0xA01004, 1, 1, 1, .u8, 1, .ro, .v, false, [0], [], 1⟩,
  ⟨0xA01005, 1, 1, 1, .u8, 1, .ro, .v, false, [0], [], 1⟩,
  ⟨0xA01006, 1, 1, 1, .u16, 1, .ro, .v, false, [0], [], 2⟩,
  ⟨0xA01007, 1, 1, 1, .u32, 1, .ro, .v, false, [0], [], 4⟩,
  ⟨0xA01008, 1, 1, 1, .u16, 1, .ro, .v, false, [0], [], 2⟩,
  ⟨0xA01009, 1, 1, 1, .u32, 1, .ro, .v, false, [0], [], 4⟩,
  ⟨0xA0100A, 1, 1, 1, .u32, 1, .ro, .n, false, [0], [], 4⟩]

/-- Object rows 0xBxxx, part 1. -/
def objRowsBa : List ObjRow := [
  ⟨0xB00001, 1, 1, 1, .domain, 1, .wo, .v, false, [0], [], 6295552⟩,
  ⟨0xB00002, 1, 1, 1, .bool, 1, .wo, .v, false, [0], [], 1⟩,
  ⟨0xB00003, 1, 1, 1, .u8, 1, .ro, .v, false, [0], [], 1⟩,
  ⟨0xB00004, 1, 1, 1, .bool, 1, .wo, .v, false, [0], [], 1⟩,
  ⟨0xB00005, 1, 1, 1, .u8, 1, .ro, .n, false, [0], [], 1⟩,
  ⟨0xB00006, 1, 1, 1, .u8, 1, .ro, .v, false, [0], [], 1⟩,
  ⟨0xB00007, 1, 1, 1, .u32, 1, .ro, .n, false, [0], [], 4⟩,
  ⟨0xB00008, 1, 1, 1, .u32, 2, .ro, .v, false, [0], [], 8⟩,
  ⟨0xB00101, 1, 1, 1, .domain, 1, .wo, .v, false, [0], [], 266240⟩,
  ⟨0xB00102, 1, 1, 1, .bool, 1, .wo, .v, false, [0], [], 1⟩,
  ⟨0xB00103, 1, 1, 1, .u8, 1, .ro, .v, false, [0], [], 1⟩,
  ⟨0xB00104, 1, 1, 1, .u32, 1, .ro, .v, false, [0], [], 4⟩,
  ⟨0xB00201, 1, 1, 1, .u8, 1, .rw, .v, false, [0], [(0, 2)], 1⟩,
  ⟨0xB00202, 1, 1, 1, .u8, 1, .ro, .v, false, [0], [], 1⟩,
  ⟨0xB00203, 1, 1, 1, .u8, 1, .ro, .v, false, [0], [], 1⟩,
  ⟨0xB00204, 1, 1, 1, .u32, 1, .ro, .v, false, [0], [], 4⟩,
  ⟨0xB01001, 1, 1, 1, .bool, 1, .rwg, .n, true, [0], [], 1⟩,
  ⟨0xB01002, 1, 1, 1, .u16, 1, .rwg, .n, true, [10000], [(2000, 60000)], 2⟩,
  ⟨0xB01101, 1, 1, 1, .u8, 1, .rw, .v, true, [0], [(0, 12)], 1⟩]

/-- Object rows 0xCxxx, part 1. -/
def objRowsCa : List ObjRow := [
  ⟨0xC00001, 1, 1, 1, .i16, 14, .ro, .v, false, [0], [], 28⟩,
  ⟨0xC00002, 1, 1, 1, .i16, 14, .rw, .v, false, [0], [], 28⟩,
  ⟨0xC00003, 1, 1, 1, .u16, 20, .ro, .v, false, [0], [], 40⟩,
  ⟨0xC00004, 1, 1, 1, .u16, 20, .rw, .v, false, [0], [], 40⟩,
  ⟨0xC00005, 1, 1, 1, .u16, 20, .rw, .v, false, [0], [], 40⟩,
  ⟨0xC00006, 1, 1, 1, .i16, 6, .ro, .v, false, [0], [], 12⟩,
  ⟨0xC00007, 1, 1, 1, .bool, 1, .ro, .n, false, [0], [], 1⟩,
  ⟨0xC00101, 1, 1, 1, .domain, 1, .ro, .n, false, [0], [], 32768⟩,
  ⟨0xC00102, 1, 1, 1, .u16, 1, .ro, .n, false, [0], [], 2⟩,
  ⟨0xC00103, 1, 1, 1, .u32, 16, .ro, .n, false, [0], [], 64⟩,
  ⟨0xC00104, 1, 1, 1, .u32, 16, .ro, .n, false, [0], [], 64⟩,
  ⟨0xC00105, 1, 1, 1, .u32, 1, .ro, .n, false, [0], [], 4⟩,
  ⟨0xC01001, 1, 1, 1, .u32, 16, .ro, .v, false, [0], [], 64⟩,
  ⟨0xC01002, 1, 1, 1, .u32, 1, .ro, .n, false, [0], [], 4⟩,
  ⟨0xC01003, 1, 1, 1, .u64, 1, .ro, .v, false, [0], [], 8⟩,
  ⟨0xC01004, 1, 1, 1, .u32, 1, .ro, .v, false, [0], [], 4⟩,
  ⟨0xC01005, 1, 1, 1, .u16, 16, .ro, .v, false, [0], [], 32⟩,
  ⟨0xC01006, 1, 1, 1, .u32, 1, .ro, .v, false, [0], [], 4⟩,
  ⟨0xC02001, 1, 1, 1, .u8, 1, .ro, .v, false, [0], [], 1⟩,
  ⟨0xC02002, 1, 1, 1, .octets, 1, .ro, .v, false, [0], [], 512⟩,
  ⟨0xC02003, 1, 1, 1, .u16, 1, .ro, .v, false, [0], [], 2⟩,
  ⟨0xC03001, 1, 1, 1, .u8, 1, .rw, .v, false, [0], [(0, 2)], 1⟩,
  ⟨0xC03002, 1, 1, 1, .u8, 1, .rw, .v, false, [64], [(1, 64)], 1⟩,
  ⟨0xC03003, 1, 1, 1, .u16, 64, .rw, .v, false, [168536303053239779310122088841195818468739613315351057951927125754651645708247183564104811882028214131954219833360775278775555709101361978880911667635451136061189583764762881137956944721149920236502592760755363613907316364127884633215186106838001456493724809284519450123786660417489795830763474370826464194560], [], 128⟩,
  ⟨0xC03004, 1, 1, 1, .u32, 1, .rw, .v, false, [16384], [], 4⟩,
  ⟨0xC03005, 1, 1, 1, .u32, 1, .rw, .v, false, [16383], [], 4⟩,
  ⟨0xC03006, 1, 1, 1, .u8, 1, .rw, .v, false, [9], [(0, 15)], 1⟩,
  ⟨0xC03007, 1, 1, 1, .u8, 1, .rw, .v, false, [0], [(0, 63)], 1⟩,
  ⟨0xC03008, 1, 1, 1, .i16, 1, .rw, .v, false, [0], [], 2⟩,
  ⟨0xC03009, 1, 1, 1, .u8, 1, .rw, .v, false, [0], [(0, 2)], 1⟩,
  ⟨0xC0300A, 1, 1, 1, .bool, 1, .wo, .v, false, [0], [], 1⟩,
  ⟨0xC03101, 1, 1, 1, .u8, 1, .ro, .v, false, [0], [], 1⟩,
  ⟨0xC03102, 1, 1, 1, .u32, 1, .ro, .v, false, [0], [], 4⟩,
  ⟨0xC03103, 1, 1, 1, .u64, 1, .ro, .v, false, [0], [], 8⟩,
  ⟨0xC03104, 1, 1, 1, .u32, 1, .ro, .v, false, [0], [], 4⟩,
  ⟨0xC03105, 1, 1, 1, .u8, 1, .ro, .v, false, [0], [], 1⟩,
  ⟨0xC03106, 1, 1, 1, .u32, 1, .ro, .v, false, [0], [], 4⟩,
  ⟨0xC03107, 1, 1, 1, .u32, 1, .ro, .v, false, [32768], [], 4⟩,
  ⟨0xC03108, 1, 1, 1, .domain, 1, .ro, .v, false, [0], [], 4194304⟩,
  ⟨0xC04001, 1, 1, 1, .u8, 1, .wo, .v, true, [0], [(0, 1)], 1⟩]

/-- The rows whose indices share a leading hexadecimal digit. -/
def objRowsOf : Nat → List ObjRow
  | 1 => objRows1a ++ objRows1b
  | 2 => objRows2a ++ objRows2b
  | 3 => objRows3a ++ objRows3b ++ objRows3c
  | 4 => objRows4a ++ objRows4b
  | 5 => objRows5a
  | 6 => objRows6a
  | 7 => objRows7a
  | 8 => objRows8a
  | 9 => objRows9a
  | 10 => objRowsAa
  | 11 => objRowsBa
  | 12 => objRowsCa
  | _ => []

/-- Every row of the object tables. -/
def objRows : List ObjRow :=
  objRowsOf 1 ++ objRowsOf 2 ++ objRowsOf 3 ++ objRowsOf 4 ++ objRowsOf 5 ++ objRowsOf 6 ++ objRowsOf 7 ++ objRowsOf 8 ++ objRowsOf 9 ++ objRowsOf 10 ++ objRowsOf 11 ++ objRowsOf 12

end Sys2Proof.Machine
end

