-- ==== Sys2Proof/Machine/Dict.lean ====
section
/-!
DEFINITION. The object dictionary (R364 to R372, R384, R399): which objects exist, the value that a read finds, digests of
sets of objects, and the checks on a write.
-/
namespace Sys2Proof.Machine

/-- Size in bytes of one element of a type (R367). -/
def tySize : ObjType → Nat
  | .bool | .u8 | .i8 | .octets | .str | .domain => 1
  | .u16 | .i16 | .q15 => 2
  | .u32 | .i32 | .q31 | .f32 => 4
  | .u64 => 8

/-- Type codes (R367). -/
def tyCode : ObjType → Nat
  | .bool => 1 | .u8 => 2 | .u16 => 3 | .u32 => 4 | .u64 => 5 | .i8 => 6 | .i16 => 7 | .i32 => 8 | .q15 => 9 | .q31 => 10
  | .f32 => 11 | .octets => 12 | .str => 13 | .domain => 14

/-- Is a type a byte string? -/
def isBytes : ObjType → Bool
  | .octets | .str | .domain => true
  | _ => false

/-- Is a type signed? -/
def isSigned : ObjType → Bool
  | .i8 | .i16 | .i32 | .q15 | .q31 => true
  | _ => false

/-- Index and subindex offsets of a key within a row, if the row covers it. -/
def rowPos (r : ObjRow) (key : Nat) : Option (Nat × Nat) :=
  if key < r.base then none else
  let d := key - r.base
  let i := d / (256 * r.step)
  let j := d % (256 * r.step)
  if i < r.idxN ∧ j < r.subN then some (i, j) else none

/-- The row of a key. -/
def rowOf (key : Nat) : Option ObjRow := (objRowsOf (key / 0x100000)).find? fun r => (rowPos r key).isSome

/-- The object of a key in a row, with its default. -/
def objOf (r : ObjRow) (key : Nat) : O.Obj :=
  match rowPos r key with
  | some (i, j) => ⟨key, if r.dflts.length ≤ 1 then nth r.dflts 0 else nth r.dflts (i * r.subN + j)⟩
  | none => ⟨key, 0⟩

/-- Does an index belong to a drive, a loop or a wheel end that the variant provides? (R3, R160, R201) -/
def Lane.present (l : Lane) (key : Nat) : Bool :=
  let ix := key / 256
  if 0x4000 ≤ ix ∧ ix < 0x4800 then decide ((ix - 0x4000) / 0x100 < l.nDrives)
  else if 0x4810 ≤ ix ∧ ix ≤ 0x481B then l.servesW (ix - 0x4810)
  else if 0x5011 ≤ ix ∧ ix ≤ 0x5018 then decide (ix - 0x5011 < l.nDrives)
  else if 0x5031 ≤ ix ∧ ix ≤ 0x5038 then decide (ix - 0x5031 < l.nDrives)
  else true

/-- The row of an object that exists in this lane, subindex 0 apart (R364). -/
def Lane.rowAt (l : Lane) (key : Nat) : Option ObjRow := if l.present key then rowOf key else none

/-- The highest subindex present at an index; 0 where the index does not exist (R364). -/
def indexTop (ix : Nat) : Nat :=
  (objRowsOf (ix / 0x1000)).foldl (fun a r =>
    let i := (ix - r.base / 256) / r.step
    if r.base / 256 ≤ ix ∧ (ix - r.base / 256) % r.step = 0 ∧ i < r.idxN then max a (r.base % 256 + r.subN - 1) else a) 0

/-- The object that a second address of R384 names. -/
def skdTarget (key : Nat) : Nat :=
  match key with
  | 0x280001 => O.compatSkd2.key
  | 0x280002 => O.compatRevSpeed.key
  | 0x280101 => O.moduleState.key
  | 0x280102 => O.authorityFraction.key
  | 0x280103 => O.speedLimitActive.key
  | 0x280104 => O.stopRequired.key
  | 0x280201 => O.faultState.key
  | 0x280202 => O.firstCauseObj.key
  | 0x280203 => O.faultClear.key
  | 0x280301 => O.shapeTarget.key
  | 0x280302 => O.shapePos.key
  | 0x280303 => O.reversalsRefused.key
  | 0x280401 => O.brakeCapacity.key
  | 0x280402 => O.parkState.key
  | 0x280501 => O.fwRevision.key
  | _ => key

/-- Is an address one of the SKD-2 range 0x2800 to 0x28FF? (R384) -/
def isSkd (key : Nat) : Bool := decide (0x280000 ≤ key ∧ key < 0x290000)

/-- Is an object named in PROT_EXTRA? (R399) -/
def Lane.extraProt (l : Lane) (key : Nat) : Bool :=
  let b := l.oct O.protExtra
  (List.range (b.length / 3)).any fun i => decide (be b (3 * i) 3 = key)

/-- The access of an object in force: an RW object named in PROT_EXTRA acts as RWG (R399). -/
def Lane.accessOf (l : Lane) (key : Nat) (r : ObjRow) : Access :=
  match r.access with
  | .rw => if l.extraProt key then .rwg else .rw
  | a => a

/-- Keys of every object of a row. -/
def rowKeys (r : ObjRow) : List Nat :=
  (List.range r.idxN).flatMap fun i => (List.range r.subN).map fun j => r.base + 256 * r.step * i + j

/-- Keys of the objects present in this lane, subindex 0 apart, in ascending order. -/
def Lane.keys (l : Lane) : List Nat :=
  ((objRows.flatMap rowKeys).filter l.present).foldr insertAsc []

/-- A copy of the user image. -/
def NvSt.copy (n : NvSt) (b : Bool) : Option NvImage := if b then n.copyB else n.copyA

/-- The copy of the user image in use (R381, R382). -/
def NvSt.inUse (n : NvSt) : Option (Bool × NvImage) :=
  match n.use with
  | some b => (n.copy b).map fun c => (b, c)
  | none => none

/-- The entry of a key and its bytes (R376). -/
def entryOf (key : Nat) (r : ObjRow) (v : List Byte) : Entry where
  index := BitVec.ofNat 16 (key / 256)
  sub := BitVec.ofNat 8 key
  ty := BitVec.ofNat 8 (tyCode r.ty + (if r.count = 1 then 0 else 0x80))
  value := v

/-- The key that an entry names. -/
def entryKey (e : Entry) : Nat := e.index.toNat * 256 + e.sub.toNat

/-- An entry of an image (R376). -/
def nvEntry (e : Nat × (Nat × List Byte)) : Entry where
  index := BitVec.ofNat 16 (e.1 / 256)
  sub := BitVec.ofNat 8 e.1
  ty := BitVec.ofNat 8 e.2.1
  value := e.2.2

/-- The entries of an image as bytes. -/
def nvBody (c : NvImage) : List Byte := entriesBytes (c.entries.map nvEntry)

/-- The bytes of an image with a digest field (R380). -/
def nvBytesWith (c : NvImage) (digest : List Byte) : List Byte :=
  bytesBE 4 c.magic ++ bytesBE 2 c.layout ++ bytesBE 1 c.kind ++ bytesBE 1 c.lane ++ bytesBE 4 c.gen ++ bytesBE 4 c.setCounter
  ++ bytesBE 4 c.unit ++ bytesBE 4 c.length ++ bytesBE 4 c.count ++ List.replicate 4 0 ++ padTo 32 digest ++ nvBody c

/-- The bytes of an image. -/
def nvImageBytes (c : NvImage) : List Byte := nvBytesWith c c.digest

/-- The DIGEST of an image: over the whole of it with the field as zero bytes (R380). -/
def nvDigestOf (c : NvImage) : List Byte := sha3 (nvBytesWith c [])

/-- An image formed from entries (R380). -/
def formImage (kind lane gen setCounter unit : Nat) (es : List (Nat × (Nat × List Byte))) : NvImage :=
  let c : NvImage := { magic := 0x534B4E56, layout := 1, kind := kind, lane := lane, gen := gen, setCounter := setCounter, unit := unit,
                       length := 0x40 + (entriesBytes (es.map nvEntry)).length, count := es.length, digest := [], entries := es }
  { c with digest := nvDigestOf c }

/-- Bytes of the user image in use, empty where none is (R380). -/
def Lane.nvImage (l : Lane) : List Byte := match l.nv.inUse with | some (_, c) => nvImageBytes c | none => []

/-- The failure records of the last self-test, 16 bytes each, at most 32 (R445). -/
def recordBytes (r : SelftestRecord) : List Byte :=
  [r.block, r.test, r.memory, r.bit] ++ bytesBE 4 r.address.toNat ++ [r.element, r.expected, 0, 0] ++ bytesBE 4 r.measured.toNat

/-- The ordering code of a variant (R1). -/
def orderingCode : Nat → List Byte
  | 1 => ascii "SKT-3H10-B24"
  | 2 => ascii "SKT-3H10-B12"
  | 3 => ascii "SKT-3H10-B00"
  | _ => []

/-- Words of live or latched sources: bit i of word k is source 32 k + i. -/
def srcWord (f : Nat → Bool) (k : Nat) : Nat := packBits ((List.range 32).map fun i => f (32 * k + i))

/-- The values of identity, dictionary, host and module objects that follow from other state. -/
def Lane.view1 (l : Lane) (me : LaneId) (key : Nat) : Option Nat :=
  match key with
  | 0x100006 => some (if l.obj O.enrolState = 1 then l.obj O.unitNumber else 0xFFFFFFFF)
  | 0x100101 => some (laneNo me)
  | 0x100104 => some (imgRevision (if l.obj O.fwSlot = 1 then l.upd.slotB.manifest else l.upd.slotA.manifest))
  | 0x100106 => some (l.now % 2 ^ 64)
  | 0x101001 => some (match l.nv.inUse with
    | some (b, _) => if b then 2 else 1
    | none => if l.nv.copyA.isSome || l.nv.copyB.isSome then 3 else 0)
  | 0x101002 => some (match l.nv.inUse with | none => 0 | some (_, c) => c.gen)
  | 0x120102 => some 16
  | 0x121001 => some (if l.sess.num.isNone then 0 else if l.sess.prot then 1 else 2)
  | 0x121002 => some (l.sess.num.getD 0)
  | 0x121003 => some l.sess.key
  | 0x212001 => some l.peerLo.verdict
  | 0x212002 => some l.peerHi.verdict
  | 0x212040 => some (packBits [l.peerLo.lineOut, l.peerHi.lineOut, l.peerLo.lineIn, l.peerHi.lineIn, l.gateCut])
  | 0x212041 => some (l.reg Rg.sumpEvict % 256)
  | 0x222001 => some (match l.claim.last with | some f => f.claim.toNat | none => 0)
  | _ => none

/-- The values of steering, PWM and gate-drive objects that follow from other state. -/
def Lane.view3 (l : Lane) (key : Nat) : Option Nat :=
  match key with
  | 0x300201 => some (f32Of l.ratedTorque)
  | 0x300301 => some ((List.range 3).foldl (fun a i => a * 65536 + l.reg (Rg.etCext i) % 65536) 0)
  | 0x300501 => some (if l.steer.driving then 0 else if l.rbit Rg.gdStat 12 then 2 else 1)
  | 0x312004 => some (l.per .steer)
  | 0x304101 => some ((List.range 6).foldl (fun a i => a * 65536 + 4 * l.dt .steer i) 0)
  | 0x304102 => some (l.tripView .steer)
  | _ => none

/-- The values of brake-drive objects that follow from other state. -/
def Lane.view4 (l : Lane) (key : Nat) : Option Nat :=
  let n := (key / 65536) % 16
  if h : n < 8 then
    if key = (O.bgDtActive n).key then some ((List.range 6).foldl (fun a i => a * 65536 + 4 * l.dt (.brake ⟨n, h⟩) i) 0)
    else if key = (O.bgTrip n).key then some (l.tripView (.brake ⟨n, h⟩))
    else none
  else none

/-- The values of matrix-engine objects that follow from other state. -/
def Lane.view5 (l : Lane) (key : Nat) : Option Nat :=
  let k := key / 256 % 16
  match key with
  | 0x500001 => some (b2n l.bank1Active)
  | 0x500002 => some (bankSerial l.activeBank)
  | 0x500003 => some (bankSerial l.standbyBank)
  | _ =>
    if k < 9 ∧ key = (O.loopCell k).key then some (l.fld (Rg.bselLoop k) 0 6)
    else if k < 9 ∧ key = (O.loopBlock k).key then some (l.fld (Rg.bselLoop k) 8 6)
    else if k < 9 ∧ key = (O.cycWorst k).key then some (cycWorstOf l.activeBank k)
    else if 0x502001 ≤ key ∧ key ≤ 0x502004 then some (schedFigure l.activeBank (key % 256))
    else if 0x503000 ≤ key ∧ key < 0x503900 then some (tubeWord l.activeBank k (key % 256 - 1))
    else none

/-- The values of safe-input and fault-collection objects that follow from other state. -/
def Lane.view7 (l : Lane) (key : Nat) : Option Nat :=
  match key with
  | 0x605001 => some (l.slot 15)
  | 0x605002 => some (match l.smp.own with | some f => f.safeStop.toNat | none => 0)
  | 0x605005 => some l.ctState
  | 0x700001 => some (if l.coll.error then 1 else if l.coll.requal then 2 else 0)
  | 0x700002 => some l.coll.firstCause
  | _ =>
    let sub := key % 256
    if 0x700101 ≤ key ∧ key ≤ 0x700108 then some (srcWord (fun n => decide (n ∈ (l.coll.settle l.now).asserted)) (sub - 1))
    else if 0x700109 ≤ key ∧ key ≤ 0x700110 then some (srcWord (fun n => l.settleColl.readsBroken.any fun b => b.1 = n) (sub - 9))
    else if 0x700111 ≤ key ∧ key ≤ 0x700118 then
      some (srcWord (fun n => bitOf (l.coll.spall n).flags 0) (sub - 0x11))
    else if 0x710000 ≤ key ∧ key < 0x720000 then
      let r := l.coll.spall (key / 256 - 0x7100)
      match sub with
      | 1 => some r.first
      | 2 => some r.last
      | 3 => some r.count
      | 4 => some r.flags
      | 5 => some r.injCount
      | 6 => some r.data
      | _ => none
    else none

/-- The values of network, power, update and capture objects that follow from other state. -/
def Lane.view8 (l : Lane) (key : Nat) : Option Nat :=
  match key with
  | 0x810101 => some (b2n l.net.a.linkUp)
  | 0x810201 => some (b2n l.net.b.linkUp)
  | 0x811002 => some (ofI 32 (l.net.offsetAt l.now))
  | 0x812001 => some (if l.ka.phase.busy then 1 else if l.sess.an.isSome then 2 else 0)
  | 0xA01002 => some (l.fld Rg.pwrStat 0 3)
  | 0xA01004 => some (l.fld Rg.pwrStat 14 4)
  | 0xA01005 => some (l.reg Rg.sumpWakeLast)
  | 0xB00008 => some ((if l.upd.slotA.eligible then imgRevision l.upd.slotA.manifest else 0) * 2 ^ 32
      + (if l.upd.slotB.eligible then imgRevision l.upd.slotB.manifest else 0))
  | 0xB00104 => some (imgRevision l.upd.progActive.manifest)
  | 0xC03107 => some (capRecords (l.obj O.capN))
  | _ => none

/-- The value of an object that is no byte string, as a read finds it (R369). -/
def Lane.view (l : Lane) (me : LaneId) (r : ObjRow) (key : Nat) : Nat :=
  let v := match key / 0x100000 with
    | 1 | 2 => l.view1 me key
    | 3 => l.view3 key
    | 4 => l.view4 key
    | 5 => l.view5 key
    | 6 | 7 => l.view7 key
    | _ => l.view8 key
  v.getD (l.obj (objOf r key))

/-- The bytes of a small byte-string object: those that follow from other state, or those stored. -/
def Lane.bytesAt (l : Lane) (me : LaneId) (key : Nat) : List Byte :=
  match key with
  | 0x100001 => ascii "Rhoust Motion Electronics"
  | 0x100002 => ascii "Skelnel SKT-3"
  | 0x100003 => orderingCode (l.obj O.variantCode)
  | 0x100005 => moduleSerial
  | 0x100102 => l.cartridgeSerial me
  | 0x101005 => l.nvImage
  | 0x121004 => bytesBE 6 l.sess.mac
  | 0x900103 => if l.oct O.idCert = [] then [] else sha3 (l.oct O.idCert)
  | 0x900201 => rootKey
  | 0xC00101 => memReadAll l.eng.log 0 32768
  | 0xC02002 => (l.pwr.records.take 32).flatMap recordBytes
  | _ => l.oct ⟨key, 0⟩

/-- The encoding of an object's value, digests and the directory apart (R367, R368). -/
def Lane.valueOf (l : Lane) (me : LaneId) (r : ObjRow) (key : Nat) : List Byte :=
  if isBytes r.ty then l.bytesAt me key else bytesBE (tySize r.ty * r.count) (l.view me r key)

/-- The entries of the objects that a test picks, in ascending order, with their values in effect (R374, R399). -/
def Lane.entriesOf (l : Lane) (me : LaneId) (pick : Nat → ObjRow → Bool) : List Entry :=
  l.keys.filterMap fun k => match rowOf k with
    | some r => if pick k r then some (entryOf k r (l.valueOf me r k)) else none
    | none => none

/-- Entries of every module-wide N object (R374). -/
def Lane.setEntries (l : Lane) (me : LaneId) : List Entry := l.entriesOf me fun _ r => r.moduleWide && r.store = .n

/-- The set digest (R374). -/
def Lane.setDigest (l : Lane) (me : LaneId) : List Byte := sha3 (entriesBytes (l.setEntries me))

/-- The protected set digest (R399). -/
def Lane.protDigest (l : Lane) (me : LaneId) : List Byte :=
  sha3 (entriesBytes (l.entriesOf me fun k r => l.accessOf k r = .rwg))

/-- Codes of access, store and scope in the directory (R386). -/
def accCode : Access → Nat
  | .const => 0
  | .ro => 1
  | .rw => 2
  | .wo => 3
  | .rwg => 4

/-- Store codes of the directory. -/
def storeCode : Store → Nat
  | .none => 0
  | .v => 1
  | .n => 2

/-- A row of the directory (R386). -/
def dirRow (key ty acc store scope len : Nat) : List Byte :=
  bytesBE 2 (key / 256) ++ bytesBE 1 (key % 256) ++ bytesBE 1 ty ++ bytesBE 1 acc ++ bytesBE 1 store ++ bytesBE 1 scope ++ [0]
  ++ bytesBE 2 (min len 0xFFFF) ++ [0, 0]

/-- DICT_DIRECTORY (R386): every object present, subindex 0 of each index first, with the scope of its index. -/
def Lane.directory (l : Lane) : List Byte :=
  let ks := l.keys
  ((ks.map fun k => k / 256 * 256) ++ ks).foldr insertAsc [] |>.flatMap fun k =>
    if k % 256 = 0 then dirRow k 2 0 0 (b2n (ks.any fun q => q / 256 = k / 256 && (rowOf q).any fun (r : ObjRow) => r.moduleWide)) 1
    else match rowOf k with
      | some r => dirRow k (tyCode r.ty + (if r.count = 1 then 0 else 0x80)) (accCode (l.accessOf k r)) (storeCode r.store)
          (b2n r.moduleWide) r.maxLen
      | none => []

/-- The bytes of a byte-string object as a read finds them. -/
def Lane.octets (l : Lane) (me : LaneId) (key : Nat) : List Byte :=
  match key with
  | 0x100202 => l.directory
  | 0x102002 => l.setDigest me
  | 0x902002 => l.protDigest me
  | _ => l.bytesAt me key

/-- At most `n` bytes of a value from an offset, or result 10 beyond its end. -/
def fromOffset (bs : List Byte) (off n : Nat) : Nat × List Byte :=
  if bs.length < off then (10, []) else (0, slice bs off n)

/-- A read of at most `n` bytes from `off` (R364, R369, R469): the result of R355 and the data. A bulk read takes byte strings
only (R360). -/
def Lane.readObj (l : Lane) (me : LaneId) (bulk : Bool) (key0 off n : Nat) : Nat × List Byte :=
  let key := skdTarget key0
  if key % 256 = 0 && !isSkd key then
    if indexTop (key / 256) = 0 || !l.present key then (1, []) else if bulk then (3, [])
    else if off ≠ 0 then (10, []) else (0, [BitVec.ofNat 8 (indexTop (key / 256))])
  else if l.obj O.lcStateObj = 0 && decide (0xF00000 ≤ key) then (1, [])
  else match l.rowAt key with
    | none => (1, [])
    | some r =>
      if r.access = .wo then (2, [])
      else if key = O.capData.key then (match l.capRead off n with | some bs => (0, bs) | none => (4, []))
      else if r.ty = .octets || r.ty = .domain then fromOffset (l.octets me key) off n
      else if bulk then (3, [])
      else if off ≠ 0 then (10, []) else (0, l.valueOf me r key)

/-- Does the life-cycle state allow a write of an object? (check 2 of R370; R309, R146, R266, R372, R393, R405, R407, R410) -/
def Lane.lcAllows (l : Lane) (key : Nat) : Bool :=
  let lc := l.obj O.lcStateObj
  let ix := key / 256
  let diag := decide (key = O.steerDiagResult.key) || (decide (key % 256 = 7) && decide (ix % 0x100 = 0x20)
    && decide (0x4000 ≤ ix ∧ ix < 0x4800))
  if lc = 5 then decide (key = O.attestNonce.key)
  else if key = O.inject.key || (decide (key % 256 = 0x10) && decide (0x5010 ≤ ix ∧ ix ≤ 0x5018)) then lc = 1 || lc = 4
  else if diag || key = O.svcWeRetract.key
    || (decide (key % 256 = 0x0B) && decide (0x4000 ≤ ix ∧ ix < 0x4800) && decide (ix % 0x100 = 0)) then lc = 4
  else if key = O.enrolCert.key then lc = 2 || lc = 4
  else if key = O.csApply.key then lc = 1
  else if 0x9100 ≤ ix ∧ ix < 0x9200 then lc ≠ 0
  else true

/-- Is a code within one of the intervals of its description, or are there none? -/
def inRange (r : ObjRow) (v : Nat) : Bool :=
  let z : Int := if isSigned r.ty then toI (8 * tySize r.ty) v else (v : Int)
  r.range = [] || r.range.any fun p => decide (p.1 ≤ z ∧ z ≤ p.2)

/-- Elements of an encoded value. -/
def elements (r : ObjRow) (data : List Byte) : List Nat :=
  (List.range r.count).map fun i => be data (tySize r.ty * i) (tySize r.ty)

/-- Is a byte string valid UTF-8? (R367) `k` more bytes of a character are due, the first of them between `lo` and `hi`. -/
def utf8Ok : Nat → Nat → Nat → List Byte → Bool
  | k, _, _, [] => decide (k = 0)
  | 0, _, _, b :: r =>
    let v := b.toNat
    if v < 0x80 then utf8Ok 0 0 0 r
    else if v < 0xC2 then false
    else if v < 0xE0 then utf8Ok 1 0x80 0xBF r
    else if v < 0xF0 then utf8Ok 2 (if v = 0xE0 then 0xA0 else 0x80) (if v = 0xED then 0x9F else 0xBF) r
    else if v < 0xF5 then utf8Ok 3 (if v = 0xF0 then 0x90 else 0x80) (if v = 0xF4 then 0x8F else 0xBF) r
    else false
  | k + 1, lo, hi, b :: r => decide (lo ≤ b.toNat) && decide (b.toNat ≤ hi) && utf8Ok k 0x80 0xBF r

/-- Does the encoded value lie in its range? (check 6 of R370; R367) -/
def valueOk (r : ObjRow) (data : List Byte) : Bool :=
  if r.ty = .str then utf8Ok 0 0 0 data else isBytes r.ty || (elements r data).all fun v =>
    (match r.ty with | .bool => decide (v ≤ 1) | .f32 => f32Finite v | _ => true) && inRange r v

/-- The lengths that an OCTETS object takes where its description fixes them (R401, R406, R383, R399, R412). -/
def octLenOk (key n : Nat) : Bool :=
  let ix := key / 256
  if ix = 0x9010 ∨ (ix = 0x9011 ∧ key % 256 ≤ 4) then decide (n = 0 ∨ n = 1312)
  else if key = O.enrolCert.key then decide (n = 2612)
  else if key = O.csAuth.key then decide (n = 2484)
  else if key = O.attestNonce.key ∨ key = O.nvStageInstall.key then decide (n = 32)
  else if key = O.protExtra.key then decide (n % 3 = 0)
  else true

/-- Checks 1 to 6 of R370 on a write of `data` at `off`; 0 is a pass. `auth`: an entry of an authorised change set. -/
def Lane.judgeWrite (l : Lane) (auth : Bool) (key off : Nat) (data : List Byte) : Nat :=
  if key % 256 = 0 then (if indexTop (key / 256) = 0 || !l.present key then 1 else if l.obj O.lcStateObj = 5 then 9 else 2)
  else match l.rowAt key with
    | none => 1
    | some r =>
      if !l.lcAllows key then 9
      else if l.accessOf key r = .const || l.accessOf key r = .ro then 2
      else if l.accessOf key r = .rwg && !auth then 5
      else if (if r.ty = .domain then r.maxLen ≤ off else off ≠ 0) then 10
      else if (match r.ty with
        | .domain => decide (r.maxLen < off + data.length)
        | .octets | .str => decide (r.maxLen < data.length)
        | _ => decide (data.length ≠ tySize r.ty * r.count)) then 3
      else if !valueOk r data || !octLenOk key data.length then 4
      else 0

/-- The code stored for one element: -0 is stored as +0 (R367). -/
def storeCodeOf (r : ObjRow) (data : List Byte) : Nat :=
  let v := ofBytesBE data
  if r.ty = .f32 && v = 0x80000000 then 0 else v

/-- The object holds the value written; a DOMAIN is kept by its own unit. -/
def Lane.storeValue (l : Lane) (key : Nat) (data : List Byte) : Lane :=
  match rowOf key with
  | none => l
  | some r =>
    match r.ty with
    | .domain => l
    | .octets | .str => l.setOct ⟨key, 0⟩ data
    | _ => l.setObj (objOf r key) (storeCodeOf r data)

end Sys2Proof.Machine
end

