-- ==== Sys2Proof/Machine/Networks.lean ====
section
/-!
DEFINITION. Networks (R316 to R335): network time, ingress checks and duplicate elimination, egress queues with their
gates and preemption, and key agreement. Assumption logs 40 to 48.
-/
namespace Sys2Proof.Machine

/-- A port of E6. -/
def NetSt.port (n : NetSt) : Net → PortSt
  | .netA => n.a
  | .netB => n.b

/-- A lane with one port replaced. -/
def Lane.setPort (l : Lane) (n : Net) (p : PortSt) : Lane :=
  { l with net := match n with | .netA => { l.net with a := p } | .netB => { l.net with b := p } }

/-- A lane with one port changed. -/
def Lane.updPort (l : Lane) (n : Net) (f : PortSt → PortSt) : Lane := l.setPort n (f (l.net.port n))

/-- Index of a net in the objects 0x8100 + p. -/
def netIx : Net → Nat
  | .netA => 0
  | .netB => 1

/-- Both nets. -/
def bothNets : List Net := [.netA, .netB]

/-- One count more in element `i` of an array of `n` 32-bit counters. -/
def Lane.incElem (l : Lane) (o : O.Obj) (n i : Nat) : Lane :=
  let lo := 32 * (n - 1 - i)
  l.setObj o (putBits (l.obj o) lo 32 (countUp 32 o.key l.now (bits (l.obj o) lo 32)))

/-- One count less, of an event that has proved to be none. -/
def Lane.uncount (l : Lane) (o : O.Obj) : Lane := l.setObj o (l.obj o - 1)

/-- Network time at an instant of lane time (R324, R325). -/
def Lane.netTime (l : Lane) (t : Nat) : Int := (t : Int) - l.net.offsetAt t

/-- The number of the host cycle that contains a network time (R327). -/
def Lane.cycleNo (l : Lane) (nt : Int) : Int := (nt - (l.obj O.netCycleBase : Int)) / ((1000 * l.obj O.netCycleTime : Nat) : Int)

/-- The MAC address of a port (R317). -/
def Lane.portMac (l : Lane) (n : Net) : Nat :=
  0x02534B * 2 ^ 24 + 64 * l.unitNo + 16 * (l.obj O.laneNumber % 4) + 8 * netIx n

/-- The VID of a net (R342). -/
def Lane.vidOf (l : Lane) : Net → Nat
  | .netA => l.obj O.netVidA
  | .netB => l.obj O.netVidB

/-- Position in the host cycle, in nanoseconds, of a network time (R327). -/
def Lane.cyclePos (l : Lane) (nt : Int) : Nat :=
  ((nt - (l.obj O.netCycleBase : Int)) % ((1000 * l.obj O.netCycleTime : Nat) : Int)).toNat

/-- The window of the gates at an instant: 0 Demand, 1 Report, 2 open (R327). -/
def Lane.windowAt (l : Lane) (t : Nat) : Nat :=
  let p := l.cyclePos (l.netTime t)
  if l.obj O.netGateEn = 0 then 2
  else if p < 1000 * l.obj O.netDemandWin then 0
  else if p < 1000 * (l.obj O.netDemandWin + l.obj O.netReportWin) then 1 else 2

/-- Is a class open in a window? (R327) -/
def classOpen (w cls : Nat) : Bool := decide (w = 2) || (decide (w = 1) && (decide (cls = 2) || decide (cls = 7)))

/-- Time on the wire of a frame, in nanoseconds, preamble and gap included (R318). -/
def wireNs (f : TxFrame) : Nat := 8 * (max 64 (f.payload.length + (if f.prot then 70 else 38)) + 20)

/-- PCP of a class (R320). -/
def classPcp : Nat → Nat
  | 1 | 2 => 6
  | 3 | 4 => 4
  | 5 => 2
  | _ => 3

/-- The frame of a queue that goes first among those a test admits: the highest PCP, then the oldest. -/
def nextFrame (ok : TxFrame → Bool) (q : List TxFrame) : Option TxFrame :=
  q.foldl (fun a f => if !ok f then a else match a with
    | none => some f
    | some g => if classPcp g.cls < classPcp f.cls then some f else some g) none

/-- Take the first occurrence of a frame out of a queue. -/
def dropFrame (f : TxFrame) : List TxFrame → List TxFrame
  | [] => []
  | g :: q => if g = f then q else g :: dropFrame f q

/-- Start the next frame of an idle port at an instant, or once the port is free (R320, R327): a Report that can finish before its gate
closes, then the preempted frame, then the rest by PCP, by the window at that instant. -/
def Lane.startTx (l : Lane) (n : Net) (at0 : Nat) : Lane :=
  let at_ := max at0 (l.net.port n).freeAt
  let p := { l.net.port n with window := l.windowAt at_ }
  let cyc := 1000 * l.obj O.netCycleTime
  let left := if l.obj O.netGateEn = 0 then cyc else cyc - l.cyclePos (l.netTime at_)
  let fits := fun f => decide (wireNs f ≤ left) || decide (l.obj O.netGateEn = 0)
  if !p.linkUp || p.tx.isSome then l else
  let idle := l.setPort n p
  let go := fun (f : TxFrame) (ns : Nat) (p : PortSt) =>
    let f := if f.prot then { f with pn := nth p.txPns f.an } else f
    l.setPort n { p with tx := some (f, at_ + ns), txAt := at_, sent := some f,
                         txPns := if f.prot then p.txPns.set f.an (f.pn + 1) else p.txPns }
  match nextFrame (fun f => decide (f.cls = 2) && classOpen p.window 2 && fits f) p.queue with
  | some f => go f (wireNs f) { p with queue := dropFrame f p.queue }
  | none =>
    match p.cut with
    | some (f, ns) => if classOpen p.window f.cls then l.setPort n { p with cut := none, tx := some (f, at_ + ns), txAt := at_ } else idle
    | none =>
      match nextFrame (fun f => decide (f.cls ≠ 2) && classOpen p.window f.cls) p.queue with
      | some f => go f (wireNs f) { p with queue := dropFrame f p.queue }
      | none => idle

/-- Let a port send until an instant: every frame whose end has come is sent, and the next one starts there. -/
def Lane.runPort (n : Net) (t : Nat) : Nat → Lane → Lane
  | 0, l => l
  | k + 1, l =>
    let p := l.net.port n
    match p.tx with
    | some (_, e) =>
      if e ≤ t then
        ((((l.setPort n { p with tx := none }).inc (O.txFrames (netIx n))).startTx n e)).runPort n t k
      else l
    | none => l

/-- Bring a port to an instant. -/
def Lane.portTo (l : Lane) (n : Net) (t : Nat) : Lane :=
  l.runPort n t ((l.net.port n).queue.length + 2)

/-- Bring both ports to an instant. -/
def Lane.portsTo (l : Lane) (t : Nat) : Lane := (l.portTo .netA t).portTo .netB t

/-- Preempt the frame in transmission at an instant, if it is preemptable (R320, R327): no fragment is shorter than 64 bytes, so the frame
goes on to the 64th byte of the one it sends, and one with less than 64 bytes to come completes. After a fragment the port sends its check
and the gap; the rest has a preamble of its own. -/
def Lane.preempt (l : Lane) (n : Net) (t : Nat) : Lane :=
  let p := l.net.port n
  match p.tx with
  | some (f, e) =>
    let stop := max t (p.txAt + 576)
    if f.cls = 2 || decide (e < stop + 608) then l
    else (l.setPort n { p with tx := none, freeAt := stop + 128, cut := some (f, e + 64 - stop) }).inc (O.txPreemptions (netIx n))
  | none => l

/-- Put a frame in a port's queue at an instant; a Report preempts a preemptable frame (R320, R353). -/
def Lane.pushPort (l : Lane) (n : Net) (t : Nat) (f : TxFrame) : Lane :=
  let l := (l.portTo n t).updPort n fun p => { p with queue := p.queue ++ [f] }
  let l := if f.cls = 2 && classOpen (l.net.port n).window 2 then l.preempt n t else l
  l.startTx n t

/-- Cut a message into segments of at most `room` bytes, each after a prefix (R319, R333). -/
def segments (room : Nat) (pre : List Byte) : Nat → List Byte → List (List Byte)
  | 0, b => [pre ++ b.take room]
  | n + 1, b => if b.length ≤ room then [pre ++ b] else (pre ++ b.take room) :: segments room pre n (b.drop room)

/-- The frame of a segment on a net (R317 to R320, R330, R333): SOURCE has the lane number read at the start and the net, STREAM the
class and the lane; MSG_TYPE is KA_TYPE in a key agreement message. -/
def Lane.txFrame (l : Lane) (dst cls seg : Nat) (final : Bool) (rseq : Nat) (payload : List Byte) (n : Net) : TxFrame where
  dst := dst
  src := l.portMac n
  vid := l.vidOf n
  cls := cls
  msgType := if cls = 7 then be payload 0 1 else Config.msgType cls % 256
  source := l.obj O.laneNumber % 4 + 4 * netIx n
  stream := 4096 * cls + 1024 * (l.obj O.laneNumber % 4)
  unit := l.unitNo
  seg := seg
  final := final
  rseq := rseq
  prot := decide (cls ≠ 7) && l.sess.an.isSome
  an := l.sess.an.getD 0
  sak := l.sess.sakMh
  salt := l.sess.salt
  payload := payload

/-- Whether a frame goes out on Net B (R319). -/
def TxFrame.netB (f : TxFrame) : Bool := bitOf f.source 2

/-- The module header of a frame (R319). -/
def TxFrame.header (f : TxFrame) : List Byte :=
  bytesBE 1 0x10 ++ bytesBE 1 f.msgType ++ bytesBE 1 (f.seg % 16 + 16 * b2n f.final + 32 * classPcp f.cls) ++ bytesBE 1 f.source
  ++ bytesBE 2 f.stream ++ bytesBE 2 f.rseq ++ bytesBE 4 f.unit ++ bytesBE 2 f.payload.length ++ [0, 0]

/-- EtherType, header and payload: what MACsec encrypts (R318). -/
def TxFrame.secured (f : TxFrame) : List Byte := bytesBE 2 0x88B5 ++ f.header ++ f.payload

/-- SL of a SecTAG (R330): 0 unless fewer than 48 bytes follow it, as IEEE 802.1AE has it. -/
def shortLength (n : Nat) : Nat := if n < 48 then n else 0

/-- TCI of a SecTAG (R330): V 0, ES 0, SC 1, SCB 0, E 1, C 1. -/
def secTci : Nat := 0b001011

/-- SCI of a sender on a net (R330): its MAC address and the port identifier. -/
def sciOf (mac : Nat) (onB : Bool) : Nat := mac * 65536 + 1 + b2n onB

/-- The SecTAG of a frame (R318, R330). -/
def TxFrame.secTag (f : TxFrame) : List Byte :=
  bytesBE 2 0x88E5 ++ bytesBE 1 (4 * secTci + f.an % 4) ++ bytesBE 1 (shortLength f.secured.length) ++ bytesBE 4 (f.pn % 2 ^ 32)
  ++ bytesBE 8 (sciOf f.src f.netB)

/-- A frame on the wire (R318, R330): addresses, tag (PCP of its class, DEI 0), in a protected frame SecTAG, encrypted part and ICV,
otherwise the part as it is, padded to 64 bytes, and the FCS. -/
def TxFrame.bytes (f : TxFrame) : List Byte :=
  let addr := bytesBE 6 f.dst ++ bytesBE 6 f.src
  let tag := bytesBE 2 0x8100 ++ bytesBE 2 (8192 * classPcp f.cls + f.vid)
  let body := if f.prot then
      f.secTag ++ padTo (f.secured.length + 16)
        (Config.gcmSeal f.sak f.salt (0x101 + b2n f.netB) f.pn (addr ++ f.secTag) f.secured)
    else f.secured
  let all := addr ++ tag ++ body
  let all := if all.length < 60 then padTo 60 all else all
  all ++ bytesLE 4 (crc32 all).toNat

/-- Is the lane without keys in a life-cycle state in which it answers only under them (R332)? -/
def Lane.mute (l : Lane) : Bool := l.sess.an.isNone && decide (1 < l.obj O.lcStateObj)

/-- Send a message of a class to an address on both ports, its frames with the same RSEQ on each (R319, R323). -/
def Lane.sendMsg (l : Lane) (dst cls : Nat) (t : Nat) (segs : List (List Byte)) : Lane :=
  let n := segs.length
  (segs.zipIdx).foldl (fun l s =>
    let r := nth l.net.rseq cls
    let f := l.txFrame dst cls s.2 (decide (s.2 + 1 = n)) r s.1
    let l := { l with net := { l.net with rseq := l.net.rseq.set cls ((r + 1) % 65536) } }
    bothNets.foldl (fun l p => if cls = 2 && !(l.net.port p).linkUp then l else l.pushPort p t (f p)) l) l

/-- GATE_WINDOW (R327): the window of a port at an instant; a gate that closes on a preemptable frame preempts it, an express
frame completes. -/
def execGateWindow (l : LaneId) (net : Net) (t : Nat) (s : State) : Host.Outcome State Fault Refusal :=
  onLaneAt l t s fun x =>
    let x := x.portTo net t
    let w := x.windowAt t
    let x := x.updPort net fun p => { p with window := w }
    let closed := match (x.net.port net).tx with | some (f, _) => !classOpen w f.cls | none => false
    let wants := decide (w ≠ 0) && (x.net.port net).queue.any fun f => f.cls = 2
    let x := if closed || wants then x.preempt net t else x
    x.startTx net t

/-- A frame that arrives shows the PHY's link and the local receiver up; with the remote one up too the port has link (R316). -/
def PortSt.heard (p : PortSt) : PortSt := { p with phyUp := true, localOk := true, linkUp := p.remoteOk }

/-- LINK_DOWN (R316): the status of a port. One without link for 10 ms is an event, N1 of R64, and counted once; with the PHY's link and
both receivers up the port has link again. -/
def execLinkDown (l : LaneId) (net : Net) (t : LinkRx) (s : State) : Host.Outcome State Fault Refusal :=
  onLaneAt l t.t s fun x =>
    let x := (x.portTo net t.t).updPort net fun p => { p with phyUp := t.phyUp, localOk := t.localOk, remoteOk := t.remoteOk }
    if t.phyUp && t.localOk && t.remoteOk then (x.updPort net fun p => { p with linkUp := true }).startTx net x.now
    else if (x.net.port net).linkUp then
      (x.updPort net fun p => { p with linkUp := false, tx := none, cut := none }).inc (O.linkDowns (netIx net))
    else x

/-- Has a port valid network time at an instant? (R324) -/
def PortSt.timeValid (p : PortSt) (t : Nat) : Bool := p.timeOk && decide (t ≤ p.syncAt + 3 * p.syncEvery)

/-- The source of network time: 0 none, 1 Net A, 2 Net B, 3 holdover (R324, R342). -/
def Lane.timeSource (l : Lane) (t : Nat) : Nat :=
  if l.net.a.timeValid t then 1 else if l.net.b.timeValid t then 2 else if l.obj O.netTimeSource = 0 then 0 else 3

/-- The frequency of network time against lane time by two Syncs of one source, or that held before (R324). -/
def NetSt.rateBy (n : NetSt) (src : Nat) (meas : Int) (t : Nat) : Rat :=
  match n.seen with
  | some (s, t0, m0) => if s = src ∧ t0 < (t : Int) then ((meas - m0 : Int) : Rat) / (((t : Int) - t0 : Int) : Rat) else n.rate
  | none => n.rate

/-- The counter follows a measurement of a source (R324): at once from none, otherwise slewed at most 1 µs per second after a change of
source (R341). -/
def NetSt.follow (n : NetSt) (first changed : Bool) (src : Nat) (meas : Int) (t : Nat) : NetSt :=
  let now := n.offsetAt t
  let n := { n with rate := n.rateBy src meas t, offAt := t, seen := some (src, (t : Int), meas) }
  if first then { n with offset := meas, slewAt := 0 }
  else
    let n := if changed && n.slewAt = 0 then { n with slewAt := max t 1 } else n
    if n.slewAt = 0 then { n with offset := meas } else
    let lim : Int := ((t - n.slewAt) / 1000000 : Nat)
    let d := meas - now
    if -lim ≤ d ∧ d ≤ lim then { n with offset := meas, slewAt := 0 }
    else { n with offset := now + (if d < 0 then -lim else lim), slewAt := if lim = 0 then n.slewAt else t }

/-- GPTP_FRAME (R321 step 1, R324): a Sync with its Follow_Up gives a port valid time, and the counter follows the source. -/
def execGptpFrame (l : LaneId) (f : GptpRx) (s : State) : Host.Outcome State Fault Refusal :=
  onLaneAt l f.stamp s fun x =>
    if !f.fcsOk then x.incElem (O.rxFailCounts (netIx f.net)) 5 0 else
    let was := x.obj O.netTimeSource
    let sync := f.asCapable && f.syncWithFollowUp
    let x := x.updPort f.net fun p =>
      { p.heard with timeOk := f.asCapable && (p.timeOk || sync), syncAt := if sync then f.stamp else p.syncAt,
                     syncEvery := if sync then f.syncInterval else p.syncEvery }
    let x := x.setObj O.gmIdentity (putBits (x.obj O.gmIdentity) (64 * (1 - netIx f.net)) 64 f.grandmaster.toNat)
    let src := x.timeSource f.stamp
    let x := x.setObj O.netTimeSource src
    if sync && decide (src = netIx f.net + 1) then
      let other := was = 3 || x.net.seen.any fun e => e.1 ≠ src
      { x with net := x.net.follow (was = 0) other src ((f.stamp : Int) - f.netTime) f.stamp }
    else x

/-- NET_TIME_LOST (R324): a port without Sync and Follow_Up for 3 intervals loses its time; the counter changes its source or
holds over. -/
def execNetTimeLost (l : LaneId) (net : Net) (t : Nat) (s : State) : Host.Outcome State Fault Refusal :=
  onLaneAt l t s fun x =>
    let x := if (x.net.port net).timeValid t then x else x.updPort net fun p => { p with timeOk := false }
    x.setObj O.netTimeSource (x.timeSource t)

/-- Bits of a received frame on the wire as the token bucket counts them (R318, R328). -/
def rxBits (rx : Ingress) : Nat := 8 * max 64 (rx.length.toNat + (if rx.sectag then 70 else 38))

/-- Class and lane of a STREAM value (R319). -/
def streamClass (v : Nat) : Nat := bits v 12 4

/-- A discard at a step of R321. -/
def Lane.rxFail (l : Lane) (n : Net) (step : Nat) : Lane := l.incElem (O.rxFailCounts (netIx n)) 5 (step - 1)

/-- Until when an express frame keeps the express queue of its port, or a Demand waits for its delivery to E2 (R328). -/
def Lane.expressEnd (l : Lane) (n : Net) (t : Nat) : Nat := t + Config.expressHold (l.obj O.laneNumber) (netIx n) t % 5001

/-- Policing of a frame (R328): the express queue is never policed; does another frame pass, and the port after it? -/
def Lane.police (l : Lane) (rx : Ingress) : Bool × Lane :=
  if 6 ≤ rx.pcp.toNat then
    (true, l.updPort rx.net fun p => { p with expressTill := max p.expressTill (l.expressEnd rx.net rx.stamp) })
  else
  let p := l.net.port rx.net
  let cap := l.obj O.netBulkBurst * 8192000
  let have_ := min cap (p.tokens + l.obj O.netBulkRate * (rx.stamp - p.tokensAt))
  let need := 1000 * rxBits rx
  let ok := decide (p.expressTill ≤ rx.stamp) && decide (need ≤ have_)
  (ok, l.setPort rx.net { p with tokens := if ok then have_ - need else have_, tokensAt := max p.tokensAt rx.stamp })

/-- The replay window of a receive channel (R331): is a packet number fresh? -/
def PortSt.fresh (p : PortSt) (pn : Nat) : Bool :=
  if p.pnTop < pn then true else decide (p.pnTop - pn < 64) && !bitOf p.pnMask (p.pnTop - pn)

/-- The channel after an accepted packet number. -/
def PortSt.takePn (p : PortSt) (pn : Nat) : PortSt :=
  if p.pnTop < pn then { p with pnTop := pn, pnMask := (p.pnMask * 2 ^ min 64 (pn - p.pnTop) + 1) % 2 ^ 64 }
  else { p with pnMask := p.pnMask ||| 2 ^ (p.pnTop - pn) }

/-- Are the fields of a received SecTAG those of the host's channel on its net (R330)? -/
def secTagOk (rx : Ingress) : Bool :=
  decide (rx.tci.toNat = secTci) && decide (rx.sl.toNat = shortLength (18 + rx.frameRoom))
  && decide (rx.sci.toNat = sciOf rx.srcMac.toNat (rx.net = .netB))

/-- Step 4 of R321: MACsec under the session's keys (R330, R331), class 6, or unprotected frames in Blank and Assembly
(R332). -/
def Lane.macsec (l : Lane) (rx : Ingress) : Bool × Lane :=
  let cls := streamClass rx.stream.toNat
  let p := l.net.port rx.net
  if cls = 6 then (true, l)
  else if rx.sectag then
    if l.sess.an = some rx.an.toNat && secTagOk rx && rx.icvOk then
      if p.fresh rx.pn.toNat then (true, l.setPort rx.net (p.takePn rx.pn.toNat))
      else (false, l.inc (O.rxReplays (netIx rx.net)))
    else (false, l)
  else (decide (l.obj O.lcStateObj ≤ 1) && decide (1 ≤ cls ∧ cls ≤ 5), l)

/-- Step 5 of R321 for a frame that should be of class `cls`. -/
def Lane.headerOk (l : Lane) (me : LaneId) (rx : Ingress) (cls : Nat) (certReq : Bool) : Bool :=
  let u := rx.unit.toNat % 2 ^ 18
  decide (rx.etherType = 0x88B5) && decide (bits rx.version.toNat 4 4 = 1) && decide (bits rx.seg.toNat 5 3 = rx.pcp.toNat)
  && decide (streamClass rx.stream.toNat = cls) && decide (rx.pcp.toNat = classPcp cls)
  && decide (bits rx.source.toNat 0 2 = 0) && (decide (u = l.unitNo) || (certReq && decide (u = 0x3FFFF)))
  && decide (bits rx.stream.toNat 10 2 = laneNo me) && decide (rx.length.toNat ≤ 1408)
  && decide (rx.length.toNat ≤ rx.frameRoom) && decide (bits rx.seg.toNat 0 4 ≤ 7)
  && decide (bits rx.version.toNat 0 4 = 0) && decide (bits rx.source.toNat 3 5 = 0) && decide (bits rx.stream.toNat 0 10 = 0)
  && decide (bits rx.unit.toNat 18 14 = 0) && decide (rx.reserved = 0)

/-- What duplicate elimination finds (R322): accepted with the history after it, a duplicate, or rogue. -/
inductive DupOut
  | take (h : Hist)
  | dup
  | rogue

/-- Judge a RSEQ against a history; a history without a delivery for 100 ms counts as reset (R322, R323). -/
def judgeDup (old : Option Hist) (onB : Bool) (r t : Nat) : DupOut :=
  match old with
  | none => .take ⟨r, 1, t, onB⟩
  | some h =>
    if h.at_ + 100000000 ≤ t then .take ⟨r, 1, t, onB⟩ else
    let d := (r + 65536 - h.h) % 65536
    if d = 0 then .dup
    else if d ≤ 32767 then .take ⟨r, (h.mask * 2 ^ min 32 d + 1) % 2 ^ 32, t, onB⟩
    else if d ≤ 65504 then .rogue
    else if bitOf h.mask (65536 - d) then .dup
    else .take { h with mask := h.mask ||| 2 ^ (65536 - d), at_ := t, viaB := onB }

/-- Key of a stream: source MAC address and STREAM (R322). -/
def streamKey (mac stream : Nat) : Nat := mac * 65536 + stream

/-- Do E6 and the protocols above it run? After a passed self-test, in Run and Hold (R431, R442, R445). -/
def Lane.netUp (l : Lane) : Bool := decide (l.pwr.selftest = .passed) && decide (l.fld Rg.pwrStat 0 3 < 2)

/-- A duplicate is counted (R322). Where both copies come at one instant the Net A copy is kept (R341): the Net B copy that was counted as
delivered is the duplicate. -/
def Lane.countDup (l : Lane) (n : Net) (old : Option Hist) (r t : Nat) : Lane :=
  if n = .netA && old.any (fun h => h.viaB && decide (h.h = r) && decide (h.at_ = t)) then
    (((l.uncount (O.rxAccepted 1)).inc (O.rxDuplicates 1)).inc (O.rxAccepted 0))
  else l.inc (O.rxDuplicates (netIx n))

/-- Steps 1 to 7 of R321 for a frame that should be of class `cls`: is it delivered? One above 1,522 bytes (R316) is none. -/
def Lane.ingressSteps (l : Lane) (me : LaneId) (rx : Ingress) (cls : Nat) (certReq : Bool) : Bool × Lane :=
  let n := rx.net
  let l := l.updPort n PortSt.heard
  if 1522 < rx.frameRoom + (if rx.sectag then 70 else 38) then (false, l) else
  if !rx.fcsOk then (false, l.rxFail n 1) else
  if rx.tpid ≠ 0x8100 ∨ rx.vid.map (fun v => v.toNat) ≠ some (l.vidOf n) then (false, l.rxFail n 2) else
  let (ok, l) := l.police rx
  if !ok then (false, l.rxFail n 3) else
  let (ok, l) := l.macsec rx
  if !ok then (false, l.rxFail n 4) else
  if !l.headerOk me rx cls certReq then (false, l.rxFail n 5) else
  let k := streamKey rx.srcMac.toNat rx.stream.toNat
  let old := kvGet none (l.net.hist.map fun e => (e.1, some e.2)) k
  match judgeDup old (n = .netB) rx.rseq.toNat rx.stamp with
  | .dup => (false, l.countDup n old rx.rseq.toNat rx.stamp)
  | .rogue => (false, l.inc (O.rxRogue (netIx n)))
  | .take h => (true, ({ l with net := { l.net with hist := kvPut k h l.net.hist } }).inc (O.rxAccepted (netIx n)))

/-- The same for a lane that runs. -/
def Lane.ingress (l : Lane) (me : LaneId) (rx : Ingress) (cls : Nat) (certReq : Bool) : Bool × Lane :=
  if l.netUp then l.ingressSteps me rx cls certReq else (false, l)

/-- STREAM_HISTORY_RESET (R323): a stream without a delivery for 100 ms loses its history. -/
def execStreamHistoryReset (l : LaneId) (mac : BitVec 48) (stream : BitVec 16) (t : Nat) (s : State) :
    Host.Outcome State Fault Refusal :=
  onLaneAt l t s fun x =>
    let k := streamKey mac.toNat stream.toNat
    { x with net := { x.net with hist := x.net.hist.filter fun e => e.1 ≠ k || decide (t < e.2.at_ + 100000000) } }

/-- Queued answers of classes 4 and 5 that have not begun are discarded and counted (R329). -/
def Lane.quietDrop (l : Lane) : Lane :=
  let l := l.portsTo l.now
  let isAns := fun (f : TxFrame) => decide (f.cls = 4) || decide (f.cls = 5)
  let msgs := fun (p : PortSt) => (p.queue.filter fun f => isAns f && f.final).length
  let n := max (msgs l.net.a) (msgs l.net.b)
  let clean := fun (p : PortSt) => { p with queue := p.queue.filter fun f => !isAns f }
  ((l.updPort .netA clean).updPort .netB clean).incBy O.quietDrops n

/-- The session closes (R345): answers not yet queued, the keys and the tags go, and the histories reset (R323). -/
def Lane.closeSession (l : Lane) : Lane :=
  { l with
    sess := {}
    net := { l.net with hist := [] }
    txn := { l.txn with tags := [], opened := l.txn.opened.filter (fun o => o.id.can), parts := [],
                        reportDue := [], old := none } }

/-- Is the session past its timeout at an instant? (R345, R359) -/
def Lane.sessionOver (l : Lane) (t : Nat) : Bool :=
  l.sess.num.isSome && decide (l.sess.lastAt + 1000000 * l.obj O.sessionTimeout < t)

/-- A session that has timed out closes, and stays in memory for a frame that is on time by its stamp (R359). -/
def Lane.timeOut (l : Lane) : Lane :=
  let x := l.closeSession
  let o : OldSess :=
    { sess := l.sess, hist := l.net.hist, tags := l.txn.tags, opened := l.txn.opened.filter fun o => !o.id.can, parts := l.txn.parts,
      reportDue := l.txn.reportDue, deadline := l.sess.lastAt + 1000000 * l.obj O.sessionTimeout }
  { x with txn := { x.txn with old := some o } }

/-- A frame on time by its stamp keeps the session that has timed out before the frame is processed (R359, R362). -/
def Lane.keepSession (l : Lane) (o : OldSess) : Lane :=
  { l with
    sess := o.sess
    net := { l.net with hist := o.hist }
    txn := { l.txn with tags := o.tags, opened := l.txn.opened ++ o.opened, parts := o.parts, reportDue := o.reportDue, old := none } }

/-- The session as an instant judges it (R345, R359): past its timeout it closes; one that closed so is open for a frame on time. -/
def Lane.sessionAt (l : Lane) (t : Nat) : Lane :=
  if l.sessionOver t then l.timeOut
  else match l.txn.old with
    | some o => if l.sess.num.isNone && decide (t ≤ o.deadline) then l.keepSession o else l
    | none => l

/-- SESSION_TIMEOUT (R345). -/
def execSessionTimeout (l : LaneId) (t : Nat) (s : State) : Host.Outcome State Fault Refusal :=
  onLaneAt l t s fun x => x.sessionAt t

/-- Is session number s newer than s0? (R344) -/
def newerSession (s s0 : Nat) : Bool := let d := (s + 65536 - s0) % 65536; decide (1 ≤ d ∧ d ≤ 32767)

/-- A session opens under a number (R343, R346). -/
def Lane.openSession (l : Lane) (num mac key : Nat) (an : Option Nat) (t : Nat) : Lane :=
  let l := l.closeSession
  let fresh := fun (p : PortSt) => { p with pnTop := 0, pnMask := 0, txPns := p.txPns.set (an.getD 0) 1 }
  let l := if an.isSome then (l.updPort .netA fresh).updPort .netB fresh else l
  ({ l with sess := { num := some num, prot := an.isSome, mac := mac, key := key, lastAt := t, an := an },
            txn := { l.txn with serial := l.txn.serial + 1 } }).inc O.sessionsOpened

/-- The prefix of a key agreement message (R333). -/
def kaPrefix (ty hostKey session xid : Nat) : List Byte :=
  bytesBE 1 ty ++ bytesBE 1 hostKey ++ bytesBE 2 session ++ bytesBE 4 xid

/-- Send a key agreement answer (R333). -/
def Lane.sendKa (l : Lane) (ty dst hostKey session xid : Nat) (body : List Byte) (t : Nat) : Lane :=
  l.sendMsg dst 7 t (segments 1400 (kaPrefix ty hostKey session xid) 7 body)

/-- Answer a request with KA_FAIL (R333). -/
def Lane.kaFail (l : Lane) (rx : Ingress) (k : KaPrefix) (reason : Nat) : Lane :=
  l.sendKa 0x8F rx.srcMac.toNat k.hostKey.toNat k.session.toNat k.xid.toNat (bytesBE 1 reason ++ [0, 0, 0]) rx.stamp

/-- An exchange fails or is abandoned (R335). -/
def Lane.kaAbandon (l : Lane) (reason : Nat) : Lane :=
  (({ l with ka := { l.ka with phase := .idle } }).inc O.kaFails).setObj O.kaFailLast reason

/-- The REASON that an abandoned exchange left due to a host (R335). -/
def Lane.kaOwed (l : Lane) (rx : Ingress) : Option Nat :=
  match l.ka.due with
  | some (r, mac) => if mac = rx.srcMac.toNat then some r else none
  | none => none

/-- A key agreement request answers the REASON that an abandoned exchange left due to its host (R335), if one is. -/
def Lane.kaDue (l : Lane) (rx : Ingress) (k : KaPrefix) (f : Lane → Lane) : Lane :=
  match l.kaOwed rx with
  | some r =>
    ({ l with ka := { l.ka with due := none, phase := if l.ka.phase = KaPhase.late then .idle else l.ka.phase } }).kaFail rx k r
  | none => f l

/-- Is KA_CONFIRM late? (R335, R359) -/
def Lane.kaLate (l : Lane) (t : Nat) : Bool := l.ka.phase = .reply && decide (l.ka.replyAt + 1000000000 < t)

/-- An exchange without a complete KA_CONFIRM 1 s after KA_REPLY is abandoned, with REASON 4 due (R335). -/
def Lane.kaExpire (l : Lane) (t : Nat) : Lane :=
  if l.kaLate t then
    (({ l with ka := { l.ka with phase := .late, due := some (4, l.ka.mac), failWas := l.obj O.kaFailLast } }).inc O.kaFails).setObj
      O.kaFailLast 4
  else l

/-- A frame on time by its stamp finds the exchange that was abandoned before the frame is processed (R359). -/
def Lane.kaRevive (l : Lane) (t : Nat) : Lane :=
  if l.ka.phase = .late && decide (t ≤ l.ka.replyAt + 1000000000) then
    (({ l with ka := { l.ka with phase := .reply, due := none } }).uncount O.kaFails).setObj O.kaFailLast l.ka.failWas
  else l

/-- A refused request counts as a failed exchange and leaves the one under way (R335, R342). -/
def Lane.kaCount (l : Lane) (r : Nat) : Lane := (l.inc O.kaFails).setObj O.kaFailLast r

/-- KA_CERT_REQ (R333): the identity certificate, or REASON 5 where the lane holds none. -/
def execKaCertReq (l : LaneId) (rx : Ingress) (k : KaPrefix) (s : State) : Host.Outcome State Fault Refusal :=
  onLaneAt l rx.stamp s fun x =>
    let (ok, x) := x.ingress l rx 6 true
    if !ok then x else (x.kaExpire rx.stamp).kaDue rx k fun x =>
      if bits rx.seg.toNat 0 5 ≠ 0x10 then (x.kaFail rx k 7).kaCount 7
      else if x.oct O.idCert = [] then x.kaFail rx k 5
      else x.sendKa 0x81 rx.srcMac.toNat k.hostKey.toNat k.session.toNat k.xid.toNat (x.oct O.idCert) rx.stamp

/-- Do the session rules refuse a KA_HELLO (R344)? -/
def Lane.helloForeign (l : Lane) (rx : Ingress) (k : KaPrefix) : Bool :=
  match l.sess.num with
  | none => false
  | some n => rx.srcMac.toNat ≠ l.sess.mac || k.hostKey.toNat ≠ l.sess.key || !newerSession k.session.toNat n

/-- The REASON for which a KA_HELLO that the session rules let pass is refused, 0 for none (R333). -/
def Lane.helloReason (l : Lane) (rx : Ingress) (k : KaPrefix) (nH ek : List Byte) : Nat :=
  let kx := k.hostKey.toNat
  if nH.length ≠ 32 || ek.length ≠ 1184 || k.session = 0 || bits rx.seg.toNat 0 5 ≠ 0x10 then 7
  else if 4 ≤ kx || l.oct (O.hostKey kx) = [] || bitOf (l.obj O.hostKeyRevoked) kx then 1
  else if l.oct O.idCert = [] then 5
  else 0

/-- A KA_HELLO with a different XID abandons an unfinished exchange (R335). -/
def Lane.kaAnew (l : Lane) (k : KaPrefix) : Lane :=
  if l.ka.phase.busy && l.ka.xid ≠ k.xid.toNat then ({ l with ka := { l.ka with phase := .idle } }).inc O.kaFails else l

/-- KA_HELLO (R334, R335, R344): at most 4 in a second; another XID abandons an unfinished exchange; one that the rules allow starts one. -/
def execKaHello (l : LaneId) (rx : Ingress) (k : KaPrefix) (nH ek : List Byte) (s : State) :
    Host.Outcome State Fault Refusal :=
  onLaneAt l rx.stamp s fun x =>
    let (ok, x) := x.ingress l rx 6 false
    if !ok then x else
    let x := x.sessionAt rx.stamp
    let recent := x.ka.hellos.filter fun t => decide (rx.stamp < t + 1000000000)
    if 4 ≤ recent.length then { x with ka := { x.ka with hellos := recent, dropped := x.ka.dropped + 1 } } else
    let x := (({ x with ka := { x.ka with hellos := rx.stamp :: recent } }).kaExpire rx.stamp).kaAnew k
    if x.helloForeign rx k then (x.kaFail rx k 6).kaCount 6 else
    x.kaDue rx k fun x =>
      let r := x.helloReason rx k nH ek
      if r ≠ 0 then (x.kaFail rx k r).kaCount r
      else if x.ka.phase.busy then x
      else
        { x with ka := { x.ka with phase := .hello, mac := rx.srcMac.toNat, session := k.session.toNat, key := k.hostKey.toNat,
                                   xid := k.xid.toNat, nH := nH, ek := ek } }
/-- KA_REPLY (R334): E7 encapsulates and signs the transcript, and the lane answers. -/
def execKaReply (l : LaneId) (t : Nat) (s : State) : Host.Outcome State Fault Refusal :=
  onLaneAt l t s fun x =>
    let k := x.ka
    if k.phase ≠ .hello then x else
    let nL := x.random32 l
    let ct := padTo 1088 (Config.mlKemCt k.ek (x.drawNo l))
    let cd := sha3 (x.oct O.idCert)
    let th1 := sha3 (kaPrefix 2 k.key k.session k.xid ++ k.nH ++ k.ek ++ nL ++ ct ++ cd
      ++ bytesBE 4 (x.unitNo + 2 ^ 24 * laneNo l))
    let sig := laneSign l th1 "SKT3-KA-L"
    let x := { x with ka := { k with phase := .reply, ss := Config.mlKemSs k.ek (x.drawNo l),
                                     th2 := sha3 (th1 ++ sig), replyAt := x.now, conf := [], confLast := none, draws := k.draws + 1 } }
    x.sendKa 0x82 k.mac k.key k.session k.xid (nL ++ ct ++ cd ++ sig) x.now

/-- KA_TIMEOUT (R335): the exchange is abandoned, with REASON 4 at the host's next request. -/
def execKaTimeout (l : LaneId) (t : Nat) (s : State) : Host.Outcome State Fault Refusal :=
  onLaneAt l t s fun x => x.kaExpire t

/-- Are all segments of KA_CONFIRM here? -/
def KaSt.confWhole (a : KaSt) : Bool :=
  match a.confLast with
  | some n => (List.range (n + 1)).all fun k => a.conf.any fun e => e.1 = k
  | none => false

/-- E7 verifies SIG_H and CONF_H of a complete KA_CONFIRM (R333, R334). -/
def Lane.kaVerify (l : Lane) (rx : Ingress) (k : KaPrefix) : Lane :=
  let a := l.ka
  let body := (List.range (a.confLast.getD 0 + 1)).flatMap fun i => kvGet [] a.conf i
  let l := { l with ka := { a with conf := [], confLast := none } }
  if body.length ≠ 2452 then (l.kaFail rx k 7).kaCount 7
  else if !Config.mlDsaVerify (l.oct (O.hostKey a.key)) a.th2 (ascii "SKT3-KA-H") (body.take 2420) then (l.kaFail rx k 2).kaAbandon 2
  else if body.drop 2420 ≠ sha3 (ascii "SKT3 CONF H" ++ a.ss ++ a.th2) then (l.kaFail rx k 3).kaAbandon 3
  else { l with ka := { l.ka with phase := .confirmed } }

/-- KA_CONFIRM (R333 to R335): a segment with its part of SIG_H and of CONF_H; segments of one exchange join, and the complete message is
verified. One of another exchange is malformed here, and is answered once, at its last segment. -/
def execKaConfirm (l : LaneId) (rx : Ingress) (k : KaPrefix) (sigH confH : List Byte) (s : State) :
    Host.Outcome State Fault Refusal :=
  onLaneAt l rx.stamp s fun x =>
    let (ok, x) := x.ingress l rx 6 false
    if !ok then x else
    let x := (x.kaRevive rx.stamp).kaExpire rx.stamp
    let a := x.ka
    let i := bits rx.seg.toNat 0 4
    let last := bitOf rx.seg.toNat 4
    let same := a.phase = .reply && decide (a.xid = k.xid.toNat) && decide (a.session = k.session.toNat)
      && decide (a.key = k.hostKey.toNat) && decide (a.mac = rx.srcMac.toNat)
    if !same then (if last then x.kaDue rx k fun x => (x.kaFail rx k 7).kaCount 7 else x)
    else
      let x := { x with ka := { a with conf := kvPut i (sigH ++ confH) a.conf, confLast := if last then some i else a.confLast } }
      if x.ka.confWhole then x.kaVerify rx k else x

/-- A session with the keys and the salt of an exchange (R334). -/
def SessSt.withKeys (e : SessSt) (k : KaSt) : SessSt :=
  let of := fun (label : String) => sha3 (ascii label ++ k.ss ++ k.th2)
  { e with sakHm := of "SKT3 SAK HM", sakMh := of "SKT3 SAK MH", salt := (of "SKT3 SALT").take 12 }

/-- KA_DONE (R334, R343): the keys are installed and the session opens, in place of an older one. -/
def execKaDone (l : LaneId) (t : Nat) (s : State) : Host.Outcome State Fault Refusal :=
  onLaneAt l t s fun x =>
    let k := x.ka
    if k.phase ≠ .confirmed then x else
    let x := x.openSession k.session k.mac k.key (some k.nextAn) x.now
    let x := { x with sess := x.sess.withKeys k }
    let x := ({ x with ka := { x.ka with phase := .idle, nextAn := (k.nextAn + 1) % 4 } }).inc O.kaDoneCount
    x.sendKa 0x83 k.mac k.key k.session k.xid
      (sha3 (ascii "SKT3 CONF L" ++ k.ss ++ k.th2) ++ bytesBE 1 k.nextAn ++ [0, 0, 0]) x.now

end Sys2Proof.Machine
end

