-- ==== Sys2Proof/Machine/Conditions.lean ====
section
/-!
DEFINITION. Check 7 of R370: the conditions that relate a written value to other objects and to the state, with the result
each gives, and what a value in effect is copied to (R247, R268, R160, R450).
-/
namespace Sys2Proof.Machine

/-- Is a peer present: did its frame of the last judged sample pass R41? -/
def Lane.hears (l : Lane) (p : Peer) : Bool := (l.peer p).heard && decide ((l.peer p).failed = 0)

/-- Do all entries of SPRING_MAP not increase? (R226) -/
def springOk (l : Lane) : Bool := (List.range 7).all fun i => decide (l.obj (O.springMap (i + 1)) ≤ l.obj (O.springMap i))

/-- Is the stiffness table of a wheel end well formed? (R210) -/
def stiffOk (l : Lane) (w : Nat) : Bool :=
  let v := fun i => l.obj (O.weStiff w i)
  decide (v 0 = 0) && (List.range 15).all fun i =>
    if v i = 0x7FFF then decide (v (i + 1) = 0x7FFF) else decide (v i < v (i + 1))

/-- Does the data field of a SENT channel lie within its data nibbles? (R277, R296) -/
def sentFieldOk (l : Lane) (c : Nat) : Bool :=
  let f := l.obj (O.sentField c)
  let n := bits (l.obj (O.sentOptions c)) 2 4 + 1
  decide (bits f 0 3 ≤ 5) && decide (bits f 0 3 + bits f 3 3 + 1 ≤ n)

/-- Does every entry of PROT_EXTRA name an RW object outside 0x9000 to 0x9FFF? (R399) -/
def Lane.protExtraOk (l : Lane) : Bool :=
  let b := l.oct O.protExtra
  (List.range (b.length / 3)).all fun i =>
    let k := be b (3 * i) 3
    (k < 0x900000 || 0xA00000 ≤ k) && (match l.rowAt k with | some r => r.access = .rw | none => false)

/-- Would both slots of a role, or both image key slots, be empty? (R404) -/
def keysGone (l : Lane) : Bool :=
  let e := fun (o : Nat → O.Obj) => decide (l.oct (o 0) = []) && decide (l.oct (o 1) = [])
  e O.roleEngKey || e O.roleFsKey || e O.imageKey

/-- The codes of R408 for which a transition to `to_` fails; 0 where every condition holds, 8 where it does not exist. -/
def Lane.lcJudge (l : Lane) (me : LaneId) (pl : Peer → Lane) (to_ : Nat) : Nat :=
  let lc := l.obj O.lcStateObj
  let hw := fun (c : Nat) (b : Bool) (rest : Nat) => if b then rest else c
  let both := bothPeers.all fun p => l.hears p
  let allIn := fun (x : Nat) => both && bothPeers.all fun p => decide ((pl p).obj O.lcStateObj = x)
  let hereIn := fun (x : Nat) => bothPeers.all fun p => !l.hears p || decide ((pl p).obj O.lcStateObj = x)
  let enrolled := decide (l.obj O.enrolState = 1)
  let noError := !l.coll.anyLatched && bothPeers.all fun p => !l.hears p || (match (l.peer p).last with
    | some f => !bitOf f.health.toNat 0
    | none => true)
  let held := l.parkHeld
  match lc, to_ with
  | 0, 1 => hw 8 (l.idCertOk me (l.oct O.idCert)) 0
  | 1, 2 => hw 1 ((decide (l.oct (O.roleEngKey 0) ≠ []) || decide (l.oct (O.roleEngKey 1) ≠ []))
      && (decide (l.oct (O.roleFsKey 0) ≠ []) || decide (l.oct (O.roleFsKey 1) ≠ []))
      && decide (l.oct (O.imageKey 0) ≠ []) && decide (l.oct O.fleetCaKey ≠ [])) 0
  | 2, 3 => hw 2 enrolled (hw 3 l.nv.inUse.isSome (hw 4 (allIn 2) (hw 5 noError 0)))
  | 2, 4 => hw 2 enrolled (hw 4 (hereIn 4) 0)
  | 3, 4 => hw 6 held 0
  | 4, 3 =>
    let fw := fwMajor (l.view me ⟨O.fwRevision.key, 1, 1, 1, .u32, 1, .ro, .v, false, [0], [], 4⟩ O.fwRevision.key)
    let same := fun (a : Option Announced) => match a with | some x => decide (fwMajor x.fw = fw) | none => false
    hw 2 (enrolled && bothPeers.all fun p => (pl p).obj O.enrolState = 1) (hw 4 (allIn 4) (hw 5 noError
      (hw 7 (same l.upd.annLo && same l.upd.annHi) 0)))
  | 1, 5 => hw 6 held 0
  | 2, 5 => hw 6 held 0
  | 3, 5 => hw 6 held 0
  | 4, 5 => hw 6 held 0
  | _, _ => 8

/-- SEC_VERSION of the active image of a kind; 0 where there is none (R398). -/
def Lane.secVersion (l : Lane) (kind : Nat) : Nat :=
  match kind with
  | 0 => be (if l.obj O.fwSlot = 1 then l.upd.slotB.manifest else l.upd.slotA.manifest) 8 4
  | 1 => be (bankManifest l.activeBank) 8 4
  | 2 => be l.upd.progActive.manifest 8 4
  | _ => 0

/-- Is a write of ROLLBACK_ADVANCE allowed? (R398) -/
def Lane.rollbackOk (l : Lane) (v : List Nat) : Bool :=
  (List.range 4).all fun k =>
    let x := nth v k
    decide (x = 0) || (decide (k < 3) && decide (x ≤ l.secVersion k)
      && (decide (x ≤ l.rollback k) || decide (0 < l.arr16 O.rollbackLeft 4 k)))

/-- Objects whose description defines the effect of a write of 0 alone (R370). -/
def zeroOnly (key : Nat) : Bool :=
  let ix := key / 256
  decide (key % 256 = 5 ∧ 0x2110 ≤ ix ∧ ix ≤ 0x2119) || decide (key % 256 = 4 ∧ 0x2210 ≤ ix ∧ ix ≤ 0x2217)
  || key = O.vLinkPeak.key || decide (key % 256 = 0x0E ∧ 0x5010 ≤ ix ∧ ix ≤ 0x5018) || key = O.steerDiagResult.key
  || decide (key % 256 = 7 ∧ ix % 0x100 = 0x20 ∧ 0x4000 ≤ ix ∧ ix < 0x4800)

/-- The conditions of check 7 among the values that a write leaves. -/
def Lane.related (post : Lane) (key : Nat) : Bool :=
  let ix := key / 256
  let o := post.obj
  if key = O.bermL1.key ∨ key = O.bermL2.key ∨ key = O.bermL3.key then
    decide (o O.bermL1 + 20 ≤ o O.bermL2) && decide (o O.bermL2 + 50 ≤ o O.bermL3)
  else if key = O.devTempOdEnd.key ∨ key = O.devTempDerate.key then
    decide (toI 16 (o O.devTempOdEnd) + 500 ≤ toI 16 (o O.devTempDerate))
  else if key = O.windTempOdEnd.key ∨ key = O.windTempDerate.key then
    decide (toI 16 (o O.windTempOdEnd) + 500 ≤ toI 16 (o O.windTempDerate))
  else if key = O.hostLossTime.key then decide (2 * o O.netCycleTime ≤ 1000 * o O.hostLossTime)
  else if key = O.netCycleTime.key then
    decide (2 * o O.netCycleTime ≤ 1000 * o O.hostLossTime) && decide (o O.netDemandWin + o O.netReportWin + 50 ≤ o O.netCycleTime)
  else if key = O.netDemandWin.key ∨ key = O.netReportWin.key then
    decide (o O.netDemandWin + o O.netReportWin + 50 ≤ o O.netCycleTime)
  else if ix = 0x4801 then springOk post
  else if 0x4810 ≤ ix ∧ ix < 0x481C ∧ 0x10 ≤ key % 256 then stiffOk post (ix - 0x4810)
  else if 0x2210 ≤ ix ∧ ix < 0x2218 ∧ key % 256 = 5 then
    decide (o (O.outFbInput (ix - 0x2210)) = 0xFF)
      || decide (bits (o O.fbRole) (8 * (3 - o (O.outFbInput (ix - 0x2210)))) 8 = 4)
  else if 0x6030 ≤ ix ∧ ix < 0x6034 ∧ (key % 256 = 2 ∨ key % 256 = 3) then sentFieldOk post (ix - 0x6030)
  else if key = O.capChannels.key then post.capSelectors.all selectorOk
  else if key = O.capPre.key ∨ key = O.capPost.key then
    decide (o O.capPre + o O.capPost + 1 ≤ capRecords (o O.capN))
  else if key = O.protExtra.key then post.protExtraOk
  else true

/-- Check 7 of R370 on a write of `data`, against the values it leaves (`post`) and the state before it; 0 is a pass. -/
def Lane.further (pre post : Lane) (me : LaneId) (pl : Peer → Lane) (key : Nat) (data : List Byte) : Nat :=
  let v := ofBytesBE data
  let ix := key / 256
  let ok := fun (b : Bool) => if b then 0 else 4
  if zeroOnly key then ok (decide (v = 0))
  else if 0x140001 ≤ key ∧ key ≤ 0x140004 then (if pre.obj (O.dbFull (key - 0x140001)) = 1 then 8 else 0)
  else if key / 256 = 0x9010 then ok (!(decide (2 ≤ pre.obj O.lcStateObj) && keysGone post))
  else if key = O.lcTarget.key then ok (pre.lcJudge me pl v = 0)
  else if key = O.rollbackAdvance.key then ok (pre.rollbackOk ((List.range 4).map fun k => be data (4 * k) 4))
  else if key = O.enrolCert.key then ok (post.enrolOk me data)
  else if key = O.inject.key then ok (decide (v ≠ 256))
  else if key = O.nvStageInstall.key then
    ok (decide (pre.obj O.nvStageState = 2) && decide (memReadAll pre.nv.stage 0x20 32 = data))
  else if key = O.shortRelease.key then
    ok ((match pre.gate.emfLowSince with | some t0 => decide (t0 + 10000000 ≤ pre.now) | none => false) && !pre.gateCut)
  else if key = O.fwImage.key then (if pre.claim.aside then 0 else 2)
  else if key = O.fwActivate.key then
    (if pre.claim.aside && (pre.obj O.fwInstallState = 2 || pre.upd.progStaged.eligible) then 0 else 2)
  else if key = O.svcWeRetract.key then (if pre.brk.releasing then 7 else 0)
  else if 0x4000 ≤ ix ∧ ix < 0x4800 ∧ ix % 0x100 = 0 ∧ key % 256 = 0x0B then
    ok (if h : (ix - 0x4000) / 0x100 < 8 then pre.brk.drv[(ix - 0x4000) / 0x100].originOk else false)
  else if key = O.csImage.key then (if pre.cs.nonceOpen then 8 else 0)
  else ok (post.related key)

/-- What a value in effect is copied to: PWM_CTL of each stage (R247), GD_CTL (R268), ET_CTL (R99), MX_CTL (R159), the Sump
and PWR_CTL (R450); BRAKE_PERIOD reaches each brake stage at its next boundary, and PHASE spreads the stages over it (R241, R247). -/
def Lane.copyOut (l : Lane) (key : Nat) : Lane :=
  let b := l.obj
  let every := fun (bit : Nat) (on : Bool) => brakeStages.foldl (fun l st => l.setRbit (Rg.pwmCtl st) bit on) l
  match key with
  | 0x312001 => l.setRbit (Rg.pwmCtl .steer) 1 (b O.steerUpdMid = 1)
  | 0x312002 => l.setRbit (Rg.pwmCtl .steer) 2 (b O.steerCoh = 1)
  | 0x312003 => l.setRbit (Rg.pwmCtl .steer) 3 (b O.steerNwLimit = 1)
  | 0x312005 => l.setRbit (Rg.pwmCtl .steer) 4 (b O.steerScree = 1)
  | 0x482001 => brakeStages.foldl (fun l st =>
      let l := l.setReg (Rg.pwmPerSh st) (l.obj O.brakePeriod)
      let l := match st with
        | .steer => l
        | .brake n => l.setFld (Rg.pwmPhase st) 0 16 (n.val * (l.obj O.brakePeriod / 8))
      l.updStg st fun g => { g with perReq := some (l.obj O.brakePeriod) }) l
  | 0x482002 => every 1 (b O.brakeUpdMid = 1)
  | 0x482003 => every 2 (b O.brakeCoh = 1)
  | 0x482004 => every 3 (b O.brakeNwLimit = 1)
  | 0x482005 => every 4 (b O.brakeScree = 1)
  | 0x304001 => l.setFld Rg.gdCtl 13 8 (ceilDiv (b O.steerBlank) 4)
  | 0x304002 => l.setRbit Rg.gdCtl 9 (b O.steerDtAdapt = 1)
  | 0x483001 => l.setRbit Rg.gdCtl 10 (b O.brakeDtAdapt = 1)
  | 0x300403 => l.setRbit Rg.etCtl 2 (b O.probeEnable = 1)
  | 0x500006 => l.setRbit Rg.mxCtl 1 (b O.specEnable = 1)
  | 0x801005 => (l.startTx .netA l.now).startTx .netB l.now
  | 0xA00002 => l.setReg Rg.sumpWakeEn (b O.wakeEnable)
  | 0xA00003 => l.setFld Rg.pwrCtl 4 3 (match b O.holdDiv with | 2 => 1 | 4 => 2 | 16 => 4 | _ => 3)
  | _ => l

/-- Every object that is copied somewhere. -/
def copiedKeys : List Nat :=
  [0x312001, 0x312002, 0x312003, 0x312005, 0x482001, 0x482002, 0x482003, 0x482004, 0x482005, 0x304001, 0x304002, 0x483001,
   0x300403, 0x500006, 0x801005, 0xA00002, 0xA00003]

/-- The copies made at every start. -/
def Lane.copyAll (l : Lane) : Lane := copiedKeys.foldl Lane.copyOut l

/-- Does the type code of an entry match its object? (R368, R382, R402) -/
def entryTypeOk (e : Entry) : Bool :=
  match rowOf (entryKey e) with
  | some r => decide (e.ty.toNat = tyCode r.ty + (if r.count = 1 then 0 else 0x80))
  | none => true

/-- Checks 1 to 6 of R370 on an entry, its type code with check 5. -/
def Lane.judgeEntry (pre : Lane) (auth : Bool) (e : Entry) : Nat :=
  let c := pre.judgeWrite auth (entryKey e) 0 e.value
  if (c = 0 || c = 4) && !entryTypeOk e then 3 else c

/-- The lane with the values that entries give. -/
def Lane.withEntries (l : Lane) (es : List Entry) : Lane := es.foldl (fun l e => l.storeValue (entryKey e) e.value) l

/-- The first failing result of a check on the entries of a set, in order, or 0. -/
def firstFail (f : Entry → Nat) (es : List Entry) : Nat := es.foldl (fun a e => if a ≠ 0 then a else f e) 0

/-- Checks 1 to 7 on the entries of one set, each against the others' new values (R370): the first failing result in
order, or 0. -/
def Lane.judgeSet (pre : Lane) (me : LaneId) (pl : Peer → Lane) (auth : Bool) (es : List Entry) : Nat :=
  firstFail (fun e =>
    let c := pre.judgeEntry auth e
    if c ≠ 0 then c else pre.further (pre.withEntries es) me pl (entryKey e) e.value) es

end Sys2Proof.Machine
end

