-- ==== Sys2Proof/Machine/GateDrive.lean ====
section
/-!
DEFINITION. Gate drive and power-stage protection (R248 to R270), limit truncation (R105) and the latched short of R95:
supplies, bootstraps, detectors, soft turn-off, interlock, retries, off-state diagnostics and gate power.
-/
namespace Sys2Proof.Machine

/-- A switch's bit in the order UH, UL, VH, VL, WH, WL (R268). -/
def swBit (sw : Switch) : Nat := 2 ^ switchIx sw

/-- A leg's bit (R268). -/
def legBit (leg : Leg) : Nat := 2 ^ legIx leg

/-- The steering gate supply that locks out: its switch and leg bits, high sides 0 to 2, low sides 3 to 5 (R248). -/
def supplySwitch (sup : Nat) : Nat × Nat :=
  if sup < 3 then (2 ^ (2 * sup), 2 ^ sup) else (2 ^ (2 * (sup - 3) + 1), 2 ^ (sup - 3))

/-- Write the lock-out bits of GD_STAT from the supplies (R268). -/
def Lane.uvBits (l : Lane) : Lane :=
  (l.setRbit Rg.gdStat 16 ((l.gate.supOut.take 6).any id)).setRbit Rg.gdStat 17 (nthB l.gate.supOut 6)

/-- GATE_SUPPLY_LOCKOUT (R248, R249): the stages served cease driving and trip with cause 4 or 5, held; no trip while the
lane has class LS or BS. -/
def execGateSupplyLockout (l : LaneId) (sup : Fin 7) (t : Nat) (s : State) : Host.Outcome State Fault Refusal :=
  onLaneAt l t s fun x =>
    let x := ({ x with gate := { x.gate with supOut := x.gate.supOut.set sup true } }).uvBits
    if sup.val < 6 then
      if !x.pwr.supplyOk then x.ceaseSteer
      else x.trip .steer 4 (supplySwitch sup).2 (supplySwitch sup).1 false false true
    else if x.drive.bsClass then x.openBrakes
    else (List.finRange 8).foldl (fun x n => if n.val < x.nDrives then x.trip (.brake n) 5 7 63 false false true else x) x

/-- GATE_SUPPLY_RELEASE (R248, R250): a supply 0 to 6 is back, and the wait of the trips it held runs from now; or the bootstrap of leg
(sup - 7) mod 3 of brake stage (sup - 7) / 3 has passed 11.0 V, and its high side is enabled again. -/
def execGateSupplyRelease (l : LaneId) (sup : Fin 31) (t : Nat) (s : State) : Host.Outcome State Fault Refusal :=
  onLaneAt l t s fun x =>
    if sup.val < 7 then
      let x := ({ x with gate := { x.gate with supOut := x.gate.supOut.set sup false } }).uvBits
      if sup.val < 6 then
        if (x.gate.supOut.take 6).any id then x else x.causeGone .steer
      else (List.finRange 8).foldl (fun x n => x.causeGone (.brake n)) x
    else
      x.updStg (Stage.brake (Fin.ofNat 8 ((sup.val - 7) / 3))) fun g => { g with bootOut := g.bootOut.set ((sup.val - 7) % 3) false }

/-- BOOTSTRAP_WARNING (R250): the next period of the leg is refreshed, BOOT_WARN is set and the event counted. -/
def execBootstrapWarning (l : LaneId) (n : Fin 8) (leg : Leg) (t : Nat) (s : State) : Host.Outcome State Fault Refusal :=
  onLaneAt l t s fun x =>
    ((x.updStg (.brake n) fun g => { g with forced := g.forced.set (legIx leg) true }).setRbit Rg.gdStat 18 true).inc
      (O.bgBootWarns n.val)

/-- BOOTSTRAP_LOCKOUT (R250): the high side is held off, the stage ceases driving and trips with cause 6. -/
def execBootstrapLockout (l : LaneId) (n : Fin 8) (leg : Leg) (t : Nat) (s : State) : Host.Outcome State Fault Refusal :=
  onLaneAt l t s fun x =>
    (x.updStg (.brake n) fun g => { g with bootOut := g.bootOut.set (legIx leg) true }).trip (.brake n) 6 (legBit leg)
      (swBit ⟨leg, true⟩) false false false

/-- Does the interlock hold a leg's switches off in the stage's present period (R254, R269)? -/
def StageSt.held (g : StageSt) (leg : Leg) : Bool := decide (g.ilHold.getD (legIx leg) none = some g.periods)

/-- DESATURATION (R256, R258): protective trip, cause 1, with a soft turn-off. None is judged in a pulse in which the interlock holds the
leg (R269). -/
def execDesaturation (l : LaneId) (stage : Stage) (sw : Switch) (t : Nat) (s : State) : Host.Outcome State Fault Refusal :=
  onLaneAt l t s fun x => if (x.stg stage).held sw.leg then x else x.trip stage 1 (legBit sw.leg) (swBit sw) false true false

/-- GROSS_CURRENT (R257, R258): protective trip, cause 2, with a soft turn-off; IN_BLANK when it came during blanking. -/
def execGrossCurrent (l : LaneId) (stage : Stage) (sw : Switch) (inBlank : Bool) (t : Nat) (s : State) :
    Host.Outcome State Fault Refusal :=
  onLaneAt l t s fun x => x.trip stage 2 (legBit sw.leg) (swBit sw) inBlank true false

/-- The voltage of a gate level in millivolt: a conducting switch's, the plateau, off (R248, R258). -/
def gateMv (st : Stage) (g : GateLevel) : Int :=
  match st, g with
  | .steer, .driven => 18000
  | .steer, .plateau => 9000
  | .steer, .off => -4000
  | .brake _, .driven => 12000
  | .brake _, .plateau => 6000
  | .brake _, .off => 0

/-- SOFT_TURN_OFF_LEVEL_2 (R258): 1.5 µs after the trip each gate is pulled to its off level. -/
def execSoftTurnOffLevel2 (l : LaneId) (stage : Stage) (t : Nat) (s : State) : Host.Outcome State Fault Refusal :=
  onLaneAt l t s fun x =>
    if (x.stg stage).softFrom.isSome then x.updStg stage fun g => { g with driving := false, gate := .off } else x

/-- SOFT_TURN_OFF_END (R259): the steering stage has ceased driving and its comparator chooses; a brake winding stays
open. -/
def execSoftTurnOffEnd (l : LaneId) (stage : Stage) (t : Nat) (vTermAbove : Bool) (s : State) :
    Host.Outcome State Fault Refusal :=
  onLaneAt l t s fun x =>
    if (x.stg stage).softFrom.isSome then
      let x := x.updStg stage fun g => { g with softFrom := none, gate := .off }
      let x := if stage = Stage.steer then x.seeTerminals vTermAbove else x
      x.ceaseStage stage
    else x

/-- LIMIT_TRUNCATION (R105, R256): the pulse is cut, the leg's next transition carries PLIM, the event is counted; the
32nd consecutive period with one is a protective trip, cause 3. -/
def execLimitTruncation (l : LaneId) (stage : Stage) (sw : Switch) (t : Nat) (s : State) :
    Host.Outcome State Fault Refusal :=
  onLaneAt l t s fun x =>
    let x := x.incIf O.plimEvents (decide (stage = Stage.steer))
    let x := match stage with
      | .steer => { x with drive := { x.drive with limFlags := x.drive.limFlags ||| swBit sw } }
      | .brake n =>
        let d := x.brk.drv[n]
        { x with brk := { x.brk with drv := x.brk.drv.set n { d with trunc := d.trunc ||| swBit sw } } }
    let x := x.updStg stage fun g =>
      { g with plim := g.plim.set (legIx sw.leg) true, truncNow := true,
               truncRun := if g.truncNow then g.truncRun else g.truncRun + 1 }
    if 32 ≤ (x.stg stage).truncRun && !x.tripped stage then x.trip stage 3 (legBit sw.leg) (swBit sw) false false false
    else x

/-- Interlock events of a stage (R254, R270). -/
def ilObj : Stage → O.Obj
  | .steer => O.steerIlEvents
  | .brake n => O.bgIlEvents n.val

/-- SHOOT_THROUGH_INTERLOCK (R254): both switches of a leg commanded on in a period of the stage; one event per leg and
period, and the third consecutive period is an error. -/
def execShootThroughInterlock (l : LaneId) (stage : Stage) (leg : Leg) (period : Nat) (t : Nat) (s : State) :
    Host.Outcome State Fault Refusal :=
  onLaneAt l t s fun x =>
    let x := x.updStg stage fun g => { g with ilHold := g.ilHold.set (legIx leg) (some g.periods) }
    let g := x.stg stage
    let i := legIx leg
    if nth g.ilRun i ≠ 0 && nth g.ilLast i = period then x
    else
      let run := if nth g.ilRun i ≠ 0 && nth g.ilLast i + 1 = period then nth g.ilRun i + 1 else 1
      let x := x.updStg stage fun g => { g with ilLast := g.ilLast.set i period, ilRun := g.ilRun.set i run }
      let x := (x.setRbit Rg.gdStat 15 true).inc (ilObj stage)
      x.raiseIf (run = 3) (match stage with | .steer => 0x15 | .brake n => 0x28 + n.val) (legBit leg)

/-- TRIP_WAIT_END (R262): the 10 ms since the last cause are over; the stage retries if its rail check passed. -/
def execTripWaitEnd (l : LaneId) (stage : Stage) (t : Nat) (s : State) : Host.Outcome State Fault Refusal :=
  onLaneAt l t s fun x => x.tryRetry stage

/-- The margins of R265 in 0.1 V: below the positive rail, above the negative rail. -/
def railMargins : Stage → Nat × Nat
  | .steer => (300, 20)
  | .brake _ => (30, 10)

/-- The classification of leg x from the three node voltages of its injection and V_pos, in 0.1 V (R265): the first row
that applies; where none does the specification states no code. -/
def classifyLeg (st : Stage) (nodes : List Nat) (vPos x : Nat) : Nat :=
  let v := (nodes.drop (3 * x)).take 3
  let nx := nth v x
  let m := railMargins st
  if v.any fun n => vPos < n + m.1 then 1
  else if nx < m.2 then 2
  else if decide (200 ≤ nx ∧ nx ≤ 260) && v.any (fun n => n + 10 < nx) then 3
  else if v.all fun n => decide (200 ≤ n ∧ n ≤ 260) && v.all fun k => n ≤ k + 10 then 0
  else Config.diagCode nodes vPos x % 16

/-- The precondition of R264 for a stage, V_pos in 0.1 V. -/
def Lane.diagReady (l : Lane) (st : Stage) (vPos : Nat) : Bool :=
  match st with
  | .steer => decide (l.ctState = 4) && decide (1000 ≤ vPos ∧ vPos ≤ 11000)
  | .brake _ => decide (360 ≤ vPos ∧ vPos ≤ 600)

/-- The failed check before a retry (R262): the try is counted as an automatic clear, then the new trip is judged. -/
def Lane.railCheckFailed (l : Lane) (st : Stage) : Lane :=
  (l.autoClear st).trip st 8 1 0 false false false

/-- RAIL_CHECK_DONE (R262, R265): the first two rows for leg U, in the last 2 ms of the wait or later, while the precondition
holds. -/
def execRailCheckDone (l : LaneId) (stage : Stage) (t : Nat) (nodes : List Nat) (vPos : Nat) (s : State) :
    Host.Outcome State Fault Refusal :=
  onLaneAt l t s fun x =>
    let g := x.stg stage
    if x.tripped stage && !g.exhausted && !g.causeHeld && decide (g.causeAt + 8000000 ≤ x.now) && x.diagReady stage vPos then
      let m := railMargins stage
      if (nodes.take 3).any (fun n => vPos < n + m.1) || nth nodes 0 < m.2 then x.railCheckFailed stage
      else (x.updStg stage fun g => { g with railOk := true }).tryRetry stage
    else x

/-- TRIP_PERSISTS (R262): a trip whose cause is still present 1 s after it began is exhausted. -/
def execTripPersists (l : LaneId) (stage : Stage) (t : Nat) (s : State) : Host.Outcome State Fault Refusal :=
  onLaneAt l t s fun x =>
    let g := x.stg stage
    if x.tripped stage && g.causeHeld && !g.exhausted && decide (g.tripAt + 1000000000 ≤ x.now) then x.exhaust stage
    else x

/-- Start the off-state diagnostics in every stage that does not drive (R264, R268): it owes them until they pass, and does not drive
meanwhile. One that failed runs none (R266). -/
def Lane.startDiag (l : Lane) : Lane :=
  ((allStages.filter l.hasStage).foldl (fun l st =>
    l.updStg st fun g => if g.driving || g.diag = .failed then g else { g with diag := .due }) l).diagStart

/-- DIAG_GO (R268, R269): stages that drive are skipped. -/
def execDiagGo (l : LaneId) (t : Nat) (s : State) : Host.Outcome State Fault Refusal :=
  onLaneAt l t s fun x => x.startDiag

/-- The result object of a stage's diagnostics (R270). -/
def diagObj : Stage → O.Obj
  | .steer => O.steerDiagResult
  | .brake n => O.bgDiagResult n.val

/-- The node voltages of a stage's diagnostics (R270). -/
def vnodeObj : Stage → O.Obj
  | .steer => O.steerDiagVnode
  | .brake n => O.bgDiagVnode n.val

/-- The outcome of a stage's diagnostics (R266): a steering failure opens the contactors and is class HV; a brake failure
takes the drive out of service. -/
def Lane.diagOutcome (l : Lane) (st : Stage) (ok : Bool) : Lane :=
  let l := l.updStg st fun g => { g with diag := if ok then .passed else .failed, diagRun := false }
  if ok then l
  else match st with
    | .steer => (l.openContactors).hvFault
    | .brake n =>
      let l := { l with brk := { l.brk with drv := l.brk.drv.set n { l.brk.drv[n] with inService := false, originOk := false } } }
      (l.setObj (O.bdInService n.val) 0).openBrake n

/-- A stage's run has ended: DIAG_RUN shows the runs that go on, and DIAG_DONE that none does (R268). -/
def Lane.diagEnd (l : Lane) : Lane := (l.showDiag).raiseBit Rg.gdStat 14 (!allStages.any fun st => (l.stg st).diagRun)

/-- OFF_STATE_DIAGNOSTICS (R264 to R266): the stage is off; each leg is classified from its injection, or is not run while
the precondition is not met. A stage that failed stays so until the next start. -/
def execOffStateDiagnostics (l : LaneId) (stage : Stage) (t : Nat) (nodes : List Nat) (vPos : Nat) (s : State) :
    Host.Outcome State Fault Refusal :=
  onLaneAt l t s fun x =>
    let g := x.stg stage
    if g.driving || g.diag = .failed || !x.hasStage stage then x
    else if !x.diagReady stage vPos then
      ((x.setObj (diagObj stage) 0x444).updStg stage fun g => { g with diagRun := false }).diagEnd
    else
      let cs := (List.range 3).map (classifyLeg stage nodes vPos)
      let x := (x.setObj (diagObj stage) (nth cs 0 + 16 * nth cs 1 + 256 * nth cs 2)).setArr16 (vnodeObj stage)
        ((List.range 9).map (nth nodes))
      (x.diagOutcome stage (cs.all (· = 0))).diagEnd

/-- Does the first injection of the steering stage's diagnostics run, 2 ms from their start (R265, R267)? -/
def Lane.firstInjection (l : Lane) : Bool := l.steer.diagRun && decide (l.now < l.steer.diagFrom + 2000000)

/-- CEXT_GO (R102, R267): the node ramp from 4 V to 20 V under 1 mA during the first steering injection gives a third of the
external capacitance to each leg, in pF; a ramp longer than 1 ms or a leg outside 0 to 10,000 pF fails. -/
def execCextGo (l : LaneId) (t : Nat) (rampNs : Option Nat) (s : State) : Host.Outcome State Fault Refusal :=
  onLaneAt l t s fun x =>
    if x.firstInjection then
      match rampNs with
      | some dt =>
        let leg := roundDiv ((dt : Int) - 48 * Config.cStageLow x.cal) 48
        if decide (dt ≤ 1000000) && decide (0 ≤ leg) && decide (leg ≤ 10000) then
          let x := (List.range 3).foldl (fun x i => x.setReg (Rg.etCext i) leg.toNat) x
          let x := (x.setRbit Rg.etStat 9 true).setRbit Rg.etStat 10 false
          { x with gate := { x.gate with cextOk := [true, true, true] } }
        else
          let x := (x.setRbit Rg.etStat 9 true).setRbit Rg.etStat 10 true
          { x with gate := { x.gate with cextOk := [false, false, false] } }
      | none =>
        let x := x.setRbit Rg.etStat 10 true
        { x with gate := { x.gate with cextOk := [false, false, false] } }
    else x

/-- DIAG_RESULT_WRITE (R266): 0 in Workshop repeats the stage's diagnostics; any other write is refused. -/
def execDiagResultWrite (l : LaneId) (stage : Stage) (v : BitVec 16) (t : Nat) (s : State) :
    Host.Outcome State Fault Refusal :=
  onLaneAt l t s fun x =>
    if v = 0 && decide (x.obj O.lcStateObj = 4) && x.hasStage stage then
      ((x.setObj (diagObj stage) 0).updStg stage fun g => { g with diag := .due, diagRun := false }).diagStart
    else x

/-- BACK_EMF_ABOVE_LINK (R95): while the set is open the comparator keeps watching, and shorts it. It works from the DC link, with or
without the lane's logic supply. -/
def execBackEmfAboveLink (l : LaneId) (t : Nat) (s : State) : Host.Outcome State Fault Refusal :=
  onSump l t s fun x =>
    let x := x.seeTerminals true
    let x := { x with gate := { x.gate with emfLowSince := none } }
    if x.steer.driving then x else x.chooseSafe

end Sys2Proof.Machine
end

