-- ==== Sys2Proof/Machine/Txn.lean ====
section
/-!
DEFINITION. Answers and tags of transactions (R355 to R358, R329, R340): the head of an answer, the judgement of a request
by its tag, and answering, which closes the tag. Assumption logs 50 to 52.
-/
namespace Sys2Proof.Machine

/-- The entry of a list under a key, if it lists one. -/
def kvFind {α : Type} (m : List (Nat × α)) (k : Nat) : Option α := (m.find? fun e => e.1 = k).map fun e => e.2

/-- The head of an answer (R355). -/
def headBytes (h : TxnHead) (res len : Nat) : List Byte :=
  bytesBE 2 h.session.toNat ++ bytesBE 2 h.tag.toNat ++ bytesBE 1 h.op.toNat ++ bytesBE 1 res ++ bytesBE 2 h.index.toNat
  ++ bytesBE 1 h.sub.toNat ++ [0] ++ bytesBE 2 len ++ bytesBE 4 h.offset.toNat ++ bytesBE 8 h.hostTime.toNat

/-- The tag under which an SKD-2 request is open: it has no tag of its own (R340). -/
def skdTag : Nat := 0x10000

/-- The bytes of an answer. That of R340 carries the data of a read right-aligned; the specification does not state DATA in
its other answers. -/
def answerBytes (id : TxnId) (h : TxnHead) (res : Nat) (data : List Byte) : List Byte :=
  if id.tag = skdTag then
    bytesBE 1 (h.op.toNat + 0x80) ++ bytesBE 1 h.index.toNat ++ bytesBE 1 h.sub.toNat ++ bytesBE 1 res
    ++ (if h.op = 1 && res = 0 then List.replicate (4 - data.length) 0 ++ data.take 4
        else bytesBE 4 (Config.skdData h.offset.toNat res))
  else headBytes h res data.length ++ data

/-- Class of the answer to an OP (R355). -/
def answerClass (h : TxnHead) : Nat := if h.op = 3 then 5 else 4

/-- The frame that carries an answer on CAN XL (R337): CAN XL, or CAN FD for one of R340. -/
def Lane.canFrame (l : Lane) (skd : Bool) (msg : List Byte) : CanTx :=
  let n := l.obj O.laneNumber
  if skd then { priority := 0x5B0 + n, xl := false, sdt := 0, acceptance := 0, payload := msg }
  else { priority := 0x410 + n, xl := true, sdt := l.obj O.canxlSdt, acceptance := l.unitNo, payload := msg }

/-- Queue an answer: on the session's ports, or dropped and counted under Quiet (R329) and where only keys may carry it (R332); on
CAN XL, or in its answer frame. -/
def Lane.queueAnswer (l : Lane) (id : TxnId) (cls : Nat) (msg : List Byte) : Lane :=
  if id.can then { l with txn := { l.txn with canAnswer := some (l.canFrame (id.tag = skdTag) msg) } }
  else if l.flag O.quietActive then l.inc O.quietDrops
  else if l.mute then l
  else l.sendMsg l.sess.mac cls l.now (segments 1408 [] 7 msg)

/-- Answers with result 6, 7 or 8 are counted (R363); those of the session that Quiet drops are none. -/
def Lane.countRefused (l : Lane) (can : Bool) (res : Nat) : Lane :=
  l.incIf O.txnRefused (decide (6 ≤ res ∧ res ≤ 8) && (can || !l.flag O.quietActive))

/-- The tag table of a port (R356). -/
def Lane.tagTable (l : Lane) (can : Bool) : List (Nat × (Nat × TagUse)) := if can then l.txn.canTags else l.txn.tags

/-- Put an entry in a tag table. -/
def Lane.putTag (l : Lane) (id : TxnId) (g : Nat) (u : TagUse) : Lane :=
  { l with txn := if id.can then { l.txn with canTags := kvPut id.tag (g, u) l.txn.canTags }
                  else { l.txn with tags := kvPut id.tag (g, u) l.txn.tags } }

/-- Answer a request without executing it: its tag stays as it is (R356, R358). -/
def Lane.reply (l : Lane) (id : TxnId) (h : TxnHead) (res : Nat) : Lane :=
  (l.queueAnswer id (answerClass h) (answerBytes id h res [])).countRefused id.can res

/-- Twice TXN_LIFETIME, in nanoseconds (R356). -/
def Lane.quarantine (l : Lane) : Nat := 2000000 * l.obj O.txnLifetime

/-- Answer a request that was executed: the transaction completes and its tag is quarantined with the answer (R356). An
answer of a session that has closed is discarded (R345). -/
def Lane.answer (l : Lane) (id : TxnId) (h : TxnHead) (res : Nat) (data : List Byte) : Lane :=
  if !l.txn.opened.any (fun o => o.id = id) then l else
  let msg := answerBytes id h res data
  let l := { l with txn := { l.txn with opened := l.txn.opened.filter fun o => o.id ≠ id } }
  let l := if id.tag = skdTag then l
    else l.putTag id (h.tag.toNat % 16) (.closed (l.now + l.quarantine) (answerClass h) msg)
  (l.queueAnswer id (answerClass h) msg).countRefused id.can res

/-- The open request of an id. -/
def Lane.openReq (l : Lane) (id : TxnId) : Option OpenTxn := l.txn.opened.find? fun o => o.id = id

/-- Answer an open request by its id. -/
def Lane.answerId (l : Lane) (id : TxnId) (res : Nat) (data : List Byte) : Lane :=
  match l.openReq id with
  | some o => l.answer id o.head res data
  | none => l

/-- What an open request waits for. -/
def Lane.waitFor (l : Lane) (id : TxnId) (w : TxnWait) : Lane :=
  { l with txn := { l.txn with opened := l.txn.opened.map fun o => if o.id = id then { o with wait := w } else o } }

/-- Answer every open request that waits for a thing. -/
def Lane.finish (l : Lane) (w : TxnWait) (res : Nat) (data : List Byte) : Lane :=
  (l.txn.opened.filter fun o => o.wait = w).foldl (fun l o => l.answer o.id o.head res data) l

/-- Does R356 execute a request with generation `g` in a tag's state at an instant? -/
inductive TagJudge | run | drop | busy | quarantined | again (cls : Nat) (msg : List Byte)
deriving DecidableEq, Repr

/-- The judgement of R356. -/
def tagJudge (e : Option (Nat × TagUse)) (g t : Nat) : TagJudge :=
  match e with
  | none => .run
  | some (g0, u) =>
    let d := (g + 16 - g0) % 16
    match u with
    | .open_ => if d = 0 then .drop else .busy
    | .closed until_ cls msg | .free until_ cls msg =>
      if t < until_ then (if d = 0 then .again cls msg else if d ≤ 8 then .quarantined else .drop)
      else if 1 ≤ d ∧ d ≤ 8 then .run else .drop

/-- The id of a request: on the networks the session's serial number tells it from one of an earlier session (R345). -/
def Lane.headId (l : Lane) (can : Bool) (h : TxnHead) : TxnId := ⟨can, h.tag.toNat / 16, if can then 0 else l.txn.serial⟩

/-- Take a request that is on time (R329, R356, R358): true where it is executed, its tag open from then on. -/
def Lane.letIn (l : Lane) (can : Bool) (h : TxnHead) (t : Nat) : Bool × Lane :=
  let id := l.headId can h
  let quiet := !can && l.flag O.quietActive
  match tagJudge (kvFind (l.tagTable can) id.tag) (h.tag.toNat % 16) t with
  | .drop => (false, l.inc O.txnTagDrops)
  | j =>
    if quiet then (false, l.inc O.quietDrops) else
    match j with
    | .busy => (false, l.reply id h 7)
    | .quarantined => (false, l.reply id h 6)
    | .again cls msg => (false, (l.queueAnswer id cls msg).inc O.txnRepeats)
    | _ =>
      if 16 ≤ l.txn.opened.length then (false, l.reply id h 8) else
      let l := l.putTag id (h.tag.toNat % 16) .open_
      let l := if can then l else { l with sess := { l.sess with lastAt := max l.sess.lastAt t } }
      (true, { l with txn := { l.txn with opened := l.txn.opened ++ [⟨id, h, .t5⟩] } })

/-- TAG_QUARANTINE_END (R356): a quarantined tag whose time has passed is free; its generation stays. -/
def execTagQuarantineEnd (l : LaneId) (canPort : Bool) (tag : BitVec 12) (t : Nat) (s : State) :
    Host.Outcome State Fault Refusal :=
  onLaneAt l t s fun x =>
    match kvFind (x.tagTable canPort) tag.toNat with
    | some (g, .closed until_ cls msg) =>
      if until_ ≤ t then x.putTag ⟨canPort, tag.toNat, 0⟩ g (.free until_ cls msg) else x
    | _ => x

end Sys2Proof.Machine
end

