-- ==== Sys2Proof/Machine/Nv.lean ====
section
/-!
DEFINITION. Non-volatile memory (R373, R379 to R383): stores, the values of a start, the staged image, and the objects that a
write resets (R199, R160, R471). Assumption logs 53 to 56.
-/
namespace Sys2Proof.Machine

/-- Put a complete new image into the copy that is not in use (R382): a generation higher, then in use. -/
def NvSt.putCopy (n : NvSt) (form : Nat → NvImage) : NvSt :=
  let c := form (match n.inUse with | some (_, c) => c.gen + 1 | none => 1)
  match n.use with
  | some false => { n with copyB := some c, use := some true }
  | _ => { n with copyA := some c, use := some false }

/-- Entries of the user image in use. -/
def NvSt.entries (n : NvSt) : List (Nat × (Nat × List Byte)) := match n.inUse with | some (_, c) => c.entries | none => []

/-- The value that entries give an object, empty where they name it not. -/
def entryValue (es : List (Nat × (Nat × List Byte))) (key : Nat) : List Byte := (kvGet (0, []) es key).2

/-- The Unit Number of a lane whose objects are those of an image (R381, R393): that of its enrolment certificate where the lane accepts it
with the image's FLEET_CA_KEY. -/
def Lane.imageUnit (l : Lane) (me : LaneId) (es : List (Nat × (Nat × List Byte))) : Nat :=
  let cert := entryValue es O.enrolCert.key
  if cert ≠ [] && (l.setOct O.fleetCaKey (entryValue es O.fleetCaKey.key)).enrolOk me cert then be cert 0x18 4 else 0x3FFFF

/-- A complete new user image goes into the copy that is not in use (R380, R382). -/
def Lane.putImage (l : Lane) (me : LaneId) (es : List (Nat × (Nat × List Byte))) : Lane :=
  { l with nv := l.nv.putCopy fun gen => formImage 2 (laneNo me) gen (l.obj O.dictSetCounter) (l.imageUnit me es) es }

/-- The type code of an object's row (R367, R368). -/
def rowType (r : ObjRow) : Nat := tyCode r.ty + (if r.count = 1 then 0 else 0x80)

/-- Objects with their values in effect, as entries. -/
def Lane.withValues (l : Lane) (me : LaneId) (keys : List Nat) (m : List (Nat × (Nat × List Byte))) : List (Nat × (Nat × List Byte)) :=
  keys.foldl (fun m k => match rowOf k with
    | some r => kvPut k (rowType r, l.valueOf me r k) m
    | none => m) m

/-- The values of objects as they stand, as what is stored of them. -/
def Lane.baseline (l : Lane) (me : LaneId) (keys : List Nat) (m : List (Nat × List Byte)) : List (Nat × List Byte) :=
  keys.foldl (fun m k => match rowOf k with
    | some r => if r.access = .ro then kvPut k (l.valueOf me r k) m else m
    | none => m) m

/-- A store (R382): the image in use with the present values of some objects, and NV_STORES among them. -/
def Lane.storeNv (l : Lane) (me : LaneId) (keys : List Nat) : Lane :=
  let l := l.inc O.nvStores
  let keys := O.nvStores.key :: keys
  let l := l.putImage me (l.withValues me keys l.nv.entries)
  { l with nv := { l.nv with roBase := l.baseline me keys l.nv.roBase } }

/-- An object with store N is due for storing (R371). -/
def Lane.nvDue (l : Lane) (key : Nat) : Lane :=
  match rowOf key with
  | some r => if r.store = .n then { l with nv := { l.nv with due := insertAsc key l.nv.due } } else l
  | none => l

/-- Every store due is made, in one generation (R371). -/
def Lane.storeDue (l : Lane) (me : LaneId) : Lane :=
  if l.nv.due = [] then l else
  let l := l.storeNv me l.nv.due
  { l with nv := { l.nv with due := [] } }

/-- NV_STORE (R371, R382): the writes accepted so far are stored and answered. -/
def execNvStore (l : LaneId) (t : Nat) (s : State) : Host.Outcome State Fault Refusal :=
  onLaneAt l t s fun x => (x.storeDue l).finish .store 0 []

/-- The value that an object of a row has at its default, encoded. -/
def defaultOf (r : ObjRow) (key : Nat) : List Byte :=
  if key = O.sioSchedule.key then factorySchedule else if key = O.ageLog.key then List.replicate 32768 0 else if isBytes r.ty then [] else bytesBE (tySize r.ty * r.count) (objOf r key).dflt

/-- RO objects with store N whose value has changed since the start or their last store (R373). -/
def Lane.roDue (l : Lane) (me : LaneId) : List Nat :=
  l.keys.filter fun k => match rowOf k with
    | some r => r.access = .ro && r.store = .n
        && decide (l.valueOf me r k ≠ (kvFind l.nv.roBase k).getD (defaultOf r k))
    | none => false

/-- Every changed RO object with store N goes into the user image (R373). -/
def Lane.storeRo (l : Lane) (me : LaneId) : Lane := if l.roDue me = [] then l else l.storeNv me (l.roDue me)

/-- RO_STORE (R373). -/
def execRoStore (l : LaneId) (t : Nat) (s : State) : Host.Outcome State Fault Refusal :=
  onLaneAt l t s fun x => x.storeRo l

/-- The record of a new first cause, as it stands now, goes to the next of the 16 entries of the fault log in the user image (R312). -/
def Lane.copyFirst (me : LaneId) (l : Lane) (src : Nat) : Lane :=
  let n := l.obj O.logNext
  let l := (l.setOct (O.faultLog n) (logEntry (laneNo me) (l.coll.spall src))).setObj O.logNext ((n + 1) % 16)
  l.storeNv me [(O.faultLog n).key, O.logNext.key]

/-- The records of the first causes that await their copy go to the fault log, the earliest first (R312). -/
def Lane.copyFaultLog (l : Lane) (me : LaneId) : Lane :=
  let l := l.coll.logDue.foldl (Lane.copyFirst me) l
  { l with coll := { l.coll with logDue := [] } }

/-- FAULT_LOG_COPY (R312). -/
def execFaultLogCopy (l : LaneId) (t : Nat) (s : State) : Host.Outcome State Fault Refusal :=
  onLaneAt l t s fun x => x.copyFaultLog l

/-- Does an entry of an image name an N object of this lane, with its type and length? (R382, check 5 of R370) -/
def Lane.entryShaped (l : Lane) (e : Entry) : Bool :=
  match l.rowAt (entryKey e) with
  | some r => r.store = .n && entryTypeOk e
      && (if isBytes r.ty then decide (e.value.length ≤ r.maxLen) else decide (e.value.length = tySize r.ty * r.count))
  | none => false

/-- Does an entry of an image pass check 6 of R370? -/
def entryInRange (e : Entry) : Bool :=
  match rowOf (entryKey e) with
  | some r => valueOk r e.value && octLenOk (entryKey e) e.value.length
  | none => false

/-- Type, length and range of an entry of an image (R382 step 1, checks 5 and 6 of R370). -/
def Lane.entryFits (l : Lane) (e : Entry) : Bool := l.entryShaped e && entryInRange e

/-- Do the entries of an image lie in strictly ascending order? -/
def keysAscend : List (Nat × (Nat × List Byte)) → Bool
  | [] => true
  | [_] => true
  | a :: b :: r => decide (a.1 < b.1) && keysAscend (b :: r)

/-- Does a copy of the user image pass its check? (R381) -/
def Lane.copyOk (l : Lane) (me : LaneId) (c : NvImage) : Bool :=
  decide (c.magic = 0x534B4E56) && decide (c.layout = 1) && decide (c.kind = 2) && decide (c.lane = laneNo me)
  && decide (c.unit = l.imageUnit me c.entries) && keysAscend c.entries && decide (c.length = 0x40 + (nvBody c).length)
  && decide (c.count = c.entries.length) && decide (c.digest = nvDigestOf c)

/-- The copy that a start uses: the one with the higher GENERATION among those that pass (R381). -/
def Lane.chooseCopy (l : Lane) (me : LaneId) : Option Bool :=
  let good := fun (c : Option NvImage) => c.filter (l.copyOk me)
  match good l.nv.copyA, good l.nv.copyB with
  | none, none => none
  | some _, none => some false
  | none, some _ => some true
  | some a, some b => some (decide (a.gen < b.gen))

/-- An N object takes a value from an image; AGE_LOG lies in its own memory. -/
def Lane.loadValue (l : Lane) (key : Nat) (v : List Byte) : Lane :=
  if key = O.ageLog.key then { l with eng := { l.eng with log := memWriteAll [] 0 v } } else l.storeValue key v

/-- A lane in which every N object has the default of its table takes the entries of the factory image that differ and those of its user
image (R382): an entry that fails is skipped and counted. -/
def Lane.loadNv (l : Lane) (me : LaneId) : Lane :=
  let l := { l with nv := { l.nv with use := l.chooseCopy me } }
  let l := l.nv.factory.foldl (fun x e => x.loadValue e.1 e.2) l
  let es := l.nv.entries.map nvEntry
  let post := (es.filter l.entryFits).foldl (fun x e => x.loadValue (entryKey e) e.value) l
  let ok := fun (e : Entry) => l.entryFits e && post.related (entryKey e)
  let x := (es.filter ok).foldl (fun x e => x.loadValue (entryKey e) e.value) l
  let x := match l.nv.inUse with | some (_, c) => x.setObj O.dictSetCounter c.setCounter | none => x
  let x := x.setObj O.nvEntryRejects (es.filter fun e => !ok e).length
  { x with nv := { x.nv with roBase := x.baseline me (x.keys.filter fun k => (rowOf k).any fun (r : ObjRow) => r.store = .n) [] } }

/-- The factory image of a lane (R379, R380): every N object with its factory value. -/
def Lane.factoryImage (l : Lane) (me : LaneId) : NvImage :=
  formImage 1 (laneNo me) 0 0 0x3FFFF (l.keys.filterMap fun k => match rowOf k with
    | some r => if r.store = .n then some (k, (rowType r, (kvFind l.nv.factory k).getD (defaultOf r k))) else none
    | none => none)

/-- Entries of an image or a change set, to the end of its bytes (R376). -/
def parseEntries : Nat → List Byte → Option (List Entry)
  | 0, b => if b = [] then some [] else none
  | n + 1, b =>
    if b = [] then some []
    else
      let size := (8 + be b 4 2 + 3) / 4 * 4
      if b.length < 8 ∨ b.length < size then none
      else (parseEntries n (b.drop size)).map fun es =>
        { index := BitVec.ofNat 16 (be b 0 2), sub := BitVec.ofNat 8 (be b 2 1), ty := BitVec.ofNat 8 (be b 3 1),
          value := slice b 8 (be b 4 2) } :: es

/-- Do entries lie in strictly ascending order of index and subindex? -/
def entriesAscend : List Entry → Bool
  | [] => true
  | [_] => true
  | a :: b :: r => decide (entryKey a < entryKey b) && entriesAscend (b :: r)

/-- The bytes of the staged image up to its LENGTH. -/
def NvSt.staged (n : NvSt) : List Byte := memReadAll n.stage 0 (min 262144 (be (memReadAll n.stage 0 0x40) 0x14 4))

/-- Entries of the staged image, where they end exactly at LENGTH (R381). -/
def NvSt.stagedEntries (n : NvSt) : Option (List Entry) := parseEntries 32768 (n.staged.drop 0x40)

/-- The check of R383 on the staged image: 0 is a pass, else the code of NV_STAGE_FAIL. -/
def Lane.judgeStage (l : Lane) (me : LaneId) : Nat :=
  let b := l.nv.staged
  let head := memReadAll l.nv.stage 0 0x40
  let len := be head 0x14 4
  let unit := be head 0x10 4 % 2 ^ 18
  if be head 0 4 ≠ 0x534B4E56 || be head 4 2 ≠ 1 || be head 6 1 ≠ 2 then 1
  else if (be head 7 1 ≠ laneNo me && be head 7 1 ≠ 0) || (unit ≠ l.unitNo && unit ≠ 0x3FFFF) then 2
  else if len < 0x40 || 262144 < len || l.nv.stageLen < len then 4
  else if slice head 0x20 32 ≠ sha3 (b.take 0x20 ++ List.replicate 32 0 ++ b.drop 0x40) then 3
  else match l.nv.stagedEntries with
    | none => 4
    | some es =>
      if es.length ≠ be head 0x18 4 || !entriesAscend es then 4
      else
        if es.all fun e => l.entryFits e && (l.withEntries es).related (entryKey e) then 0 else 5

/-- Bytes written to NV_STAGE (R383, R385): the staged image is not eligible, and a check under way ends as failed. -/
def Lane.writeStage (l : Lane) (off : Nat) (data : List Byte) : Lane :=
  let data := data.take (262144 - off)
  let checking := decide (l.obj O.nvStageState = 1)
  let reach := if data = [] then l.nv.stageLen else max l.nv.stageLen (off + data.length)
  let l := { l with nv := { l.nv with stage := memWriteAll l.nv.stage off data, stageLen := reach, checkSpoilt := checking } }
  if checking then l else l.setObj O.nvStageState 0

/-- NV_STAGE. -/
def execNvStage (l : LaneId) (off : Nat) (data : List Byte) (t : Nat) (s : State) : Host.Outcome State Fault Refusal :=
  onLaneAt l t s fun x => x.writeStage off data

/-- The check of the staged image starts (R383). -/
def Lane.startStageCheck (l : Lane) : Lane :=
  ({ l with nv := { l.nv with checkSpoilt := false } }).setObj O.nvStageState 1

/-- NV_STAGE_CHECK: 1 starts the check. -/
def execNvStageCheck (l : LaneId) (v : BitVec 8) (t : Nat) (s : State) : Host.Outcome State Fault Refusal :=
  onLaneAt l t s fun x => if v = 1 then x.startStageCheck else x

/-- NV_STAGE_CHECK_DONE (R383): eligible, or failed with its code; a write during the check leaves the code of the last one. -/
def execNvStageCheckDone (l : LaneId) (t : Nat) (s : State) : Host.Outcome State Fault Refusal :=
  onLaneAt l t s fun x =>
    if x.obj O.nvStageState ≠ 1 then x
    else if x.nv.checkSpoilt then x.setObj O.nvStageState 3
    else
      let c := x.judgeStage l
      if c = 0 then (x.setObj O.nvStageState 2).setObj O.nvStageFail 0
      else (x.setObj O.nvStageState 3).setObj O.nvStageFail c

/-- Does NV_STAGE_INSTALL hold? (R383) -/
def Lane.installOk (l : Lane) (digest : List Byte) : Bool :=
  decide (l.obj O.nvStageState = 2) && decide (memReadAll l.nv.stage 0x20 32 = digest)

/-- An install waits for its commit (R383, R385): the entries of the staged image are proposed. -/
def Lane.stageInstall (l : Lane) (digest : List Byte) : Lane :=
  match l.nv.stagedEntries with
  | some es => if l.installOk digest then { l with com := { l.com with waiting := l.com.waiting ++ [(.install, es)] } } else l
  | none => l

/-- NV_STAGE_INSTALL (R383). -/
def execNvStageInstall (l : LaneId) (digest : List Byte) (t : Nat) (s : State) : Host.Outcome State Fault Refusal :=
  onLaneAt l t s fun x => x.stageInstall digest

/-- The installed image becomes the user image (R383). -/
def Lane.adoptImage (l : Lane) (me : LaneId) (es : List Entry) : Lane :=
  (l.inc O.nvStores).putImage me (es.foldl (fun m e => kvPut (entryKey e) (e.ty.toNat, e.value) m) [])

/-- An image without entries is stored (R382); what was stored of RO objects before is no change of theirs. -/
def Lane.resetNv (l : Lane) (me : LaneId) : Lane :=
  let l := (l.inc O.nvStores).putImage me []
  { l with nv := { l.nv with due := [], roBase := l.baseline me [O.nvStores.key] l.nv.roBase } }

/-- NV_USER_RESET: 1 stores an image without entries. -/
def execNvUserReset (l : LaneId) (v : BitVec 8) (t : Nat) (s : State) : Host.Outcome State Fault Refusal :=
  onLaneAt l t s fun x => if v = 1 then x.resetNv l else x

/-- Is an object one that a write resets to the present readings? (R471) -/
def isSeen (key : Nat) : Bool := key = O.tempMaxSeen.key || key = O.voltMinSeen.key || key = O.voltMaxSeen.key

/-- The effect of a write on the objects that track a peak (R199, R160, R471). -/
def Lane.resetCounter (l : Lane) (key : Nat) (data : List Byte) : Lane :=
  if key = O.tempMaxSeen.key then l.setArr16 O.tempMaxSeen l.eng.temps
  else if key = O.voltMinSeen.key then l.setArr16 O.voltMinSeen l.eng.volts
  else if key = O.voltMaxSeen.key then l.setArr16 O.voltMaxSeen l.eng.volts
  else if key = O.vLinkPeak.key || decide (key % 256 = 0x0E ∧ 0x5010 ≤ key / 256 ∧ key / 256 ≤ 0x5018) then
    l.storeValue key data
  else l

/-- COUNTER_RESET: a write that the checks of R370 pass. -/
def execCounterReset (l : LaneId) (index : BitVec 16) (sub : BitVec 8) (data : List Byte) (t : Nat) (s : State) :
    Host.Outcome State Fault Refusal :=
  onLaneAt l t s fun x =>
    let key := index.toNat * 256 + sub.toNat
    if x.judgeWrite false key 0 data = 0 && (!zeroOnly key || decide (ofBytesBE data = 0)) then x.resetCounter key data else x

end Sys2Proof.Machine
end

