-- ==== Sys2Proof/Machine/Update.lean ====
section
/-!
DEFINITION. Update and standing aside (R413 to R422, R426, R429): firmware slots and program images, standing aside, and
the Update frames with their announcements and seeds. Assumption logs 57 to 60.
-/
namespace Sys2Proof.Machine

/-- The peers of a lane, as the module holds them. -/
def State.peersOf (s : State) (l : LaneId) (p : Peer) : Lane := s.lane (peerId l p)

/-- A step of one lane at an instant that reads its peers' lanes as they stand. -/
def onLanePeers (l : LaneId) (t : Nat) (s : State) (f : (Peer → Lane) → Lane → Lane) : Host.Outcome State Fault Refusal :=
  onLaneAt l t s (f (s.peersOf l))

/-- The active firmware slot (R413). -/
def Lane.activeSlot (l : Lane) : ImgSlot := if l.obj O.fwSlot = 1 then l.upd.slotB else l.upd.slotA

/-- The inactive firmware slot (R413). -/
def Lane.inactiveSlot (l : Lane) : ImgSlot := if l.obj O.fwSlot = 1 then l.upd.slotA else l.upd.slotB

/-- Replace the inactive firmware slot. -/
def Lane.setInactive (l : Lane) (x : ImgSlot) : Lane :=
  { l with upd := if l.obj O.fwSlot = 1 then { l.upd with slotA := x } else { l.upd with slotB := x } }

/-- The security version that an image carries (R394). -/
def imgVersion (x : ImgSlot) : Nat := be x.manifest 8 4

/-- Bytes of an image written from offset 0: how far they reach without a gap. -/
def extent (filled off len : Nat) : Nat := if off ≤ filled then max filled (off + len) else filled

/-- UPD_STATE of a lane that stands aside: 2 while its firmware or its program image is eligible, 1 otherwise (R418, R424, R430). -/
def Lane.showImage (l : Lane) : Lane :=
  if l.claim.aside && (l.obj O.updState = 1 || l.obj O.updState = 2) then
    l.setObj O.updState (if l.obj O.fwInstallState = 2 || l.obj O.progState = 2 then 2 else 1)
  else l

/-- FW_IMAGE (R415, R429): bytes for the inactive slot of a lane that stands aside; the slot is not eligible. -/
def Lane.writeFw (l : Lane) (off : Nat) (data : List Byte) : Lane :=
  let data := data.take (6295552 - off)
  let l := { l with upd := { l.upd with img := memWriteAll l.upd.img off data,
                                        filled := extent l.upd.filled off data.length } }
  ((l.setInactive {}).setObj O.fwInstallState 0).showImage

/-- FW_IMAGE. -/
def execFwImage (l : LaneId) (off : Nat) (data : List Byte) (t : Nat) (s : State) : Host.Outcome State Fault Refusal :=
  onLaneAt l t s fun x => if x.claim.aside then x.writeFw off data else x

/-- PROG_IMAGE (R424): bytes of the staged program image, which is not eligible. -/
def Lane.writeProg (l : Lane) (off : Nat) (data : List Byte) : Lane :=
  let data := data.take (266240 - off)
  (({ l with upd := { l.upd with progImg := memWriteAll l.upd.progImg off data,
                                 progFilled := extent l.upd.progFilled off data.length,
                                 progStaged := {} } }).setObj O.progState 0).showImage

/-- PROG_IMAGE. -/
def execProgImage (l : LaneId) (off : Nat) (data : List Byte) (t : Nat) (s : State) : Host.Outcome State Fault Refusal :=
  onLaneAt l t s fun x => x.writeProg off data

/-- FW_INSTALL_CHECK (R415): 1 starts the verification of the inactive slot. -/
def execFwInstallCheck (l : LaneId) (v : BitVec 8) (t : Nat) (s : State) : Host.Outcome State Fault Refusal :=
  onLaneAt l t s fun x => if v = 1 then x.setObj O.fwInstallState 1 else x

/-- PROG_CHECK (R424): 1 starts the verification of the staged program image. -/
def execProgCheck (l : LaneId) (v : BitVec 8) (t : Nat) (s : State) : Host.Outcome State Fault Refusal :=
  onLaneAt l t s fun x => if v = 1 then x.setObj O.progState 1 else x

/-- Manifest and content of an image as written (R394, R415). -/
def imgParts (m : List (Nat × Byte)) (filled : Nat) : List Byte × List Byte :=
  let head := memReadAll m 0 (min filled 4096)
  (head, memReadAll m 4096 (min (filled - 4096) (be head 0xC 4)))

/-- The verification of the inactive slot ends (R396, R415). -/
def Lane.fwChecked (l : Lane) (me : LaneId) : Lane :=
  let (m, c) := imgParts l.upd.img l.upd.filled
  let code := l.verifyImage me 1 m c 0
  let l := (l.setInactive { manifest := m, eligible := decide (code = 0), content := c }).setObj O.imgVerifyLast code
  (l.setObj O.fwInstallState (if code = 0 then 2 else 3)).showImage

/-- Does the content of a program image keep its layout (R453): every section present lies within the content? -/
def progLayoutOk (c : List Byte) : Bool :=
  decide (be c 0 4 = 0x534B5047) && decide (be c 4 2 = 1) && (List.range 3).all fun e =>
    let a := 0x10 + 16 * e
    !bitOf (be c 6 1) e || (decide (be c (a + 4) 4 ≤ 65536) && decide (be c a 4 + be c (a + 4) 4 ≤ c.length)
      && decide (be c (a + 8) 4 < be c (a + 4) 4))

/-- The verification of the staged program image ends (R396, R424, R453). -/
def Lane.progChecked (l : Lane) (me : LaneId) : Lane :=
  let (m, c) := imgParts l.upd.progImg l.upd.progFilled
  let code := l.verifyImage me 3 m c 0
  let code := if (code = 0 || code = 5) && !progLayoutOk c then 4 else code
  let l := { l with upd := { l.upd with progStaged := { manifest := m, eligible := decide (code = 0), content := c } } }
  ((l.setObj O.imgVerifyLast code).setObj O.progState (if code = 0 then 2 else 3)).showImage

/-- FW_INSTALL_CHECK_DONE (R396): E7 ends the verification of the inactive slot, or else that of the staged program image. -/
def execFwInstallCheckDone (l : LaneId) (t : Nat) (s : State) : Host.Outcome State Fault Refusal :=
  onLaneAt l t s fun x =>
    if x.obj O.fwInstallState = 1 then x.fwChecked l else if x.obj O.progState = 1 then x.progChecked l else x

/-- Does a peer's request to stand aside at the same t5 leave this lane's out (R429)? The peer has stood aside in the present sample, or
its lower-numbered request waits for the same t5; no frame carries either yet (assumption log 58). -/
def Lane.tiedAside (l : Lane) (me : LaneId) (p : Peer) (q : Lane) : Bool :=
  (q.claim.aside && (match q.upd.asideAt with | some t0 => decide (l.smp.reloadAt ≤ t0) | none => false))
  || (q.upd.request.isSome && decide (laneNo (peerId me p) < laneNo me))

/-- The code of R416 that refuses a request to stand aside, 0 for none: what the peers do, their frames say; two requests at one t5 leave
the lower lane's (R429). -/
def Lane.judgeAside (l : Lane) (me : LaneId) (pl : Peer → Lane) : Nat :=
  let lc := l.obj O.lcStateObj
  let other := bothPeers.any fun p => !(l.peer p).claims || l.tiedAside me p (pl p)
  let claims := match l.claim.last with | some f => [f.claim.toNat] | none => []
  let scores := claims ++ bothPeers.filterMap fun p => (l.peer p).last.map fun f => f.claim.toNat
  if lc = 0 ∨ lc = 5 then 6
  else if !l.claim.claiming then 0
  else if other then 4
  else if l.flag O.stopRequired || l.obj O.stopState = 1 then 5
  else if l.parkHeld then 0
  else if l.obj O.updInMotionEn = 0 then 1
  else if l.obj O.moduleState ≠ 3 || scores.any (fun c => !bitOf c 15) then 2
  else if l.obj O.speedMaxDuplex < l.vehSpeed then 3
  else 0

/-- A stand-aside is accepted (R417, R426): the lane withdraws without an error, its steering stage ceases driving at the next
reload and its brake stages now; for removal its contactors open and its gate drivers turn off, and it does not drive until it restarts. -/
def Lane.standAside (l : Lane) (removal : Bool) : Lane :=
  let l := { l with claim := { l.claim with aside := true, claiming := false, tenure := 0 },
                    upd := { l.upd with removal := l.upd.removal || removal, asideAt := some l.now, answerDue := true, request := none },
                    coll := { l.coll with requal := false, requalSlice := false } }
  let l := ((l.openBrakes).setObj O.updState 1).showImage
  if removal then ((l.ceaseSteer).setFld Rg.gdCtl 0 9 0).openContactors else l

/-- A request to stand aside is judged at a t5 (R416): a refusal answers its write with result 4. -/
def Lane.judgeRequest (l : Lane) (me : LaneId) (pl : Peer → Lane) (removal : Bool) : Lane :=
  let c := l.judgeAside me pl
  if c = 0 then (l.standAside removal).setObj O.updStandAside (if removal then 2 else 1)
  else
    let l := { l with upd := { l.upd with request := none } }
    (l.setObj O.updRefuse c).finish .aside 4 []

/-- STAND_ASIDE (R416, R417). -/
def execStandAside (l : LaneId) (vTermAbove : Bool) (t : Nat) (s : State) : Host.Outcome State Fault Refusal :=
  onLanePeers l t s fun pl x =>
    (x.seeTerminals vTermAbove).judgeRequest l pl false

/-- STAND_ASIDE_FOR_REMOVAL (R416, R426). -/
def execStandAsideForRemoval (l : LaneId) (vTermAbove : Bool) (t : Nat) (s : State) : Host.Outcome State Fault Refusal :=
  onLanePeers l t s fun pl x =>
    (x.seeTerminals vTermAbove).judgeRequest l pl true

/-- READY_FOR_REMOVAL (R426): the link has fallen below 60 V. -/
def execReadyForRemoval (l : LaneId) (volts t : Nat) (s : State) : Host.Outcome State Fault Refusal :=
  onLaneAt l t s fun x =>
    if x.claim.aside && x.upd.removal && decide (volts < 60) then x.setObj O.updState 5 else x

/-- Re-qualification under R59 begins without a self-test slice of R311: after a stand-aside, a wake from Doze, a start. -/
def Lane.requalify (l : Lane) : Lane := { l with coll := { l.coll with requal := true, requalSlice := true, requalAgree := 0 } }

/-- A stand-aside ends without restart (R418, R429): an image that is not eligible is abandoned. -/
def Lane.endAside (l : Lane) : Lane :=
  if !l.claim.aside then l else
  let l := { l with claim := { l.claim with aside := false } }
  let l := (l.setObj O.updState 4).setObj O.updStandAside 0
  if l.coll.error then l else l.requalify

/-- A peer latches an error while the lane stands aside (R429): the stand-aside ends at once, and an image that is not eligible
is abandoned. -/
def Lane.endAsideForPeer (l : Lane) : Lane :=
  let l := if l.obj O.fwInstallState = 2 then l
    else ({ l with upd := { l.upd with filled := 0 } }).setObj O.fwInstallState 0
  l.endAside

/-- STAND_ASIDE_END (R418). -/
def execStandAsideEnd (l : LaneId) (t : Nat) (s : State) : Host.Outcome State Fault Refusal :=
  onLaneAt l t s fun x => x.endAside

/-- Cut a body into Update frames of at most 988 bytes (R420). -/
def updateParts (source : Nat) (kind res xfer sample total : Nat) : Nat → Nat → List Byte → List UpdateFrame
  | 0, _, _ => []
  | n + 1, k, b =>
    let f : Bool → UpdateFrame := fun last =>
      { source := BitVec.ofNat 8 source, kind := BitVec.ofNat 8 kind, result := BitVec.ofNat 8 res,
        xferId := BitVec.ofNat 32 xfer, part := BitVec.ofNat 16 (k + (if last then 0x8000 else 0)),
        totalLen := BitVec.ofNat 32 total, sample := BitVec.ofNat 32 sample, body := b.take 988 }
    if b.length ≤ 988 then [f true] else f false :: updateParts source kind res xfer sample total n (k + 1) (b.drop 988)

/-- Send a transfer to a peer (R420). -/
def Lane.sendUpdate (l : Lane) (me : LaneId) (p : Peer) (kind res sample : Nat) (body : List Byte) : Lane :=
  let xfer := laneNo me * 2 ^ 30 + l.cs.xfers % 2 ^ 30
  let fs := updateParts (laneNo me) kind res xfer sample body.length 128 0 body
  let l := fs.foldl (fun (l : Lane) f => l.takeLink p ((updateBytes f).length + 4)) l
  { l with cs := { l.cs with xfers := l.cs.xfers + 1 },
           out := { l.out with updates := l.out.updates ++ fs.map fun f => (p, f) } }

/-- An Update frame as it must be to count: whole, with its CRC, from the peer it names (R420, R35). -/
def updateOk (me : LaneId) (rx : BirixRx) (f : UpdateFrame) : Bool :=
  decide (rx.crc = crc32 (updateBytes f)) && rx.fin.isSome && decide (bits f.source.toNat 0 2 = laneNo (peerId me rx.peer))

/-- FW_REVISION of a lane. -/
def Lane.fwRev (l : Lane) : Nat := imgRevision l.activeSlot.manifest

/-- ANNOUNCE to both peers (R421). -/
def Lane.announce (l : Lane) (me : LaneId) : Lane :=
  let body := bytesBE 4 l.fwRev ++ bytesBE 4 (bankSerial l.activeBank) ++ bytesBE 4 (imgRevision l.upd.progActive.manifest)
    ++ bytesBE 1 (l.obj O.updState) ++ [0, 0, 0]
  bothPeers.foldl (fun l p => l.sendUpdate me p 1 0 0 body) l

/-- ANNOUNCE_SEND (R421), in a lane whose samples run. -/
def execAnnounceSend (l : LaneId) (t : Nat) (s : State) : Host.Outcome State Fault Refusal :=
  onLaneAt l t s fun x => if x.netUp then x.announce l else x

/-- ANNOUNCE (R421): what the peer runs. -/
def execAnnounce (l : LaneId) (rx : BirixRx) (f : UpdateFrame) (s : State) : Host.Outcome State Fault Refusal :=
  onLaneAt l (rx.fin.getD rx.start) s fun x =>
    if updateOk l rx f && x.netUp && f.kind = 1 && f.body.length = 16 then
      let a : Announced := ⟨be f.body 0 4, be f.body 4 4, be f.body 8 4, be f.body 12 1⟩
      { x with upd := match rx.peer with | .lo => { x.upd with annLo := some a } | .hi => { x.upd with annHi := some a } }
    else x

/-- What a peer announced last. -/
def Lane.announced (l : Lane) : Peer → Option Announced
  | .lo => l.upd.annLo
  | .hi => l.upd.annHi

/-- SHAPER_SEED (R422): the seed waits for the reload of its sample. -/
def execShaperSeed (l : LaneId) (rx : BirixRx) (f : UpdateFrame) (s : State) : Host.Outcome State Fault Refusal :=
  onLaneAt l (rx.fin.getD rx.start) s fun x =>
    if updateOk l rx f && x.netUp && f.kind = 2 && f.body.length = 64 && !x.claim.claiming then
      { x with shape := { x.shape with seed := some ⟨f.sample.toNat, f.body⟩ } }
    else x

/-- Does R419 let the lane re-qualify: the firmware's major number as every claiming peer's, or Workshop with park held, and
the bank as some claiming peer's? -/
def Lane.r419 (l : Lane) : Bool :=
  let ps := bothPeers.filter fun p => (l.peer p).claims
  let fw := l.obj O.lcStateObj = 4 && l.parkHeld
  (fw || ps.all fun p => match l.announced p with | some a => decide (fwMajor a.fw = fwMajor l.fwRev) | none => false)
  && (ps.isEmpty || ps.any fun p => match l.announced p with
      | some a => decide (a.bank = bankSerial l.activeBank)
      | none => false)

end Sys2Proof.Machine
end

