-- ==== Sys2Proof/Machine/LifeCycle.lean ====
section
/-!
DEFINITION. Two-party changes (R399 to R405), attestation (R406), life-cycle states (R407 to R410), enrolment (R393) and
rollback counters (R398). Assumption logs 61 to 66.
-/
namespace Sys2Proof.Machine

/-- CS_NONCE in effect (R402). -/
def Lane.nonce (l : Lane) : List Byte := padTo 32 (l.oct O.csNonce)

/-- Entries of a change set (R400). -/
def csEntries (b : List Byte) : Option (List Entry) := parseEntries 16384 (b.drop 0x40)

/-- Does an entry name a module-wide object? -/
def isWide (e : Entry) : Bool := match rowOf (entryKey e) with | some r => r.moduleWide | none => false

/-- LANES of a change set names a lane. -/
def csNames (b : List Byte) (me : LaneId) : Bool := bitOf (be b 6 1) (laneNo me - 1)

/-- Does a complete change set load (R402 step 2)? -/
def Lane.csLoads (l : Lane) (b : List Byte) : Bool :=
  decide (be b 0 4 = 0x534B4353) && decide (be b 4 2 = 1) && decide (be b 8 4 = l.unitNo)
  && decide (slice b 0x20 32 = l.nonce) && decide (76 ≤ b.length ∧ b.length ≤ 65536) && decide (be b 0xC 4 = b.length)
  && (match csEntries b with
    | some es => decide (es.length = be b 0x10 2) && entriesAscend es && (decide (be b 6 1 % 8 ≠ 0) || es.all isWide)
    | none => false)

/-- The entries of a change set that concern a lane: the module-wide ones, and the others where LANES names it. -/
def csOwn (me : LaneId) (b : List Byte) : List Entry :=
  ((csEntries b).getD []).filter fun e => isWide e || csNames b me

/-- The module-wide entries of a change set. -/
def csWide (b : List Byte) : List Entry := ((csEntries b).getD []).filter isWide

/-- The lane-targeted entries of a change set that apply in a lane. -/
def csLocal (me : LaneId) (b : List Byte) : List Entry :=
  ((csEntries b).getD []).filter fun e => !isWide e && csNames b me

/-- The entries that a lane judges: all of them at the originator, its own at a peer (R402 step 5). -/
def csJudged (me : LaneId) (originator : Bool) (b : List Byte) : List Entry :=
  if originator then (csEntries b).getD [] else csOwn me b

/-- Checks 1, 2 and 4 to 7 on the entries that a lane judges (R402 step 5): the first failing result, or 0. -/
def Lane.csJudge (l : Lane) (me : LaneId) (pl : Peer → Lane) (originator : Bool) (b : List Byte) : Nat :=
  l.judgeSet me pl true (csJudged me originator b)

/-- A refused LC_TARGET entry leaves its code in LC_FAIL (R408). -/
def Lane.noteLcFail (l : Lane) (me : LaneId) (pl : Peer → Lane) (originator : Bool) (b : List Byte) : Lane :=
  match (csJudged me originator b).find? fun e => entryKey e = O.lcTarget.key with
  | some e =>
    let c := l.lcJudge me pl (ofBytesBE e.value)
    if 1 ≤ c ∧ c ≤ 7 then l.setObj O.lcFail c else l
  | none => l

/-- CS_STATE, CS_HELD and CS_DIGEST show the change-set state (R412). -/
def Lane.csShow (l : Lane) : Lane :=
  let c := l.cs
  let held := b2n c.eng.isSome + 2 * b2n c.fs.isSome
  let st := if c.run.isSome then 3 else if held ≠ 0 then 2 else if c.loaded.isSome then 1 else 0
  ((l.setObj O.csState st).setObj O.csHeld held).setOct O.csDigest (match c.loaded with | some b => sha3 b | none => [])

/-- Replace the change-set state. -/
def Lane.setCs (l : Lane) (c : CsSt) : Lane := ({ l with cs := c }).csShow

/-- Held authorisations are discarded (R403). -/
def Lane.dropAuths (l : Lane) : Lane := l.setCs { l.cs with eng := none, fs := none }

/-- Bytes written to CS_IMAGE (R402 step 2): true unless the value became complete and does not load. -/
def Lane.writeCs (l : Lane) (off : Nat) (data : List Byte) : Bool × Lane :=
  let data := data.take (65536 - off)
  let img := memWriteAll l.cs.img off data
  let filled := extent (if off = 0 then 0 else l.cs.filled) off data.length
  let len := be (memReadAll img 0 0x40) 0xC 4
  let c := { l.cs with img := img, filled := filled, loaded := none, eng := none, fs := none }
  if filled < 0x10 ∨ filled < len then (true, l.setCs c)
  else
    let b := memReadAll img 0 (min len 65536)
    if l.csLoads b then (true, l.setCs { c with loaded := some b }) else (false, l.setCs { c with filled := 0 })

/-- CS_IMAGE (R402, R405): refused in Blank and Retired, and while a nonce is to be committed. -/
def execCsImage (l : LaneId) (off : Nat) (data : List Byte) (t : Nat) (s : State) : Host.Outcome State Fault Refusal :=
  onLaneAt l t s fun x =>
    if x.lcAllows O.csImage.key && !x.cs.nonceOpen then (x.writeCs off data).2 else x

/-- Does an authorisation verify for a change-set digest (R401, R402 step 3)? -/
def Lane.authOk (l : Lane) (d b : List Byte) : Bool :=
  let k := be b 7 1
  let key := if 1 < k then [] else match be b 6 1 with
    | 1 => l.oct (O.roleEngKey k)
    | 2 => l.oct (O.roleFsKey k)
    | _ => []
  decide (b.length = 2484) && decide (be b 0 4 = 0x534B4155) && decide (be b 4 2 = 1) && decide (slice b 8 32 = d)
  && zeros b 0x28 24 && decide (key ≠ []) && sigOk key (b.take 0x40) "SKT3-AUTH" (slice b 0x40 2420)

/-- 24 hours in nanoseconds. -/
def dayNs : Nat := 86400000000000

/-- An authorisation presented more than 24 h before an instant is discarded (R402 step 4, R403). -/
def freshAuth (a : Option AuthRec) (t : Nat) : Option AuthRec :=
  match a with
  | some x => if x.at_ + dayNs < t then none else some x
  | none => none

/-- Answer the request that a change answers, if there is one. -/
def Lane.answerFor (l : Lane) (by_ : Option TxnId) (res : Nat) : Lane :=
  match by_ with
  | some id => l.answerId id res []
  | none => l

/-- A change ends at its originator with a result (R402 steps 5 to 7). -/
def Lane.endChange (l : Lane) (res : Nat) : Lane :=
  match l.cs.run with
  | some r => (l.setCs { l.cs with run := none }).answerFor r.by_ res
  | none => l

/-- Once every present peer has confirmed, the change waits for its commit (R402 step 6). -/
def Lane.changeReady (l : Lane) : Lane :=
  match l.cs.run with
  | some r =>
    if r.confLo = some 0 && r.confHi = some 0 && !r.go then
      { l with cs := { l.cs with run := some { r with go := true } },
               com := { l.com with waiting := l.com.waiting ++ [(.change, csWide r.set_)] } }
    else l
  | none => l

/-- A change begins at its originator (R402 step 5): its entries are judged, and the set goes to every present peer with the
authorisations given. -/
def Lane.startChange (l : Lane) (me : LaneId) (pl : Peer → Lane) (b auths : List Byte) (at_ : Nat) (by_ : Option TxnId) :
    Lane :=
  let c := l.csJudge me pl true b
  if c ≠ 0 then (l.noteLcFail me pl true b).answerFor by_ c
  else
    let l := (bothPeers.filter l.hears).foldl (fun l p => l.sendUpdate me p 3 0 0 (b ++ auths)) l
    let conf := fun p => if l.hears p then none else some 0
    let run : CsRun := ⟨b, at_ + 10000000, conf .lo, conf .hi, false, by_⟩
    (l.setCs { l.cs with run := some run }).changeReady

/-- CS_AUTH at its presentation instant (R402 steps 3 to 5): the result of the write at once, or none where it completes the
authorisation and is answered later. -/
def Lane.presentAuth (l : Lane) (me : LaneId) (pl : Peer → Lane) (b : List Byte) (at_ : Nat) (by_ : Option TxnId) :
    Option Nat × Lane :=
  match l.cs.loaded with
  | none => (some 5, l)
  | some set =>
    if !l.authOk (sha3 set) b then (some 5, l)
    else
      let role := be b 6 1
      let eng := if role = 1 then some ⟨b, at_⟩ else freshAuth l.cs.eng at_
      let fs := if role = 2 then some ⟨b, at_⟩ else freshAuth l.cs.fs at_
      let l := l.setCs { l.cs with eng := eng, fs := fs }
      match eng, fs with
      | some e, some f =>
        if l.cs.run.isSome then (some 0, l) else (none, l.startChange me pl set (e.bytes ++ f.bytes) at_ by_)
      | _, _ => (some 0, l)

/-- CS_AUTH (R402). -/
def execCsAuth (l : LaneId) (auth : List Byte) (t : Nat) (s : State) : Host.Outcome State Fault Refusal :=
  onLanePeers l t s fun pl x => if x.lcAllows O.csAuth.key then (x.presentAuth l pl auth t none).2 else x

/-- CS_APPLY of a loaded set (R405): the result of the write at once, or none where a change begins. -/
def Lane.applyCs (l : Lane) (me : LaneId) (pl : Peer → Lane) (at_ : Nat) (by_ : Option TxnId) : Option Nat × Lane :=
  match l.cs.loaded with
  | none => (some 4, l)
  | some set => if l.cs.run.isSome then (some 4, l) else (none, l.startChange me pl set [] at_ by_)

/-- CS_APPLY (R405): 1 in Assembly. -/
def execCsApply (l : LaneId) (v : BitVec 8) (t : Nat) (s : State) : Host.Outcome State Fault Refusal :=
  onLanePeers l t s fun pl x => if x.obj O.lcStateObj = 1 && v = 1 then (x.applyCs l pl t none).2 else x

/-- CS_CONFIRM_TIMEOUT (R402 step 5). -/
def execCsConfirmTimeout (l : LaneId) (t : Nat) (s : State) : Host.Outcome State Fault Refusal :=
  onLaneAt l t s fun x =>
    match x.cs.run with
    | some r => if !r.go && decide (r.until_ ≤ t) then x.endChange 5 else x
    | none => x

/-- AUTHORISATION_EXPIRY (R403). -/
def execAuthorisationExpiry (l : LaneId) (fleetSafety : Bool) (t : Nat) (s : State) : Host.Outcome State Fault Refusal :=
  onLaneAt l t s fun x =>
    if fleetSafety then x.setCs { x.cs with fs := freshAuth x.cs.fs t } else x.setCs { x.cs with eng := freshAuth x.cs.eng t }

/-- A part of a transfer joins the parts before it: what is held then, and the body once it is whole (R420). -/
def takePart (old : Option Xfer) (f : UpdateFrame) : Option Xfer × Option (List Byte) :=
  let k := f.part.toNat % 0x8000
  let held := match old with
    | some x => if x.id = f.xferId.toNat && x.next = k then some x.body else none
    | none => none
  match (if k = 0 then some [] else held) with
  | none => (none, none)
  | some b =>
    let b := b ++ f.body
    if f.part.toNat < 0x8000 then (some ⟨f.xferId.toNat, k + 1, b⟩, none)
    else (none, if b.length = f.totalLen.toNat then some b else none)

/-- A peer judges a forwarded change set (R402 step 5): the result it confirms with. -/
def Lane.judgeForward (l : Lane) (me : LaneId) (pl : Peer → Lane) (b : List Byte) : Nat :=
  let len := be b 0xC 4
  let set := b.take len
  let rest := b.drop len
  let lc := l.obj O.lcStateObj
  if lc = 0 || lc = 5 then 9
  else if !l.csLoads set then 4
  else if rest = [] && lc = 1 then l.csJudge me pl false set
  else
    let e := rest.take 2484
    let f := rest.drop 2484
    if l.authOk (sha3 set) e && be e 6 1 = 1 && l.authOk (sha3 set) f && be f 6 1 = 2 then l.csJudge me pl false set else 5

/-- CS_FORWARD (R402 step 5): the peer verifies, judges and confirms. -/
def execCsForward (l : LaneId) (rx : BirixRx) (f : UpdateFrame) (s : State) : Host.Outcome State Fault Refusal :=
  onLanePeers l (rx.fin.getD rx.start) s fun pl x =>
    if !updateOk l rx f || !x.netUp || f.kind ≠ 3 then x else
    let (held, whole) := takePart (match rx.peer with | .lo => x.cs.inLo | .hi => x.cs.inHi) f
    let x := { x with cs := match rx.peer with | .lo => { x.cs with inLo := held } | .hi => { x.cs with inHi := held } }
    match whole with
    | none => x
    | some b =>
      let res := x.judgeForward l pl b
      let set := if res = 0 then some (b.take (be b 0xC 4)) else none
      let x := if res = 0 then x else x.noteLcFail l pl false (b.take (be b 0xC 4))
      let x := { x with cs := match rx.peer with | .lo => { x.cs with fwdLo := set } | .hi => { x.cs with fwdHi := set } }
      x.sendUpdate l rx.peer 4 res 0 []

/-- CS_CONFIRM (R402 step 5): a peer's confirmation, or its result. -/
def execCsConfirm (l : LaneId) (rx : BirixRx) (f : UpdateFrame) (s : State) : Host.Outcome State Fault Refusal :=
  onLaneAt l (rx.fin.getD rx.start) s fun x =>
    if !updateOk l rx f || !x.netUp || f.kind ≠ 4 then x else
    match x.cs.run with
    | none => x
    | some r =>
      if r.go then x
      else if f.result ≠ 0 then x.endChange f.result.toNat
      else
        let r := match rx.peer with | .lo => { r with confLo := some 0 } | .hi => { r with confHi := some 0 }
        ({ x with cs := { x.cs with run := some r } }).changeReady

/-- The entry that proposes a nonce. -/
def nonceEntry (n : List Byte) : Entry := { index := 0x9020, sub := 3, ty := 12, value := n }

/-- A new nonce is due in every lane; the lowest-numbered lane present generates and proposes it (R402 step 8). -/
def Lane.renewNonce (l : Lane) (me : LaneId) : Lane :=
  let l := { l with cs := { l.cs with nonceOpen := true } }
  if bothPeers.all fun p => !l.hears p || decide (laneNo me < laneNo (peerId me p)) then
    let e := nonceEntry (l.random32 me)
    { l with com := { l.com with waiting := l.com.waiting ++ [(.nonce, [e])] }, ka := { l.ka with draws := l.ka.draws + 1 } }
  else l

/-- CS_NONCE_RENEW: 1 renews the nonce. -/
def execCsNonceRenew (l : LaneId) (v : BitVec 8) (t : Nat) (s : State) : Host.Outcome State Fault Refusal :=
  onLaneAt l t s fun x => if v = 1 then x.renewNonce l else x

/-- A new nonce is in effect (R402, R403). -/
def Lane.takeNonce (l : Lane) (n : List Byte) : Lane :=
  (({ l with cs := { l.cs with nonceOpen := false } }).setOct O.csNonce n).dropAuths

/-- ATTEST_NONCE (R406): the quote takes its values at the next t5; a new nonce replaces the quote. -/
def execAttestNonce (l : LaneId) (nonce : List Byte) (t : Nat) (s : State) : Host.Outcome State Fault Refusal :=
  onLaneAt l t s fun x =>
    if nonce.length = 32 then { (x.setOct O.attestNonce nonce) with quote := { x.quote with nonce := some nonce } } else x

/-- The signed part of a quote with the values of a t5 (R406). -/
def Lane.quoteBytes (l : Lane) (me : LaneId) (nonce : List Byte) (count : Nat) : List Byte :=
  let cert := if l.oct O.idCert = [] then List.replicate 32 0 else sha3 (l.oct O.idCert)
  bytesBE 4 0x534B4154 ++ bytesBE 2 1 ++ bytesBE 1 (laneNo me) ++ bytesBE 1 (l.obj O.lcStateObj) ++ bytesBE 4 l.unitNo
  ++ bytesBE 1 (l.obj O.fwSlot) ++ [0, 0, 0] ++ bytesBE 8 l.now ++ nonce ++ cert
  ++ imgDigest l.activeSlot.manifest ++ imgDigest l.inactiveSlot.manifest
  ++ imgDigest (bankManifest l.activeBank) ++ imgDigest (bankManifest l.standbyBank) ++ imgDigest l.upd.progActive.manifest
  ++ l.protDigest me ++ bytesBE 16 (l.obj O.rollbackCounters) ++ bytesBE 4 l.fwRev ++ bytesBE 4 count ++ List.replicate 16 0

/-- At a t5 a quote that a nonce asks for takes its values (R406). -/
def Lane.takeQuote (l : Lane) (me : LaneId) : Lane :=
  match l.quote.nonce with
  | none => l
  | some n =>
    let l := l.inc O.quoteCount
    { l with quote := ⟨none, some (l.quoteBytes me n (l.obj O.quoteCount))⟩ }

/-- QUOTE_READY (R406): E7 has signed; the nonce write is answered. -/
def execQuoteReady (l : LaneId) (t : Nat) (s : State) : Host.Outcome State Fault Refusal :=
  onLaneAt l t s fun x =>
    match x.quote.making with
    | none => x
    | some b =>
      let q := b ++ laneSign l (sha3 b) "SKT3-QUOTE"
      (({ x with quote := { x.quote with making := none } }).setOct O.attestQuote q).finish .quote 0 []

/-- An accepted certificate is stored (R393). -/
def Lane.takeEnrol (l : Lane) (cert : List Byte) : Lane := (l.setOct O.enrolCert cert).nvDue O.enrolCert.key

/-- ENROL_CERT (R391 to R393): an accepted certificate is stored, and takes effect at the next start. -/
def execEnrolCert (l : LaneId) (cert : List Byte) (t : Nat) (s : State) : Host.Outcome State Fault Refusal :=
  onLaneAt l t s fun x =>
    if x.lcAllows O.enrolCert.key && x.enrolOk l cert then x.takeEnrol cert else x

/-- Images below their counter are no longer eligible (R398). -/
def Lane.dropOld (l : Lane) : Lane :=
  let l := if imgVersion l.inactiveSlot < l.rollback 0 then l.setInactive { l.inactiveSlot with eligible := false } else l
  let l := if be (bankManifest l.standbyBank) 8 4 < l.rollback 1 then l.setStandbyEligible false else l
  if imgVersion l.upd.progStaged < l.rollback 2 then
    { l with upd := { l.upd with progStaged := { l.upd.progStaged with eligible := false } } }
  else l

/-- Rollback counters rise (R398): each to the larger of its value and the one given, one advance of its kind used. -/
def Lane.advance (l : Lane) (v : List Nat) : Lane :=
  ((List.range 4).foldl (fun l k =>
    let x := nth v k
    if x ≤ l.rollback k then l
    else
      let l := l.setObj O.rollbackCounters (putBits (l.obj O.rollbackCounters) (32 * (3 - k)) 32 x)
      l.setObj O.rollbackLeft (putBits (l.obj O.rollbackLeft) (16 * (3 - k)) 16 (l.arr16 O.rollbackLeft 4 k - 1))) l).dropOld

/-- ROLLBACK_ADVANCE (R398). -/
def execRollbackAdvance (l : LaneId) (v : List (BitVec 32)) (t : Nat) (s : State) : Host.Outcome State Fault Refusal :=
  onLaneAt l t s fun x =>
    let v := v.map fun b => b.toNat
    if v.length = 4 && x.rollbackOk v then x.advance v else x

/-- A life-cycle state is entered (R408), and its claim is judged from the next t5 (R409); on entry to Retired no image is eligible for update
any more, and the lane does not claim (R410). -/
def Lane.enterLc (l : Lane) (to_ : Nat) : Lane :=
  let l := ({ l with claim := { l.claim with lcAt := some l.now } }).setObj O.lcStateObj to_
  if to_ ≠ 5 then l
  else
    let off := fun (x : ImgSlot) => { x with eligible := false }
    let l := { l with upd := { l.upd with slotA := off l.upd.slotA, slotB := off l.upd.slotB, progStaged := off l.upd.progStaged },
                      mx := { l.mx with eligible0 := false, eligible1 := false } }
    (l.ceaseSteer.openBrakes.dropClaim).setRbit Rg.mxStat 3 false

/-- Enrolment at a start (R392, R393): a certificate that is accepted gives the Unit Number. -/
def Lane.startEnrol (l : Lane) (me : LaneId) : Lane :=
  let c := l.oct O.enrolCert
  if c = [] then l.setObj O.enrolState 0
  else if l.enrolOk me c then (l.setObj O.enrolState 1).setObj O.unitNumber (be c 0x18 4)
  else l.setObj O.enrolState 2

end Sys2Proof.Machine
end

