-- ==== Sys2Proof/Machine/Power.lean ====
section
/-!
DEFINITION. Power states, wake and start-up (R431 to R450), the start of a lane (R381, R382, R397, R414, R424, R453), the
in-run self-test slices (R446, R447) and the supplies (R474). Assumption logs 67 to 71.
-/
namespace Sys2Proof.Machine

/-- PWR_STAT STATE: 0 Run, 1 Hold, 2 Doze, 3 Park, 4 Off (R449). -/
def Lane.pwState (l : Lane) : Nat := l.fld Rg.pwrStat 0 3

/-- Write STATE. -/
def Lane.setPw (l : Lane) (v : Nat) : Lane := l.setFld Rg.pwrStat 0 3 v

/-- Write STEP. -/
def Lane.setStep (l : Lane) (v : Nat) : Lane := l.setFld Rg.pwrStat 7 4 v

/-- The pending target (R437). -/
def Lane.pend (l : Lane) : Option Nat := if l.rbit Rg.pwrStat 6 then some (l.fld Rg.pwrStat 3 3) else none

/-- Write the pending register (R437). -/
def Lane.setPend (l : Lane) (o : Option Nat) : Lane :=
  match o with
  | some v => (l.setFld Rg.pwrStat 3 3 v).setRbit Rg.pwrStat 6 true
  | none => (l.setFld Rg.pwrStat 3 3 0).setRbit Rg.pwrStat 6 false

/-- Do samples run: powered, a passed self-test, Run or Hold? (R431, R442) -/
def Lane.up (l : Lane) : Bool := l.powered && l.netUp

/-- A lane below Hold on its way down, or standing aside, sends STATUS bit 2 (R39, R417, R434). -/
def Lane.withdrawn (l : Lane) : Bool :=
  l.claim.aside || (match l.pwr.target with | some x => decide (2 ≤ x) | none => false)

/-- Step 1 of R434: claim 0 from the next claim frame. -/
def Lane.withdraw (l : Lane) : Lane := l.dropClaim

/-- The code of R433 that refuses a lower state, 0 for none. -/
def Lane.judgeLower (l : Lane) (r : Nat) : Nat :=
  if !l.parkHeld then 1
  else if 3 ≤ r && l.obj O.fwTrial = 1 then 2
  else if l.com.own.isSome || l.com.held.isSome || l.com.waiting ≠ [] || l.cs.run.isSome then 3
  else 0

/-- Does a wake still run: supply on, self-test, clocks, until the lane has re-qualified? An error ends it. (R437) -/
def Lane.wakeRuns (l : Lane) : Bool := l.pwr.waking && !l.coll.error

/-- A request is judged at a t5 (R433, R437). -/
def Lane.judgePower (l : Lane) : Lane :=
  match l.pwr.request with
  | none => l
  | some r =>
    let l := { l with pwr := { l.pwr with request := none } }
    let st := l.pwState
    let c := if st < r then l.judgeLower r else 0
    if c ≠ 0 then l.setObj O.pwrRefuse c
    else match l.pwr.target with
      | some x => if r = x then l else l.setPend (some r)
      | none =>
        if r = st then l
        else if r < st then (l.setPw r).setFld Rg.pwrCtl 0 3 r
        else if l.wakeRuns then l.setPend (some r)
        else
          let l := { l with pwr := { l.pwr with target := some r, refusedFrom := none, retryAt := none } }
          if 2 ≤ r then l.withdraw.setStep 1 else l.setStep 2

/-- A pending lower target is taken at a step boundary; the sequence goes on with the steps that it needs (R437). -/
def Lane.takeLower (l : Lane) : Lane :=
  match l.pwr.target, l.pend with
  | some x, some p =>
    if p ≤ x then l else
    let l := ({ l with pwr := { l.pwr with target := some p } }).setPend none
    if 2 ≤ p && decide (x < 2) then l.withdraw.openContactors else l
  | _, _ => l

/-- Steps 2 and 3 of R434 at a reload: the steering stage ceases driving, and the HV contactors open. -/
def Lane.powerReload (l : Lane) : Lane :=
  match l.pwr.target with
  | none => l
  | some x =>
    if 3 ≤ l.fld Rg.pwrStat 7 4 then l else
    let l := l.ceaseSteer
    (if 2 ≤ x then (l.openContactors).setStep 3 else l.setStep 3).takeLower

/-- Why a block of R435 refuses, as far as the state shows it: a swap or a bank check, a stage that drives, turns off softly or
is diagnosed, contactors that are energised or in sequence, frames, transactions and key agreements, E7 at work, commits and
transfers. -/
def Lane.blockBusy (l : Lane) (b : Nat) : Bool :=
  let port := fun (p : PortSt) => p.queue ≠ [] || p.tx.isSome || p.cut.isSome
  match b with
  | 1 => l.mx.swap.isSome || l.mx.checking
  | 2 => allStages.any fun st => (l.stg st).driving || (l.stg st).softFrom.isSome || (l.stg st).diagRun
  | 3 => l.sio.kp.on || l.sio.kn.on || l.sio.pre.on || (l.ctState ≠ 0 && l.ctState ≠ 6)
  | 4 => port l.net.a || port l.net.b || l.txn.opened ≠ [] || l.ka.phase.busy
  | 5 => l.quote.making.isSome || l.obj O.fwInstallState = 1 || l.obj O.progState = 1 || l.mx.checking
      || l.ka.phase = .hello || l.ka.phase = .confirmed
  | _ => l.com.own.isSome || l.com.held.isSome || l.com.inLo.isSome || l.com.inHi.isSome || l.cs.inLo.isSome
      || l.cs.inHi.isSome || l.cs.run.isSome

/-- A block refuses (R435, R436): the stopped blocks restart, and the wait returns with status refused. -/
def Lane.refusedBy (l : Lane) (b : Nat) (timeout : Bool) : Lane :=
  let l := ((l.setFld Rg.pwrStat 11 3 3).setFld Rg.pwrStat 14 4 b).setRbit Rg.pwrStat 18 timeout
  let l := if 3 ∈ l.pwr.stopped then l.startSio else l
  ({ l with pwr := { l.pwr with stopped := [], asking := none, refusedFrom := some (l.pwr.refusedFrom.getD l.now),
                                retryAt := some (l.now + 10000000) } }).mbxRelease

/-- The clocks restart at a wake from Doze: words that waited for them are delivered (R26), contactors close again, and the lane
re-qualifies under R59. -/
def Lane.wakeDoze (l : Lane) (hold : Bool) : Lane :=
  let l := (((l.setPw 0).setFld Rg.pwrCtl 0 3 0).setFld Rg.pwrStat 11 3 2).setStep 10
  let l := { l with pwr := { l.pwr with waking := true, wokeAt := l.now, holdAfter := hold },
                    smp := { l.smp with takeNo := true } }
  l.mbxRelease.startSio.closeContactors.requalify

/-- A wake of a lane in Park or Off (R438, R439): the lowest code of several is recorded with MULTI; without its supply the
wake stays latched. -/
def Lane.wakeUp (l : Lane) (src cmd : Nat) : Lane :=
  let old := l.reg Rg.sumpWakeLast
  let multi := l.pwr.waking || l.pwr.wakeLatched
  let w := if multi then min (bits old 0 4) src + 16 * (if cmd = 0 then bits old 4 3 else cmd) + 128 else src + 16 * cmd
  let l := (l.setReg Rg.sumpWakeLast w).setStep 7
  { l with pwr := { l.pwr with waking := l.pwr.supplyOk, wakeLatched := !l.pwr.supplyOk,
                               wokeAt := if multi then l.pwr.wokeAt else l.now,
                               holdAfter := decide (cmd = 2) || (multi && l.pwr.holdAfter) } }

/-- The target is entered, E0 last (R435, R434 step 6); a pending higher target wakes the lane at once (R437). -/
def Lane.enterPower (l : Lane) (me : LaneId) (x : Nat) : Lane :=
  let up := l.pend
  let l := { l with pwr := { l.pwr with target := none, stopped := [], refusedFrom := none, retryAt := none } }
  let l := ((l.setPend none).setStep 0).setPw x
  if x = 1 then
    let l := l.setFld Rg.pwrStat 11 3 1
    if up = some 0 then (l.setPw 0).setFld Rg.pwrCtl 0 3 0 else l
  else if x = 2 then
    let l := l.stopCapture.stopScrubs
    match up with
    | some p => l.wakeDoze (decide (p = 1))
    | none => l
  else
    let l := if x = 3 then l.inc O.parkEntries else l
    let l := if x = 3 then l.storeNv me [O.parkEntries.key] else l
    let l := ((l.stopCapture.closeSession.dropAuths).drvAllOff).setReg Rg.sumpEvict 0
    let l := { l with powered := false }
    let l := if l.pwr.sumpOk then l else l.setPw 4
    match up with
    | some p => ({ l with pwr := { l.pwr with waking := true, wokeAt := l.now, holdAfter := decide (p = 1) } }).setStep 7
    | none => l

/-- The prepare phase of R435 over the blocks that remain, with their answers. -/
def Lane.prepare (me : LaneId) (x : Nat) (ans : List Answer) : List Nat → Lane → Lane
  | [], l => l.enterPower me x
  | b :: bs, l =>
    if l.blockBusy b then l.refusedBy b false
    else match ans.getD (b - 1) .silent with
      | .agree =>
        let l := l.setRbit Rg.pwrAgree (b - 1) true
        let l := if b = 3 then l.stopSio else l
        Lane.prepare me x ans bs { l with pwr := { l.pwr with stopped := l.pwr.stopped ++ [b] } }
      | .refuse => l.refusedBy b false
      | .silent => { l with pwr := { l.pwr with asking := some b, askedAt := l.now } }

/-- Steps 4 and 5 of R434: what Park and Off store and write to the Sump, MODE, and the agreement. -/
def Lane.agree (l : Lane) (me : LaneId) (ans : List Answer) : Lane :=
  let l := l.takeLower
  match l.pwr.target with
  | none => l
  | some x =>
    let l := if x < 3 then l else
      let l := ((((l.setStep 4).ageLog).storeDue me).storeRo me).copyFaultLog me
      let l := (l.setReg Rg.sumpUnit l.unitNo).setReg Rg.sumpWakeEn (l.obj O.wakeEnable)
      (l.setReg Rg.sumpTimeLo l.now).setReg Rg.sumpTimeHi (l.now / 2 ^ 32)
    let l := ((l.setFld Rg.pwrCtl 0 3 x).setStep 5).setReg Rg.pwrAgree 0
    let l := { l with pwr := { l.pwr with stopped := [], asking := none } }
    Lane.prepare me x ans (if x = 1 then [1, 2] else [1, 2, 3, 4, 5, 6]) l

/-- A request for a state is held for the next t5; 5 to 7 name none (R449, R450). -/
def Lane.requestPower (l : Lane) (v : Nat) : Lane :=
  if v ≤ 4 then { l with pwr := { l.pwr with request := some v } } else l

/-- PWR_REQUEST (R433). -/
def execPwrRequest (l : LaneId) (target : BitVec 8) (t : Nat) (s : State) : Host.Outcome State Fault Refusal :=
  onLaneAt l t s fun x => x.requestPower target.toNat

/-- PWR_MODULE_REQUEST (R433): a request to every lane. -/
def execPwrModuleRequest (target : BitVec 8) (t : Nat) (s : State) : Host.Outcome State Fault Refusal :=
  .next ([LaneId.l1, .l2, .l3].foldl (fun s l =>
    if (s.lane l).powered then
      s.setLane l ((({ s.lane l with now := max (s.lane l).now t } : Lane)).requestPower target.toNat)
    else s) s)

/-- PWR_IDLE_PARK (R433): park held without a session for the time set. -/
def execPwrIdlePark (l : LaneId) (t : Nat) (s : State) : Host.Outcome State Fault Refusal :=
  onLaneAt l t s fun x =>
    match x.pwr.idleFrom with
    | some t0 =>
      if 0 < x.obj O.pwrIdlePark ∧ t0 + 1000000000 * x.obj O.pwrIdlePark ≤ x.now then x.requestPower 3 else x
    | none => x

/-- Since when park has been held without an open session, at a t5. -/
def Lane.idleT5 (l : Lane) : Lane :=
  { l with pwr := { l.pwr with idleFrom :=
      if l.parkHeld && l.sess.num.isNone then some (l.pwr.idleFrom.getD l.now) else none } }

/-- WAIT_INSTRUCTION (R434 step 5, R435). -/
def execWaitInstruction (l : LaneId) (answers : List Answer) (t : Nat) (s : State) : Host.Outcome State Fault Refusal :=
  onLaneAt l t s fun x => x.agree l answers

/-- AGREEMENT_TIMEOUT (R435): a block that has owed its answer for 20 µs has refused. -/
def execAgreementTimeout (l : LaneId) (block : Fin 6) (t : Nat) (s : State) : Host.Outcome State Fault Refusal :=
  onLaneAt l t s fun x => if x.pwr.asking = some (block.val + 1) && decide (x.pwr.askedAt + 20000 ≤ x.now) then x.refusedBy (block.val + 1) true else x

/-- AGREEMENT_RETRY (R436): 10 ms after a refusal. -/
def execAgreementRetry (l : LaneId) (answers : List Answer) (t : Nat) (s : State) : Host.Outcome State Fault Refusal :=
  onLaneAt l t s fun x =>
    match x.pwr.retryAt with
    | some t0 => if t0 ≤ x.now then x.agree l answers else x
    | none => x

/-- REQUEST_ABANDONED (R436): after 1 s of refusals, code 4; the contactors close again, and the lane re-qualifies. -/
def execRequestAbandoned (l : LaneId) (t : Nat) (s : State) : Host.Outcome State Fault Refusal :=
  onLaneAt l t s fun x =>
    match x.pwr.refusedFrom, x.pwr.target with
    | some t0, some tg =>
      if t0 + 1000000000 ≤ x.now then
        let x := { x with pwr := { x.pwr with target := none, refusedFrom := none, retryAt := none, asking := none } }
        let x := ((((x.setStep 0).setPend none).setFld Rg.pwrCtl 0 3 x.pwState)).setObj O.pwrRefuse 4
        if 2 ≤ tg then (if x.coll.error then x.closeContactors else x.closeContactors.requalify) else x
      else x
    | _, _ => x

/-- Is the lane in a state of which a source wakes it, the Sump alive (R438)? -/
def Lane.asleep (l : Lane) : Bool := !l.powered && l.pwr.sumpOk

/-- KEEP_ALIVE_RISE (R438, R448): source 1, in Park and Off. -/
def execKeepAliveRise (l : LaneId) (t : Nat) (s : State) : Host.Outcome State Fault Refusal :=
  onSump l t s fun x =>
    let x := { x with pwr := { x.pwr with sumpOk := true } }
    if x.asleep && decide (3 ≤ x.pwState) then x.wakeUp 1 0 else x

/-- LOGIC_SUPPLY_RISE (R438, R474): source 2, in Park and Off; a latched wake then starts the lane. -/
def execLogicSupplyRise (l : LaneId) (t : Nat) (s : State) : Host.Outcome State Fault Refusal :=
  onSump l t s fun x =>
    let x := { x with pwr := { x.pwr with supplyOk := true } }
    if x.asleep && decide (3 ≤ x.pwState) then x.wakeUp 2 0 else x

/-- SS0_WAKE (R438): source 3, in Park with its enable. -/
def execSs0Wake (l : LaneId) (t : Nat) (s : State) : Host.Outcome State Fault Refusal :=
  onSump l t s fun x => if x.asleep && x.pwState = 3 && x.rbit Rg.sumpWakeEn 1 then x.wakeUp 3 0 else x

/-- CAN_XL_WAKE (R438): source 4, in Park with its enable. -/
def execCanXlWake (l : LaneId) (t : Nat) (s : State) : Host.Outcome State Fault Refusal :=
  onSump l t s fun x => if x.asleep && x.pwState = 3 && x.rbit Rg.sumpWakeEn 2 then x.wakeUp 4 0 else x

/-- Is the lane in Doze? -/
def Lane.dozing (l : Lane) : Bool := l.powered && l.pwState = 2

/-- One count more in a byte of SUMP_BAD, saturating (R439, R449). -/
def Lane.sumpBadUp (l : Lane) (lo : Nat) : Lane := l.setFld Rg.sumpBad lo 8 (min 255 (l.fld Rg.sumpBad lo 8 + 1))

/-- A wake record in Doze (R439). -/
def Lane.noteWake (l : Lane) (src cmd : Nat) : Lane := l.setReg Rg.sumpWakeLast (src + 16 * cmd)

/-- The longest spacer that a wake frame may hold, 150 µs to 300 µs (R440). -/
def spacerMax : Nat := 150000 + Config.wakeSpacer % 150001

/-- The bits of the pulses after a start symbol (R440): each pulse and the spacer before it last at least 0.4 µs, and no spacer lasts too
long; the wires may be low again at the end. -/
def wakeBits : List WakeSeg → Option (List Bool)
  | [] => some []
  | [g] => if g.line = .spacer then some [] else none
  | g :: p :: r =>
    if g.line = .spacer && decide (400 ≤ g.ns ∧ g.ns ≤ spacerMax ∧ 400 ≤ p.ns) then
      match p.line with
      | .one => (wakeBits r).map fun bs => true :: bs
      | .zero => (wakeBits r).map fun bs => false :: bs
      | _ => none
    else none

/-- The word of a wake frame (R440, R441): a start symbol of at least 20 µs and exactly 32 pulses, most significant bit first; what is
no such frame is discarded. -/
def wakeWord : List WakeSeg → Option Nat
  | g :: r =>
    if g.line = .both && decide (20000 ≤ g.ns) then
      match wakeBits r with
      | some bs => if bs.length = 32 then some (bs.foldl (fun (v : Nat) b => 2 * v + b2n b) 0) else none
      | none => none
    else none
  | [] => none

/-- A wake frame is judged (R439, R441); one that names another unit or lane is not counted. -/
def Lane.judgeWake (l : Lane) (me : LaneId) (v : Nat) : Lane :=
  let cmd := bits v 8 3
  let unit := bits v 14 18
  if (crc8 (bytesBE 3 (v / 256))).toNat ≠ v % 256 then l.sumpBadUp 0
  else if (unit ≠ l.reg Rg.sumpUnit && unit ≠ 0x3FFFF) || !bitOf (bits v 11 3) (laneNo me - 1) then l
  else if cmd ≠ 1 && cmd ≠ 2 then l.sumpBadUp 8
  else if !l.rbit Rg.sumpWakeEn 0 then l
  else if l.dozing then (l.noteWake 5 cmd).wakeDoze (decide (cmd = 2))
  else l.wakeUp 5 cmd

/-- WAKE_FRAME (R439 to R441): what the wires carry from a start symbol on, judged at the end of the 32nd pulse, in Doze and Park. -/
def execWakeFrame (l : LaneId) (line : List WakeSeg) (t : Nat) (s : State) : Host.Outcome State Fault Refusal :=
  onSump l t s fun x =>
    if !(x.dozing || (x.asleep && x.pwState = 3)) || !x.pwr.sumpOk then x
    else match wakeWord line with
      | some v => x.judgeWake l v
      | none => x

/-- The MAC address of a port of a lane (chapter Networks). -/
def Lane.macOf (l : Lane) (me : LaneId) (n : Net) : Nat :=
  0x02534B * 2 ^ 24 + l.unitNo * 64 + laneNo me * 16 + (match n with | .netA => 0 | .netB => 8)

/-- ETHERNET_WAKE (R438): source 6, in Doze; the frame is discarded. -/
def execEthernetWake (l : LaneId) (cls : BitVec 4) (dstMac : BitVec 48) (net : Net) (t : Nat) (s : State) :
    Host.Outcome State Fault Refusal :=
  onLaneAt l t s fun x =>
    if x.dozing && (cls = 1 || cls = 3 || cls = 6) && decide (dstMac.toNat = x.macOf l net) then (x.noteWake 6 0).wakeDoze false
    else x

/-- A trial fails (R414): the boot slot goes back, the trial's image is not eligible, and the failure counts. -/
def Lane.failTrial (l : Lane) (me : LaneId) : Lane :=
  let off := fun (x : ImgSlot) => { x with eligible := false }
  let l := if l.upd.trialFw then
      let b := l.obj O.fwSlot
      let l := { l with upd := if b = 1 then { l.upd with slotB := off l.upd.slotB } else { l.upd with slotA := off l.upd.slotA } }
      l.setObj O.fwBootSlot (1 - b)
    else l
  let l := if l.upd.trialProg then { l with upd := { l.upd with progActive := l.upd.progPrev, progPrev := {} } } else l
  let l := { l with upd := { l.upd with trialFw := false, trialProg := false, trialFailed := true, trialNext := false } }
  (l.inc O.fwTrialFails).storeNv me [O.fwBootSlot.key, O.fwTrialFails.key]

/-- The failure record of boot verification (R445). -/
def bootFailure : SelftestRecord :=
  { block := 7, test := 4, memory := 0xFF, bit := 0xFF, address := 0, element := 0, expected := 0, measured := 0 }

/-- Objects that live in the key store, the cartridge or the base, and so survive a restart; the variant code as it was read last. -/
def keptObjs : List O.Obj :=
  [O.lcStateObj, O.quoteCount, O.rollbackCounters, O.rollbackLeft, O.cartridgeHwRev, O.fwBootSlot, O.variantCode]

/-- Byte strings that survive a restart. -/
def keptOcts : List O.Obj := [O.idPublicKey, O.idCert, O.cartridgeSerial]

/-- Registers of the Sump (R449). -/
def sumpRegs : List Rg.Reg :=
  [Rg.sumpWakeLast, Rg.sumpWakeEn, Rg.sumpUnit, Rg.sumpBad, Rg.sumpTimeLo, Rg.sumpTimeHi, Rg.sumpEvict]

/-- The lane right after reset, with what survives a restart (R57, R58, R95, R438; non-volatile memory, key store, the words of the
coefficient memory, cartridge, the short that the stage's comparator has latched). MX_STAT is at its reset values (R159). -/
def Lane.fresh (old : Lane) : Lane :=
  let l : Lane :=
    { now := old.now
      nv := { old.nv with due := [], stage := [], stageLen := 0, checkSpoilt := false, roBase := [] }
      upd := { slotA := old.upd.slotA, slotB := old.upd.slotB, img := old.upd.img, filled := old.upd.filled,
               progActive := old.upd.progActive, progPrev := old.upd.progPrev, progStaged := old.upd.progStaged,
               progImg := old.upd.progImg, progFilled := old.upd.progFilled, trialNext := old.upd.trialNext,
               trialFailed := old.upd.trialFailed, trialAt := old.now }
      mx := { bank0 := old.mx.bank0, bank1 := old.mx.bank1 }
      brk := { drv := old.brk.drv.map fun d => { moved := d.moved } }
      ka := { draws := old.ka.draws }
      gate := { porSince := true }
      peerLo := { lineIn := old.peerLo.lineIn }
      peerHi := { lineIn := old.peerHi.lineIn }
      pwr := { waking := true, holdAfter := old.pwr.holdAfter, sumpOk := old.pwr.sumpOk, selftest := .running,
               wokeAt := if old.pwr.waking then old.pwr.wokeAt else old.now, releasedAt := old.now } }
  let l := keptObjs.foldl (fun l o => l.setObj o (old.obj o)) l
  let l := keptOcts.foldl (fun l o => l.setOct o (old.oct o)) l
  let l := sumpRegs.foldl (fun l r => l.setReg r (old.reg r)) l
  let l := l.setFld Rg.gdStat 0 3 (old.fld Rg.gdStat 0 3)
  let l := l.setRbit Rg.gdStat 12 (old.rbit Rg.gdStat 12)
  ((l.setObj O.wakeBadFrames (l.reg Rg.sumpBad)).setReg Rg.sumpBad 0).setStep 8

/-- A firmware slot: 0 A, 1 B. -/
def Lane.fwSlotOf (l : Lane) (b : Nat) : ImgSlot := if b = 1 then l.upd.slotB else l.upd.slotA

/-- The code of R396 with which the verification of a firmware slot ends at a start (R397): by the values that the lane's images give, and
the counters and the key store; the bytes of a slot written at manufacture are not stated, and it passes. -/
def Lane.verifySlot (l : Lane) (me : LaneId) (b : Nat) : Nat :=
  let x := l.fwSlotOf b
  if x.made then 0 else ((l.loadNv me).startEnrol me).verifyImage me 1 x.manifest x.content 0

/-- Choice of the boot slot, with the trial of R414: the slot that FW_BOOT_SLOT names, then the other one if it fails its verification
(R397). -/
def Lane.bootSlot (l : Lane) (me : LaneId) : Lane :=
  let old := l
  let ok := fun (b : Nat) => decide (old.verifySlot me b = 0)
  let b := l.obj O.fwBootSlot
  let l := l.setObj O.imgVerifyLast (old.verifySlot me (if ok b then b else 1 - b))
  let prog := l.upd.progStaged.eligible
  let l := if prog then
      { l with upd := { l.upd with progPrev := l.upd.progActive, progActive := l.upd.progStaged, progStaged := {} } }
    else l
  let trial := l.upd.trialNext || prog
  let l := { l with upd := { l.upd with trialFw := l.upd.trialNext, trialProg := prog, trialNext := false } }
  if ok b then
    let l := (l.setObj O.fwSlot b).setObj O.fwTrial (if trial then 1 else if l.upd.trialFailed then 3 else 0)
    { l with upd := { l.upd with trialFailed := false } }
  else
    let l := l.setObj O.fwSlot b
    let l := if l.upd.trialFw then l.failTrial me else l
    let l := { l with upd := { l.upd with trialFailed := false } }
    if ok (1 - b) then (l.setObj O.fwSlot (1 - b)).setObj O.fwTrial (if trial then 3 else 0)
    else
      (({ l with pwr := { l.pwr with selftest := .failed, records := [bootFailure] } }).setObj O.selftestFails 1).setObj
        O.selftestState 3

/-- A cartridge is fitted in place of the lane's (R379, R425): its non-volatile memory, key store, firmware, program and banks are those of
the lane from then on. Its identity certificate counts where the lane accepts it (R392); a slot is eligible where it holds an image. -/
def Lane.fit (l : Lane) (me : LaneId) (c : Cartridge) : Lane :=
  let img := fun (p : List Byte × List Byte) => ({ manifest := p.1, eligible := decide (p.1 ≠ []), content := p.2 } : ImgSlot)
  let l := { l with
    nv := { cal := c.calibration, factory := c.factory, factoryOk := c.factoryOk, copyA := c.copyA, copyB := c.copyB }
    upd := { slotA := img c.fwA, slotB := img c.fwB, progActive := img c.program }
    mx := { bank0 := memWriteAll [] 0 c.bank0, bank1 := memWriteAll [] 0 c.bank1 } }
  let l := ((((l.setObj O.lcStateObj c.lcState.val).setObj O.quoteCount c.quotes.toNat).setObj O.rollbackCounters c.rollback.toNat).setObj
    O.rollbackLeft c.rollbackLeft.toNat).setObj O.cartridgeHwRev c.hwRev.toNat
  let l := (((l.setOct O.cartridgeSerial (padTo 12 c.serial)).setOct O.idPublicKey (padTo 1312 c.idKey)).setObj O.fwBootSlot 0).setObj
    O.fwTrial 0
  l.setOct O.idCert (if l.idCertOk me c.idCert then c.idCert else [])

/-- Is a restart due: after FW_ACTIVATE once the contactors that it opens are open (R289, R418)? -/
def Lane.restartDue (l : Lane) : Bool :=
  l.pwr.restart && !(l.obj O.updState = 3 && (l.sio.kp.on || l.sio.kn.on || l.sio.pre.on))

/-- RESET_RELEASE (R397, R414, R442): the first start, a restart that is due, or a lane that wakes with its supply on. A trial
that has not been confirmed fails first. A cartridge that has been fitted since the last start is the lane's. -/
def execResetRelease (l : LaneId) (t : ResetAt) (s : State) : Host.Outcome State Fault Refusal :=
  onSump l t.t s fun x =>
    let go := if x.powered then decide (x.pwr.selftest = .notRun) || x.restartDue else x.pwr.waking && x.pwr.supplyOk
    if !go then x else
    let x := match t.cartridge with | some c => x.fit l c | none => x
    let x := if x.obj O.fwTrial = 1 then x.failTrial l else x
    (x.fresh.setObj O.selftestState 1).bootSlot l

/-- E0 loads engine E2 + k before its release (R453): the section of the active program image where that is present, otherwise the
default of the active firmware slot, with the entry address. -/
def Lane.loadEngine (l : Lane) (k : Nat) : Lane :=
  let img := l.upd.progActive
  let c := img.content
  let a := 0x10 + 16 * k
  let (code, entry) :=
    if img.eligible && bitOf (be c 6 1) k then ((c.drop (be c a 4)).take (be c (a + 4) 4), be c (a + 8) 4)
    else (Config.defaultProgram k (l.obj O.fwSlot), Config.defaultEntry k (l.obj O.fwSlot))
  { l with eng := { l.eng with mem := memWriteAll l.eng.mem (0x12000000 + 0x1000000 * k) (code.take 65536),
                               entry := l.eng.entry.set k entry } }

/-- The self-test is over and did not hold the lane (R442): variant, NV images, enrolment, the copies of objects, dead times,
engines, drives, Birix and re-qualification. -/
def Lane.startUp (l : Lane) (me : LaneId) (variant : Nat) : Lane :=
  let l := l.setObj O.variantCode variant
  let l := if l.obj O.lcStateObj = 0 && l.oct O.idPublicKey = [] then
      l.setOct O.idPublicKey (padTo 1312 (Config.idPublicKey (laneNo me))) else l
  let l := ((l.loadNv me).startEnrol me).copyAll
  let l := allStages.foldl (fun l st => (List.range 6).foldl (fun l sw => l.setDt st sw (l.dtInit st)) l) l
  let l := [2, 3, 4].foldl (fun l e =>
    let l := ((l.loadEngine (e - 2)).setRbit Rg.engCtl e true).setRbit Rg.engStat e true
    { l with eng := { l.eng with relAt := l.eng.relAt.set e l.now } }) l
  let l := (((l.setObj O.laneNumber (laneNo me)).startDrives me).setStep 10).setObj O.updState 4
  let l := (({ l with sio := { l.sio with nextImg := some (l.oct O.sioSchedule) } }).takeImage.startSio).testEnable
  let l := { l with smp := { listening := true, listenUntil := l.now + 2000000 * laneNo me } }
  ((l.requalify.announce me).setRbit Rg.gdStat 14 false).diagDueAll

/-- The bit that an element of the March C− test expects in every place of a codeword (R444): its elements are write 0 in either order; read
0, write 1 and read 1, write 0 upwards; the same two downwards; read 0. Element 1 reads nothing. -/
def marchBit (element : Nat) : Option Bool :=
  match element with
  | 2 => some false
  | 3 => some true
  | 4 => some false
  | 5 => some true
  | 6 => some false
  | _ => none

/-- A reference of the loop-back in microvolt (R444). -/
def loopRef : LoopRef → Nat
  | .low => 1250000
  | .high => 3750000
  | .sine => Config.sineRef

/-- The stated tolerance of a comparator at a nominal level in thousandths of its unit (R105, R197, R255, R444). -/
def compTol (c : LoopComp) (nominal : Nat) : Nat :=
  match c with
  | .limit => 4000 + nominal / 20
  | .gross => nominal / 10
  | .bermLevel3 => nominal / 200 + 3000
  | .lockout => Config.lockoutTol nominal

/-- Does a value lie within a distance of another? -/
def near (a b d : Nat) : Bool := decide (a ≤ b + d) && decide (b ≤ a + d)

/-- Does a reading of the self-test pass (R444)? -/
def readingPasses : SelfReading → Bool
  | .march _ _ e w => match marchBit e with
    | some b => decide (w = if b then BitVec.allOnes 39 else 0)
    | none => true
  | .core second sig => decide (sig.toNat = Config.coreSignature (b2n second) % 2 ^ 64)
  | .input r v => decide (1000 * (max v (loopRef r) - min v (loopRef r)) ≤ 5 * loopRef r)
  | .pattern sent received => decide (sent = received)
  | .converter high v => near v (if high then 3750000 else 1250000) (if high then 11250 else 3750)
  | .edge cmd cross => near cmd cross 16
  | .comparator c nominal found => near nominal found (compTol c nominal)
  | .source two v => near v (if two then 20000000 else 10000000) (if two then 1000000 else 500000)

/-- The first bit of a codeword that differs from the expected one. -/
def failingBit (w : BitVec 39) (b : Bool) : Nat := ((List.range 39).find? fun i => w.getLsbD i ≠ b).getD 0xFF

/-- The record of a reading that fails (R445). -/
def readingRecord : SelfReading → SelftestRecord
  | .march m a e w =>
    let b := (marchBit e).getD false
    ⟨BitVec.ofNat 8 (memoryBlock m), 1, BitVec.ofNat 8 m, BitVec.ofNat 8 (failingBit w b), a, BitVec.ofNat 8 e, BitVec.ofNat 8 (b2n b), 0⟩
  | .core _ sig => ⟨1, 2, 0xFF, 0xFF, 0, 0, 0, BitVec.ofNat 32 sig.toNat⟩
  | .input _ v => ⟨5, 3, 0xFF, 0xFF, 0, 1, 0, BitVec.ofNat 32 v⟩
  | .pattern _ r => ⟨5, 3, 0xFF, 0xFF, 0, 2, 0, BitVec.ofNat 32 (ofBytesBE (r.take 4))⟩
  | .converter _ v => ⟨5, 3, 0xFF, 0xFF, 0, 3, 0, BitVec.ofNat 32 v⟩
  | .edge _ c => ⟨3, 3, 0xFF, 0xFF, 0, 4, 0, BitVec.ofNat 32 c⟩
  | .comparator _ _ f => ⟨4, 3, 0xFF, 0xFF, 0, 5, 0, BitVec.ofNat 32 f⟩
  | .source _ v => ⟨4, 3, 0xFF, 0xFF, 0, 6, 0, BitVec.ofNat 32 v⟩

/-- A failure of the self-test (R445): the lane stays in its reset-safe state; 32 failures are recorded, and all are counted. -/
def Lane.selfFailure (l : Lane) (r : SelfReading) : Lane :=
  let rs := if l.pwr.records.length < 32 then l.pwr.records ++ [readingRecord r] else l.pwr.records
  (({ l with pwr := { l.pwr with selftest := .failed, records := rs } }).inc16 O.selftestFails).setObj O.selftestState 3

/-- SELFTEST_DONE (R442, R444, R445): the self-test is over with its readings; one that fails holds the lane. A variant code that cannot be
read, or a factory image that fails its check, holds the lane in its reset-safe state too (R5, R381). The lane number is that of its slot (R6). -/
def execSelftestDone (l : LaneId) (result : SelfResult) (t : Nat) (s : State) : Host.Outcome State Fault Refusal :=
  onLaneAt l t s fun x =>
    if x.pwr.selftest ≠ .running then x else
    let x := (x.setObj O.laneNumber (laneNo l)).setObj O.selftestTimeLast (min 65535 ((x.now - x.pwr.releasedAt) / 10000))
    let bad := result.readings.filter fun r => !readingPasses r
    if !bad.isEmpty then bad.foldl Lane.selfFailure x else
    let x := x.setObj O.selftestState 2
    match result.variant with
    | some v =>
      if x.nv.factoryOk then ({ x with pwr := { x.pwr with selftest := .passed } }).startUp l (v.val + 1)
      else { x with pwr := { x.pwr with selftest := .failed } }
    | none => { x.setObj O.variantCode 0 with pwr := { x.pwr with selftest := .failed } }

/-- SELFTEST_FAIL (R444, R445): a reading of the self-test that fails; one that passes changes nothing. -/
def execSelftestFail (l : LaneId) (r : SelfReading) (t : Nat) (s : State) : Host.Outcome State Fault Refusal :=
  onLaneAt l t s fun x =>
    if (x.pwr.selftest = .running || x.pwr.selftest = .failed) && !readingPasses r then (x.setObj O.laneNumber (laneNo l)).selfFailure r else x

/-- Does a block have a slice at an instant (R156, R446): the matrix island in its gap alone, the comparators while some stage does not
drive? -/
def Lane.sliceMay (l : Lane) (c : Nat) : Bool :=
  match c with
  | 2 => l.sliceGap l.now
  | 4 => allStages.any fun st => !(l.stg st).driving
  | _ => true

/-- The injection of a slice of the fault collector (R309): E0 injects one source that reads idle, which the specification leaves open, for
1 µs; `seen` says whether the collector sees it. While the host injects, E0 does not. -/
def Lane.injectSlice (l : Lane) (seen : Bool) : Lane :=
  let l := l.settleColl
  let idle := (List.range 256).filter fun n => listedSource n && !decide (n ∈ l.coll.asserted) && !l.coll.broken.any fun b => b.1 = n
  let src := idle.getD (Config.sliceSource l.coll.slices % idle.length) 0
  let l := { l with coll := { l.coll with slices := l.coll.slices + 1 } }
  if l.rbit Rg.collInj 8 || src = 0 then l
  else
    let l := (l.setFld Rg.collInj 0 8 src).injectRead src (Config.injData src l.now) seen
    { l with coll := { l.coll with injSeen := false, injOpen := false } }

/-- SELF_TEST_SLICE (R156, R446): a slice of a block ends; a failed one is an error with the block's code. -/
def execSelfTestSlice (l : LaneId) (block : Fin 9) (ok : Bool) (t : Nat) (s : State) : Host.Outcome State Fault Refusal :=
  onLaneAt l t s fun x =>
    let c := block.val + 1
    if !x.up || 2 ≤ x.fld Rg.pwrStat 0 3 || !x.sliceMay c then x else
    let x := { x with pwr := { x.pwr with aborts := x.pwr.aborts.set c 0 } }
    let x := if c = 8 then x.injectSlice ok else x
    if ok then x else x.raise 0x06 c

/-- SLICE_ABORT (R156, R447): the eighth aborted slice of a block in a row is an error. -/
def execSliceAbort (l : LaneId) (block : Fin 9) (t : Nat) (s : State) : Host.Outcome State Fault Refusal :=
  onLaneAt l t s fun x =>
    let c := block.val + 1
    if !x.up || 2 ≤ x.fld Rg.pwrStat 0 3 || !x.sliceMay c then x else
    let n := nth x.pwr.aborts c + 1
    let x := ({ x with pwr := { x.pwr with aborts := x.pwr.aborts.set c (n % 8) } }).inc O.sliceAborts
    if n = 8 then x.raise 0x07 c else x

/-- REQUALIFICATION_SLICE_DONE (R311): the slice of every block after a clear; passed, the lane sends STATUS bit 3 and the
stages run their diagnostics. -/
def execRequalificationSliceDone (l : LaneId) (ok : Bool) (block : Fin 9) (t : Nat) (s : State) :
    Host.Outcome State Fault Refusal :=
  onLaneAt l t s fun x =>
    if !x.coll.requal || x.coll.requalSlice then x
    else if ok then (({ x with coll := { x.coll with requalSlice := true, requalAgree := 0 } }).injectSlice true).startDiag
    else (if block.val = 7 then x.injectSlice false else x).raise 0x06 (block.val + 1)

/-- May FW_ACTIVATE be accepted? (R418, R424) -/
def Lane.activateOk (l : Lane) : Bool :=
  l.claim.aside && (decide (l.obj O.fwInstallState = 2) || l.upd.progStaged.eligible)

/-- FW_ACTIVATE is accepted (R418): boot slot and trial, contactors, session, and the restart. -/
def Lane.activateFw (l : Lane) (me : LaneId) : Lane :=
  let l := if l.obj O.fwInstallState = 2 then
      (({ l with upd := { l.upd with trialNext := true } }).setObj O.fwBootSlot (1 - l.obj O.fwSlot)) else l
  let l := ((l.storeDue me).storeRo me).setObj O.updState 3
  let l := (l.openContactors).closeSession
  { l with pwr := { l.pwr with restart := true } }

/-- FW_ACTIVATE. -/
def execFwActivate (l : LaneId) (v : BitVec 8) (t : Nat) (s : State) : Host.Outcome State Fault Refusal :=
  onLaneAt l t s fun x => if v = 1 && x.activateOk then x.activateFw l else x

/-- FW_TRIAL_TIMEOUT (R414): a trial not confirmed within FW_TRIAL_TIME of the start fails, and the lane restarts. -/
def execFwTrialTimeout (l : LaneId) (t : Nat) (s : State) : Host.Outcome State Fault Refusal :=
  onLaneAt l t s fun x =>
    if x.obj O.fwTrial = 1 && decide (x.upd.trialAt + 1000000 * x.obj O.fwTrialTime ≤ x.now) then
      let x := (x.failTrial l).setObj O.fwTrial 3
      { x.closeSession with pwr := { x.pwr with restart := true } }
    else x

/-- LOGIC_SUPPLY_LOSS (R474): below 14 V, or below 16 V for longer than 100 ms, class LS: the lane stops with its stages safe,
and is off until the supply returns. -/
def execLogicSupplyLoss (l : LaneId) (millivolt heldMs t : Nat) (vTermAbove : Bool) (s : State) :
    Host.Outcome State Fault Refusal :=
  onSump l t s fun x =>
    if 14000 ≤ millivolt && (16000 ≤ millivolt || heldMs ≤ 100) then x
    else
      let x := { x with pwr := { x.pwr with supplyOk := false, wakeLatched := x.pwr.wakeLatched || (!x.powered && x.pwr.waking),
                                            waking := false } }
      if !x.powered then x
      else
        let x := x.seeTerminals vTermAbove
        ({ x.ceaseSteer.openBrakes.dropClaim.drvAllOff with powered := false }).setPw 4

/-- BRAKE_SUPPLY_FAULT (R4, R474): below 36 V or above 62 V for 1 ms, class BS. -/
def execBrakeSupplyFault (l : LaneId) (millivolt t : Nat) (s : State) : Host.Outcome State Fault Refusal :=
  onLaneAt l t s fun x =>
    if x.nDrives = 0 || (36000 ≤ millivolt && millivolt ≤ 62000) then x
    else (({ x with drive := { x.drive with brakePresent := false, brakeOver := decide (62000 < millivolt) } }).openBrakes).bsFault

/-- BRAKE_SUPPLY_RESTORED (R264, R474): back above 38 V, or below 60 V, for 100 ms; the brake stages that still owe their
diagnostics run them. -/
def execBrakeSupplyRestored (l : LaneId) (millivolt t : Nat) (s : State) : Host.Outcome State Fault Refusal :=
  onLaneAt l t s fun x =>
    let ok := if x.drive.brakeOver then decide (millivolt < 60000) else decide (38000 < millivolt)
    if x.nDrives = 0 || x.drive.brakePresent || !ok then x
    else
      (({ x with drive := { x.drive with brakePresent := true, brakeOver := false } }).bsEnd).diagStart

/-- DC_LINK_LOW (R64, R474): below 200 V the steering stage does not drive; class HV once the link has been present. -/
def execDcLinkLow (l : LaneId) (volts t : Nat) (vTermAbove : Bool) (s : State) : Host.Outcome State Fault Refusal :=
  onLaneAt l t s fun x =>
    if 200 ≤ volts then x
    else
      let x := ({ x with drive := { x.drive with linkPresent := false } }).seeTerminals vTermAbove
      let x := x.ceaseSteer
      if x.drive.linkOnce then x.hvFault else x

/-- DC_LINK_PRESENT (R474): above 220 V for 100 ms. -/
def execDcLinkPresent (l : LaneId) (volts t : Nat) (s : State) : Host.Outcome State Fault Refusal :=
  onLaneAt l t s fun x =>
    if 220 < volts then ({ x with drive := { x.drive with linkPresent := true, linkOnce := true } }).hvCheck else x

/-- KEEP_ALIVE_LOSS (R448, R474): the Sump's registers reset; a lane in Park is in Off. -/
def execKeepAliveLoss (l : LaneId) (t : Nat) (s : State) : Host.Outcome State Fault Refusal :=
  onSump l t s fun x =>
    let x := sumpRegs.foldl (fun x r => x.setReg r r.reset) { x with pwr := { x.pwr with sumpOk := false } }
    if x.powered then x
    else ({ x with pwr := { x.pwr with waking := false, wakeLatched := false } }).setPw 4

end Sys2Proof.Machine
end

