-- ==== Sys2Proof/Machine/Actions.lean ====
section
/-!
DEFINITION. What an accepted dictionary write does (R370, R371): the effect of each object that acts, the value for every
other one, and the writes that take effect at a t5. Assumption log 73.
-/
namespace Sys2Proof.Machine

/-- The state that an outcome leaves; an outcome that stops leaves the state as it was. -/
def after (s : State) (o : Host.Outcome State Fault Refusal) : State :=
  match o with
  | .next s' => s'
  | _ => s

/-- A loop number. -/
def loopFin (k : Nat) : Fin 9 := Fin.ofNat 9 k

/-- What a write of `data` to an object that acts does in a lane, as the command of the opcode table that the object stands for;
`id` names the commit that carries the write. None: the object only holds its value. -/
def keyEffect (l : LaneId) (key off : Nat) (data : List Byte) (id : Nat) (x : Lane) :
    Option (State → Host.Outcome State Fault Refusal) :=
  let t := x.now
  let v := ofBytesBE data
  let b8 := BitVec.ofNat 8 v
  let onX := fun (f : Lane → Lane) => some fun (s : State) => onLaneAt l t s f
  let drive := Fin.ofNat 8 (key / 65536 % 16)
  match key with
  | 0x101006 => some (execNvUserReset l b8 t)
  | 0x101101 => some (execNvStage l off data t)
  | 0x101102 => some (execNvStageCheck l b8 t)
  | 0x101105 => some (execNvStageInstall l data t)
  | 0x30050B => if v = 1 then some (execShortRelease l t) else onX fun x => x
  | 0x303105 => some (execCounterReset l 0x3031 0x05 data t)
  | 0x304107 => some (execDiagResultWrite l .steer (BitVec.ofNat 16 v) t)
  | 0x500006 => some (execSpecEn l (decide (v = 1)) t)
  | 0x500101 => some (execCoefStandbyImage l off data t)
  | 0x500102 => some (execCoefStandbyCheck l b8 t)
  | 0x500103 => some (execSwapRequest l (BitVec.ofNat 32 v) t)
  | 0x600001 => some (execSioScheduleWrite l data t)
  | 0x700003 => onX fun x => if v = 1 then x.requestClear else x
  | 0x700006 => some (execRecordReset l b8 t)
  | 0x700007 => some (execInject l (BitVec.ofNat 16 v) (Config.railSeen (laneNo l) (v % 256) t) (BitVec.ofNat 32 (Config.injData (v % 256) t)) t)
  | 0x900002 => onX fun x => x.enterLc v
  | 0x900104 => onX fun x => x.takeEnrol data
  | 0x902003 => onX fun x => x.takeNonce data
  | 0x902004 => some (execCsNonceRenew l b8 t)
  | 0x910001 => some (execCsImage l off data t)
  | 0x910002 => some (execCsAuth l data t)
  | 0x910003 => some (execCsApply l b8 t)
  | 0x920001 => some (execAttestNonce l data t)
  | 0x930002 => some (execRollbackAdvance l ((List.range 4).map fun k => BitVec.ofNat 32 (be data (4 * k) 4)) t)
  | 0xA00001 => onX fun x => x.requestPower v
  | 0xA01001 => some (execPwrRequest l b8 t)
  | 0xB00001 => some (execFwImage l off data t)
  | 0xB00002 => some (execFwInstallCheck l b8 t)
  | 0xB00004 => some (execFwActivate l b8 t)
  | 0xB00101 => some (execProgImage l off data t)
  | 0xB00102 => some (execProgCheck l b8 t)
  | 0xB00201 => onX fun x =>
      if v = 0 then x.endAside else { x with upd := { x.upd with request := some v } }
  | 0xB01101 => some (execSvcWeRetract l b8 t)
  | 0xC00002 => some (execCounterReset l 0xC000 0x02 data t)
  | 0xC00004 => some (execCounterReset l 0xC000 0x04 data t)
  | 0xC00005 => some (execCounterReset l 0xC000 0x05 data t)
  | 0xC0300A => some (execCapTrigNow l t b8)
  | 0xC04001 => onX fun x => x.armCapture v id
  | _ =>
    let ix := key / 256
    let sub := key % 256
    if 0x140001 ≤ key ∧ key ≤ 0x140004 then some (execDoorbell l (Fin.ofNat 4 (key - 0x140001)) (BitVec.ofNat 32 v) t)
    else if 0x2110 ≤ ix ∧ ix ≤ 0x2119 ∧ sub = 5 then some (execVoteStatusReset l (Fin.ofNat 10 (ix - 0x2110)) b8 t)
    else if 0x2210 ≤ ix ∧ ix ≤ 0x2217 ∧ sub = 4 then some (execOutFaultClear l (Fin.ofNat 8 (ix - 0x2210)) b8 t)
    else if 0x4000 ≤ ix ∧ ix < 0x4800 ∧ ix % 256 = 0x20 ∧ sub = 7 then
      some (execDiagResultWrite l (.brake drive) (BitVec.ofNat 16 v) t)
    else if 0x4000 ≤ ix ∧ ix < 0x4800 ∧ ix % 256 = 0 ∧ sub = 4 then
      if v = 1 then some (execBdRestore l drive t) else onX fun x => x
    else if 0x4000 ≤ ix ∧ ix < 0x4800 ∧ ix % 256 = 0 ∧ sub = 0x0B then
      if v = 1 then some (execBdPadChanged l drive t) else onX fun x => x
    else if 0x5010 ≤ ix ∧ ix ≤ 0x5018 ∧ sub = 0x0E then some (execCounterReset l (BitVec.ofNat 16 ix) 0x0E data t)
    else if 0x5010 ≤ ix ∧ ix ≤ 0x5018 ∧ sub = 0x10 then some (execBenchForce l (loopFin (ix - 0x5010)) b8 t)
    else none

/-- An accepted write takes effect in a lane: its object acts, or holds the value, which its unit sees; a store N falls due. -/
def applyKey (l : LaneId) (key off : Nat) (data : List Byte) (id : Nat) (s : State) : State :=
  match keyEffect l key off data id (s.lane l) with
  | some f => (after s (f s)).upd l fun x => x.nvDue key
  | none => s.upd l fun x => ((x.storeValue key data).copyOut key).nvDue key

/-- Is an object stored in the user image? (R371) -/
def isStored (key : Nat) : Bool := match rowOf key with | some r => r.store = .n | none => false

/-- A request whose write is in effect is answered, or waits for its store (R371). -/
def Lane.written (l : Lane) (by_ : Option TxnId) (stored : Bool) : Lane :=
  match by_ with
  | none => l
  | some id => if stored then l.waitFor id .store else l.answerId id 0 []

/-- A lane-targeted write takes effect at a t5; FW_ACTIVATE is answered before it closes the session (R418). -/
def takeWrite (l : LaneId) (s : State) (w : PendWrite) : State :=
  if w.key = O.fwActivate.key then applyKey l w.key w.off w.data 0 (s.upd l fun x => x.written w.by_ false)
  else (applyKey l w.key w.off w.data 0 s).upd l fun x => x.written w.by_ (isStored w.key)

/-- The lane-targeted writes accepted since the last t5 take effect, in the order in which they were accepted (R371). -/
def takeWrites (l : LaneId) (s : State) : State :=
  (s.lane l).writes.foldl (takeWrite l) (s.upd l fun x => { x with writes := [] })

end Sys2Proof.Machine
end

