-- ==== Sys2Proof/Machine/Commit.lean ====
section
/-!
DEFINITION. The module-wide commit, digests and synchronisation (R374 to R378, R385), and the two-party changes, new nonces
and installs that a commit carries (R383, R402). Assumption logs 74 to 77.
-/
namespace Sys2Proof.Machine

/-- Does a frame of a size that is ready now end in the next sample on some link? (R28, R37) -/
def Lane.endsNext (l : Lane) (bytes : Nat) : Nat :=
  b2n (bothPeers.any fun p => decide (l.smp.reloadAt + 4 * l.per .steer < l.linkStart p bytes + birixNs bytes))

/-- An entry in pieces of at most 960 bytes (R375): one that is longer goes as entries of the same object whose values follow one another.
The specification does not say how it is carried. -/
def pieces (e : Entry) : List Entry :=
  if (entryBytes e).length ≤ 960 then [e]
  else (List.range ((e.value.length + 951) / 952)).map fun k => { e with value := slice e.value (952 * k) 952 }

/-- The entries of the parts so far with those of the next part: its first one continues the last where both name one object. -/
def joinParts (es fs : List Entry) : List Entry :=
  match es.getLast?, fs with
  | some a, b :: r =>
    if entryKey a = entryKey b then es.dropLast ++ { a with value := a.value ++ b.value } :: r else es ++ fs
  | _, _ => es ++ fs

/-- Entries in parts of at most 960 bytes (R375); the part under way comes first reversed. -/
def cutParts : List Entry → Nat → List Entry → List (List Entry)
  | cur, _, [] => [cur.reverse]
  | cur, n, e :: es =>
    let k := (entryBytes e).length
    if cur ≠ [] && decide (960 < n + k) then cur.reverse :: cutParts [e] k es else cutParts (e :: cur) (n + k) es

/-- The parts of a proposal. -/
def partsOf (es : List Entry) : List (List Entry) := cutParts [] 0 (es.flatMap pieces)

/-- A dictionary commit frame of the lane (R375). -/
def Lane.commitFrame (l : Lane) (me : LaneId) (phase res id applyAt : Nat) (es : List Entry) (part : Nat) : CommitFrame where
  source := BitVec.ofNat 8 (laneNo me)
  phase := BitVec.ofNat 8 phase
  result := BitVec.ofNat 8 res
  commitId := BitVec.ofNat 32 id
  applySample := BitVec.ofNat 32 applyAt
  setCounter := BitVec.ofNat 32 (l.obj O.dictSetCounter)
  setDigest := l.setDigest me
  nEntries := BitVec.ofNat 16 es.length
  part := BitVec.ofNat 8 part
  entries := es

/-- Send a commit frame to a peer, when the link takes it (R37). -/
def Lane.sendCommit (l : Lane) (p : Peer) (f : CommitFrame) : Lane :=
  let l := l.takeLink p ((commitBytes f).length + 4)
  { l with out := { l.out with commits := l.out.commits ++ [(p, f)] } }

/-- A commit frame that counts: its CRC, its PHASE, and the peer it names (R35, R375). -/
def commitOk (me : LaneId) (rx : BirixRx) (f : CommitFrame) (phase : Nat) : Bool :=
  rx.fin.isSome && decide (rx.crc = crc32 (commitBytes f)) && decide (f.phase.toNat = phase)
  && decide (bits f.source.toNat 0 2 = laneNo (peerId me rx.peer))

/-- An id of the lane's own for a frame that belongs to no commit. -/
def Lane.idleId (l : Lane) (me : LaneId) : Nat := laneNo me * 2 ^ 30 + l.com.count % 2 ^ 30

/-- What a proposal puts on the wire: its module-wide entries. -/
def wireEntries (p : Proposal) : List Entry := p.entries.filter isWide

/-- Part k of the own proposal goes to both peers. -/
def Lane.sendPart (l : Lane) (me : LaneId) (p : Proposal) (k : Nat) : Lane :=
  let ps := partsOf (wireEntries p)
  let f := l.commitFrame me 1 0 p.id p.apply (ps.getD k []) (k + (if k + 1 = ps.length then 128 else 0))
  bothPeers.foldl (fun l q => l.sendCommit q f) l

/-- The part of the own proposal that goes in the present sample, if one does: one part per link per sample (R374). -/
def Lane.partDue (l : Lane) (p : Proposal) : Option Nat :=
  let n := (partsOf (wireEntries p)).length
  let k := samplesFrom ((p.lastSample + 2 ^ 32 + 1 - n) % 2 ^ 32) l.smp.no
  if k < n then some k else none

/-- An install without module-wide entries needs no commit (R383). -/
def Lane.localInstall (l : Lane) (me : LaneId) : Lane :=
  match l.com.waiting with
  | (.install, es) :: rest =>
    if es.any isWide then l else ({ l with com := { l.com with waiting := rest } }).adoptImage me es
  | _ => l

/-- The next proposal that waits starts, when no commit is open in the lane and the sample of a retry has come (R374, R377). -/
def Lane.startProposal (l : Lane) (me : LaneId) : Lane :=
  let l := l.localInstall me
  let free := l.com.own.isNone && l.com.held.isNone
    && (match l.com.retryAt with | some r => notBefore r l.smp.no | none => true)
  match l.com.waiting with
  | [] => l
  | (src, es) :: rest =>
    if !free then l else
    let ps := partsOf (es.filter isWide)
    let late := l.endsNext (64 + (entriesBytes (ps.headD [])).length)
    let last := (l.smp.no + late + ps.length - 1) % 2 ^ 32
    let p : Proposal := ⟨l.idleId me, src, es, last, (last + 7 + ps.length) % 2 ^ 32, false, false, false⟩
    let l := { l with com := { l.com with own := some p, waiting := rest, retryAt := none, count := l.com.count + 1 } }
    if late = 0 then l.sendPart me p 0 else l

/-- ABORT to both peers; the own proposal is no longer open (R374, R377). -/
def Lane.abortOwn (l : Lane) (me : LaneId) : Lane :=
  match l.com.own with
  | none => l
  | some p =>
    let f := l.commitFrame me 5 0 p.id 0 [] 0
    let l := bothPeers.foldl (fun l q => l.sendCommit q f) l
    { l with com := { l.com with own := none } }

/-- The own proposal is aborted, and proposed again in the sample after that of the winning commit (R377). -/
def Lane.retryOwn (l : Lane) (me : LaneId) (winner : Nat) : Lane :=
  match l.com.own with
  | none => l
  | some p =>
    let l := l.abortOwn me
    { l with com := { l.com with waiting := (p.src, p.entries) :: l.com.waiting, retryAt := some ((winner + 1) % 2 ^ 32) } }

/-- The own proposal fails with a result (R374 step 3): its host, or the change, is answered. A nonce is proposed again. -/
def Lane.failOwn (l : Lane) (me : LaneId) (res : Nat) : Lane :=
  match l.com.own with
  | none => l
  | some p =>
    match p.src with
    | .host id => (l.abortOwn me).answerId id res []
    | .change => (l.abortOwn me).endChange res
    | .nonce => l.retryOwn me l.smp.no
    | .install => l.abortOwn me

/-- Present lanes with their set counters and set digests, the own lane among them, in lane order (R378). -/
def Lane.sets (l : Lane) (me : LaneId) : List (Nat × Option Peer × Nat × List Byte) :=
  let own := (laneNo me, (none : Option Peer), l.obj O.dictSetCounter, l.setDigest me)
  let of := fun (p : Peer) (d : Option (Nat × List Byte)) => match d with
    | some d => if l.hears p then [(laneNo (peerId me p), some p, d)] else []
    | none => []
  let all := own :: (of .lo l.com.digLo ++ of .hi l.com.digHi)
  [1, 2, 3].flatMap fun n => all.filter fun x => x.1 = n

/-- The peer whose set R378 chooses where it differs from the lane's own. -/
def Lane.stepPeer (l : Lane) (me : LaneId) : Option Peer :=
  let all := l.sets me
  let top := all.foldl (fun m x => max m x.2.2.1) 0
  let cs := all.filter fun x => x.2.2.1 = top
  let twice := cs.find? fun x => decide (2 ≤ (cs.filter fun y => y.2.2.2 = x.2.2.2).length)
  match (match twice with | some x => some x | none => cs.head?) with
  | some x => if x.2.2.2 = l.setDigest me then none else x.2.1
  | none => none

/-- A lane that is out of step stands aside if it claims, and asks a peer for its set (R378). -/
def Lane.startSync (l : Lane) (me : LaneId) (p : Peer) : Lane :=
  let l := if l.claim.claiming then l.dropClaim.ceaseSteer.openBrakes else l
  let l := l.setObj O.dictSyncState 2
  let l := { l with com := { l.com with syncPeer := some p, syncNext := 0, syncSet := [], syncDone := none, outRun := 0 } }
  l.sendCommit p (l.commitFrame me 7 0 (l.idleId me) 0 [] 0)

/-- A DIGEST is judged, unless a commit is open (R378, R385): out of step at the third in a row. -/
def Lane.judgeDigest (l : Lane) (me : LaneId) : Lane :=
  if !l.com.digestDue || l.com.own.isSome || l.com.held.isSome || l.com.syncPeer.isSome then l else
  let l := { l with com := { l.com with digestDue := false } }
  match l.stepPeer me with
  | none => ({ l with com := { l.com with outRun := 0 } }).setObj O.dictSyncState 0
  | some p =>
    let l := l.setObj O.dictSyncState 1
    if 3 ≤ l.com.outRun + 1 then l.startSync me p else { l with com := { l.com with outRun := l.com.outRun + 1 } }

/-- Once every present peer has answered the first DIGEST of a start, the set is judged at once (R378). -/
def Lane.judgeStart (l : Lane) (me : LaneId) : Lane :=
  let have_ := fun p => match p with | .lo => l.com.digLo.isSome | .hi => l.com.digHi.isSome
  if l.com.judged || !l.com.digestSent || bothPeers.any (fun p => l.hears p && !have_ p) then l
  else
    let l := { l with com := { l.com with judged := true } }
    match l.stepPeer me with
    | none => l
    | some p => l.startSync me p

/-- Forget the DIGESTs of peers that are not present. -/
def Lane.forgetDigests (l : Lane) : Lane :=
  { l with com := { l.com with digLo := if l.hears .lo then l.com.digLo else none,
                               digHi := if l.hears .hi then l.com.digHi else none } }

/-- A peer's proposal as its parts arrive. -/
def Lane.inProp (l : Lane) : Peer → Option PeerProp
  | .lo => l.com.inLo
  | .hi => l.com.inHi

/-- Replace a peer's proposal. -/
def Lane.setInProp (l : Lane) (p : Peer) (x : Option PeerProp) : Lane :=
  { l with com := match p with | .lo => { l.com with inLo := x } | .hi => { l.com with inHi := x } }

/-- The set that a peer forwarded and the lane confirmed; empty where it confirmed an install that is to be proposed. -/
def Lane.fwd (l : Lane) : Peer → Option (List Byte)
  | .lo => l.cs.fwdLo
  | .hi => l.cs.fwdHi

/-- Replace a forwarded set. -/
def Lane.setFwd (l : Lane) (p : Peer) (x : Option (List Byte)) : Lane :=
  { l with cs := match p with | .lo => { l.cs with fwdLo := x } | .hi => { l.cs with fwdHi := x } }

/-- The forwarded set whose module-wide entries a proposal carries (R402 step 6). -/
def Lane.changeOf (l : Lane) (p : Peer) (es : List Entry) : Option (List Byte) :=
  match l.fwd p with
  | some b => if b ≠ [] && decide (csWide b = es) then some b else none
  | none => none

/-- Does a set install an image? (R383) -/
def installs (b : List Byte) : Bool := ((csEntries b).getD []).any fun e => entryKey e = O.nvStageInstall.key

/-- Checks 2 and 4 to 7 on the module-wide entries of an install, each against the others' values (R370, R383): an image holds N objects
whatever their access. -/
def Lane.judgeImage (l : Lane) (es : List Entry) : Nat :=
  firstFail (fun e =>
    if (l.rowAt (entryKey e)).isNone then 1
    else if !l.lcAllows (entryKey e) then 9
    else if !l.entryShaped e then 3
    else if !entryInRange e || !(l.withEntries es).related (entryKey e) then 4 else 0) es

/-- Does a proposal of a peer rest on the install that the lane has confirmed for it? It does where its entries need an authorisation or are
no host's to write (R383). -/
def Lane.installOf (l : Lane) (me : LaneId) (pl : Peer → Lane) (p : Peer) (es : List Entry) : Bool :=
  let c := l.judgeSet me pl false es
  decide (l.fwd p = some []) && (c = 5 || c = 2)

/-- Checks of R370 from check 2 on, on a peer's proposal (R374): a change set confirmed before and the entries of an install
are authorised; a nonce replaces CS_NONCE whole. -/
def Lane.judgeProp (l : Lane) (me : LaneId) (pl : Peer → Lane) (p : Peer) (es : List Entry) : Nat :=
  match es with
  | [e] => if entryKey e = O.csNonce.key then (if e.value.length = 32 then 0 else 3) else usual
  | _ => usual
where
  /-- The judgement of every other proposal. -/
  usual : Nat := if l.installOf me pl p es then l.judgeImage es else l.judgeSet me pl (l.changeOf p es).isSome es

/-- A peer's proposal whose last part ended in the sample that ends is judged (R374 step 2, R377). -/
def Lane.judgeOne (me : LaneId) (pl : Peer → Lane) (ended : Nat) (l : Lane) (p : Peer) : Lane :=
  match l.inProp p with
  | none => l
  | some q =>
    if q.full ≠ some ended then l else
    let l := l.setInProp p none
    let refuse := fun (l : Lane) (res s : Nat) => l.sendCommit p (l.commitFrame me 3 res q.id s [] 0)
    match l.com.held with
    | some h => refuse l 0 h.apply
    | none =>
      let stays := match l.com.own with
        | some o => if laneNo me < laneNo (peerId me p) then some o.apply else none
        | none => none
      match stays with
      | some s => refuse l 0 s
      | none =>
        let l := l.retryOwn me q.apply
        let c := l.judgeProp me pl p q.entries
        if c ≠ 0 then (refuse l c 0).inc O.dictRefusals
        else
          let l := { l with com := { l.com with held := some ⟨p, q.id, q.apply, q.entries, false, l.installOf me pl p q.entries⟩ } }
          l.sendCommit p (l.commitFrame me 2 0 q.id 0 [] 0)

/-- The proposals that ended in a sample, the lower-numbered lane's first (R374, R377). -/
def Lane.judgeProps (l : Lane) (me : LaneId) (pl : Peer → Lane) (ended : Nat) : Lane :=
  bothPeers.foldl (Lane.judgeOne me pl ended) l

/-- A commit ended without APPLY (R374, R378, R385): the lane discards it and is out of step. An originator that is present applies it, so
its set counter is the highest and the rule chooses its set, unless a peer's is higher still; with the originator gone the rule chooses
among the lanes present. -/
def Lane.lostApply (l : Lane) (me : LaneId) (h : HeldProp) : Lane :=
  let l := { l with com := { l.com with held := none } }
  let other := match h.peer with | .lo => Peer.hi | .hi => Peer.lo
  let count := fun (p : Peer) => match (match p with | .lo => l.com.digLo | .hi => l.com.digHi) with | some d => d.1 | none => 0
  if l.hears h.peer then l.startSync me (if l.hears other && decide (count h.peer + 1 < count other) then other else h.peer)
  else match l.stepPeer me with
    | some p => l.startSync me p
    | none => l

/-- What commits do at a steering reload that starts sample `smp.no`: proposals that ended are judged, the next part goes out,
APPLY is sent in S − 1, and an accepted proposal without APPLY is discarded. -/
def Lane.commitReload (l : Lane) (me : LaneId) (pl : Peer → Lane) (ended : Nat) : Lane :=
  let l := l.judgeProps me pl ended
  let l := match l.com.held with
    | some h => if h.apply = l.smp.no && !h.go then l.lostApply me h else l
    | none => l
  let l := match l.com.own with
    | none => l
    | some p =>
      let l := match l.partDue p with
        | some k => l.sendPart me p k
        | none => l
      if (l.smp.no + 1) % 2 ^ 32 = p.apply && !p.go then
        let f := l.commitFrame me 4 0 p.id p.apply [] 0
        let to_ := bothPeers.filter fun (q : Peer) => match q with | .lo => p.okLo | .hi => p.okHi
        let l := to_.foldl (fun (l : Lane) q => l.sendCommit q f) l
        { l with com := { l.com with own := some { p with go := true } } }
      else l
  (l.judgeDigest me).startProposal me

/-- Entries take effect in a lane as one commit (R374 step 5): the set counter rises for a module-wide N entry. -/
def applyEntries (l : LaneId) (id : Nat) (wide own : List Entry) (s : State) : State :=
  let s := (wide ++ own).foldl (fun s e => applyKey l (entryKey e) 0 e.value id s) s
  s.upd l fun x =>
    let x := x.inc O.dictCommits
    if wide.any fun e => isStored (entryKey e) then
      (x.setObj O.dictSetCounter ((x.obj O.dictSetCounter + 1) % 2 ^ 32)).nvDue O.dictSetCounter.key
    else x

/-- Does a change set still carry the nonce in effect at S? (R402 step 6) -/
def Lane.nonceHolds (l : Lane) (b : List Byte) : Bool := decide (slice b 0x20 32 = l.nonce)

/-- A change has been applied in a lane: it is counted, and a new nonce is due (R402 steps 7 and 8). -/
def Lane.changeApplied (l : Lane) (me : LaneId) : Lane := (l.inc O.csApplied).renewNonce me

/-- A set that installs an image is in effect: every peer that LANES names is to propose the entries of its own image (R383). -/
def Lane.markInstalls (l : Lane) (me : LaneId) (b : List Byte) : Lane :=
  if installs b then
    (bothPeers.filter fun p => csNames b (peerId me p)).foldl (fun l p => l.setFwd p (some [])) l
  else l

/-- The own commit applies at t5 of S. -/
def applyOwn (l : LaneId) (p : Proposal) (s : State) : State :=
  let s := s.upd l fun x => { x with com := { x.com with own := none } }
  let anyN := fun (es : List Entry) => es.any fun e => isStored (entryKey e)
  match p.src with
  | .host id => (applyEntries l p.id p.entries [] s).upd l fun x => x.written (some id) (anyN p.entries)
  | .nonce => applyEntries l p.id p.entries [] s
  | .install =>
    (applyEntries l p.id (wireEntries p) [] s).upd l fun x => x.adoptImage l p.entries
  | .change =>
    match (s.lane l).cs.run with
    | none => s
    | some r =>
      if !(s.lane l).nonceHolds r.set_ then s.upd l fun x => x.endChange 5
      else
        let own := csLocal l r.set_
        (applyEntries l p.id p.entries own s).upd l fun x =>
          let x := (x.setCs { x.cs with run := none }).markInstalls l r.set_
          (x.written r.by_ (anyN (p.entries ++ own))).changeApplied l

/-- A peer's commit applies at t5 of S. -/
def applyHeld (l : LaneId) (h : HeldProp) (s : State) : State :=
  let s := s.upd l fun x => { x with com := { x.com with held := none } }
  match (s.lane l).changeOf h.peer h.entries with
  | some b =>
    if !(s.lane l).nonceHolds b then s.upd l fun x => x.setFwd h.peer none
    else (applyEntries l h.id h.entries (csLocal l b) s).upd l fun x =>
      ((x.setFwd h.peer none).markInstalls l b).changeApplied l
  | none => (applyEntries l h.id h.entries [] s).upd l fun x => if h.install then x.setFwd h.peer none else x

/-- A set that has arrived is adopted with its counter, stored, and the lane re-qualifies (R378). -/
def adoptSet (l : LaneId) (s : State) : State :=
  let x := s.lane l
  match x.com.syncDone with
  | none => s
  | some counter =>
    let s := x.com.syncSet.foldl (fun s e => applyKey l (entryKey e) 0 e.value 0 s) s
    s.upd l fun x =>
      let x := (x.setObj O.dictSetCounter counter).nvDue O.dictSetCounter.key
      let x := ((x.inc O.dictSyncs).setObj O.dictSyncState 0)
      let x := { x with com := { x.com with syncPeer := none, syncNext := 0, syncSet := [], syncDone := none } }
      if x.coll.error then x else x.requalify

/-- What commits do at t5 of the present sample, after the lane-targeted writes (R374, R378, R385). -/
def commitT5 (l : LaneId) (s : State) : State :=
  let x := s.lane l
  let s := match x.com.own with
    | some p => if p.go && decide (p.apply = x.smp.no) then applyOwn l p s else s
    | none => s
  let s := match x.com.held with
    | some h => if h.go && decide (h.apply = x.smp.no) then applyHeld l h s else s
    | none => s
  (adoptSet l s).upd l fun x => ((x.forgetDigests.judgeStart l).judgeDigest l).startProposal l

/-- PROPOSE (R374): the parts of a peer's proposal; a part that does not follow the ones before it drops them. -/
def execPropose (l : LaneId) (rx : BirixRx) (f : CommitFrame) (s : State) : Host.Outcome State Fault Refusal :=
  onLaneAt l (rx.fin.getD rx.start) s fun x =>
    if !commitOk l rx f 1 || bits f.commitId.toNat 30 2 ≠ laneNo (peerId l rx.peer) then x else
    let k := bits f.part.toNat 0 7
    let full := if bitOf f.part.toNat 7 then some x.smp.no else none
    let id := f.commitId.toNat
    let s := f.applySample.toNat
    let held := match x.inProp rx.peer with
      | some q => if q.id = id && q.next = k && q.full.isNone then some q.entries else none
      | none => none
    match (if k = 0 then some [] else held) with
    | none => x.setInProp rx.peer none
    | some es => x.setInProp rx.peer (some ⟨id, k + 1, s, joinParts es f.entries, full⟩)

/-- ACCEPT (R374): of a peer that has not answered by P + 4 it comes too late. -/
def execAccept (l : LaneId) (rx : BirixRx) (f : CommitFrame) (s : State) : Host.Outcome State Fault Refusal :=
  onLaneAt l (rx.fin.getD rx.start) s fun x =>
    match x.com.own with
    | some p =>
      if commitOk l rx f 2 && decide (f.commitId.toNat = p.id) && decide (samplesFrom p.lastSample x.smp.no ≤ 4) then
        let p := match rx.peer with | .lo => { p with okLo := true } | .hi => { p with okHi := true }
        { x with com := { x.com with own := some p } }
      else x
    | none => x

/-- REFUSE (R374 step 3, R377), up to P + 4: RESULT 0 has the proposal made again after the commit that the peer holds. -/
def execRefuse (l : LaneId) (rx : BirixRx) (f : CommitFrame) (s : State) : Host.Outcome State Fault Refusal :=
  onLaneAt l (rx.fin.getD rx.start) s fun x =>
    match x.com.own with
    | some p =>
      if commitOk l rx f 3 && decide (f.commitId.toNat = p.id) && decide (samplesFrom p.lastSample x.smp.no ≤ 4) && !p.go then
        if f.result = 0 then x.retryOwn l f.applySample.toNat else x.failOwn l f.result.toNat
      else x
    | none => x

/-- APPLY (R374 step 4). -/
def execApply (l : LaneId) (rx : BirixRx) (f : CommitFrame) (s : State) : Host.Outcome State Fault Refusal :=
  onLaneAt l (rx.fin.getD rx.start) s fun x =>
    match x.com.held with
    | some h =>
      if commitOk l rx f 4 && decide (f.commitId.toNat = h.id) && decide (h.peer = rx.peer) then
        { x with com := { x.com with held := some { h with go := true } } }
      else x
    | none => x

/-- ABORT (R374 step 3): the proposal it names is discarded. -/
def execAbort (l : LaneId) (rx : BirixRx) (f : CommitFrame) (s : State) : Host.Outcome State Fault Refusal :=
  onLaneAt l (rx.fin.getD rx.start) s fun x =>
    if !commitOk l rx f 5 then x else
    let x := match x.inProp rx.peer with
      | some q => if q.id = f.commitId.toNat then x.setInProp rx.peer none else x
      | none => x
    match x.com.held with
    | some h =>
      if h.id = f.commitId.toNat && h.peer = rx.peer then { x with com := { x.com with held := none } } else x
    | none => x

/-- A DIGEST of the lane for a peer (R378). -/
def Lane.sendDigest (l : Lane) (me : LaneId) (p : Peer) : Lane := l.sendCommit p (l.commitFrame me 6 0 (l.idleId me) 0 [] 0)

/-- DIGEST_SEND (R378): every 100 ms of lane time, to both peers. -/
def execDigestSend (l : LaneId) (t : Nat) (s : State) : Host.Outcome State Fault Refusal :=
  onLaneAt l t s fun x =>
    if !x.up then x else
    let x := bothPeers.foldl (fun x p => x.sendDigest l p) x
    { x with com := { x.com with digestSent := true } }

/-- DIGEST (R378): held until it is judged; the first of a peer that starts is answered. -/
def execDigest (l : LaneId) (rx : BirixRx) (f : CommitFrame) (s : State) : Host.Outcome State Fault Refusal :=
  onLaneAt l (rx.fin.getD rx.start) s fun x =>
    if !commitOk l rx f 6 || !x.up then x else
    let d := some (f.setCounter.toNat, padTo 32 f.setDigest)
    let first := match rx.peer with | .lo => x.com.digLo.isNone | .hi => x.com.digHi.isNone
    let x := { x with com := match rx.peer with | .lo => { x.com with digLo := d } | .hi => { x.com with digHi := d } }
    let x := if first && x.com.judged then x.sendDigest l rx.peer else x
    if x.com.judged then ({ x with com := { x.com with digestDue := true } }).judgeDigest l else x

/-- SYNC_REQ (R378): answered with every module-wide N entry in SYNC_DATA parts. -/
def execSyncReq (l : LaneId) (rx : BirixRx) (f : CommitFrame) (s : State) : Host.Outcome State Fault Refusal :=
  onLaneAt l (rx.fin.getD rx.start) s fun x =>
    if !commitOk l rx f 7 || !x.up then x else
    let ps := partsOf (x.setEntries l)
    (ps.zipIdx).foldl (fun x p =>
      x.sendCommit rx.peer (x.commitFrame l 8 0 (x.idleId l) 0 p.1 (p.2 + (if p.2 + 1 = ps.length then 128 else 0)))) x

/-- SYNC_DATA (R378): the parts of the set asked for; it is adopted at the t5 after the last. -/
def execSyncData (l : LaneId) (rx : BirixRx) (f : CommitFrame) (s : State) : Host.Outcome State Fault Refusal :=
  onLaneAt l (rx.fin.getD rx.start) s fun x =>
    if !commitOk l rx f 8 || x.com.syncPeer ≠ some rx.peer || x.com.syncDone.isSome
      || bits f.part.toNat 0 7 ≠ x.com.syncNext then x
    else
      { x with com := { x.com with syncNext := x.com.syncNext + 1, syncSet := joinParts x.com.syncSet f.entries,
                                   syncDone := if bitOf f.part.toNat 7 then some f.setCounter.toNat else none } }

end Sys2Proof.Machine
end

