-- ==== Sys2Proof/Machine/HostProtocol.lean ====
section
/-!
DEFINITION. The host protocol (R343 to R363): Demands and Reports, and the transactions of a session. Assumption logs 78 to
81.
-/
namespace Sys2Proof.Machine

/-- Bytes 0x00 to 0x37 of a Demand payload (R348). -/
def demandBytes (d : DemandPayload) : List Byte :=
  bytesBE 2 d.session.toNat ++ bytesBE 2 d.epoch.toNat ++ bytesBE 4 d.seq.toNat ++ bytesBE 2 d.flags.toNat
  ++ padTo 6 d.reserved ++ padTo 40 d.motion

/-- Are the reserved fields of a Demand 0 (R348), those of its motion block (R349) among them? -/
def demandZero (d : DemandPayload) : Bool :=
  decide (d.flags.toNat < 2) && d.reserved.all (· = 0#8) && decide (be (padTo 40 d.motion) 8 2 < 4)
  && ((padTo 40 d.motion).drop 0x12).all (· = 0#8)

/-- Does a frame of class 1 or 3 belong to the open session (R343)? -/
def Lane.bound (l : Lane) (rx : Ingress) (session : Nat) : Bool :=
  decide (l.sess.num = some session) && decide (l.sess.mac = rx.srcMac.toNat) && decide (l.sess.prot = rx.sectag)

/-- The outcome of R351. -/
inductive DemandJudge | take | dup | stale
deriving DecidableEq, Repr

/-- The comparison of R351 with the last pair accepted in the session. -/
def judgeDemand (last : Option (Nat × Nat)) (epoch seq : Nat) : DemandJudge :=
  match last with
  | none => .take
  | some (e0, s0) =>
    let de := (epoch + 65536 - e0) % 65536
    let ds := (seq + 2 ^ 32 - s0) % 2 ^ 32
    if de = 0 then (if ds = 0 then .dup else if ds < 2 ^ 31 then .take else .stale)
    else if de ≤ 32767 then .take else .stale

/-- A Demand is accepted (R329, R345, R351 to R353). -/
def Lane.acceptDemand (l : Lane) (rx : Ingress) (d : DemandPayload) : Lane :=
  let pos := l.cyclePos (l.netTime rx.stamp)
  let cycle := l.cycleNo (l.netTime rx.stamp)
  let late := decide (1000 * l.obj O.netDemandWin < pos)
  let epoch := d.epoch.toNat
  let seq := d.seq.toNat
  let rec_ : DemandRec :=
    { session := d.session.toNat, epoch := epoch, seq := seq, crc := (crc32 (demandBytes d)).toNat,
      motion := padTo 40 d.motion, stamp := rx.stamp }
  let due : DueReport := ⟨rec_.rank, rx.stamp, cycle, rx.stamp - pos, late, l.txn.reported = some cycle⟩
  let l := { l with
    sess := { l.sess with pair := some (epoch, seq), lastAt := max l.sess.lastAt rx.stamp }
    dem := { l.dem with acc := rec_ :: l.dem.acc, ownAt := rx.stamp }
    txn := { l.txn with reportDue := (l.txn.reportDue.filter fun (r : DueReport) => r.cycle ≠ cycle) ++ [due] } }
  let l := (l.inc O.demandAccepted).incIf O.demandLate late
  if bitOf d.flags.toNat 0 then (l.setFlag O.quietActive true).quietDrop else l.setFlag O.quietActive false

/-- DEMAND (R343, R348, R351). -/
def execDemand (l : LaneId) (rx : Ingress) (d : DemandPayload) (s : State) : Host.Outcome State Fault Refusal :=
  onLaneAt l rx.stamp s fun x =>
    let (ok, x) := (x.sessionAt rx.stamp).ingress l rx 1 false
    if !ok then x
    else if !x.bound rx d.session.toNat then x.inc O.foreignDiscards
    else if !demandZero d || rx.length.toNat ≠ 56 then x
    else match judgeDemand x.sess.pair d.epoch.toNat d.seq.toNat with
      | .take => x.acceptDemand rx d
      | .dup => x.inc O.demandDuplicate
      | .stale => x.inc O.demandStale

/-- Clamp force of wheel end w for the Report (R354): the mean of the running drives that serve it, by the own frame and the
peers' frames that passed R41. -/
def Lane.wheelForce (l : Lane) (me : LaneId) (w : Nat) : Nat :=
  let frame := fun (k : Nat) => if k = laneNo me then l.smp.own else match peerNo me k with
    | some p => (l.peer p).last
    | none => none
  let one := fun (x : Nat × Nat) => match frame x.1 with
    | some f => if f.brakeState.getD x.2 0 = 2 then [toI 16 (f.brakeForce.getD x.2 0).toNat] else []
    | none => []
  let ws := windingsOf w
  let fs := if l.fittedW w then one ws.1 ++ one ws.2 else []
  if fs = [] then 0x8000 else ofI 16 (roundDiv (fs.foldl (· + ·) 0) fs.length)

/-- Report FLAGS (R354) but for bits 3, 7 and 8. -/
def Lane.reportFlags (l : Lane) : Nat :=
  let arb := match l.claim.status with | some f => f.arbFlags.toNat | none => 0
  packBits [l.flag O.stopRequired, decide (l.obj O.stopState = 1), decide (l.obj O.stopState = 2), false,
    decide (l.obj O.hostState ≠ 0), bitOf arb 2, l.flag O.quietActive, false, false, l.drive.odInForce, l.essentialLost]

/-- What a Report takes from a t5 (R353, R354). -/
def Lane.reportSnap (l : Lane) (me : LaneId) : ReportSnap :=
  let b := l.obj
  let voted := match l.dem.voted with | some d => (d.seq, d.epoch) | none => (0, 0)
  let status := match l.smp.own.toList ++ l.smp.prevOwn.toList with
    | f :: _ => f.status.toNat
    | [] => 0
  let arb := match l.claim.status with
    | some f => (f.arbFlags.toNat, f.chanFault.toNat, f.winner.toNat)
    | none => (0, 0, 0)
  let list := fun (n w : Nat) (f : Nat → Nat) => (List.range n).flatMap fun i => bytesBE w (f i)
  { head := bytesBE 4 voted.1 ++ bytesBE 2 voted.2 ++ bytesBE 2 status ++ bytesBE 8 l.smp.reloadAt
      ++ bytesBE 1 (b O.moduleState) ++ bytesBE 1 (b O.lanesClaiming) ++ bytesBE 1 (b O.steerLanes) ++ bytesBE 1 (b O.brakeLanes)
      ++ bytesBE 2 (b O.authorityFraction) ++ bytesBE 2 (b O.speedLimitActive)
    flags := l.reportFlags
    reversals := b O.reversalsRefused
    parkRefusals := b O.parkRefused
    tail := bytesBE 1 (b O.stopCauses) ++ bytesBE 1 (b O.bermLevel) ++ bytesBE 2 (b O.shapeTarget) ++ bytesBE 2 (b O.shapePos)
      ++ bytesBE 2 (b O.shapeRate) ++ bytesBE 2 (l.posted 4) ++ bytesBE 2 (l.allowedTorque (l.posted 2) (l.posted 4)) ++ bytesBE 2 (b O.brakeCapacity)
      ++ list 10 2 (fun n => b (O.votedValue n)) ++ list 10 1 (fun n => b (O.voteStatus n))
      ++ bytesBE 1 (b O.springDuty) ++ bytesBE 1 (b O.parkState)
      ++ list 12 2 (fun w => l.wheelForce me w) ++ list 12 1 (fun w => b (O.weFlags w))
      ++ bytesBE 1 arb.1 ++ bytesBE 1 arb.2.1 ++ bytesBE 2 arb.2.2 ++ bytesBE 4 l.coll.firstCause
      ++ bytesBE 2 (l.slot 11) ++ bytesBE 2 l.drive.tDev ++ bytesBE 2 (b O.odBudgetOwn)
      ++ bytesBE 1 (packBits ((List.range 4).map fun d => l.flag (O.dbFull d))) ++ [0] }

/-- The snapshot in force: that of the last t5, or the state as it stands where the lane has had none since its start (R353). -/
def Lane.snapNow (l : Lane) (me : LaneId) : ReportSnap := l.txn.snap.getD (l.reportSnap me)

/-- The Report payload (R354) for a Report that is due: bits 3 and 8 of FLAGS tell a change since the last Report; a second one of a cycle
has bit 7 (R362). -/
def Lane.reportBytes (l : Lane) (me : LaneId) (d : DueReport) : List Byte :=
  let s := l.snapNow me
  bytesBE 2 (l.sess.num.getD 0) ++ bytesBE 2 (d.rank / 2 ^ 32) ++ bytesBE 4 (d.rank % 2 ^ 32) ++ s.head
  ++ bytesBE 2 (s.flags + 8 * b2n (decide (s.reversals ≠ l.txn.revRefused)) + 128 * b2n (d.late || d.second)
    + 256 * b2n (decide (s.parkRefusals ≠ l.txn.parkRefused))) ++ s.tail

/-- May a Report due be built: its cycle's Report window is open, for a second one of the cycle the open window (R362), and 5 µs have passed
since the Demand's stamp? (R353) -/
def Lane.reportReady (l : Lane) (d : DueReport) : Bool :=
  decide (d.start + 1000 * (l.obj O.netDemandWin + (if d.second then l.obj O.netReportWin else 0)) ≤ l.now) && decide (d.stamp + 5000 ≤ l.now)

/-- REPORT (R353, R354): the first Report due whose time has come is built from the last t5 and sent on each port that has link. -/
def execReport (l : LaneId) (t : Nat) (s : State) : Host.Outcome State Fault Refusal :=
  onLaneAt l t s fun x =>
    match (x.txn.reportDue.filter fun d => x.reportReady d).head? with
    | some d =>
      if !x.netUp || x.mute then x
      else
        let msg := x.reportBytes l d
        let p := x.snapNow l
        let x := (x.sendMsg x.sess.mac 2 x.now [msg]).inc O.reportsSent
        { x with txn := { x.txn with reportDue := x.txn.reportDue.filter (fun r => r.cycle ≠ d.cycle), reported := some d.cycle, report := msg,
                                     revRefused := p.reversals, parkRefused := p.parkRefusals } }
    | none => x

/-- Key of the object that a head names. -/
def headKey (h : TxnHead) : Nat := h.index.toNat * 256 + h.sub.toNat

/-- TXN_LIFETIME in nanoseconds. -/
def Lane.lifetime (l : Lane) : Nat := 1000000 * l.obj O.txnLifetime

/-- Is a request expired by its network-time stamp? (R357) -/
def Lane.expired (l : Lane) (netStamp : Int) (hostTime : Nat) : Bool :=
  decide ((hostTime + l.lifetime : Nat) < netStamp) || decide (netStamp + l.lifetime < hostTime)

/-- May a SESSION_OPEN open a session: none is open? One for the open session comes as a frame of it (R343, R346). -/
def Lane.mayOpen (l : Lane) (rx : Ingress) (h : TxnHead) : Bool :=
  decide (h.op.toNat = 5) && decide (l.obj O.lcStateObj ≤ 1) && l.sess.num.isNone && !rx.sectag

/-- A request whose segments are all here, in one piece (R319). -/
def PartReq.whole (p : PartReq) : Option (TxnHead × List Byte) :=
  match p.head, p.last with
  | some h, some n =>
    let ks := List.range (n + 1)
    if ks.all (fun k => p.segs.any fun e => e.1 = k) then some (h, ks.flatMap fun k => kvGet [] p.segs k) else none
  | _, _ => none

/-- A segment joins its request, in whatever order the copies of the segments come (R319, R322). -/
def PartReq.join (p : PartReq) (k : Nat) (last : Bool) (stamp : Nat) (h : TxnHead) (data : List Byte) : PartReq :=
  { p with head := if k = 0 then some h else p.head, stamp := if k = 0 then stamp else p.stamp,
           lo := min p.lo stamp, hi := max p.hi stamp, segs := kvPut k data p.segs, last := if last then some k else p.last }

/-- Are the segments that have come stamped within TXN_LIFETIME of segment 0, as far as that can be told? (R358) -/
def PartReq.within (p : PartReq) (life : Nat) : Bool :=
  if p.head.isSome then decide (p.hi ≤ p.stamp + life) && decide (p.stamp ≤ p.lo + life) else decide (p.hi ≤ p.lo + 2 * life)

/-- Requests of which a segment is missing TXN_LIFETIME after segment 0 are dropped as expired and counted once (R358); what tells their
further segments stays for as long again. -/
def Lane.dropLate (l : Lane) (t : Nat) : Lane :=
  let late := fun (p : PartReq) => p.use = .waited && decide (p.stamp + l.lifetime < t)
  let ps := (l.txn.parts.map fun p => if late p then { p with use := PartUse.timedOut } else p).filter fun p =>
    p.use = .waited || decide (t ≤ p.stamp + 2 * l.lifetime)
  ({ l with txn := { l.txn with parts := ps } }).incBy O.txnExpired (l.txn.parts.filter late).length

/-- Does a frame of class 3 come from the open session's host under its keys (R343)? -/
def Lane.fromHost (l : Lane) (rx : Ingress) : Bool :=
  l.sess.num.isSome && decide (l.sess.mac = rx.srcMac.toNat) && decide (l.sess.prot = rx.sectag)

/-- What a segment makes of its request: it joins where it is on time; a request is counted as expired once (R357, R358). The result is the
request as it stands and whether it counts now, and whether its count of before is taken back. -/
def PartReq.take (p : PartReq) (life k : Nat) (last : Bool) (stamp : Nat) (h : TxnHead) (data : List Byte) (expired : Bool) :
    PartReq × Bool × Bool :=
  let q := p.join k last stamp h data
  match p.use with
  | .foreign | .expired => (p, false, false)
  | u =>
    if expired || !q.within life then ({ q with use := .expired }, u = .waited, false)
    else ({ q with use := .waited }, false, u = .timedOut)

/-- A segment of a request of class 3 (R319, R321, R343, R355, R357, R358): the whole request, once its segments are all here. -/
def Lane.takeSegment (l : Lane) (me : LaneId) (rx : Ingress) (h : TxnHead) (data : List Byte) :
    Option (TxnHead × List Byte) × Lane :=
  let (ok, l) := (l.sessionAt rx.stamp).ingress me rx 3 false
  let k := bits rx.seg.toNat 0 4
  let last := bitOf rx.seg.toNat 4
  let key := streamKey rx.srcMac.toNat rx.stream.toNat
  let base := (rx.rseq.toNat + 65536 - k) % 65536
  let mine := fun (p : PartReq) => decide (p.key = key ∧ p.base = base)
  let expired := decide (k = 0) && l.expired (l.netTime rx.stamp) h.hostTime.toNat
  let foreign := if k = 0 then !l.bound rx h.session.toNat && !l.mayOpen rx h else !l.fromHost rx
  if !ok then (none, l)
  else if k = 0 && last then
    if foreign then (none, l.inc O.foreignDiscards) else if expired then (none, l.inc O.txnExpired) else (some (h, data), l)
  else
    let p := (l.txn.parts.find? mine).getD
      { key := key, base := base, head := none, stamp := rx.stamp, lo := rx.stamp, hi := rx.stamp, segs := [], last := none }
    let put := fun (l : Lane) (ps : List PartReq) =>
      ({ l with txn := { l.txn with parts := (l.txn.parts.filter fun q => !mine q) ++ ps } }).dropLate rx.stamp
    if foreign then (none, put (l.inc O.foreignDiscards) [{ p with use := .foreign }])
    else
      let (q, counts, back) := p.take l.lifetime k last rx.stamp h data expired
      let l := (if back then l.uncount O.txnExpired else l).incIf O.txnExpired counts
      match (if q.use = .waited then q.whole else none) with
      | some r => (some r, put l [])
      | none => (none, put l [q])

/-- A READ is executed (R369), the ports brought to its instant (R342); `room`: the most bytes its answer carries. -/
def Lane.serveRead (l : Lane) (me : LaneId) (can : Bool) (room : Nat) (h : TxnHead) : Lane :=
  let l := l.portsTo l.now
  let r := l.readObj me false (headKey h) h.offset.toNat room
  l.answerId (l.headId can h) r.1 r.2

/-- A BULK_READ is executed (R360): DATA_LEN 1 to 11,240. -/
def Lane.serveBulk (l : Lane) (me : LaneId) (can : Bool) (room : Nat) (h : TxnHead) : Lane :=
  let n := h.dataLen.toNat
  let r := l.readObj me true (headKey h) h.offset.toNat (min n room)
  let r := if r.1 = 0 && (n = 0 || decide (11240 < n)) then (4, []) else r
  l.answerId (l.headId can h) r.1 r.2

/-- SESSION_CLOSE is executed (R345): its answer is queued, then the session closes. -/
def Lane.serveClose (l : Lane) (can : Bool) (h : TxnHead) : Lane :=
  if can then l.answerId (l.headId can h) 2 [] else (l.answerId (l.headId can h) 0 []).closeSession

/-- The result of a WRITE at acceptance (R370, R384): `len` is DATA_LEN; an alias never writes an RWG object. -/
def Lane.judgeHostWrite (l : Lane) (me : LaneId) (pl : Peer → Lane) (key0 off len : Nat) (data : List Byte) : Nat :=
  let key := skdTarget key0
  let c := if isSkd key0 && key = key0 then 1 else l.judgeWrite false key off data
  let c := if isSkd key0 && c = 5 then 2 else c
  if c ≠ 0 && c ≠ 3 && c ≠ 4 then c
  else if len ≠ data.length then 3
  else if c ≠ 0 then c
  else l.further (l.storeValue key data) me pl key data

/-- Images and sets whose bytes are taken at once (R137, R383, R415, R424). -/
def isImage (key : Nat) : Bool :=
  key = O.nvStage.key || key = O.coefStandbyImage.key || key = O.fwImage.key || key = O.progImage.key

/-- An accepted WRITE goes its way (R371, R374, R402, R406, R416): its answer follows at once or waits. -/
def routeWrite (l : LaneId) (id : TxnId) (key off : Nat) (data : List Byte) (at_ : Nat) (s : State) : State :=
  let pl := s.peersOf l
  let done := fun (r : Option Nat × Lane) => s.setLane l ((match r.1 with
    | some c => r.2.answerId id c []
    | none => r.2.waitFor id .change).startProposal l)
  match rowOf key with
  | none => s
  | some r =>
    if r.moduleWide then
      s.upd l fun x =>
        let x := { x with com := { x.com with waiting := x.com.waiting ++ [(PropSrc.host id, [entryOf key r data])] } }
        (x.waitFor id .commit).startProposal l
    else if isImage key then (applyKey l key off data 0 s).upd l fun x => x.answerId id 0 []
    else if key = O.csImage.key then
      s.upd l fun x => let (ok, x) := x.writeCs off data; x.answerId id (if ok then 0 else 4) []
    else if key = O.csAuth.key then done ((s.lane l).presentAuth l pl data at_ (some id))
    else if key = O.csApply.key then
      (if ofBytesBE data = 1 then done ((s.lane l).applyCs l pl at_ (some id)) else s.upd l fun x => x.answerId id 0 [])
    else if key = O.attestNonce.key then (applyKey l key off data 0 s).upd l fun x => x.waitFor id .quote
    else if key = O.updStandAside.key && ofBytesBE data ≠ 0 then
      s.upd l fun x => ({ x with upd := { x.upd with request := some (ofBytesBE data) } }).waitFor id .aside
    else s.upd l fun x => { x with writes := x.writes ++ [⟨key, off, data, some id⟩] }

/-- A WRITE is executed. -/
def serveWrite (l : LaneId) (id : TxnId) (key0 off len : Nat) (data : List Byte) (at_ : Nat) (s : State) : State :=
  let c := (s.lane l).judgeHostWrite l (s.peersOf l) key0 off len data
  if c ≠ 0 then s.upd l fun x => x.answerId id c [] else routeWrite l id (skdTarget key0) off data at_ s

/-- A request of class 3 that is executed when R356 lets it. -/
def request (l : LaneId) (rx : Ingress) (h : TxnHead) (data : List Byte) (run : TxnHead → List Byte → State → State)
    (s : State) : Host.Outcome State Fault Refusal :=
  onStateAt l rx.stamp s fun s =>
    let (r, x) := (s.lane l).takeSegment l rx h data
    match r with
    | none => s.setLane l x
    | some (h, data) =>
      let (go, x) := x.letIn false h rx.stamp
      if go then run h data (s.setLane l x) else s.setLane l x

/-- An object that a lane held by its self-test still reads: identity and the results of the test (R445). -/
def heldReadable (ix : Nat) : Bool := ix = 0x1000 || ix = 0x1001 || ix = 0xC020

/-- Did E0, E6, E7 and their memories pass in a self-test that failed? (R445) -/
def Lane.heldGood (l : Lane) : Bool :=
  decide (l.pwr.selftest = .failed) && l.pwr.records.all fun r => !(r.block = 1 || r.block = 6 || r.block = 7)

/-- A READ at a lane whose self-test failed with E0, E6 and E7 good (R445): it passes the steps of R321, there is no session, and no tag is
kept. Without keys that is in Blank and Assembly alone (R332); in every state CAN XL serves it. -/
def Lane.heldRead (l : Lane) (me : LaneId) (rx : Ingress) (h : TxnHead) : Lane :=
  if !l.heldGood then l else
  let (ok, l) := l.ingressSteps me rx 3 false
  if !ok || !heldReadable h.index.toNat then l
  else
    let r := l.readObj me false (headKey h) h.offset.toNat 1384
    l.sendMsg rx.srcMac.toNat 4 l.now (segments 1408 [] 7 (headBytes h r.1 r.2.length ++ r.2))

/-- READ (R355, R369). -/
def execRead (l : LaneId) (rx : Ingress) (h : TxnHead) (s : State) : Host.Outcome State Fault Refusal :=
  if (s.lane l).pwr.selftest = .failed then onLaneAt l rx.stamp s fun x => x.heldRead l rx h
  else request l rx h [] (fun h _ s => s.upd l fun x => (x.e1Until x.now).serveRead l false 1384 h) s

/-- WRITE (R355, R370). -/
def execWrite (l : LaneId) (rx : Ingress) (h : TxnHead) (data : List Byte) (s : State) : Host.Outcome State Fault Refusal :=
  request l rx h data
    (fun h data s => serveWrite l ((s.lane l).headId false h) (headKey h) h.offset.toNat h.dataLen.toNat data rx.stamp s) s

/-- BULK_READ (R360). -/
def execBulkRead (l : LaneId) (rx : Ingress) (h : TxnHead) (s : State) : Host.Outcome State Fault Refusal :=
  request l rx h [] (fun h _ s => s.upd l fun x => x.serveBulk l false 11240 h) s

/-- SESSION_CLOSE (R345). -/
def execSessionClose (l : LaneId) (rx : Ingress) (h : TxnHead) (s : State) : Host.Outcome State Fault Refusal :=
  request l rx h [] (fun h _ s => s.upd l fun x => x.serveClose false h) s

/-- SESSION_OPEN (R346, R358): in Blank and Assembly a SESSION that is not 0 opens a session, in which it is answered, unless Quiet drops it
(R329); in the open session of its number it is answered and changes nothing. -/
def execSessionOpen (l : LaneId) (rx : Ingress) (h : TxnHead) (s : State) : Host.Outcome State Fault Refusal :=
  onLaneAt l rx.stamp s fun x =>
    let (r, x) := x.takeSegment l rx h []
    match r with
    | none => x
    | some (h, _) =>
      let free := decide (x.obj O.lcStateObj ≤ 1)
      if x.sess.num.isNone && decide (h.session ≠ 0) && x.flag O.quietActive then x.inc O.quietDrops
      else
        let x := if x.sess.num.isNone && decide (h.session ≠ 0) then
            x.openSession h.session.toNat rx.srcMac.toNat 0 none rx.stamp
          else x
        if x.sess.num.isNone then x.inc O.foreignDiscards
        else
          let (go, x) := x.letIn false h rx.stamp
          if go then x.answerId (x.headId false h) (if !free then 9 else if h.session = 0 then 4 else 0) [] else x

/-- TXN_BAD_OP (R355): result 4; the request is not executed, and its tag stays as it was. -/
def execTxnBadOp (l : LaneId) (rx : Ingress) (h : TxnHead) (s : State) : Host.Outcome State Fault Refusal :=
  onLaneAt l rx.stamp s fun x =>
    let (r, x) := x.takeSegment l rx h []
    match r with
    | none => x
    | some (h, _) =>
      let (go, y) := x.letIn false h rx.stamp
      if go then x.reply (x.headId false h) h 4 else y

end Sys2Proof.Machine
end

