-- ==== Sys2Proof/Machine/CanXl.lean ====
section
/-!
DEFINITION. The CAN XL port (R336 to R340): which frames it takes, the stop frame, transactions, and the SKD-2 requests.
Assumption logs 82 to 84.
-/
namespace Sys2Proof.Machine

/-- A CAN XL frame whose header R337 accepts for lane `me`: its priority is `base + n` or, for the stop frame, `base`. -/
def Lane.canHeader (l : Lane) (rx : CanRx) (priority : Nat) (stop : Bool) : Bool :=
  let u := rx.acceptance.toNat % 2 ^ 18
  rx.xlFormat && decide (rx.sdt.toNat = l.obj O.canxlSdt) && !rx.sec && decide (rx.vcid = 0)
  && decide (rx.priority.toNat = priority) && (decide (u = l.unitNo) || (stop && decide (u = 0x3FFFF)))

/-- The error state of the port after a frame (R342). -/
def Lane.canState (l : Lane) (st : Fin 3) : Lane := l.setObj O.canxlState st.val

/-- A stop frame that R338 accepts sets bit 3 of SAFE_STOP for 10 ms. -/
def Lane.takeStop (l : Lane) (payload : List Byte) : Lane :=
  if l.flag O.canxlStopEn && decide (be payload 6 2 = (crc16 (payload.take 6)).toNat) then
    ({ l with net := { l.net with stopUntil := some (l.now + 10000000), stopCause := be payload 4 1 } }).inc O.stopFrames
  else l

/-- STOP_FRAME (R337, R338). -/
def execStopFrame (l : LaneId) (rx : CanRx) (payload : List Byte) (s : State) : Host.Outcome State Fault Refusal :=
  onLaneAt l rx.fin s fun x =>
    let x := x.canState rx.busState
    if !x.netUp || rx.busState = 2 then x
    else if !x.canHeader rx 0x010 true || payload.length ≠ 8
      || be payload 0 4 % 2 ^ 18 ≠ rx.acceptance.toNat % 2 ^ 18 then x.inc O.canxlIgnored
    else x.takeStop payload

/-- Is bit 3 of SAFE_STOP set at an instant? (R338) -/
def Lane.canStop (l : Lane) (t : Nat) : Bool :=
  match l.net.stopUntil with
  | some e => decide (t < e)
  | none => false

/-- STOP_FRAME_HOLD_END (R338): 10 ms after acceptance the bit clears. -/
def execStopFrameHoldEnd (l : LaneId) (t : Nat) (s : State) : Host.Outcome State Fault Refusal :=
  onLaneAt l t s fun x => if x.canStop x.now then x else { x with net := { x.net with stopUntil := none } }

/-- Is a request of the CAN XL port being answered? (R339) -/
def Lane.canBusy (l : Lane) : Bool := l.txn.opened.any fun o => o.id.can

/-- A CAN XL request that R337, R339 and R357 let through; the others are ignored, dropped or expired. -/
def Lane.canTake (l : Lane) (me : LaneId) (rx : CanRx) (h : TxnHead) (len : Nat) : Bool × Lane :=
  if !l.netUp || rx.busState = 2 then (false, l)
  else if !l.canHeader rx (0x400 + laneNo me) false || decide (488 < len) then (false, l.inc O.canxlIgnored)
  else if l.canBusy then (false, l.inc O.canxlDrops)
  else if l.obj O.netTimeSource ≠ 0 && l.expired (l.netTime rx.start) h.hostTime.toNat then (false, l.inc O.txnExpired)
  else (true, l)

/-- A write on CAN XL: refused in service (R339), otherwise as on the networks. -/
def canWrite (l : LaneId) (h : TxnHead) (data : List Byte) (at_ : Nat) (s : State) : State :=
  if (s.lane l).obj O.lcStateObj = 3 then s.upd l fun x => x.answerId (x.headId true h) 9 []
  else serveWrite l ((s.lane l).headId true h) (headKey h) h.offset.toNat h.dataLen.toNat data at_ s

/-- A request of the CAN XL port is executed by its OP (R345, R355). -/
def canRun (l : LaneId) (h : TxnHead) (data : List Byte) (at_ : Nat) (s : State) : State :=
  match h.op.toNat with
  | 1 => s.upd l fun x => (x.e1Until x.now).serveRead l true 488 h
  | 2 => canWrite l h data at_ s
  | 3 => s.upd l fun x => x.serveBulk l true 488 h
  | 4 => s.upd l fun x => x.serveClose true h
  | _ => s.upd l fun x => x.answerId (x.headId true h) 2 []

/-- A READ on CAN XL at a lane that its self-test holds (R445). -/
def Lane.heldCan (l : Lane) (me : LaneId) (rx : CanRx) (h : TxnHead) : Lane :=
  if !l.heldGood || rx.busState = 2 || !l.canHeader rx (0x400 + laneNo me) false || h.op ≠ 1 || !heldReadable h.index.toNat then l
  else
    let r := l.readObj me false (headKey h) h.offset.toNat 488
    l.queueAnswer (l.headId true h) 4 (headBytes h r.1 r.2.length ++ r.2)

/-- CAN_TRANSACTION (R339): an OP that R355 does not list is answered with result 4 and not executed. Its stamp is its frame's start (R357). -/
def execCanTransaction (l : LaneId) (rx : CanRx) (h : TxnHead) (data : List Byte) (s : State) :
    Host.Outcome State Fault Refusal :=
  onStateAt l rx.fin s fun s =>
    let s := s.upd l fun x => x.canState rx.busState
    if (s.lane l).pwr.selftest = .failed then s.upd l fun x => x.heldCan l rx h else
    let (ok, x) := (s.lane l).canTake l rx h data.length
    if !ok then s.setLane l x
    else
      let (go, y) := x.letIn true h rx.start
      if !go then s.setLane l y
      else if h.op.toNat = 0 || decide (5 < h.op.toNat) then s.setLane l (x.reply (x.headId true h) h 4)
      else canRun l h data rx.start (s.setLane l y)

/-- The head of an SKD-2 request (R340): it has no tag, and `offset` holds its DATA. -/
def skdHead (payload : List Byte) : TxnHead :=
  { session := 0, tag := 0, op := BitVec.ofNat 8 (be payload 0 1), index := BitVec.ofNat 16 (0x2800 + be payload 1 1),
    sub := BitVec.ofNat 8 (be payload 2 1), dataLen := BitVec.ofNat 16 (be payload 3 1),
    offset := BitVec.ofNat 32 (be payload 4 4), hostTime := 0 }

/-- The id of the SKD-2 request under way. -/
def skdId : TxnId := ⟨true, skdTag, 0⟩

/-- An SKD-2 request that the port takes (R336, R337, R339, R340): a CAN FD frame with the lane's ID; it is open until it is answered. -/
def Lane.skdTake (l : Lane) (me : LaneId) (rx : SkdRx) (payload : List Byte) : Bool × Lane :=
  if !l.netUp || !l.flag O.canxlSkd2En || payload.length ≠ 8 || !rx.fd || rx.priority.toNat ≠ 0x5A0 + laneNo me || rx.busState = 2 then
    (false, l)
  else if be payload 0 1 ≠ 1 && be payload 0 1 ≠ 2 then (false, l.inc O.canxlIgnored)
  else if l.canBusy then (false, l.inc O.canxlDrops)
  else if 16 ≤ l.txn.opened.length then (false, l.reply skdId (skdHead payload) 8)
  else (true, { l with txn := { l.txn with opened := l.txn.opened ++ [⟨skdId, skdHead payload, .t5⟩] } })

/-- A read through an SKD-2 request: LEN is the length of the value (R340, R369). -/
def Lane.skdRead (l : Lane) (me : LaneId) (h : TxnHead) : Lane :=
  let l := l.portsTo l.now
  let r := l.readObj me false (headKey h) 0 4
  let ok := decide (r.1 ≠ 0) || decide (r.2.length = h.dataLen.toNat)
  l.answerId skdId (if ok then r.1 else 3) (if ok then r.2 else [])

/-- A write through an SKD-2 request: the low LEN bytes of DATA (R340, R370). -/
def skdWrite (l : LaneId) (h : TxnHead) (at_ : Nat) (s : State) : State :=
  let n := h.dataLen.toNat
  if (s.lane l).obj O.lcStateObj = 3 then s.upd l fun x => x.answerId skdId 9 []
  else if n = 0 || decide (4 < n) then s.upd l fun x => x.answerId skdId 3 []
  else serveWrite l skdId (headKey h) 0 n (bytesBE n h.offset.toNat) at_ s

/-- A request of R340 is executed by its OP. -/
def skdRun (l : LaneId) (rx : SkdRx) (payload : List Byte) (s : State) : State :=
  let (ok, x) := ((s.lane l).canState rx.busState).skdTake l rx payload
  let h := skdHead payload
  if !ok then s.setLane l x
  else if h.op = 1 then s.setLane l (x.skdRead l h)
  else skdWrite l h rx.t (s.setLane l x)

/-- SKD2_ALIAS_READ (R340). -/
def execSkd2AliasRead (l : LaneId) (t : SkdRx) (payload : List Byte) (s : State) : Host.Outcome State Fault Refusal :=
  onStateAt l t.t s fun s => skdRun l t payload (s.upd l fun x => x.e1Until x.now)

/-- SKD2_ALIAS_WRITE (R340). -/
def execSkd2AliasWrite (l : LaneId) (t : SkdRx) (payload : List Byte) (s : State) : Host.Outcome State Fault Refusal :=
  onStateAt l t.t s (skdRun l t payload)

end Sys2Proof.Machine
end

