-- ==== Sys2Proof/Machine/Supervision.lean ====
section
/-!
DEFINITION. Plausibility and observer supervision (R161 to R177): innovation, cues, angles, link power flow, and the loss
and re-lock of the rotor angle.
-/
namespace Sys2Proof.Machine

/-- The innovation of a channel, from the copy of Y that E1 handed over (R148, R162). -/
def Lane.innov (l : Lane) (c : Nat) : Int := toI 32 (nth (l.loop 0).yCopy c)

/-- Every running check starts afresh (R164): counts and partial windows are discarded. -/
def SupSt.afresh (s : SupSt) : SupSt :=
  { s with innRun := List.replicate 24 0, white := List.replicate 24 {}, cueHist := [], link := {}, last := none }

/-- The lane loses the rotor (R172, R173): a further cause during a re-lock is only counted, and LOSS_CAUSE_LAST keeps the first one
(assumption log 166). -/
def Lane.loseRotor (l : Lane) (cause : Nat) : Lane :=
  let l := l.inc O.rotorLosses
  if l.spv.state = 1 then l
  else
    let l := (((l.setObj O.lossCauseLast cause).setObj O.supState 1).setSlot 29 0).setObj O.torqueShareObj 0
    { l with spv := { l.spv.afresh with state := 1, lossAt := l.now, relockRun := 0, agreeSince := none } }

/-- The angle channel in a judged sample: the loss of R172 and the re-lock of R173, which counts samples whose slots carry the
substitute. Answers whether the rotor was lost. -/
def Lane.angleChannel (l : Lane) : Lane × Bool :=
  let c := l.obj O.supChAngle
  if 24 ≤ c then (l, false)
  else
    let e := (l.innov c).natAbs
    let run := if 0x0AAAAAAB < e then l.spv.lossRun + 1 else 0
    let within := if e ≤ 0x038E38E4 && l.spv.carried then l.spv.relockRun + 1 else 0
    let lost := decide (run = 3)
    let l := { l with spv := { l.spv with lossRun := if lost then 0 else run,
                                          relockRun := if l.spv.state = 1 then within else 0 } }
    if lost then (l.loseRotor 1, true)
    else if l.spv.state = 1 && decide (8 ≤ within) then
      let l := (l.setObj O.supState 2).setObj O.relockTimeLast (min ((l.now - l.spv.lossAt) / 1000) 0xFFFF)
      ({ l with spv := { l.spv.afresh with state := 2, relockRun := 0 } }, false)
    else (l, false)

/-- Is a channel checked for magnitude and whiteness? (R165) -/
def Lane.checkedCh (l : Lane) (c : Nat) : Bool :=
  decide (l.obj (O.supInnovLim c) ≠ 0) && decide (c ≠ l.obj O.supChAngle)

/-- Innovation magnitude (R164, R165). -/
def Lane.innovMagnitude (l : Lane) : Lane :=
  let over_ := (List.range 24).map fun c => l.checkedCh c && decide (l.obj (O.supInnovLim c) < (l.innov c).natAbs)
  let runs := (List.range 24).map fun c => if nthB over_ c then nth l.spv.innRun c + 1 else 0
  let l := (l.setObj O.innovOverMask (packBits over_)).incIf O.innovEvents (over_.any id)
  let n := l.obj O.supInnovN
  let l := { l with spv := { l.spv with innRun := runs.map fun r => if n ≤ r then 0 else r } }
  (List.range 24).foldl (fun l c => l.raiseIf (nthB over_ c && decide (n ≤ nth runs c)) 0x18 c) l

/-- A sample enters a channel's window (R166). -/
def WhiteSt.take (w : WhiteSt) (no : Nat) (e : Int) : WhiteSt :=
  let adj := match w.prev with
    | some (k, x) => if (k + 1) % 2 ^ 32 = no then some x else none
    | none => none
  { w with n := w.n + 1, s := w.s + e, ss := w.ss + e * e, prev := some (no, e),
           sp := w.sp + (match adj with | some x => e * x | none => 0),
           n1 := w.n1 + (match adj with | some _ => 1 | none => 0) }

/-- The test of R166 at the end of a window, in units of 2 to the -31: r1, judged, and coloured. -/
def WhiteSt.test (w : WhiteSt) (lim rhoLim biasLim : Nat) : Rat × Bool × Bool :=
  let m : Rat := (w.s : Rat) / w.n
  let s2 := (w.ss : Rat) / w.n - m * m
  let r1 := ((w.sp : Rat) / w.n1 - m * m) / s2
  let judged := decide (((lim : Rat) / 256) * ((lim : Rat) / 256) ≤ s2) && decide (w.n1 ≠ 0)
  let abs := fun q : Rat => if q < 0 then -q else q
  (r1, judged, judged && (decide ((rhoLim : Rat) / 32768 < abs r1) || decide ((biasLim : Rat) / 32768 * lim < abs m)))

/-- Whiteness of one channel (R164, R166); a window's first sample forms no product with the window before (assumption log 165). -/
def Lane.whitenessCh (l : Lane) (c : Nat) : Lane :=
  if !l.checkedCh c then l
  else
    let w := (l.spv.white.getD c {}).take l.smp.no (l.innov c)
    let put := fun (l : Lane) (w : WhiteSt) => { l with spv := { l.spv with white := l.spv.white.set c w } }
    if w.n < l.obj O.supWhiteWin then put l w
    else
      let r := w.test (l.obj (O.supInnovLim c)) (l.obj O.supRhoLim) (l.obj O.supBiasLim)
      let run := if r.2.2 then w.run + 1 else if r.2.1 then 0 else w.run
      let l := put l { run := if run = 8 then 0 else run }
      let l := if r.2.1 then l.setObj (O.whiteRho c) (q15 r.1) else l
      (l.incIf O.whiteEvents r.2.2).raiseIf (decide (run = 8)) 0x19 c

/-- Whiteness of every channel. -/
def Lane.whiteness (l : Lane) : Lane := (List.range 24).foldl Lane.whitenessCh l

/-- The predicted current of a leg in ampere at an instant in ticks from the reload (R167). -/
def SupPosts.pred (p : SupPosts) (leg ticks : Nat) : Rat :=
  let turn : Rat := (p.theta : Rat) / 65536 + (p.omega : Rat) * 2000 / 32768 * ticks / 250000000
  ofDq p.idE p.iqE turn leg * 280 / 32768

/-- Absolute value of a rational. -/
def absQ (q : Rat) : Rat := if q < 0 then -q else q

/-- The instant in ticks at which a leg that shows no valid cue is compared (R167): the crossing of its cue record, of two the one with the
longer slew, or where it has none that of its latest transition record. -/
def cueTicks (rs : List EdgeRec) (last : EdgeRec) : Nat :=
  let r := (rs.filter fun r => r.soft && r.valid).foldl (fun (m : Option EdgeRec) r => match m with
    | none => some r
    | some x => if x.tSlew < r.tSlew then some r else some x) none
  (roundDiv (r.getD last).tCross 8).toNat

/-- Mismatch of a leg (R104, R168); none where the leg has no record and is not judged. -/
def Lane.legMismatch (l : Lane) (p : SupPosts) (leg : Nat) : Option Bool :=
  let rs := l.steer.latched.filter fun r => !r.probe && r.leg = leg
  match rs.getLast? with
  | none => none
  | some last =>
    let f := l.slot 9
    let margin : Rat := (l.obj O.supCueMargin : Rat) / 10
    let amp := fun c : Nat => ((toI 16 c : Int) : Rat) * 280 / 32768
    let tLast := cueTicks rs last
    let trunc := rs.any fun r => r.plim
      && decide (absQ (p.pred leg (roundDiv r.tCross 8).toNat)
        < (l.obj O.steerPlim : Rat) * 5 / 4 - (4 + (l.obj O.steerPlim : Rat) / 16) - margin)
    if bitOf f leg then
      let i := amp (l.slot (3 + leg))
      let bound : Rat := if bitOf f (12 + leg) then 2 + absQ i * 6 / 100 else 1 + absQ i * 4 / 100
      some (decide (bound + margin < absQ (i - p.pred leg (l.slot (6 + leg)))) || trunc)
    else if bitOf f (6 + leg) then some (decide (amp (l.obj O.cueRangeLo) + margin < absQ (p.pred leg tLast)) || trunc)
    else if bitOf f (3 + leg) then
      some (decide (absQ (p.pred leg tLast) < amp (l.obj O.cueRangeHi) * 9 / 10 - margin) || trunc)
    else some trunc

/-- Cue against prediction (R164, R167, R168), for the sample in which the cues arose. -/
def Lane.cueCheck (l : Lane) : Lane :=
  match l.spv.last with
  | none => l
  | some p =>
    if p.drives && decide ((p.no + 1) % 2 ^ 32 = l.smp.no) then
      let ms := (List.range 3).map fun i => l.legMismatch p i
      let mask := packBits (ms.map fun m => decide (m = some true))
      let bad := decide (mask ≠ 0)
      let hist := (bad :: l.spv.cueHist).take 32
      let err := bad && decide (12 ≤ (hist.filter id).length)
      let l := { l with spv := { l.spv with cueHist := if err then [] else hist } }
      (l.incIf O.cueMismatches bad).raiseIf err 0x1A mask
    else l

/-- A peer's angle referred to set 1 in units of 0.01 degrees / 65,536 (R91, R169). -/
def angleSet1 (theta lane delta : Nat) : Nat := (theta * 36000 + (lane - 1) * delta * 65536) % (36000 * 65536)

/-- The circular distance of two angles in those units. -/
def circDist (a b : Nat) : Nat :=
  let d := (a + 36000 * 65536 - b) % (36000 * 65536)
  min d (36000 * 65536 - d)

/-- Is a peer's angle usable, from its frame of the last sample judged? (R169) -/
def PeerSt.usableAngle (p : PeerSt) : Option ExchFrame :=
  match p.now with
  | some f => if bitOf f.status.toNat 0 && !p.evicted && bitOf f.angleStatus.toNat 0 && !bitOf f.angleStatus.toNat 1
      then some f else none
  | none => none

/-- The usable peer angles referred to set 1, with the peer and the frame. -/
def Lane.usableAngles (l : Lane) (me : LaneId) : List (Peer × Nat × ExchFrame) :=
  bothPeers.filterMap fun p => (l.peer p).usableAngle.map fun f =>
    (p, angleSet1 f.rotorAngle.toNat (laneNo (peerId me p)) (l.obj O.steerSetDisp), f)

/-- Do two angles disagree? (R169) -/
def Lane.anglesDiffer (l : Lane) (a b : Nat) : Bool := decide (l.obj O.supAngleTol * 65536 < circDist a b)

/-- The lane's own frame of a sample number: this sample's or the one before. -/
def Lane.ownFrameOf (l : Lane) (no : BitVec 32) : Option ExchFrame :=
  (l.smp.own.toList ++ l.smp.prevOwn.toList).find? fun f => f.sampleNo = no

/-- The sample whose frames the lane holds at a supervision run: that of the peers' usable frames, or of its own last one. -/
def Lane.framesNo (l : Lane) (me : LaneId) : Option Nat :=
  match l.usableAngles me with
  | (_, _, f) :: _ => some f.sampleNo.toNat
  | [] => l.smp.own.map fun (f : ExchFrame) => f.sampleNo.toNat

/-- Are the angles of the frames held still to be compared: in a sample that had a commit of its own (R161), once? -/
def Lane.anglesDue (l : Lane) (me : LaneId) : Bool :=
  match l.framesNo me with
  | some n => decide (n ∈ (l.loop 0).commitNos) && decide (l.spv.agreeNo ≠ some n)
  | none => false

/-- Angle agreement between lanes (R161, R169, R170), on the frames of the last sample judged; a sample in which the own angle is no
minority ends the run. -/
def Lane.angleAgreement (l : Lane) (me : LaneId) : Lane :=
  if !l.anglesDue me then l else
  let l := { l with spv := { l.spv with agreeNo := l.framesNo me } }
  let us : List (Peer × Nat × ExchFrame) := l.usableAngles me
  let own : Option Nat := match us with
    | (_, _, f) :: _ => (l.ownFrameOf f.sampleNo).map fun (o : ExchFrame) =>
        angleSet1 o.rotorAngle.toNat (laneNo me) (l.obj O.steerSetDisp)
    | [] => none
  match own with
  | none => { l with spv := { l.spv with minorRun := 0 } }
  | some a =>
    let dis := us.filter fun (u : Peer × Nat × ExchFrame) => l.anglesDiffer a u.2.1
    let minor := match us with
      | [x, y] => decide (dis.length = 2) && !l.anglesDiffer x.2.1 y.2.1
      | _ => false
    let run : Nat := if minor then l.spv.minorRun + 1 else 0
    let l : Lane := { l with spv := { l.spv with minorRun := if run = 8 then 0 else run } }
    let l := l.incIf O.angleDisagree (!dis.isEmpty)
    if run = 8 then l.loseRotor 2 else l

/-- The link current of a sample in ampere, from its posts and the applied voltages of the edge timers (R171). -/
def Lane.linkCurrent (l : Lane) (p : SupPosts) : Option Rat :=
  if p.vLink = 0 then none
  else
    let u := toDq ((List.range 3).map fun i => toI 16 (l.slot i)) ((p.theta : Rat) / 65536)
    some (3 / 2 * (u.1 * p.idE + u.2 * p.iqE) * 280 / 32768 / p.vLink)

/-- The end of a link window (R171). -/
def Lane.linkEnd (l : Lane) (w : LinkWin) : Lane :=
  let dmin : Rat := (l.obj O.supDidcMin : Rat) / 10
  let z := f32Val (l.obj O.supLinkZ)
  let judged := decide (dmin * dmin ≤ w.sii / w.n) && decide (w.sii ≠ 0)
  let b := -w.sdd / w.sii
  let bad := judged && !(decide (z / 2 ≤ b) && decide (b ≤ 2 * z))
  let run := if bad then w.run + 1 else if judged then 0 else w.run
  let l := { l with spv := { l.spv with link := { prev := w.prev, run := if run = 4 then 0 else run } } }
  let l := if judged then l.setObj O.linkZEst (f32Of b) else l
  (l.incIf O.linkEvents bad).raiseIf (decide (run = 4)) 0x1B (f32Of b)

/-- Is a code one of the sentinels of R96? -/
def isSentinel (c : Code) : Bool := c = 0x8000#16 || c = 0x8001#16

/-- The sentinel that U_MEAS of the sample carries (R39, R96): that of a stage which does not drive (`idle`), or of the sample before. -/
def Lane.uMeasSentinel (l : Lane) (idle : Code) : Option Code :=
  if !l.steer.driving || decide (l.fld Rg.pwrStat 0 3 = 1) then some idle
  else match l.smp.prevOwn with
    | some f => f.uCmd.find? isSentinel
    | none => some 0x8000#16

/-- Link power flow (R171): the sample before this one is judged once U_MEAS gives its applied voltages, whether or not this one commits. -/
def Lane.linkCheck (l : Lane) : Lane :=
  match l.spv.last with
  | none => l
  | some p =>
    if (l.uMeasSentinel 0x8000#16).isSome || decide (f32Val (l.obj O.supLinkZ) = 0) || !p.drives || decide ((p.no + 1) % 2 ^ 32 ≠ l.smp.no) then l
    else match l.linkCurrent p with
      | none => l
      | some i =>
        let w := l.spv.link
        let w' := match w.prev with
          | some (k, v, i0) =>
            if (k + 1) % 2 ^ 32 = p.no then
              let dv : Rat := ((p.vLink - v : Int) : Rat) * 1200 / 32768
              { w with n := w.n + 1, sdd := w.sdd + dv * (i - i0), sii := w.sii + (i - i0) * (i - i0) }
            else w
          | none => w
        let w' := { w' with prev := some (p.no, p.vLink, i) }
        let l := { l with spv := { l.spv with link := w' } }
        if l.obj O.supLinkWin ≤ w'.n then l.linkEnd w' else l

/-- What a judged sample leaves for the next (R163). -/
def Lane.supPosts (l : Lane) : SupPosts :=
  { no := l.smp.no, drives := l.steer.driving, idE := toI 16 (l.posted 0), iqE := toI 16 (l.posted 1),
    theta := l.posted 3, omega := toI 16 (l.posted 4), vLink := toI 16 (l.slot 11) }

/-- SUPERVISION_RUN (R161 to R174): a sample without a commit of its own is skipped, and only the link power and the angles of the sample before it
are still taken; during a re-lock the angle channel and the angle agreement alone are judged; a loss of either cause discards the windows of
its sample (R176). -/
def execSupervisionRun (l : LaneId) (t : Nat) (s : State) : Host.Outcome State Fault Refusal :=
  onE1 l t s fun x =>
    let locking := decide (x.spv.state = 1)
    if !(x.loop 0).fresh then (if locking then x.angleAgreement l else (x.angleAgreement l).linkCheck)
    else
      let x := x.updLoop 0 fun p => { p with fresh := false }
      let x := x.angleChannel.1.angleAgreement l
      if locking || x.spv.state = 1 then { x with spv := { x.spv with last := none } }
      else
        let x := (((x.innovMagnitude).whiteness).cueCheck).linkCheck
        { x with spv := { x.spv with last := some x.supPosts } }

/-- RELOCK_TIMEOUT (R173): a re-lock not complete 1 ms after the loss is an error. -/
def execRelockTimeout (l : LaneId) (t : Nat) (s : State) : Host.Outcome State Fault Refusal :=
  onLaneAt l t s fun x =>
    if x.spv.state = 1 && decide (x.spv.lossAt + 1000000 ≤ x.now) then
      x.raise 0x1D (min ((x.now - x.spv.lossAt) / 1000) 0xFFFF)
    else x

/-- The angle and speed at the next reload of a peer's frame, in the own set frame, in counts (R172). -/
def Lane.extrapolate (l : Lane) (me : LaneId) (set1 : Nat) (omega : Int) : Nat :=
  let own : Int := set1 - ((laneNo me - 1) * l.obj O.steerSetDisp * 65536 : Nat)
  ofI 16 (roundRat ((own : Rat) / 36000 + (omega : Rat) * 2000 / 32768 * (l.per .steer) / 250000000 * 65536))

/-- The circular mean of two angles in the units of `angleSet1`. -/
def circMean (a b : Nat) : Nat :=
  let m := 36000 * 65536
  let d := (b + m - a) % m
  if d ≤ m / 2 then (a + d / 2) % m else (a + m - (m - d) / 2) % m

/-- Step 2 of R172 at t5: the substitute from the usable peers, or the error of R175, once while no substitute can be formed and its
record is latched. -/
def Lane.formSubst (l : Lane) (me : LaneId) : Lane :=
  if l.spv.state = 0 then l
  else
    let us := l.usableAngles me
    let sub : Option (Nat × Int × Nat) := match us with
      | [(p, a, f)] => let w := toI 16 f.rotorSpeed.toNat; some (l.extrapolate me a w, w, 2 ^ peerIx p)
      | [(_, a, f), (_, b, g)] =>
        if l.anglesDiffer a b then none
        else
          let w := roundDiv (toI 16 f.rotorSpeed.toNat + toI 16 g.rotorSpeed.toNat) 2
          some (l.extrapolate me (circMean a b) w, w, 3)
      | _ => none
    match sub with
    | some (th, w, m) =>
      ({ l with spv := { l.spv with subst := some (th, w), noAngle := false } }).setObj O.substSource m
    | none =>
      let was := l.spv.noAngle
      let l := ({ l with spv := { l.spv with subst := none, carried := false, agreeSince := none, noAngle := true } }).setObj
        O.substSource 0
      l.raiseIf (!was || !bitOf (l.coll.spall 0x1C).flags 0) 0x1C (min l.drive.emfV 0xFFFF + 65536 * b2n (l.terminalsAbove || l.rbit Rg.gdStat 12))

/-- Three samples in a row with an invalid own angle, which E1 uses, are the loss of R172 (R283; assumption log 144). -/
def Lane.invalidAngle (l : Lane) : Lane :=
  if l.e1Runs && decide (l.spv.state = 0) && decide (3 ≤ l.sio.badAngleRun) then l.loseRotor 1 else l

/-- Slots 13 to 15 at a reload (R172, R174, R283): the own sensor, or the substitute with bit 15, and bit 14 in its first sample;
after a re-lock, 100 ms of agreement of a valid own angle (R283) give the slots back to the own sensor. -/
def Lane.angleSlots (l : Lane) : Lane :=
  let l := l.invalidAngle
  let own := l.sio
  let back := decide (l.spv.state = 2) &&
    (match l.spv.agreeSince with | some t0 => decide (t0 + 100000000 ≤ l.now) | none => false)
  let l := if back then
      (({ l with spv := { l.spv with state := 0, subst := none, carried := false, agreeSince := none } }).setObj O.supState 0).setObj
        O.substSource 0
    else l
  match l.spv.subst with
  | none =>
    (((({ l with spv := { l.spv with agreeSince := none } }).setSlot 13 own.angle).setSlot 14 own.speed).setSlot 15 own.angleFlags)
  | some (th, w) =>
    let agree := bitOf own.angleFlags 0 && !l.anglesDiffer (th * 36000) (own.angle * 36000) && decide (l.spv.state = 2)
    let since := if agree then some (l.spv.agreeSince.getD l.now) else none
    let fl := own.angleFlags ||| 0x8000 ||| (if l.spv.carried then 0 else 0x4000)
    let l := ((l.setSlot 13 th).setSlot 14 (ofI 16 w)).setSlot 15 fl
    { l with spv := { l.spv with carried := true, agreeSince := since } }

end Sys2Proof.Machine
end

