-- ==== Sys2Proof/Machine/Sample.lean ====
section
/-!
DEFINITION. The sample frame of a lane (R27 to R32): the steering reload, the exchange frame and its check at t5, the Time
frames (R38) and the claim frame (R76, R78, R80). Assumption log 85 to 91.
-/
namespace Sys2Proof.Machine

/-- The sentinel of a stage that does not drive (R96, R432): open in Hold. -/
def Lane.sentinel (l : Lane) : Code :=
  if l.pwState ≠ 1 && l.rbit Rg.gdStat 12 then 0x8001#16 else 0x8000#16

/-- Does the steering period of every claiming peer whose period is known equal the lane's own? (R245) A trim of R244 moves a
single period by one tick. -/
def Lane.periodsEqual (l : Lane) : Bool :=
  bothPeers.all fun p =>
    let q := l.peer p
    !q.claims || decide (q.period = 0) || decide (((q.period : Int) - 4 * l.per .steer).natAbs ≤ 4)

/-- What CAPABILITY bit 0 shows: the steering stage is available (R39, R92, R141, R245, R249, R268, R280, R281, R417). It depends neither
on the claim nor on Hold. -/
def Lane.steerFit (l : Lane) : Bool :=
  let res := l.obj O.angPRes
  let rate := l.obj O.angMode = 0 || decide (12 * l.obj O.steerFeMax * Config.sentTf (l.sentNibbles 4) ≤ 1000000000)
  !l.coll.error && l.hvClosed && l.drive.linkPresent && !l.drive.hvClass && l.motorOk
  && decide (l.obj O.supChAngle ≠ 0xFF) && decide (res ≠ 0) && decide (l.obj O.steerPolePairs % res = 0) && rate
  && !l.gateCut && l.rbit Rg.gdCtl 0 && l.gatesFed .steer && !l.tripped .steer && decide (l.steer.diag = .passed) && l.periodsEqual
  && !l.smp.realign && !l.upd.removal

/-- CAPABILITY bit 0: after a protective trip it is set again from the sample in which the stage drives again (R261). -/
def Lane.capSteer (l : Lane) : Bool := l.steerFit && !l.steer.afterTrip

/-- May the steering stage drive in the sample that starts? (R96) -/
def Lane.maySteer (l : Lane) : Bool := l.stageReady .steer && l.steerFit

/-- CAPABILITY (R39). -/
def Lane.capability (l : Lane) : Nat := packBits [l.capSteer, l.capBrake, l.hvClosed]

/-- The probe references of the sample as the default sequencer program sets them (R107): the posted magnitudes, 1.25 A a
count. -/
def Lane.setProbes (l : Lane) : Lane :=
  (List.range 6).foldl (fun l i =>
    let v := min (roundDiv ((l.posted (5 + i) * 1120 : Nat) : Int) 163840).toNat 255
    if i < 4 then l.setFld Rg.gdProbe0 (8 * i) 8 v else l.setFld Rg.gdProbe1 (8 * (i - 4)) 8 v) l

/-- The captures of a reload (R29 step 2): monitors, contacts, supplies and every slot that is written at a reload (R108, R207,
R275 to R283), and V_CONV of every stage (R238). -/
def Lane.takeCaptures (l : Lane) (me : LaneId) (c : Captures) : Lane :=
  let temps := c.temps.map fun (x : Code) => x.toNat
  let l := l.takeMonitors temps (c.volts.map fun (x : Code) => x.toNat)
  let dev := ofI 16 (maxI ((temps.drop 6).take 3))
  let l := { l with drive := { l.drive with tDev := dev, tWind := c.tWind.toNat, tCool := nth temps 13 },
                    sio := { l.sio with fb := c.fb.toNat },
                    smp := { l.smp with vBrake := c.vBrake.toNat, vLogic := c.vLogic.toNat } }
  let l := l.setFld Rg.sioCt 4 4 (l.fbRead l.sio.fb)
  let l := ((l.steerSlots c.vLink.toNat).setSlot 11 c.vLink.toNat).setSlot 12 c.rOn.toNat
  let l := l.setReg (Rg.pwmVConv .steer) c.vLink.toNat
  let l := brakeStages.foldl (fun (l : Lane) st => l.setReg (Rg.pwmVConv st) c.vBrake.toNat) l
  let l := (List.range 6).foldl (Lane.sampleAna me c) l
  let l := ((List.range 4).foldl Lane.sampleSent l).sampleAngle.angleSlots
  allDrives.foldl (Lane.brakeSlotsReload me c.vBrake.toNat) l

/-- The sample that starts at a reload: its number and instants (R28, R42), and SAMPLE_COUNT. -/
def Lane.newSample (l : Lane) (me : LaneId) : Lane :=
  let s := l.smp
  let smp := { s with prevReload := s.reloadAt, reloadAt := l.now, prevOwn := s.own, own := none, sent := false,
                      no := l.nextSampleNo me, takeNo := false }
  let l := { l with smp := smp }
  let l := bothPeers.foldl (fun l p => l.updPeer p fun q => { q with got := none }) l
  l.setObj O.sampleCount ((l.obj O.sampleCount + 1) % 2 ^ 64)

/-- A trim of the driving stage's period is counted when the period ends (R244). -/
def Lane.countTrim (l : Lane) : Lane :=
  let l := l.incIf O.steerTrims (l.steer.driving && decide (l.smp.trim ≠ 0))
  { l with smp := { l.smp with trim := 0 } }

/-- Does a lane that has re-qualified claim at this reload (R27, R59, R63, R78, R417, R422)? `seeded`: it has loaded the seed addressed
to the sample that starts. -/
def Lane.claimsNow (l : Lane) (seeded : Bool) : Bool :=
  let none_ := bothPeers.all fun p => !(l.peer p).claims
  let low := match l.pwr.target with | some x => decide (2 ≤ x) | none => false
  l.coll.requal && l.coll.requalSlice && decide (l.coll.requalAgree = 1) && !l.coll.error && !l.gateCut && !l.smp.listening
  && !l.claim.aside && !low && l.com.syncPeer.isNone && !l.claim.claiming
  && (decide (l.fld Rg.sumpEvict 0 2 = 0) || l.rbit Rg.gdStat 14) && (none_ || seeded) && l.aligned

/-- What the claim of a lane ends: a start or a wake, a stand-aside, a trial (R414, R417, R437, R440, R450). -/
def Lane.claimEnds (l : Lane) : Lane :=
  let l := if l.pwr.waking then
      ({ l with pwr := { l.pwr with waking := false } }).setObj O.startTimeLast ((l.now - l.pwr.wokeAt) / 1000)
    else l
  let l := (l.setStep 0).setObj O.updState 0
  let l := match l.upd.asideAt with
    | some t0 => ({ l with upd := { l.upd with asideAt := none } }).setObj O.updAsideTime ((l.now - t0) / 1000000)
    | none => l
  let l := if l.obj O.fwTrial = 1 then
      ({ l with upd := { l.upd with trialFw := false, trialProg := false } }).setObj O.fwTrial 2
    else l
  let l := if l.pwr.holdAfter && l.parkHeld then
      { l with pwr := { l.pwr with request := some 1, holdAfter := false } } else l
  match l.pend with
  | some p => ({ l with pwr := { l.pwr with request := some p } }).setPend none
  | none => l

/-- The claim begins (R59, R77): re-qualification is over, tenure starts at 0. A lane with no claiming peer seeds its shaper at
rest (R181). -/
def Lane.beginClaim (l : Lane) : Lane :=
  let l := if bothPeers.all fun p => !(l.peer p).claims then l.seedAtRest.prepareRef else l
  let l := { l with claim := { l.claim with claiming := true, tenure := 0, winHealthy := false },
                    coll := { l.coll with requal := false, requalSlice := false, requalAgree := 0 } }
  l.claimEnds

/-- STEERING_RELOAD (R29, R155): the steps of a reload in order, and what else a sample begins with; the list of the frames sent begins
anew. -/
def execSteeringReload (l : LaneId) (t : Nat) (c : Captures) (s : State) : Host.Outcome State Fault Refusal :=
  onLanePeers l t s fun pl x =>
    if !x.up then x else
    let ended := x.smp.no
    let x := ((({ x.e1Until x.now with out := {} }).watchTerminals c.vTermAbove).captureRecord l).countTrim
    let may := x.maySteer
    let x := if x.steer.driving && !may then x.ceaseSteer else x
    let x := x.boundary .steer may
    let x := (x.newSample l).latchEdges
    let x := x.takeCaptures l c
    let drives := x.steer.driving || bothPeers.any fun p => decide ((x.peer p).mode = 0)
    let fits := scheduleOk x.standbyBank
    let x := (x.swapStep fits drives).selectBenches.newPosts.steeringRun.setProbes
    let seeded := match x.shape.seed with | some d => decide (d.sample = x.smp.no) | none => false
    let x := x.shapeReload.bermReload
    let x := (x.commitReload l pl ended).powerReload
    if x.claimsNow seeded then x.beginClaim else x

/-- The Demand of the sample (R31, R48, R49): the newest one stamped at or before its reload, else the one before. -/
def Lane.placeDemand (l : Lane) : Lane :=
  let due := l.dem.acc.filter fun (d : DemandRec) => decide (d.stamp ≤ l.smp.reloadAt)
  { l with dem := { l.dem with
      cur := match due.head? with | some d => some d | none => l.dem.cur
      acc := l.dem.acc.filter fun (d : DemandRec) => decide (l.smp.reloadAt < d.stamp) } }

/-- Has the steering loop committed in the present sample? (R28) -/
def Lane.committedNow (l : Lane) : Bool := (l.loop 0).committed && decide (l.smp.reloadAt ≤ (l.loop 0).startAt)

/-- The mean voltage that a duty in sixteenths of a tick applies, the inverse of R238, as a code on 1,200 V. -/
def Lane.dutyVolts (l : Lane) (i : Nat) : Nat :=
  let p := l.per .steer
  let v := l.fld (Rg.pwmVConv .steer) 0 16
  let d := l.reg (Rg.pwmDutyAct .steer i)
  codeI 16 (roundDiv ((v : Int) * ((d : Int) - 8 * p)) (16 * max p 1))

/-- U_CMD of the exchange frame (R28, R39, R96): the committed voltages, the applied set where none was committed, sentinels in a
lane that does not drive. -/
def Lane.uCmdField (l : Lane) : List Code :=
  if !l.steer.driving || l.pwState = 1 then List.replicate 3 l.sentinel
  else if l.committedNow then (List.range 3).map fun i => BitVec.ofNat 16 (nth (l.loop 0).uCmd i)
  else (List.range 3).map fun i => BitVec.ofNat 16 (l.dutyVolts i)

/-- U_MEAS (R39, R96): the applied voltages of the sample before, a sentinel for a sample in which the set was not driven. -/
def Lane.uMeasField (l : Lane) : List Code :=
  match l.uMeasSentinel l.sentinel with
  | some c => List.replicate 3 c
  | none => (List.range 3).map fun i => BitVec.ofNat 16 (l.slot i)

/-- ANGLE_STATUS (R39, R172): valid, on a substitute, and the source. -/
def Lane.angleStatus (l : Lane) : Nat :=
  let own := l.spv.state = 0
  let valid := if own then bitOf l.sio.angleFlags 0 else decide (l.spv.state = 2)
  packBits [valid, !own] + 4 * (if l.obj O.angMode = 0 then 0 else 1)

/-- Has the lane itself accepted a Demand within the host-loss time? (R39, R76, R185) -/
def Lane.hostHeard (l : Lane) : Bool :=
  decide (l.dem.ownAt ≠ 0) && decide (l.now < l.dem.ownAt + 1000000 * l.obj O.hostLossTime)

/-- STATUS of the exchange frame (R39); a lane evicted twice does not re-qualify before a Park (R58). -/
def Lane.statusField (l : Lane) : Nat :=
  packBits [l.claim.claiming && !l.gateCut, l.coll.error, l.withdrawn || l.com.syncPeer.isSome,
    l.coll.requal && l.coll.requalSlice && l.com.judged && decide (l.fld Rg.sumpEvict 0 2 < 2), l.steer.driving && !l.committedNow, l.drive.odInForce,
    decide (l.obj O.stopState = 1), !l.hostHeard]

/-- SAFE_STOP (R39, R286, R338). -/
def Lane.safeStopField (l : Lane) : Nat :=
  packBits [l.sio.ss0.closed, l.sio.ss1.closed, l.sio.checkOk, l.canStop l.now, l.stopDemand]

/-- Is any protective trip active in the lane's stages? -/
def Lane.anyTrip (l : Lane) : Bool := allStages.any l.tripped

/-- HEALTH (R39); a sensor supply's trip is a protective trip (R274). -/
def Lane.healthField (l : Lane) : Nat :=
  packBits [l.coll.error, l.anyTrip || (List.range 4).any fun n => (l.sup n).tripped, bitOf (l.coll.spall 0x06).flags 0]

/-- The lines that the lane asserts: EVICT_OUT of R39 and EVICT_NOTICE of R78. -/
def Lane.linesOut (l : Lane) : Nat := packBits [l.peerLo.lineOut, l.peerHi.lineOut]

/-- The claim that the lane sends in its frames (R75, R78). -/
def Lane.claimField (l : Lane) : Nat :=
  if l.claim.claiming then match l.claim.last with | some f => f.claim.toNat | none => 0 else 0

/-- The exchange frame of the sample (R39). -/
def Lane.exchFrame (l : Lane) (me : LaneId) : ExchFrame :=
  let c16 := fun v : Nat => BitVec.ofNat 16 v
  let dem : DemandRec := match l.dem.cur, l.sess.num with
    | some d, some n => if d.session = n then d else ⟨0, 0, 0, 0, [], 0⟩
    | _, _ => ⟨0, 0, 0, 0, [], 0⟩
  let idq := if l.steer.driving || (l.sentinel = 0x8001#16 && l.e1Runs) then [c16 (l.framePost 0), c16 (l.framePost 1)] else [0, 0]
  let late := l.e1Due && !(l.loop 0).postsIn 5
  { source := BitVec.ofNat 8 (4 + laneNo me), status := c16 l.statusField, sampleNo := BitVec.ofNat 32 l.smp.no,
    reloadTime := BitVec.ofNat 64 l.smp.reloadAt, claim := c16 l.claimField,
    verdictLo := BitVec.ofNat 8 l.peerLo.verdict, verdictHi := BitVec.ofNat 8 l.peerHi.verdict,
    demandSeq := BitVec.ofNat 32 dem.seq, demandEpoch := c16 dem.epoch, session := c16 (l.sess.num.getD 0),
    demandCrc := BitVec.ofNat 32 dem.crc, demandMotion := padTo 40 dem.motion,
    rotorAngle := c16 (l.framePost 3), rotorSpeed := c16 (l.framePost 4),
    angleStatus := BitVec.ofNat 8 (if late then l.drive.angleSent else l.angleStatus),
    uCmd := l.uCmdField, uMeas := l.uMeasField, iDq := idq,
    vLink := c16 (l.slot 11), vBrake := c16 l.smp.vBrake, vLogic := c16 l.smp.vLogic, torqueShare := c16 (l.allowedTorque (l.framePost 2) (l.framePost 4)),
    sentVal := l.sio.sentVal.map c16, anaVal := l.sio.anaVal.map c16,
    safeStop := BitVec.ofNat 8 l.safeStopField, feedback := BitVec.ofNat 8 l.sio.fb,
    sentOk := BitVec.ofNat 8 l.sio.sentOk, anaOk := BitVec.ofNat 8 l.sio.anaOk,
    brakeForce := allDrives.map fun (n : Fin 8) => c16 (l.bpost n 0),
    brakeState := allDrives.map fun (n : Fin 8) => BitVec.ofNat 8 (l.brakeState me n),
    capability := c16 l.capability, overdriveBudget := c16 (l.obj O.odBudgetOwn), tempMax := c16 l.drive.tDev,
    health := c16 l.healthField, firstCause := BitVec.ofNat 32 l.coll.firstCause,
    evictOut := BitVec.ofNat 8 l.linesOut,
    evictIn := BitVec.ofNat 8 (packBits [l.peerLo.lineIn, l.peerHi.lineIn, l.gateCut]),
    voteFlags := c16 (packBits (l.votes.toList.map fun (v : VoteIn) => v.outOfTol)),
    peerOffset := bothPeers.map fun (p : Peer) => BitVec.ofInt 32 (l.peer p).offset,
    appValues := (List.range 32).map fun i => c16 (l.framePost (16 + i)) }

/-- A lane that does not claim, or whose CAPABILITY bit 0 is clear, does not drive its set (R95, R96). -/
def Lane.ceaseUnfit (l : Lane) : Lane := if l.steer.driving && !(l.claim.claiming && l.capSteer) then l.ceaseSteer else l

/-- EXCHANGE_SEND (R28, R31, R39, R42, R109): 6.5 µs after the reload; a lane that listens sends none, and a sample has one. The frame
shows a set that is not to be driven as not driven (R96). -/
def execExchangeSend (l : LaneId) (t : Nat) (s : State) : Host.Outcome State Fault Refusal :=
  onE1 l t s fun x =>
    if !x.up || x.smp.listening || x.smp.sent then x else
    let x := (x.ceaseUnfit.placeDemand).incIf O.postLate (x.e1Due && !(x.loop 0).postsIn 11)
    let f := x.exchFrame l
    { x with smp := { x.smp with own := some f, sent := true, lastSend := x.now },
             drive := { x.drive with angleSent := f.angleStatus.toNat } }

/-- The steering period of a peer as its RELOAD_TIME fields show it, in nanoseconds (R245). -/
def PeerSt.notePeriod (q : PeerSt) : PeerSt :=
  match q.now with
  | none => q
  | some f =>
    let no := f.sampleNo.toNat
    let at_ := f.reloadTime.toNat
    let per := match q.reload0 with
      | some (no0, at0) =>
        let d := (no + (2 ^ 32 - no0)) % 2 ^ 32
        if d = 0 || at_ ≤ at0 then q.period else (roundDiv ((at_ - at0 : Nat) : Int) d).toNat
      | none => q.period
    { q with reload0 := some (no, at_), period := per }

/-- Did the last frame of a peer that passed show a latched error? (R39, R429) -/
def PeerSt.sick (q : PeerSt) : Bool := match q.last with | some f => bitOf f.health.toNat 0 | none => false

/-- A peer's frame of the sample is judged (R41), with its period (R245); an error that a peer latches ends a stand-aside
(R429). -/
def Lane.judgeFrame (l : Lane) (p : Peer) : Lane × FrameChecks :=
  let q := l.peer p
  let r := q.judge l.smp.reloadAt l.smp.no
  let heard := if r.1.got0.isSome then q.got.map fun g => g.1 else none
  let l := (l.setPeer p r.1.notePeriod).noteAlign p heard
  let l := if l.claim.aside && !l.upd.removal && !q.sick && r.1.sick then l.endAsideForPeer else l
  (l, r.2)

/-- The session that is open (R48, R344): the newest of the session numbers that the claiming lanes carry. -/
def Lane.voteSession (l : Lane) (me : LaneId) : Lane :=
  let ns := ((l.claimFrames me).map fun x => x.2.session.toNat).filter fun n => n ≠ 0
  let s := ns.foldl (fun (m : Option Nat) n => match m with
    | none => some n
    | some k => if newerSession n k then some n else some k) none
  { l with dem := { l.dem with session := s } }

/-- The lane's estimate of its peak line-to-line back-EMF in volt from the posted speed (R94, R95), and since when it lies below
half the link. -/
def Lane.estimateEmf (l : Lane) : Lane :=
  let hz : Rat := ((toI 16 (l.posted 4)).natAbs * 2000 : Nat) / 32768
  let v := (roundRat (sqrtQ 3 * 2 * piQ * hz * magQ (f32Val (l.obj O.steerPsiM)))).toNat
  let low := decide (2 * v * 32768 < l.slot 11 * 1200)
  { l with drive := { l.drive with emfV := v },
           gate := { l.gate with emfLowSince := if low then some (l.gate.emfLowSince.getD l.now) else none } }

/-- The field-weakening limit of R119: in a driving lane that has committed, the voltage demand exceeds U_MAX with the posted
d current at I_D_MIN. -/
def Lane.feLimited (l : Lane) : Bool :=
  let u := toI 16 (nth (l.loop 0).uCmd 0)
  let v := toI 16 (nth (l.loop 0).uCmd 1)
  let w := toI 16 (nth (l.loop 0).uCmd 2)
  let m : Int := l.slot 31
  l.steer.driving && l.committedNow && decide (9 * m * m < 4 * (u * u + v * v + w * w - u * v - v * w - w * u))
  && decide (toI 16 (l.posted 0) ≤ toI 16 (l.slot 32))

/-- The module's part of a t5: frames, votes, verdicts, lines and the module state (R41 to R63). -/
def Lane.checkModule (l : Lane) (me : LaneId) : Lane :=
  let a := l.judgeFrame .lo
  let b := a.1.judgeFrame .hi
  let l := Lane.markCut me (Lane.markCut me b.1 .lo) .hi
  let l := ((l.voteSession me).voteAll me).voteDemand me
  let l := Lane.judgePeer me (Lane.judgePeer me l .lo a.2) .hi b.2
  let l := (l.evictPeer .lo).evictPeer .hi
  let l := Lane.countAccusing me (Lane.countAccusing me l .lo) .hi
  ((Lane.followRequal me (Lane.followRequal me l .lo) .hi).planTrim me).moduleState me

/-- The drive's and the brakes' part of a t5: limits, errors, substitute angle, shaper, braking (R92, R94, R111 to R119, R172 to
R226). -/
def Lane.checkDrives (l : Lane) (me : LaneId) (pl : Peer → Lane) : Lane :=
  let l := ((l.estimateEmf.peerModes.currentCircle).circleErrors).speedLimit
  let l := l.incIf O.feLimitEvents l.feLimited
  let l := l.formSubst me
  let l := l.limitSlots (l.spv.state = 1)
  let l := ((l.shapeT5 me).brakeT5 me pl).regenLimit
  l.incIf O.periodMismatch (!l.periodsEqual)

/-- A lane whose life-cycle state has changed at an earlier t5, and differs from that of a claiming peer, claims no longer and re-qualifies
(R409; assumption log 132). -/
def Lane.leaveClaim (l : Lane) (same : Bool) : Lane :=
  match l.claim.lcAt with
  | some t0 =>
    if l.now ≤ t0 then l
    else
      let l := { l with claim := { l.claim with lcAt := none } }
      if same || !l.claim.claiming then l else l.ceaseSteer.openBrakes.dropClaim.requalify
  | none => l

/-- Re-qualification at a t5 (R46, R57 to R59, R409, R416, R419, R434): every claiming peer has found the lane good, its dead times and
life cycle fit, and nothing keeps it from claiming; its own exclusions end. -/
def Lane.checkRequal (l : Lane) (me : LaneId) (pl : Peer → Lane) : Lane :=
  let lc := l.obj O.lcStateObj
  let same := bothPeers.all fun p => !(l.peer p).claims || decide ((pl p).obj O.lcStateObj = lc)
  let l := l.leaveClaim same
  let low := match l.pwr.target with | some x => decide (2 ≤ x) | none => false
  let ok := l.coll.requal && l.coll.requalSlice && l.com.judged && l.peersFindGood me && decide (1 ≤ lc ∧ lc ≤ 4) && same
    && l.r419 && decide (l.fld Rg.sumpEvict 0 2 < 2) && decide (l.obj O.dictSyncState = 0)
    && decide (l.pwr.selftest = .passed) && !l.claim.aside && !low
  let l := { l with coll := { l.coll with requalAgree := b2n ok } }
  if ok then l.endExclusions (laneNo me) else l

/-- Requests judged at a t5: standing aside (R416, R429), power (R432, R433), and the way out of Hold (R432). -/
def Lane.checkRequests (l : Lane) (me : LaneId) (pl : Peer → Lane) : Lane :=
  let l := match l.upd.request with
    | some v => l.judgeRequest me pl (v = 2)
    | none => l
  let hold := l.pwState = 1 || l.pwr.target = some 1
  let out := (l.dem.voted.isSome && !l.parkReq) || l.causesNow ≠ 0
  let l := if hold && out then { l with pwr := { l.pwr with request := some 0 } } else l
  l.judgePower.idleT5

/-- The 64 bytes of a shaper seed (R422), as the state of the t5 gives them. -/
def Lane.seedBody (l : Lane) : List Byte :=
  let s := l.shape
  let stop := l.obj O.stopState = 1
  let dem := if stop then l.brakeDemand else 0
  bytesBE 4 s.nPos ++ bytesBE 4 s.nRate ++ bytesBE 4 s.nAcc ++ bytesBE 4 s.target ++ bytesBE 2 s.cap
  ++ [if stop then BitVec.ofNat 8 (l.obj O.stopCauses) else 0, 0]
  ++ bytesBE 2 (if stop then l.obj O.stopDecelTarget else 0) ++ bytesBE 2 (if stop then l.obj O.stopTrim else 0)
  ++ ((List.finRange 12).flatMap fun (w : Fin 12) => bytesBE 2 (q15 l.brk.wheels[w].ref))
  ++ bytesBE 2 (q15 dem) ++ [0, 0] ++ bytesBE 8 (if stop then s.riseAt else 0) ++ [0, 0, 0, 0]

/-- SHAPER_SEED of the lowest-numbered claiming lane to each peer that re-qualifies (R422). -/
def Lane.sendSeeds (l : Lane) (me : LaneId) : Lane :=
  let lower := bothPeers.any fun p => (l.peer p).claims && decide (laneNo (peerId me p) < laneNo me)
  if !l.claim.claiming || lower then l else
  bothPeers.foldl (fun (l : Lane) p => match (l.peer p).now with
    | some f => if bitOf f.status.toNat 3 then l.sendUpdate me p 2 0 ((l.smp.no + 1) % 2 ^ 32) l.seedBody else l
    | none => l) l

/-- A driving stage whose availability has gone ceases to drive (R95, R245); a stage that owes its diagnostics and does not drive runs them
(R264). -/
def Lane.checkSteer (l : Lane) : Lane := (if l.steer.driving && !l.capSteer then l.ceaseSteer else l).diagStart

/-- The snapshot of a t5 for the Reports that follow it (R353). -/
def Lane.takeSnap (l : Lane) (me : LaneId) : Lane := { l with txn := { l.txn with snap := some (l.reportSnap me) } }

/-- EXCHANGE_CHECK (R27, R41): everything that t5 of a sample does, in the order frames, votes, drives, writes, commits,
requests. A stage that stops in it finds its winding's terminals above the link or not (R95). -/
def execExchangeCheck (l : LaneId) (t5 : CheckAt) (s : State) : Host.Outcome State Fault Refusal :=
  onStateAt l t5.t s fun s =>
    if !(s.lane l).up then s else
    let pl := s.peersOf l
    let s := s.upd l fun x => (((x.e1Until x.now).watchTerminals t5.vTermAbove).checkModule l).checkDrives l pl
    let s := commitT5 l (takeWrites l s)
    let pl := s.peersOf l
    s.upd l fun x =>
      ((((((x.takeQuote l).checkRequal l pl).checkRequests l pl).sendSeeds l).resync.checkSteer).dropLate x.now).takeSnap l

/-- An integer held within a bound either way. -/
def within (lim : Nat) (z : Int) : Int := if z < -lim then -lim else if (lim : Int) < z then lim else z

/-- The step by which lane time is slewed (R38, R325): towards the mean of the claiming lanes' times by at most 10 ns a
millisecond and towards network time by at most 1 ns a millisecond; with no claiming peer, towards network time alone. -/
def Lane.slewStep (l : Lane) : Int :=
  let ms := if l.smp.slewAt = 0 then 1 else (l.now - l.smp.slewAt) / 1000000
  let os := bothPeers.filterMap fun (p : Peer) =>
    if (l.peer p).claims && decide ((l.peer p).lastTimeRx ≠ 0) then some (l.peer p).offset else none
  let net : Int := if l.obj O.netTimeSource ≠ 0 then -l.net.offsetAt l.now else 0
  if bothPeers.all fun p => !(l.peer p).claims then within (10 * ms) net
  else
    let mean := if os.isEmpty then 0 else roundDiv (os.foldl (fun (a : Int) o => a + o) 0) (os.length + b2n l.claim.claiming)
    within (10 * ms) mean + within ms net

/-- Lane time is slewed (R38). -/
def Lane.slewTime (l : Lane) : Lane :=
  let x := l.shiftTime l.slewStep
  { x with smp := { x.smp with slewAt := l.now } }

/-- A Time frame to a peer (R37, R38): it carries the instant at which its start block leaves, when the peer's last one came, and
when the own last one left. -/
def Lane.sendTime (me : LaneId) (l : Lane) (p : Peer) : Lane :=
  let at_ := l.linkStart p 32
  let f : TimeFrame := { source := BitVec.ofNat 8 (laneNo me), sendTime := BitVec.ofNat 64 at_,
                         lastRx := BitVec.ofNat 64 (l.peer p).lastTimeRx, prevTx := BitVec.ofNat 64 (l.peer p).lastTimeTx }
  let l := (l.takeLink p 32).updPeer p fun q => { q with lastTimeTx := at_, prevTimeTx := q.lastTimeTx }
  { l with out := { l.out with times := l.out.times ++ [(p, f)] } }

/-- TIME_FRAME_SEND (R38): every 1 ms lane time is slewed, and a Time frame goes to each peer. -/
def execTimeFrameSend (l : LaneId) (t : Nat) (s : State) : Host.Outcome State Fault Refusal :=
  onLaneAt l t s fun x => if !x.up then x else bothPeers.foldl (Lane.sendTime l) x.slewTime

/-- The lane time of a start is that of the first claiming peer whose Time frame gives an offset (R443). -/
def Lane.setTime (l : Lane) (p : Peer) : Lane :=
  if l.smp.timeSet || !(l.peer p).claims then l
  else
    let l := l.shiftTime (l.peer p).offset
    { l with smp := { l.smp with timeSet := true } }

/-- The instant at which the Time frame left that the peer had received last when it sent one (R38): the newest own frame with which the
round trip is not negative, since the frames of the two lanes may cross. -/
def PeerSt.timeTxOf (q : PeerSt) (t2 t3 t4 : Int) : Int :=
  if (q.lastTimeTx : Int) + (t3 - t2) ≤ t4 then q.lastTimeTx else q.prevTimeTx

/-- TIME_FRAME (R35, R38, R443): a frame with a good CRC from the peer it names gives round trip and offset, when both ends have
heard each other. -/
def execTimeFrame (l : LaneId) (rx : BirixRx) (f : TimeFrame) (s : State) : Host.Outcome State Fault Refusal :=
  onLaneAt l (rx.fin.getD rx.start) s fun x =>
    if !x.up || rx.fin.isNone || rx.crc ≠ crc32 (timeBytes f)
      || bits f.source.toNat 0 2 ≠ laneNo (peerId l rx.peer) then x else
    let t2 : Int := f.lastRx.toNat
    let t3 : Int := f.sendTime.toNat
    let t4 : Int := rx.start
    let t1 := (x.peer rx.peer).timeTxOf t2 t3 t4
    let x := x.updPeer rx.peer fun q => { q with lastTimeRx := rx.start }
    if t1 = 0 || t2 = 0 then x
    else
      (x.updPeer rx.peer fun q =>
        { q with roundTrip := ((t4 - t1) - (t3 - t2)).toNat, offset := roundDiv ((t2 - t1) + (t3 - t4)) 2 }).setTime rx.peer

/-- The authority score (R76). -/
def Lane.score (l : Lane) (me : LaneId) : Nat :=
  let good := bothPeers.all fun p => !(l.peer p).claims || (match (l.peer p).last with
    | some f => decide (bits (verdictOn (peerId me p) me f) 0 3 = 1)
    | none => false)
  let own := (List.range 10).all fun n => !l.flag (O.voteEnable n) || !bitOf (l.obj (O.voteStatus n)) (laneNo me - 1)
  packBits [true, own, !l.anyTrip, l.net.a.linkUp && l.net.b.linkUp,
    l.hostHeard, l.capBrake, l.capSteer, good]

/-- The duty that a lane commands at ARB output n (R198, R224, R350); through a stop the motion block stays that of its start. -/
def Lane.outDuty (l : Lane) (n : Nat) : BitVec 8 :=
  let m := if l.obj O.stopState = 1 then l.shape.held.getD l.motion else l.motion
  if l.obj (O.outRole n) = 1 then BitVec.ofNat 8 (l.obj O.springDuty) else m.getD (0xA + n) 0

/-- The claim frame (R75, R76, R78, R80, R350). -/
def Lane.claimFrame (l : Lane) (me : LaneId) : ClaimFrame where
  source := BitVec.ofNat 8 (laneNo me)
  claim := if l.claim.claiming && !l.gateCut then
    BitVec.ofNat 16 (256 * l.score me + 4 * l.claim.tenure + laneNo me) else 0
  counter := BitVec.ofNat 16 (l.claim.counter + 1)
  evictNotice := BitVec.ofNat 8 l.linesOut
  control := BitVec.ofNat 8 (b2n (l.runPermit && decide (l.obj O.stopState = 0)))
  outCmd := (List.range 8).map l.outDuty
  safeMode := BitVec.ofNat 8 (packBits ((List.range 8).map fun n => decide (l.obj (O.outSafeMode n) = 1)))
  chanHold := BitVec.ofNat 8 (packBits l.claim.chanHold)
  chanClear := BitVec.ofNat 8 (packBits l.claim.chanClear)

/-- CLAIM_FRAME_SEND (R77, R78, R417): the frame goes to both halves; a window with score bit 7 clear is not healthy, and the
first frame with claim 0 after a stand-aside answers its request. -/
def execClaimFrameSend (l : LaneId) (t : Nat) (s : State) : Host.Outcome State Fault Refusal :=
  onLaneAt l t s fun x =>
    if !x.up then x else
    let f := x.claimFrame l
    let good := bitOf (x.score l) 7
    let x := { x with claim := { x.claim with counter := f.counter.toNat, last := some f,
                                              winHealthy := x.claim.winHealthy && x.claim.claiming && good } }
    let x := x.inc O.claimFrames
    if x.upd.answerDue && f.claim = 0 then
      ({ x with upd := { x.upd with answerDue := false } }).finish .aside 0 []
    else x

end Sys2Proof.Machine
end

