-- ==== Sys2Proof/Machine/Dispatch.lean ====
section
/-!
DEFINITION. The dispatch of commands to their meanings, one arm per constructor in the table's order.
-/
namespace Sys2Proof.Machine

/-- The effect of a command on everything but the queue. -/
def exec (i : Instr) (s : State) : Host.Outcome State Fault Refusal :=
  match i with
  | .steeringReload l t c => Sys2Proof.Machine.execSteeringReload l t c s
  | .spec l t => Sys2Proof.Machine.execSpec l t s
  | .brakeSlot l n t => Sys2Proof.Machine.execBrakeSlot l n t s
  | .mvm l acc wb mat src dst => Sys2Proof.Machine.execMvm l acc wb mat src dst s
  | .vadd l wrap copy len src dst => Sys2Proof.Machine.execVadd l wrap copy len src dst s
  | .vsub l wrap len src dst => Sys2Proof.Machine.execVsub l wrap len src dst s
  | .sat l len k dst => Sys2Proof.Machine.execSat l len k dst s
  | .lim l mode len bnd dst => Sys2Proof.Machine.execLim l mode len bnd dst s
  | .sel l bit pol len src dst => Sys2Proof.Machine.execSel l bit pol len src dst s
  | .ld l mode len slot dst => Sys2Proof.Machine.execLd l mode len slot dst s
  | .st l len src pslot => Sys2Proof.Machine.execSt l len src pslot s
  | .ldc l tgt space addr => Sys2Proof.Machine.execLdc l tgt space addr s
  | .tube l len tub src => Sys2Proof.Machine.execTube l len tub src s
  | .prep l dq src => Sys2Proof.Machine.execPrep l dq src s
  | .commit l dq src => Sys2Proof.Machine.execCommit l dq src s
  | .post l eng src => Sys2Proof.Machine.execPost l eng src s
  | .endEntry l => Sys2Proof.Machine.execEndEntry l s
  | .overburden l loop t => Sys2Proof.Machine.execOverburden l loop t s
  | .exchangeSend l t => Sys2Proof.Machine.execExchangeSend l t s
  | .exchangeFrame l rx f => Sys2Proof.Machine.execExchangeFrame l rx f s
  | .exchangeCheck l t5 => Sys2Proof.Machine.execExchangeCheck l t5 s
  | .capTrigNow l t v => Sys2Proof.Machine.execCapTrigNow l t v s
  | .listenEnd l t => Sys2Proof.Machine.execListenEnd l t s
  | .timeFrameSend l t => Sys2Proof.Machine.execTimeFrameSend l t s
  | .timeFrame l rx f => Sys2Proof.Machine.execTimeFrame l rx f s
  | .birixTypeUnknown l p ty => Sys2Proof.Machine.execBirixTypeUnknown l p ty s
  | .propose l rx f => Sys2Proof.Machine.execPropose l rx f s
  | .accept l rx f => Sys2Proof.Machine.execAccept l rx f s
  | .refuse l rx f => Sys2Proof.Machine.execRefuse l rx f s
  | .apply l rx f => Sys2Proof.Machine.execApply l rx f s
  | .abort l rx f => Sys2Proof.Machine.execAbort l rx f s
  | .digestSend l t => Sys2Proof.Machine.execDigestSend l t s
  | .digest l rx f => Sys2Proof.Machine.execDigest l rx f s
  | .syncReq l rx f => Sys2Proof.Machine.execSyncReq l rx f s
  | .syncData l rx f => Sys2Proof.Machine.execSyncData l rx f s
  | .announceSend l t => Sys2Proof.Machine.execAnnounceSend l t s
  | .announce l rx f => Sys2Proof.Machine.execAnnounce l rx f s
  | .shaperSeed l rx f => Sys2Proof.Machine.execShaperSeed l rx f s
  | .csForward l rx f => Sys2Proof.Machine.execCsForward l rx f s
  | .csConfirm l rx f => Sys2Proof.Machine.execCsConfirm l rx f s
  | .armed l rx f => Sys2Proof.Machine.execArmed l rx f s
  | .trigger l rx f => Sys2Proof.Machine.execTrigger l rx f s
  | .evictionLine l p level t => Sys2Proof.Machine.execEvictionLine l p level t s
  | .gatePowerLatch l t vTermAbove => Sys2Proof.Machine.execGatePowerLatch l t vTermAbove s
  | .shortRelease l t => Sys2Proof.Machine.execShortRelease l t s
  | .rearm l t => Sys2Proof.Machine.execRearm l t s
  | .claimFrameSend l t => Sys2Proof.Machine.execClaimFrameSend l t s
  | .claimFrame h link t f crc => Sys2Proof.Machine.execClaimFrame h link t f crc s
  | .arbiterEvaluation t sense => Sys2Proof.Machine.execArbiterEvaluation t sense s
  | .halfFault h t => Sys2Proof.Machine.execHalfFault h t s
  | .handshakeTimeout h t => Sys2Proof.Machine.execHandshakeTimeout h t s
  | .arbiterStatusFrame l t f crc => Sys2Proof.Machine.execArbiterStatusFrame l t f crc s
  | .safeStateTimer h t => Sys2Proof.Machine.execSafeStateTimer h t s
  | .offPulseTest h out t staysHigh cut => Sys2Proof.Machine.execOffPulseTest h out t staysHigh cut s
  | .openLoad out milliamp heldMs => Sys2Proof.Machine.execOpenLoad out milliamp heldMs s
  | .overcurrent out milliamp heldMs => Sys2Proof.Machine.execOvercurrent out milliamp heldMs s
  | .outputNotFollowingDuty out measured heldMs => Sys2Proof.Machine.execOutputNotFollowingDuty out measured heldMs s
  | .contactorFeedbackCompare l out t => Sys2Proof.Machine.execContactorFeedbackCompare l out t s
  | .claimWindowEnd l t => Sys2Proof.Machine.execClaimWindowEnd l t s
  | .edgeCrossing l stage e => Sys2Proof.Machine.execEdgeCrossing l stage e s
  | .probeTrip l sw cross cmdTick => Sys2Proof.Machine.execProbeTrip l sw cross cmdTick s
  | .limitTruncation l stage sw t => Sys2Proof.Machine.execLimitTruncation l stage sw t s
  | .overdriveBudgetSpent l t => Sys2Proof.Machine.execOverdriveBudgetSpent l t s
  | .peakReserveSpent l t => Sys2Proof.Machine.execPeakReserveSpent l t s
  | .brakePeakReserveSpent l n t => Sys2Proof.Machine.execBrakePeakReserveSpent l n t s
  | .supervisionRun l t => Sys2Proof.Machine.execSupervisionRun l t s
  | .relockTimeout l t => Sys2Proof.Machine.execRelockTimeout l t s
  | .hostLossHoldEnd l t => Sys2Proof.Machine.execHostLossHoldEnd l t s
  | .simplexStopTimeEnd l t => Sys2Proof.Machine.execSimplexStopTimeEnd l t s
  | .stopTrimUpdate l t => Sys2Proof.Machine.execStopTrimUpdate l t s
  | .standstill l t => Sys2Proof.Machine.execStandstill l t s
  | .bermExit l level2 t => Sys2Proof.Machine.execBermExit l level2 t s
  | .bermLevel3 l t volts vTermAbove => Sys2Proof.Machine.execBermLevel3 l t volts vTermAbove s
  | .bermAutoClear l t => Sys2Proof.Machine.execBermAutoClear l t s
  | .hallChange l n code t => Sys2Proof.Machine.execHallChange l n code t s
  | .hallInvalidHold l n t => Sys2Proof.Machine.execHallInvalidHold l n t s
  | .bdRestore l n t => Sys2Proof.Machine.execBdRestore l n t s
  | .homingDone l n t => Sys2Proof.Machine.execHomingDone l n t s
  | .parkForceReached l n t => Sys2Proof.Machine.execParkForceReached l n t s
  | .parkCurrentZero l n t => Sys2Proof.Machine.execParkCurrentZero l n t s
  | .lockCheck l n t => Sys2Proof.Machine.execLockCheck l n t s
  | .unlockTimeout l n t => Sys2Proof.Machine.execUnlockTimeout l n t s
  | .forcePlausibility l n row t => Sys2Proof.Machine.execForcePlausibility l n row t s
  | .retractDelay l n t => Sys2Proof.Machine.execRetractDelay l n t s
  | .midPeriodPoint l stage t => Sys2Proof.Machine.execMidPeriodPoint l stage t s
  | .brakeBoundary l n t => Sys2Proof.Machine.execBrakeBoundary l n t s
  | .lgCommit l stage count withE1 => Sys2Proof.Machine.execLgCommit l stage count withE1 s
  | .lgCancel l stage => Sys2Proof.Machine.execLgCancel l stage s
  | .pwmEn l stage en t => Sys2Proof.Machine.execPwmEn l stage en t s
  | .gateSupplyLockout l sup t => Sys2Proof.Machine.execGateSupplyLockout l sup t s
  | .gateSupplyRelease l sup t => Sys2Proof.Machine.execGateSupplyRelease l sup t s
  | .bootstrapWarning l n leg t => Sys2Proof.Machine.execBootstrapWarning l n leg t s
  | .bootstrapLockout l n leg t => Sys2Proof.Machine.execBootstrapLockout l n leg t s
  | .desaturation l stage sw t => Sys2Proof.Machine.execDesaturation l stage sw t s
  | .grossCurrent l stage sw inBlank t => Sys2Proof.Machine.execGrossCurrent l stage sw inBlank t s
  | .softTurnOffLevel2 l stage t => Sys2Proof.Machine.execSoftTurnOffLevel2 l stage t s
  | .softTurnOffEnd l stage t vTermAbove => Sys2Proof.Machine.execSoftTurnOffEnd l stage t vTermAbove s
  | .shootThroughInterlock l stage leg period t => Sys2Proof.Machine.execShootThroughInterlock l stage leg period t s
  | .tripWaitEnd l stage t => Sys2Proof.Machine.execTripWaitEnd l stage t s
  | .railCheckDone l stage t nodes vPos => Sys2Proof.Machine.execRailCheckDone l stage t nodes vPos s
  | .tripPersists l stage t => Sys2Proof.Machine.execTripPersists l stage t s
  | .diagGo l t => Sys2Proof.Machine.execDiagGo l t s
  | .offStateDiagnostics l stage t nodes vPos => Sys2Proof.Machine.execOffStateDiagnostics l stage t nodes vPos s
  | .cextGo l t rampNs => Sys2Proof.Machine.execCextGo l t rampNs s
  | .diagResultWrite l stage v t => Sys2Proof.Machine.execDiagResultWrite l stage v t s
  | .testPulseSlot l t sup ana => Sys2Proof.Machine.execTestPulseSlot l t sup ana s
  | .testPulseFrameEnd l t => Sys2Proof.Machine.execTestPulseFrameEnd l t s
  | .supplyOutOfBand l unit t => Sys2Proof.Machine.execSupplyOutOfBand l unit t s
  | .supplyOvercurrent l unit t => Sys2Proof.Machine.execSupplyOvercurrent l unit t s
  | .supplyTripClear l unit t => Sys2Proof.Machine.execSupplyTripClear l unit t s
  | .sentFrame l ch f => Sys2Proof.Machine.execSentFrame l ch f s
  | .resolverUpdate l t angle speed flags => Sys2Proof.Machine.execResolverUpdate l t angle speed flags s
  | .safeStopTestPulse l ch t offAfter onAfter => Sys2Proof.Machine.execSafeStopTestPulse l ch t offAfter onAfter s
  | .safeStopSample l t on0 on1 => Sys2Proof.Machine.execSafeStopSample l t on0 on1 s
  | .safeStopDiscrepancy l t => Sys2Proof.Machine.execSafeStopDiscrepancy l t s
  | .closingSequence l t => Sys2Proof.Machine.execClosingSequence l t s
  | .openingSequence l t => Sys2Proof.Machine.execOpeningSequence l t s
  | .knOpenDelay l t => Sys2Proof.Machine.execKnOpenDelay l t s
  | .feedbackConfirmed l d r => Sys2Proof.Machine.execFeedbackConfirmed l d r s
  | .prechargeComplete l t link => Sys2Proof.Machine.execPrechargeComplete l t link s
  | .prechargeTimeout l t => Sys2Proof.Machine.execPrechargeTimeout l t s
  | .feedbackMismatch l d r => Sys2Proof.Machine.execFeedbackMismatch l d r s
  | .contactorOffPulse l d t fellAfterUs demand => Sys2Proof.Machine.execContactorOffPulse l d t fellAfterUs demand s
  | .offPulseRetest l d t fellAfterUs demand => Sys2Proof.Machine.execOffPulseRetest l d t fellAfterUs demand s
  | .sioScheduleWrite l img t => Sys2Proof.Machine.execSioScheduleWrite l img t s
  | .sourceAsserted l src data vTermAbove sp => Sys2Proof.Machine.execSourceAsserted l src data vTermAbove sp s
  | .brokenWire l src trueRail sp => Sys2Proof.Machine.execBrokenWire l src trueRail sp s
  | .collFw l src assert data t => Sys2Proof.Machine.execCollFw l src assert data t s
  | .inject l v seen data t => Sys2Proof.Machine.execInject l v seen data t s
  | .faultClear l v still t => Sys2Proof.Machine.execFaultClear l v still t s
  | .recordReset l v t => Sys2Proof.Machine.execRecordReset l v t s
  | .requalificationSliceDone l ok block t => Sys2Proof.Machine.execRequalificationSliceDone l ok block t s
  | .faultLogCopy l t => Sys2Proof.Machine.execFaultLogCopy l t s
  | .gptpFrame l f => Sys2Proof.Machine.execGptpFrame l f s
  | .netTimeLost l net t => Sys2Proof.Machine.execNetTimeLost l net t s
  | .demand l rx d => Sys2Proof.Machine.execDemand l rx d s
  | .read l rx h => Sys2Proof.Machine.execRead l rx h s
  | .write l rx h data => Sys2Proof.Machine.execWrite l rx h data s
  | .bulkRead l rx h => Sys2Proof.Machine.execBulkRead l rx h s
  | .sessionClose l rx h => Sys2Proof.Machine.execSessionClose l rx h s
  | .sessionOpen l rx h => Sys2Proof.Machine.execSessionOpen l rx h s
  | .txnBadOp l rx h => Sys2Proof.Machine.execTxnBadOp l rx h s
  | .report l t => Sys2Proof.Machine.execReport l t s
  | .gateWindow l net t => Sys2Proof.Machine.execGateWindow l net t s
  | .linkDown l net t => Sys2Proof.Machine.execLinkDown l net t s
  | .streamHistoryReset l mac stream t => Sys2Proof.Machine.execStreamHistoryReset l mac stream t s
  | .tagQuarantineEnd l canPort tag t => Sys2Proof.Machine.execTagQuarantineEnd l canPort tag t s
  | .sessionTimeout l t => Sys2Proof.Machine.execSessionTimeout l t s
  | .kaCertReq l rx k => Sys2Proof.Machine.execKaCertReq l rx k s
  | .kaHello l rx k nH ek => Sys2Proof.Machine.execKaHello l rx k nH ek s
  | .kaReply l t => Sys2Proof.Machine.execKaReply l t s
  | .kaConfirm l rx k sigH confH => Sys2Proof.Machine.execKaConfirm l rx k sigH confH s
  | .kaDone l t => Sys2Proof.Machine.execKaDone l t s
  | .kaTimeout l t => Sys2Proof.Machine.execKaTimeout l t s
  | .stopFrame l rx payload => Sys2Proof.Machine.execStopFrame l rx payload s
  | .stopFrameHoldEnd l t => Sys2Proof.Machine.execStopFrameHoldEnd l t s
  | .canTransaction l rx h data => Sys2Proof.Machine.execCanTransaction l rx h data s
  | .skd2AliasRead l t payload => Sys2Proof.Machine.execSkd2AliasRead l t payload s
  | .skd2AliasWrite l t payload => Sys2Proof.Machine.execSkd2AliasWrite l t payload s
  | .doorbell l d w t => Sys2Proof.Machine.execDoorbell l d w t s
  | .doorbellForward l d t => Sys2Proof.Machine.execDoorbellForward l d t s
  | .nvStore l t => Sys2Proof.Machine.execNvStore l t s
  | .roStore l t => Sys2Proof.Machine.execRoStore l t s
  | .nvStage l off data t => Sys2Proof.Machine.execNvStage l off data t s
  | .nvStageCheck l v t => Sys2Proof.Machine.execNvStageCheck l v t s
  | .nvStageCheckDone l t => Sys2Proof.Machine.execNvStageCheckDone l t s
  | .nvStageInstall l digest t => Sys2Proof.Machine.execNvStageInstall l digest t s
  | .nvUserReset l v t => Sys2Proof.Machine.execNvUserReset l v t s
  | .voteStatusReset l n v t => Sys2Proof.Machine.execVoteStatusReset l n v t s
  | .outFaultClear l n v t => Sys2Proof.Machine.execOutFaultClear l n v t s
  | .counterReset l index sub data t => Sys2Proof.Machine.execCounterReset l index sub data t s
  | .coefStandbyImage l off data t => Sys2Proof.Machine.execCoefStandbyImage l off data t s
  | .coefStandbyCheck l v t => Sys2Proof.Machine.execCoefStandbyCheck l v t s
  | .standbyCheckDone l t => Sys2Proof.Machine.execStandbyCheckDone l t s
  | .swapRequest l target t => Sys2Proof.Machine.execSwapRequest l target t s
  | .mxSwapReq l t => Sys2Proof.Machine.execMxSwapReq l t s
  | .mxSwapCancel l t => Sys2Proof.Machine.execMxSwapCancel l t s
  | .mxRun l run t => Sys2Proof.Machine.execMxRun l run t s
  | .specEn l en t => Sys2Proof.Machine.execSpecEn l en t s
  | .benchForce l loop v t => Sys2Proof.Machine.execBenchForce l loop v t s
  | .csImage l off data t => Sys2Proof.Machine.execCsImage l off data t s
  | .csAuth l auth t => Sys2Proof.Machine.execCsAuth l auth t s
  | .csConfirmTimeout l t => Sys2Proof.Machine.execCsConfirmTimeout l t s
  | .csApply l v t => Sys2Proof.Machine.execCsApply l v t s
  | .csNonceRenew l v t => Sys2Proof.Machine.execCsNonceRenew l v t s
  | .authorisationExpiry l fleetSafety t => Sys2Proof.Machine.execAuthorisationExpiry l fleetSafety t s
  | .attestNonce l nonce t => Sys2Proof.Machine.execAttestNonce l nonce t s
  | .quoteReady l t => Sys2Proof.Machine.execQuoteReady l t s
  | .enrolCert l cert t => Sys2Proof.Machine.execEnrolCert l cert t s
  | .rollbackAdvance l v t => Sys2Proof.Machine.execRollbackAdvance l v t s
  | .standAside l vTermAbove t => Sys2Proof.Machine.execStandAside l vTermAbove t s
  | .standAsideForRemoval l vTermAbove t => Sys2Proof.Machine.execStandAsideForRemoval l vTermAbove t s
  | .readyForRemoval l volts t => Sys2Proof.Machine.execReadyForRemoval l volts t s
  | .standAsideEnd l t => Sys2Proof.Machine.execStandAsideEnd l t s
  | .fwImage l off data t => Sys2Proof.Machine.execFwImage l off data t s
  | .fwInstallCheck l v t => Sys2Proof.Machine.execFwInstallCheck l v t s
  | .fwInstallCheckDone l t => Sys2Proof.Machine.execFwInstallCheckDone l t s
  | .fwActivate l v t => Sys2Proof.Machine.execFwActivate l v t s
  | .fwTrialTimeout l t => Sys2Proof.Machine.execFwTrialTimeout l t s
  | .progImage l off data t => Sys2Proof.Machine.execProgImage l off data t s
  | .progCheck l v t => Sys2Proof.Machine.execProgCheck l v t s
  | .svcWeRetract l w t => Sys2Proof.Machine.execSvcWeRetract l w t s
  | .bdPadChanged l n t => Sys2Proof.Machine.execBdPadChanged l n t s
  | .pwrRequest l target t => Sys2Proof.Machine.execPwrRequest l target t s
  | .pwrModuleRequest target t => Sys2Proof.Machine.execPwrModuleRequest target t s
  | .pwrIdlePark l t => Sys2Proof.Machine.execPwrIdlePark l t s
  | .waitInstruction l answers t => Sys2Proof.Machine.execWaitInstruction l answers t s
  | .agreementTimeout l block t => Sys2Proof.Machine.execAgreementTimeout l block t s
  | .agreementRetry l answers t => Sys2Proof.Machine.execAgreementRetry l answers t s
  | .requestAbandoned l t => Sys2Proof.Machine.execRequestAbandoned l t s
  | .keepAliveRise l t => Sys2Proof.Machine.execKeepAliveRise l t s
  | .logicSupplyRise l t => Sys2Proof.Machine.execLogicSupplyRise l t s
  | .ss0Wake l t => Sys2Proof.Machine.execSs0Wake l t s
  | .canXlWake l t => Sys2Proof.Machine.execCanXlWake l t s
  | .wakeFrame l line t => Sys2Proof.Machine.execWakeFrame l line t s
  | .ethernetWake l cls dstMac net t => Sys2Proof.Machine.execEthernetWake l cls dstMac net t s
  | .resetRelease l t => Sys2Proof.Machine.execResetRelease l t s
  | .selftestDone l result t => Sys2Proof.Machine.execSelftestDone l result t s
  | .selftestFail l r t => Sys2Proof.Machine.execSelftestFail l r t s
  | .selfTestSlice l block ok t => Sys2Proof.Machine.execSelfTestSlice l block ok t s
  | .sliceAbort l block t => Sys2Proof.Machine.execSliceAbort l block t s
  | .logicSupplyLoss l millivolt heldMs t vTermAbove => Sys2Proof.Machine.execLogicSupplyLoss l millivolt heldMs t vTermAbove s
  | .brakeSupplyFault l millivolt t => Sys2Proof.Machine.execBrakeSupplyFault l millivolt t s
  | .brakeSupplyRestored l millivolt t => Sys2Proof.Machine.execBrakeSupplyRestored l millivolt t s
  | .dcLinkLow l volts t vTermAbove => Sys2Proof.Machine.execDcLinkLow l volts t vTermAbove s
  | .dcLinkPresent l volts t => Sys2Proof.Machine.execDcLinkPresent l volts t s
  | .keepAliveLoss l t => Sys2Proof.Machine.execKeepAliveLoss l t s
  | .engRun l e run t => Sys2Proof.Machine.execEngRun l e run t s
  | .engReset l e t => Sys2Proof.Machine.execEngReset l e t s
  | .engKick l e t => Sys2Proof.Machine.execEngKick l e t s
  | .watchdogTrip l e t => Sys2Proof.Machine.execWatchdogTrip l e t s
  | .mailboxWrite l unit d w t => Sys2Proof.Machine.execMailboxWrite l unit d w t s
  | .mailboxTake l unit d reader t => Sys2Proof.Machine.execMailboxTake l unit d reader t s
  | .scrub l mem addr e t => Sys2Proof.Machine.execScrub l mem addr e t s
  | .processReading l counts t => Sys2Proof.Machine.execProcessReading l counts t s
  | .ageingLogEntry l t => Sys2Proof.Machine.execAgeingLogEntry l t s
  | .readClearRegister l addr hwSet t => Sys2Proof.Machine.execReadClearRegister l addr hwSet t s
  | .registerWrite l eng addr v hwSet t => Sys2Proof.Machine.execRegisterWrite l eng addr v hwSet t s
  | .arbiterPowerUp t => Sys2Proof.Machine.execArbiterPowerUp t s
  | .backEmfAboveLink l t => Sys2Proof.Machine.execBackEmfAboveLink l t s
  | .safeStopInputChange l ch offNs t => Sys2Proof.Machine.execSafeStopInputChange l ch offNs t s
  | .operatingHoursTick l t => Sys2Proof.Machine.execOperatingHoursTick l t s

end Sys2Proof.Machine
end

