-- ==== Sys2Proof/Safety.lean ====
section
/-!
DEFINITION. The terms in which claims about the module are stated: what a lane's command sees, which lane a command acts in,
and the invariant of the arbiter tile.
-/
namespace Sys2Proof.Machine

/-- A lane as a command at instant `t` sees it: its lane time has come to `t` at least. -/
def State.laneAt (s : State) (l : LaneId) (t : Nat) : Lane := { s.lane l with now := max (s.lane l).now t }

/-- Lane `l` has its logic supply, and `x` is what a command at instant `t` sees of it. -/
def Sees (s : State) (l : LaneId) (t : Nat) (x : Lane) : Prop := (s.lane l).powered = true ∧ x = s.laneAt l t

/-- Lane `l` has its logic supply, and `x` is what a command that names no instant sees of it. -/
def Has (s : State) (l : LaneId) (x : Lane) : Prop := (s.lane l).powered = true ∧ x = s.lane l

/-- Lane `l` has its logic supply, and `x` is what a command at instant `t` sees of it that reads what E1 has done or acts on E1: E1 has run
up to the instant (R154). -/
def FindsE1 (s : State) (l : LaneId) (t : Nat) (x : Lane) : Prop :=
  (s.lane l).powered = true ∧ x = (s.laneAt l t).e1Until (s.laneAt l t).now

/-- E1 is free for work at the instant of the lane: no entry is open, nothing waits, and what it has run has ended (R154). -/
def Lane.e1Ready (x : Lane) : Prop := x.mx.cur = none ∧ x.mx.waiting = [] ∧ x.e1Free ≤ x.now

/-- Of the objects, none but those with the keys listed reads another code in `y` than in `x`. -/
def ObjsKept (ks : List Nat) (x y : Lane) : Prop := ∀ o : O.Obj, o.key ∉ ks → y.obj o = x.obj o

/-- Of the registers, none but those at the addresses listed reads another word in `y` than in `x`. -/
def RegsKept (as : List Nat) (x y : Lane) : Prop := ∀ r : Rg.Reg, r.addr ∉ as → y.reg r = x.reg r

/-- A lane changes in the matrix engine's loop `k` and in objects alone. -/
def LoopOnly (k : Fin 9) (x y : Lane) : Prop :=
  y = { x with mx := { x.mx with loops := y.mx.loops }, objs := y.objs } ∧ ∀ j, j ≠ k → y.loop j = x.loop j

/-- From `p` to `q` the `n` words of the data window from address `a` up read as `f` says, where they can be written (region
P is read only, R127), and every other word reads as before. -/
def WroteWords (p q : LoopSt) (a n : Nat) (f : Nat → Nat) : Prop :=
  (∀ i, i < n → q.rd (a + i) = if a + i < 0xE0 then f i else p.rd (a + i)) ∧ ∀ b, b < a ∨ a + n ≤ b → q.rd b = p.rd b

/-- `n` more counts in a 32-bit counter that stays below its last code. -/
def CountedBy (o : O.Obj) (n : Nat) (x y : Lane) : Prop := x.obj o + n < 2 ^ 32 → y.obj o = x.obj o + n

/-- An error of a lane (R306): the error state, every stage off, the claim withdrawn. -/
structure Lane.Stopped (l : Lane) : Prop where
  error : l.coll.error = true
  steer : l.steer.driving = false
  brakes : ∀ m : Fin 8, l.brakes[m].driving = false
  claiming : l.claim.claiming = false
  tenure : l.claim.tenure = 0
  windows : l.claim.winHealthy = false

/-- What an error can reach: the collector, the registers, the stages, the claim and the fault classes. -/
def ErrorReach (x y : Lane) : Prop :=
  y = { x with coll := y.coll, regs := y.regs, steer := y.steer, brakes := y.brakes, claim := y.claim, drive := y.drive }

/-- From `x`, an error source asserts (R301 to R306): what it reaches, its Spall record, the first cause, which it becomes where no
error was latched or one of a higher number in the same instant; rail pairs stay as they read, and of the registers GD_STAT alone may change (the comparator of R95). -/
structure ErrorOf (x : Lane) (src data : Nat) (y : Lane) : Prop where
  stopped : y.Stopped
  reach : ErrorReach x y
  latched : bitOf (y.coll.spall src).flags 0 = true
  record : src ≠ 8 → y.coll.spall src = (x.coll.spall src).occur data x.now false (x.coll.takesFirst src x.now)
  first : y.coll.firstSrc = if x.coll.takesFirst src x.now = true then src else x.coll.firstSrc
  pairs : y.coll.asserted = x.coll.asserted ∧ y.coll.broken = x.coll.broken ∧ y.coll.driven = x.coll.driven
  regs : RegsKept [Rg.gdStat.addr] x y

/-- From `x`, a stage that was in no protective trip enters one (R258, R260, R262, R268, R270): its record and counters, the stage
off, its gates at the plateau of a soft turn-off where one runs; the fourth within 1 s is exhausted and an error, any other leaves every other stage as it was. -/
structure TripOf (x : Lane) (st : Stage) (cause legs switches : Nat) (inBlank soft held : Bool) (y : Lane) : Prop where
  word : y.reg (Rg.gdTrip st) = tripWord cause legs switches ((x.stg st).tries x.now) inBlank
  time : y.reg (Rg.gdTripTime st) = x.now % 2 ^ 32
  bit : y.rbit Rg.gdStat (tripBit st) = true
  counted : CountedBy (tripsObj st) 1 x y ∧ CountedBy (tripsLifeObj st) 1 x y
  off : (y.stg st).driving = false
  healthy : y.claim.winHealthy = false
  began : (y.stg st).tripAt = x.now ∧ (y.stg st).causeAt = x.now ∧ (y.stg st).causeHeld = held ∧ (y.stg st).railOk = false
    ∧ (y.stg st).softFrom = if soft then some x.now else none
  gate : (y.stg st).gate = if soft && (x.stg st).driving then .plateau else .off
  alone : (x.stg st).tries x.now < 3 → (∀ o, o ≠ st → y.stg o = x.stg o) ∧
    y = { x with objs := y.objs, regs := y.regs, steer := y.steer, brakes := y.brakes, claim := { x.claim with winHealthy := false } }
  exhausted : 3 ≤ (x.stg st).tries x.now → y.Stopped ∧ (y.stg st).exhausted = true
  objs : ObjsKept [(tripsObj st).key, (tripsLifeObj st).key] x y
  regs : RegsKept [(Rg.gdTrip st).addr, (Rg.gdTripTime st).addr, Rg.gdStat.addr] x y

/-- Off-state diagnostics from `x`, with every stage as `g` says (R264): those of a stage run that owes them, does not drive and meets its
precondition, side by side with those under way; a run whose precondition is not met ends. DIAG_RUN shows whether any runs. -/
structure DiagRuns (x : Lane) (g : Stage → StageSt) (y : Lane) : Prop where
  stages : ∀ st, y.stg st = { g st with diagRun := (y.stg st).diagRun, diagFrom := (y.stg st).diagFrom }
  runs : ∀ st, (y.stg st).diagRun = true ↔ x.diagMet st = true ∧
    ((g st).diagRun = true ∨ x.hasStage st = true ∧ (g st).diag = .due ∧ (g st).driving = false)
  since : ∀ st, (y.stg st).diagFrom = if (y.stg st).diagRun = true ∧ (g st).diagRun = false then x.now else (g st).diagFrom
  shown : y.rbit Rg.gdStat 13 = true ↔ ∃ st, (y.stg st).diagRun = true

/-- From `x`, a lane stores the objects of `keys` (R382): one store counted, and in the copy that was not in use a complete
new image, a generation higher, in which those objects have their present values and every other entry is as it was. -/
structure StoreOf (me : LaneId) (keys : List Nat) (x y : Lane) : Prop where
  counted : CountedBy O.nvStores 1 x y
  fresh : ∃ b c, y.nv.inUse = some (b, c) ∧ c.setCounter = x.obj O.dictSetCounter ∧ c.kind = 2 ∧ c.lane = laneNo me ∧
    c.count = c.entries.length ∧ c.digest = nvDigestOf c ∧
    (x.nv.inUse = none → c.gen = 1) ∧
    (∀ b0 c0, x.nv.inUse = some (b0, c0) → c.gen = c0.gen + 1 ∧ b = !b0 ∧ (if b0 then y.nv.copyB else y.nv.copyA) = some c0) ∧
    (∀ k ∈ keys, ∀ r, rowOf k = some r → kvFind c.entries k = some (rowType r, (x.inc O.nvStores).valueOf me r k)) ∧
    ∀ k, k ∉ keys → k ≠ O.nvStores.key → kvFind c.entries k = kvFind x.nv.entries k

/-- From `x`, a source with code `src` and command `cmd` wakes a lane that is in Park or Off (R438, R439): the record, the lowest
code with MULTI where a wake was there already; the supply comes on, or the wake stays latched without it. -/
structure WokenBy (src cmd : Nat) (x y : Lane) : Prop where
  first : x.pwr.waking = false → x.pwr.wakeLatched = false →
    y.reg Rg.sumpWakeLast = src + 16 * cmd ∧ y.pwr.wokeAt = x.now ∧ y.pwr.holdAfter = decide (cmd = 2)
  again : x.pwr.waking = true ∨ x.pwr.wakeLatched = true → y.fld Rg.sumpWakeLast 0 4 = min (x.fld Rg.sumpWakeLast 0 4) src ∧
    y.rbit Rg.sumpWakeLast 7 = true ∧ y.pwr.wokeAt = x.pwr.wokeAt
  supply : y.pwr.waking = x.pwr.supplyOk ∧ y.pwr.wakeLatched = !x.pwr.supplyOk
  step : y.fld Rg.pwrStat 7 4 = 7
  rest : y = { x with regs := y.regs, pwr := { x.pwr with waking := y.pwr.waking, wakeLatched := y.pwr.wakeLatched, wokeAt := y.pwr.wokeAt, holdAfter := y.pwr.holdAfter } }
  regs : RegsKept [Rg.sumpWakeLast.addr, Rg.pwrStat.addr] x y

/-- From `x`, the clocks of a lane in Doze restart (R438): Run, the contactors commanded to close, and the re-qualification. -/
structure WokenFromDoze (hold : Bool) (x y : Lane) : Prop where
  state : y.fld Rg.pwrStat 0 3 = 0 ∧ y.fld Rg.pwrCtl 0 3 = 0 ∧ y.fld Rg.pwrStat 11 3 = 2 ∧ y.fld Rg.pwrStat 7 4 = 10
  pwr : y.pwr = { x.pwr with waking := true, wokeAt := x.now, holdAfter := hold }
  coll : y.coll = { x.coll with requal := true, requalSlice := true, requalAgree := 0 }
  contactors : y.rbit Rg.sioCt 0 = decide (x.pwr.selftest = .passed)
  words : x.eng.held = [] → y.eng = x.eng
  frame : y.sio.frameWhole = false
  rest : y = { x with regs := y.regs, pwr := y.pwr, coll := y.coll, sio := y.sio, eng := y.eng, smp := { x.smp with takeNo := true } }

/-- The lane in which a command acts: none for the commands of the arbiter tile and for the power request to all lanes. -/
def homeLane : Instr → Option LaneId
  | .steeringReload l _ _ => some l
  | .spec l _ => some l
  | .brakeSlot l _ _ => some l
  | .mvm l _ _ _ _ _ => some l
  | .vadd l _ _ _ _ _ => some l
  | .vsub l _ _ _ _ => some l
  | .sat l _ _ _ => some l
  | .lim l _ _ _ _ => some l
  | .sel l _ _ _ _ _ => some l
  | .ld l _ _ _ _ => some l
  | .st l _ _ _ => some l
  | .ldc l _ _ _ => some l
  | .tube l _ _ _ => some l
  | .prep l _ _ => some l
  | .commit l _ _ => some l
  | .post l _ _ => some l
  | .endEntry l => some l
  | .overburden l _ _ => some l
  | .exchangeSend l _ => some l
  | .exchangeFrame l _ _ => some l
  | .exchangeCheck l _ => some l
  | .capTrigNow l _ _ => some l
  | .listenEnd l _ => some l
  | .timeFrameSend l _ => some l
  | .timeFrame l _ _ => some l
  | .birixTypeUnknown l _ _ => some l
  | .propose l _ _ => some l
  | .accept l _ _ => some l
  | .refuse l _ _ => some l
  | .apply l _ _ => some l
  | .abort l _ _ => some l
  | .digestSend l _ => some l
  | .digest l _ _ => some l
  | .syncReq l _ _ => some l
  | .syncData l _ _ => some l
  | .announceSend l _ => some l
  | .announce l _ _ => some l
  | .shaperSeed l _ _ => some l
  | .csForward l _ _ => some l
  | .csConfirm l _ _ => some l
  | .armed l _ _ => some l
  | .trigger l _ _ => some l
  | .evictionLine l _ _ _ => some l
  | .gatePowerLatch l _ _ => some l
  | .shortRelease l _ => some l
  | .rearm l _ => some l
  | .claimFrameSend l _ => some l
  | .claimFrame _ _ _ _ _ => none
  | .arbiterEvaluation _ _ => none
  | .halfFault _ _ => none
  | .handshakeTimeout _ _ => none
  | .arbiterStatusFrame l _ _ _ => some l
  | .safeStateTimer _ _ => none
  | .offPulseTest _ _ _ _ _ => none
  | .openLoad _ _ _ => none
  | .overcurrent _ _ _ => none
  | .outputNotFollowingDuty _ _ _ => none
  | .contactorFeedbackCompare l _ _ => some l
  | .claimWindowEnd l _ => some l
  | .edgeCrossing l _ _ => some l
  | .probeTrip l _ _ _ => some l
  | .limitTruncation l _ _ _ => some l
  | .overdriveBudgetSpent l _ => some l
  | .peakReserveSpent l _ => some l
  | .brakePeakReserveSpent l _ _ => some l
  | .supervisionRun l _ => some l
  | .relockTimeout l _ => some l
  | .hostLossHoldEnd l _ => some l
  | .simplexStopTimeEnd l _ => some l
  | .stopTrimUpdate l _ => some l
  | .standstill l _ => some l
  | .bermExit l _ _ => some l
  | .bermLevel3 l _ _ _ => some l
  | .bermAutoClear l _ => some l
  | .hallChange l _ _ _ => some l
  | .hallInvalidHold l _ _ => some l
  | .bdRestore l _ _ => some l
  | .homingDone l _ _ => some l
  | .parkForceReached l _ _ => some l
  | .parkCurrentZero l _ _ => some l
  | .lockCheck l _ _ => some l
  | .unlockTimeout l _ _ => some l
  | .forcePlausibility l _ _ _ => some l
  | .retractDelay l _ _ => some l
  | .midPeriodPoint l _ _ => some l
  | .brakeBoundary l _ _ => some l
  | .lgCommit l _ _ _ => some l
  | .lgCancel l _ => some l
  | .pwmEn l _ _ _ => some l
  | .gateSupplyLockout l _ _ => some l
  | .gateSupplyRelease l _ _ => some l
  | .bootstrapWarning l _ _ _ => some l
  | .bootstrapLockout l _ _ _ => some l
  | .desaturation l _ _ _ => some l
  | .grossCurrent l _ _ _ _ => some l
  | .softTurnOffLevel2 l _ _ => some l
  | .softTurnOffEnd l _ _ _ => some l
  | .shootThroughInterlock l _ _ _ _ => some l
  | .tripWaitEnd l _ _ => some l
  | .railCheckDone l _ _ _ _ => some l
  | .tripPersists l _ _ => some l
  | .diagGo l _ => some l
  | .offStateDiagnostics l _ _ _ _ => some l
  | .cextGo l _ _ => some l
  | .diagResultWrite l _ _ _ => some l
  | .testPulseSlot l _ _ _ => some l
  | .testPulseFrameEnd l _ => some l
  | .supplyOutOfBand l _ _ => some l
  | .supplyOvercurrent l _ _ => some l
  | .supplyTripClear l _ _ => some l
  | .sentFrame l _ _ => some l
  | .resolverUpdate l _ _ _ _ => some l
  | .safeStopTestPulse l _ _ _ _ => some l
  | .safeStopSample l _ _ _ => some l
  | .safeStopDiscrepancy l _ => some l
  | .closingSequence l _ => some l
  | .openingSequence l _ => some l
  | .knOpenDelay l _ => some l
  | .feedbackConfirmed l _ _ => some l
  | .prechargeComplete l _ _ => some l
  | .prechargeTimeout l _ => some l
  | .feedbackMismatch l _ _ => some l
  | .contactorOffPulse l _ _ _ _ => some l
  | .offPulseRetest l _ _ _ _ => some l
  | .sioScheduleWrite l _ _ => some l
  | .sourceAsserted l _ _ _ _ => some l
  | .brokenWire l _ _ _ => some l
  | .collFw l _ _ _ _ => some l
  | .inject l _ _ _ _ => some l
  | .faultClear l _ _ _ => some l
  | .recordReset l _ _ => some l
  | .requalificationSliceDone l _ _ _ => some l
  | .faultLogCopy l _ => some l
  | .gptpFrame l _ => some l
  | .netTimeLost l _ _ => some l
  | .demand l _ _ => some l
  | .read l _ _ => some l
  | .write l _ _ _ => some l
  | .bulkRead l _ _ => some l
  | .sessionClose l _ _ => some l
  | .sessionOpen l _ _ => some l
  | .txnBadOp l _ _ => some l
  | .report l _ => some l
  | .gateWindow l _ _ => some l
  | .linkDown l _ _ => some l
  | .streamHistoryReset l _ _ _ => some l
  | .tagQuarantineEnd l _ _ _ => some l
  | .sessionTimeout l _ => some l
  | .kaCertReq l _ _ => some l
  | .kaHello l _ _ _ _ => some l
  | .kaReply l _ => some l
  | .kaConfirm l _ _ _ _ => some l
  | .kaDone l _ => some l
  | .kaTimeout l _ => some l
  | .stopFrame l _ _ => some l
  | .stopFrameHoldEnd l _ => some l
  | .canTransaction l _ _ _ => some l
  | .skd2AliasRead l _ _ => some l
  | .skd2AliasWrite l _ _ => some l
  | .doorbell l _ _ _ => some l
  | .doorbellForward l _ _ => some l
  | .nvStore l _ => some l
  | .roStore l _ => some l
  | .nvStage l _ _ _ => some l
  | .nvStageCheck l _ _ => some l
  | .nvStageCheckDone l _ => some l
  | .nvStageInstall l _ _ => some l
  | .nvUserReset l _ _ => some l
  | .voteStatusReset l _ _ _ => some l
  | .outFaultClear l _ _ _ => some l
  | .counterReset l _ _ _ _ => some l
  | .coefStandbyImage l _ _ _ => some l
  | .coefStandbyCheck l _ _ => some l
  | .standbyCheckDone l _ => some l
  | .swapRequest l _ _ => some l
  | .mxSwapReq l _ => some l
  | .mxSwapCancel l _ => some l
  | .mxRun l _ _ => some l
  | .specEn l _ _ => some l
  | .benchForce l _ _ _ => some l
  | .csImage l _ _ _ => some l
  | .csAuth l _ _ => some l
  | .csConfirmTimeout l _ => some l
  | .csApply l _ _ => some l
  | .csNonceRenew l _ _ => some l
  | .authorisationExpiry l _ _ => some l
  | .attestNonce l _ _ => some l
  | .quoteReady l _ => some l
  | .enrolCert l _ _ => some l
  | .rollbackAdvance l _ _ => some l
  | .standAside l _ _ => some l
  | .standAsideForRemoval l _ _ => some l
  | .readyForRemoval l _ _ => some l
  | .standAsideEnd l _ => some l
  | .fwImage l _ _ _ => some l
  | .fwInstallCheck l _ _ => some l
  | .fwInstallCheckDone l _ => some l
  | .fwActivate l _ _ => some l
  | .fwTrialTimeout l _ => some l
  | .progImage l _ _ _ => some l
  | .progCheck l _ _ => some l
  | .svcWeRetract l _ _ => some l
  | .bdPadChanged l _ _ => some l
  | .pwrRequest l _ _ => some l
  | .pwrModuleRequest _ _ => none
  | .pwrIdlePark l _ => some l
  | .waitInstruction l _ _ => some l
  | .agreementTimeout l _ _ => some l
  | .agreementRetry l _ _ => some l
  | .requestAbandoned l _ => some l
  | .keepAliveRise l _ => some l
  | .logicSupplyRise l _ => some l
  | .ss0Wake l _ => some l
  | .canXlWake l _ => some l
  | .wakeFrame l _ _ => some l
  | .ethernetWake l _ _ _ _ => some l
  | .resetRelease l _ => some l
  | .selftestDone l _ _ => some l
  | .selftestFail l _ _ => some l
  | .selfTestSlice l _ _ _ => some l
  | .sliceAbort l _ _ => some l
  | .logicSupplyLoss l _ _ _ _ => some l
  | .brakeSupplyFault l _ _ => some l
  | .brakeSupplyRestored l _ _ => some l
  | .dcLinkLow l _ _ _ => some l
  | .dcLinkPresent l _ _ => some l
  | .keepAliveLoss l _ => some l
  | .engRun l _ _ _ => some l
  | .engReset l _ _ => some l
  | .engKick l _ _ => some l
  | .watchdogTrip l _ _ => some l
  | .mailboxWrite l _ _ _ _ => some l
  | .mailboxTake l _ _ _ _ => some l
  | .scrub l _ _ _ _ => some l
  | .processReading l _ _ => some l
  | .ageingLogEntry l _ => some l
  | .readClearRegister l _ _ _ => some l
  | .registerWrite l _ _ _ _ _ => some l
  | .arbiterPowerUp _ => none
  | .backEmfAboveLink l _ => some l
  | .safeStopInputChange l _ _ _ => some l
  | .operatingHoursTick l _ => some l

/-- Every fitted switch of the arbiter is off or ramps down, and the stop line is open (R71, R85). -/
def Arbiter.vented (a : Arbiter) : Prop :=
  a.stopCmd = false ∧ a.winner = 0 ∧ ∀ n < 8, nth a.outState n = 0 ∨ (a.ramp.getD n none).isSome = true

/-- The invariant of the arbiter tile: eight outputs with their ramps, held channels and causes; in the safe state every
output is off or ramps down and the stop line is open (R85); a held channel is off or ramps down, and only a held channel
has a cause (R87); a half that has failed makes the arbiter degraded (R74). -/
structure Arbiter.Inv (a : Arbiter) : Prop where
  outs : a.outState.length = 8
  ramps : a.ramp.length = 8
  faults : a.chanFault.length = 8
  causes : a.chanCause.length = 8
  safe : a.allSafe = true → a.vented
  held : ∀ n < 8, nthB a.chanFault n = true → nth a.outState n = 0 ∨ (a.ramp.getD n none).isSome = true
  cause : ∀ n < 8, nthB a.chanFault n = false → nth a.chanCause n = 0
  half : (a.halfA.fault || a.halfB.fault) = true → a.degraded = true

/-- From `a`, output `n` is held in its safe state with a cause (R87): a held channel keeps its first cause, any other goes to
its safe state, off or ramping down; every other output is as it was. -/
structure Arbiter.HeldAt (a : Arbiter) (n cause : Nat) (b : Arbiter) : Prop where
  keeps : nthB a.chanFault n = true → b = a
  fault : nthB b.chanFault n = true
  began : nthB a.chanFault n = false → nth b.chanCause n = cause ∧
    (nth b.outState n = 0 ∨ (b.ramp.getD n none).isSome = true ∧ nth b.outState n = nth a.outState n)
  others : ∀ m, m ≠ n → nthB b.chanFault m = nthB a.chanFault m ∧ nth b.chanCause m = nth a.chanCause m ∧
    nth b.outState m = nth a.outState m ∧ b.ramp.getD m none = a.ramp.getD m none
  rest : b = { a with chanFault := b.chanFault, chanCause := b.chanCause, outState := b.outState, ramp := b.ramp }

end Sys2Proof.Machine
end

