-- ==== Sys2Proof/Certificates/Slice0/Obligations.lean ====
section
/-!
DEFINITION. What is claimed of the module: its commands group by group, each with the state it reaches and what it leaves
as it was, the arbiter's invariant, the encoding of E1's instructions, and where a command acts.
-/
open Sys2Proof Sys2Proof.Machine

/-- A step takes the command at the front of the queue and answers what that command does to the rest of the module, with the
rest of the queue left. With no command waiting a step leaves the module as it is (the model's choice, assumption log 6). -/
def Obligations.StepRunsTheFirstWaitingCommand : Prop :=
  (∀ (s : State) (c : Instr) (rest : List Instr),
    step { s with pending := c :: rest } = exec c { s with pending := rest }) ∧
  (∀ s : State, s.pending = [] → step s = .next s)

/-- After reset every object holds its default and every register its reset value, the period and control words of the PWM
counters among them; the arbiter has every output off, the stop line open and SAFE_MODE 0 (R86, R231); nothing waits. -/
def Obligations.ResetHoldsTheDefaults : Prop :=
  State.reset.pending = [] ∧
  (∀ l, (∀ o : O.Obj, (State.reset.lane l).obj o = o.dflt) ∧ (∀ r : Rg.Reg, (State.reset.lane l).reg r = r.reset) ∧
    (State.reset.lane l).reg (Rg.pwmPerAct .steer) = 10000 ∧
    (∀ n : Fin 8, (State.reset.lane l).reg (Rg.pwmPerAct (.brake n)) = 12500) ∧
    (∀ st : Stage, (State.reset.lane l).reg (Rg.pwmCtl st) = 0x1E)) ∧
  State.reset.arb.allSafe = true ∧ State.reset.arb.stopCmd = false ∧ State.reset.arb.safeMode = 0 ∧
  State.reset.arb.outState = List.replicate 8 0

/-- The words of E1 (R131). Every instruction of a loop program, with every operand that its encoding admits, is read back from
its word; and a word that the decoder accepts is the word of the instruction that it reads, with operands which the encoding
admits: every other word is refused. -/
def Obligations.E1WordsAndInstructionsCorrespond : Prop :=
  (∀ i : E1Ins, i.wf = true → encodeE1 i < 2 ^ 32 ∧ decodeE1 (encodeE1 i) = some i) ∧
  (∀ (w : Nat) (i : E1Ins), decodeE1 w = some i → i.wf = true ∧ encodeE1 i = w)

/-- Every step keeps the invariant of the arbiter tile, from every state that meets it. -/
def Obligations.ArbiterInvariantKeptByEveryStep : Prop :=
  ∀ s t : State, s.arb.Inv → step s = .next t → t.arb.Inv

/-- The invariant of the arbiter tile holds at reset. -/
def Obligations.ArbiterInvariantHoldsAtReset : Prop :=
  State.reset.arb.Inv

/-- A command of a lane completes, and what it changes lies in that lane: the other lanes, the arbiter tile and the queue stay
as they were. A command of the arbiter tile changes the arbiter alone, and a power request to every lane leaves the arbiter and the queue. -/
def Obligations.CommandsActWhereTheyBelong : Prop :=
  (∀ (c : Instr) (s : State) (l : LaneId), homeLane c = some l → ∃ x : Lane, exec c s = .next (s.setLane l x)) ∧
  (∀ (c : Instr) (s : State), homeLane c = none → (∀ g t, c ≠ .pwrModuleRequest g t) →
    ∃ a : Arbiter, exec c s = .next { s with arb := a }) ∧
  (∀ (g : BitVec 8) (t : Nat) (s : State), ∃ x y z : Lane,
    exec (.pwrModuleRequest g t) s = .next { s with lane1 := x, lane2 := y, lane3 := z })

/-- Objects, registers and byte memories: what is written is read, and every other object, register and address reads as before;
a register keeps 32 bits, and a field of a register the bits outside it. A memory in canonical form (addresses strictly
rising, no byte listed that reads as an unlisted one does) stays so. -/
def Obligations.StoredValuesReadAsWritten : Prop :=
  (∀ (x : Lane) (o : O.Obj) (v : Nat), (x.setObj o v).obj o = v) ∧
  (∀ (x : Lane) (o p : O.Obj) (v : Nat), p.key ≠ o.key → (x.setObj o v).obj p = x.obj p) ∧
  (∀ (x : Lane) (r : Rg.Reg) (v : Nat), (x.setReg r v).reg r = v % 2 ^ 32) ∧
  (∀ (x : Lane) (r q : Rg.Reg) (v : Nat), q.addr ≠ r.addr → (x.setReg r v).reg q = x.reg q) ∧
  (∀ (x : Lane) (r : Rg.Reg) (lo w v lo' w' : Nat), lo + w ≤ 32 → lo' + w' ≤ 32 → lo + w ≤ lo' ∨ lo' + w' ≤ lo →
    (x.setFld r lo w v).fld r lo w = v % 2 ^ w ∧ (x.setFld r lo w v).fld r lo' w' = x.fld r lo' w') ∧
  (∀ (m : List (Nat × Byte)) (a : Nat) (bs : List Byte),
    (∀ i, (h : i < bs.length) → memRead (memWriteAll m a bs) (a + i) = bs[i]) ∧
    (∀ c, c < a ∨ a + bs.length ≤ c → memRead (memWriteAll m a bs) c = memRead m c) ∧
    (memWf m = true → memWf (memWriteAll m a bs) = true) ∧ memWf [] = true ∧ memRead [] a = 0)

/-- VADD and VSUB: every element of the destination is the sum or difference, saturated to the Q1.31 range and counted where it
saturates, or modulo 2 to the 32 with WRAP; VADD with COPY copies the source. Every other word, every other loop, every
object but the saturation counter and the rest of the module stay as they were.
Readings of the model: assumption log 5, 8, 18. -/
def Obligations.VectorSumsSaturateOrWrap : Prop :=
  ∀ (s : State) (l : LaneId) (x : Lane) (k : Fin 9) (len : Fin 32) (src dst : BitVec 8),
    Has s l x → x.mx.cur = some k →
    (∀ wrap : Bool, ∀ f : Nat → Int, (∀ i, f i = (x.loop k).rdI (dst.toNat + i) + (x.loop k).rdI (src.toNat + i)) →
      ∃ y, exec (.vadd l wrap false len src dst) s = .next (s.setLane l y) ∧ LoopOnly k x y ∧
        WroteWords (x.loop k) (y.loop k) dst.toNat (len.val + 1) (fun i => ofI 32 (if wrap then f i else satI 32 (f i))) ∧
        ObjsKept [(O.satEvents k).key] x y ∧
        CountedBy (O.satEvents k)
          (if wrap then 0 else ((List.range (len.val + 1)).filter fun i => satI 32 (f i) ≠ f i).length) x y) ∧
    (∀ wrap : Bool, ∀ f : Nat → Int, (∀ i, f i = (x.loop k).rdI (dst.toNat + i) - (x.loop k).rdI (src.toNat + i)) →
      ∃ y, exec (.vsub l wrap len src dst) s = .next (s.setLane l y) ∧ LoopOnly k x y ∧
        WroteWords (x.loop k) (y.loop k) dst.toNat (len.val + 1) (fun i => ofI 32 (if wrap then f i else satI 32 (f i))) ∧
        ObjsKept [(O.satEvents k).key] x y ∧
        CountedBy (O.satEvents k)
          (if wrap then 0 else ((List.range (len.val + 1)).filter fun i => satI 32 (f i) ≠ f i).length) x y) ∧
    (∀ wrap : Bool, (∀ a, (x.loop k).rd a < 2 ^ 32) →
      ∃ y, exec (.vadd l wrap true len src dst) s = .next (s.setLane l y) ∧ LoopOnly k x y ∧ y.objs = x.objs ∧
        WroteWords (x.loop k) (y.loop k) dst.toNat (len.val + 1) (fun i => (x.loop k).rd (src.toNat + i)))

/-- SAT clamps every element to -2^-K up to 2^-K - 2^-31 and counts the elements that it changes; LIM clamps each element
between its two bounds (MODE 0), scales a pair to a magnitude (MODE 1) or gives the first of a pair priority (MODE 2); a
value that the specification does not state (bounds with nothing between them) is free. SEL copies where the condition bit
has the polarity asked for and does nothing otherwise.
Readings of the model: assumption log 5, 8, 18. -/
def Obligations.LimitsAndSelectionWriteTheirWords : Prop :=
  ∀ (s : State) (l : LaneId) (x : Lane) (k : Fin 9) (len : Fin 32) (src dst : BitVec 8),
    Has s l x → x.mx.cur = some k →
    (∀ (sh : Fin 16) (f : Nat → Int),
      (∀ i, f i = max (-(2 ^ (31 - sh.val))) (min (2 ^ (31 - sh.val) - 1) ((x.loop k).rdI (dst.toNat + i)))) →
      ∃ y, exec (.sat l len sh dst) s = .next (s.setLane l y) ∧ LoopOnly k x y ∧
        WroteWords (x.loop k) (y.loop k) dst.toNat (len.val + 1) (fun i => ofI 32 (f i)) ∧
        ObjsKept [(O.satEvents k).key] x y ∧
        CountedBy (O.satEvents k)
          ((List.range (len.val + 1)).filter fun i => (x.loop k).rdI (dst.toNat + i) ≠ f i).length x y) ∧
    (∃ y, exec (.lim l 0 len src dst) s = .next (s.setLane l y) ∧ LoopOnly k x y ∧ y.objs = x.objs ∧
      WroteWords (x.loop k) (y.loop k) dst.toNat (len.val + 1) (fun i => clampI ((x.loop k).rdI (dst.toNat + i))
        ((x.loop k).rdI (src.toNat + i)) ((x.loop k).rdI (src.toNat + (len.val + 1) + i)))) ∧
    (∃ y, exec (.lim l 1 1 src dst) s = .next (s.setLane l y) ∧ LoopOnly k x y ∧ y.objs = x.objs ∧
      WroteWords (x.loop k) (y.loop k) dst.toNat 2 (fun i => nth (circleLim ((x.loop k).rdI dst.toNat)
        ((x.loop k).rdI (dst.toNat + 1)) ((x.loop k).rdI src.toNat)) i % 2 ^ 32)) ∧
    (∃ y, exec (.lim l 2 1 src dst) s = .next (s.setLane l y) ∧ LoopOnly k x y ∧ y.objs = x.objs ∧
      WroteWords (x.loop k) (y.loop k) dst.toNat 2 (fun i => nth (priorityLim ((x.loop k).rdI dst.toNat)
        ((x.loop k).rdI (dst.toNat + 1)) ((x.loop k).rdI src.toNat)) i % 2 ^ 32)) ∧
    (∀ (bit : Fin 16) (pol : Bool),
      ∃ y, exec (.sel l bit pol len src dst) s = .next (s.setLane l y) ∧ LoopOnly k x y ∧ y.objs = x.objs ∧
        WroteWords (x.loop k) (y.loop k) dst.toNat (len.val + 1)
          (fun i => if bitOf (x.loop k).cr bit = pol then (x.loop k).rd (src.toNat + i) % 2 ^ 32
            else (x.loop k).rd (dst.toNat + i)))

/-- LD takes slots as the entry sees them, as Q1.15 fractions (MODE 0), as angles (MODE 1) or transformed to d and q (MODE 2);
LDC loads the condition or the angle register from a word or a slot; ST rounds words to Q1.15 and stores them to the post
slots, a reserved slot excepted, and the sample's exchange frame carries those that come by 6.0 µs after the reload; POST puts a word
into the mailbox of an engine, leaves it in the crossing to an island that is stopped, or counts a drop when the mailbox is full.
Readings of the model: assumption log 5, 18. -/
def Obligations.LoadsStoresAndPostsMoveWords : Prop :=
  ∀ (s : State) (l : LaneId) (x : Lane) (k : Fin 9) (len : Fin 32) (slot dst : BitVec 8),
    Has s l x → x.mx.cur = some k →
    (∃ y, exec (.ld l 0 len slot dst) s = .next (s.setLane l y) ∧ LoopOnly k x y ∧ y.objs = x.objs ∧
      WroteWords (x.loop k) (y.loop k) dst.toNat (len.val + 1)
        (fun i => ofI 32 (toI 16 (kvGet 0 (x.loop k).seen (slot.toNat + i)) * 65536))) ∧
    (∃ y, exec (.ld l 1 len slot dst) s = .next (s.setLane l y) ∧ LoopOnly k x y ∧ y.objs = x.objs ∧
      WroteWords (x.loop k) (y.loop k) dst.toNat (len.val + 1)
        (fun i => kvGet 0 (x.loop k).seen (slot.toNat + i) * 32768 % 2 ^ 32)) ∧
    (∀ dq : Rat × Rat, dq = toDq ((List.range 3).map fun i => toI 16 (kvGet 0 (x.loop k).seen (slot.toNat + i)))
        (turnOf (x.loop k).ar) →
      ∃ y, exec (.ld l 2 2 slot dst) s = .next (s.setLane l y) ∧ LoopOnly k x y ∧ y.objs = x.objs ∧
        WroteWords (x.loop k) (y.loop k) dst.toNat 2 (fun i => codeI 32 (roundRat (65536 * if i = 0 then dq.1 else dq.2)))) ∧
    (∀ (tgt space : Bool) (v : Nat),
      v = (if space then kvGet 0 (x.loop k).seen slot.toNat else (x.loop k).rd slot.toNat / 65536) →
      ∃ y, exec (.ldc l tgt space slot) s = .next (s.setLane l y) ∧ LoopOnly k x y ∧ y.objs = x.objs ∧
        (y.loop k).ar = (if tgt then v else (x.loop k).ar) ∧ (y.loop k).cr = (if tgt then (x.loop k).cr else v) ∧
        ∀ b, (y.loop k).rd b = (x.loop k).rd b) ∧
    (∀ ps : BitVec 8,
      ∃ y, exec (.st l len slot ps) s = .next (s.setLane l y) ∧ LoopOnly k x y ∧ y.objs = x.objs ∧
        (y.loop k).cyc = (x.loop k).cyc + (len.val + 2) / 2 + 4 ∧
        (∀ i ≤ len.val, postSlotOk k (ps.toNat + i) = true → (y.loop k).postInTime x.smp.reloadAt = true →
          kvGet 0 (y.loop k).postsF (ps.toNat + i) = toQ15 ((x.loop k).rdI (slot.toNat + i)) ∧
            ps.toNat + i ∈ (y.loop k).postedBy) ∧
        ((y.loop k).postInTime x.smp.reloadAt = false →
          (y.loop k).postsF = (x.loop k).postsF ∧ (y.loop k).postedBy = (x.loop k).postedBy) ∧
        (∀ i ≤ len.val, kvGet 0 (y.loop k).posts (ps.toNat + i) = if postSlotOk k (ps.toNat + i)
          then toQ15 ((x.loop k).rdI (slot.toNat + i)) else kvGet 0 (x.loop k).posts (ps.toNat + i)) ∧
        (∀ b, b < ps.toNat ∨ ps.toNat + len.val < b → kvGet 0 (y.loop k).posts b = kvGet 0 (x.loop k).posts b) ∧
        ∀ b, (y.loop k).rd b = (x.loop k).rd b) ∧
    (∀ eng : Fin 8, eng ≠ 1 → x.mbxFull 1 eng = false → (∀ w ∈ x.eng.held, ¬(w.1 = 1 ∧ w.2.1 = eng.val)) →
      x.islandStopped eng = false →
      ∃ y, exec (.post l eng slot) s = .next (s.setLane l y) ∧
        y = { x with mx := { x.mx with loops := y.mx.loops }, regs := y.regs } ∧
        y.reg (Rg.mbxData 1 eng) = (x.loop k).rd slot.toNat % 2 ^ 32 ∧ y.mbxFull 1 eng = true ∧
        y.rbit (Rg.mbxInbox eng) 1 = true ∧
        RegsKept [(Rg.mbxData 1 eng).addr, (Rg.mbxStat 1 eng).addr, (Rg.mbxInbox eng).addr] x y) ∧
    (∀ eng : Fin 8, eng ≠ 1 → x.mbxFull 1 eng = false → (∀ w ∈ x.eng.held, ¬(w.1 = 1 ∧ w.2.1 = eng.val)) →
      x.islandStopped eng = true →
      ∃ y, exec (.post l eng slot) s = .next (s.setLane l y) ∧
        y = { x with mx := { x.mx with loops := y.mx.loops }, eng := { x.eng with held := x.eng.held ++ [(1, eng.val, (x.loop k).rd slot.toNat)] } }) ∧
    (∀ eng : Fin 8, eng ≠ 1 → x.mbxFull 1 eng = true ∨ (∃ w ∈ x.eng.held, w.1 = 1 ∧ w.2.1 = eng.val) →
      ∃ y, exec (.post l eng slot) s = .next (s.setLane l y) ∧ LoopOnly k x y ∧
        ObjsKept [(O.postDrops k).key] x y ∧ CountedBy (O.postDrops k) 1 x y)

/-- MVM multiplies a matrix of the bank by words of the window: row by row the accumulator, from 0 or from what it holds, takes
the products with saturation; with WB the rows are rounded into the window and the accumulator is cleared.
Readings of the model: assumption log 5, 8. -/
def Obligations.MatrixProductFillsRows : Prop :=
  ∀ (s : State) (l : LaneId) (x : Lane) (k : Fin 9) (acc : Bool) (mat src dst : BitVec 8) (d : MatDesc) (row : Nat → Int × Nat),
    Has s l x → x.mx.cur = some k → d = matDesc x.activeBank k mat.toNat →
    (∀ i, row i = mvmRow x.activeBank k (x.blockOf k) d ((x.loop k).vecI src.toNat d.cols)
      (if acc then (x.loop k).acc.getD i 0 else 0) i) →
    (∃ y, exec (.mvm l acc true mat src dst) s = .next (s.setLane l y) ∧ LoopOnly k x y ∧
      ObjsKept [(O.satEvents k).key] x y ∧ (y.loop k).acc = [] ∧
      WroteWords (x.loop k) (y.loop k) dst.toNat d.rows (fun i => ofI 32 (satI 32 (roundDiv (row i).1 (2 ^ 17))))) ∧
    (∃ y, exec (.mvm l acc false mat src dst) s = .next (s.setLane l y) ∧ LoopOnly k x y ∧
      ObjsKept [(O.satEvents k).key] x y ∧ (y.loop k).acc = (List.range d.rows).map (fun i => (row i).1) ∧
      ∀ b, (y.loop k).rd b = (x.loop k).rd b)

/-- The entries of a run. A TUBE check in CORR whose channels lie inside their tubes marks the speculative set valid; one
outside discards the shadow words, counts a tube squash and goes on with FULL, whose slots and parameters are taken anew 4 cycles
later; outside CORR a TUBE does nothing. PREP writes the speculative set with VALID 0. COMMIT delivers the legs' duties to the stage 25 ns
after its last cycle, makes the shadow words the committed ones and records the latency. END ends the run, but for a brake loop's
CORR or FULL with speculation on, which SPEC follows at once.
Readings of the model: assumption log 5, 19. -/
def Obligations.TubeChecksPrepareAndCommitARun : Prop :=
  ∀ (s : State) (l : LaneId) (x : Lane) (k : Fin 9) (src : BitVec 8), Has s l x → x.mx.cur = some k →
    (∀ (len : Fin 32) (tub : BitVec 8), (x.loop k).entry = .corr →
      (∀ i ≤ len.val, tubeWord x.activeBank k (tub.toNat + i) = 0 ∨
        ((x.loop k).rdI (src.toNat + i)).natAbs ≤ tubeWord x.activeBank k (tub.toNat + i)) →
      ∃ y, exec (.tube l len tub src) s = .next (s.setLane l y) ∧ (y.loop k).specValid = true ∧ (y.loop k).entry = .corr ∧
        y.rbit (Rg.pwmStat (loopStage k)) 9 = true ∧ y.objs = x.objs ∧ (∀ b, (y.loop k).rd b = (x.loop k).rd b) ∧
        y = { x with mx := y.mx, regs := y.regs } ∧ RegsKept [(Rg.pwmStat (loopStage k)).addr] x y) ∧
    (∀ (len : Fin 32) (tub : BitVec 8) (i : Nat), (x.loop k).entry = .corr → i ≤ len.val →
      tubeWord x.activeBank k (tub.toNat + i) ≠ 0 →
      tubeWord x.activeBank k (tub.toNat + i) < ((x.loop k).rdI (src.toNat + i)).natAbs →
      ∃ y, exec (.tube l len tub src) s = .next (s.setLane l y) ∧ (y.loop k).specValid = false ∧ (y.loop k).shw = [] ∧
        (y.loop k).entry = .full ∧ (y.loop k).win = (x.loop k).win ∧ y.rbit (Rg.pwmStat (loopStage k)) 9 = false ∧
        (y.loop k).cyc = (x.loop k).cyc + (len.val + 4) / 4 + 8 ∧ (y.loop k).seen = x.slotsOf k ∧
        (y.loop k).par = (List.range 32).map (blockWord x.activeBank k (x.blockOf k)) ∧
        CountedBy (O.squashTube k) 1 x y ∧ CountedBy (O.squashTotal k) 1 x y ∧
        ObjsKept [(O.tubeViolMask k).key, (O.squashTube k).key, (O.squashTotal k).key] x y ∧
        RegsKept [(Rg.pwmStat (loopStage k)).addr, Rg.mxStat.addr] x y ∧
        y = { x with mx := y.mx, objs := y.objs, regs := y.regs } ∧ ∀ j, j ≠ k → y.loop j = x.loop j) ∧
    (∀ (len : Fin 32) (tub : BitVec 8), (x.loop k).entry ≠ .corr →
      ∃ y, exec (.tube l len tub src) s = .next (s.setLane l y) ∧ LoopOnly k x y ∧ y.objs = x.objs ∧
        (y.loop k).specValid = (x.loop k).specValid ∧ (∀ b, (y.loop k).rd b = (x.loop k).rd b)) ∧
    (∀ dq : Bool, ∃ y, exec (.prep l dq src) s = .next (s.setLane l y) ∧ (y.loop k).spec = (x.loop k).legs dq src.toNat ∧
      (y.loop k).specValid = false ∧ y.rbit (Rg.pwmStat (loopStage k)) 9 = false ∧ (∀ b, (y.loop k).rd b = (x.loop k).rd b) ∧
      (y.loop k).cyc = (x.loop k).cyc + 10 ∧
      y.objs = x.objs ∧ y = { x with mx := y.mx, regs := y.regs } ∧ RegsKept [(Rg.pwmStat (loopStage k)).addr] x y) ∧
    (∀ (dq : Bool) (st : Stage) (h at_ : Nat) (ds : List Nat), st = loopStage k →
      h = 2 * (x.loop k).startAt + 5 * ((x.loop k).cyc + 10) + 50 → at_ = (h + 1) / 2 →
      ds = (List.range 3).map (fun i => (duty16 (x.per st) (x.fld (Rg.pwmVConv st) 0 16) (nth ((x.loop k).legs dq src.toNat) i)).1) →
      ∃ y, exec (.commit l dq src) s = .next (s.setLane l y) ∧ (y.loop k).uCmd = (x.loop k).legs dq src.toNat ∧
        (y.loop k).committed = true ∧ (y.loop k).fresh = ((x.loop k).fresh || x.commitInTime k h) ∧ (y.loop k).shw = [] ∧
        (y.loop k).win = (x.loop k).promote.win ∧ (∀ j, j ≠ k → y.loop j = x.loop j) ∧
        y.obj (O.commitLatLast k) = min (ticksUp (5 * ((x.loop k).cyc + 10) + 50 + (x.loop k).startH : Nat)) 0xFFFF ∧
        CountedBy (O.lateCommits k) (if x.commitInTime k h = true then 0 else 1) x y ∧
        (y.loop k).inTime = ((x.loop k).inTime || x.commitInTime k h) ∧
        ((x.stg st).coming = none → x.now < at_ →
          y.stg st = { x.stg st with coming := some (at_, ⟨x.per st, ds⟩) }) ∧
        ((x.stg st).coming = none → at_ ≤ x.now → (y.stg st).coming = none ∧
          ((y.stg st).pendNow = some ⟨x.per st, ds⟩ ∨ (y.stg st).pendNext = some ⟨x.per st, ds⟩)) ∧
        y.fld (Rg.pwmPerSh st) 0 16 = x.per st ∧ (∀ i < 3, y.reg (Rg.pwmDutySh st i) = nth ds i) ∧
        y.fld (Rg.pwmLgctl st) 2 4 = 0 ∧ (∀ q, q ≠ st → y.stg q = x.stg q) ∧
        y.coll = x.coll ∧ y.claim = x.claim ∧ y.sio = x.sio ∧ y.eng = x.eng ∧ y.slots = x.slots) ∧
    (k = 0 ∨ (x.loop k).entry = .spec ∨ x.specOn = false → x.mx.waiting = [] →
      ∃ y, exec (.endEntry l) s = .next (s.setLane l y) ∧ (y.loop k).entry = .none ∧ y.mx.cur = none ∧ y.mx.pc = none ∧
        (y.loop k).cyc = (x.loop k).cyc + 2 ∧ y.objs = x.objs ∧
        (∀ b, (y.loop k).rd b = (x.loop k).rd b) ∧ (∀ j, j ≠ k → y.loop j = x.loop j) ∧ y = { x with mx := y.mx }) ∧
    (k ≠ 0 → (x.loop k).entry ≠ .spec → x.specOn = true → x.mx.pc = none →
      ∃ y, exec (.endEntry l) s = .next (s.setLane l y) ∧ (y.loop k).entry = .spec ∧ y.mx.cur = some k ∧ LoopOnly k x y ∧
        (y.loop k).cyc = (x.loop k).cyc + 2 ∧ (y.loop k).seen = x.slotsOf k ∧ y.objs = x.objs)

/-- The runs of the matrix engine while its loops are due. The steering SPEC entry and the run of a brake slot open once E1 is free, with
the slots of that instant and the parameters of the bench block in force, at the first instruction of the entry where the active bank
holds the loop's program; while another entry is open they wait, SPEC ahead of the slots. A slot begins with CORR, or with FULL where
a squash is due, which is counted under its first cause; a run that reached neither COMMIT nor END before its next slot is squashed as
stale. Nothing opens while E1 stands, at an instant at which the slot is not due, or for a loop that the variant lacks.
OVERBURDEN of a run that still owes its commit is counted, leaves the fallback or the hold to the next update point, and the third in a
row is the error of its loop.
Readings of the model: assumption log 5, 19, 87, 114. -/
def Obligations.RunsOpenAndOverburdensCount : Prop :=
  ∀ (s : State) (l : LaneId) (t : Nat) (x : Lane), FindsE1 s l t x →
    (x.e1Due = true → x.specOn = true → x.e1Ready →
      ∃ y, exec (.spec l t) s = .next (s.setLane l y) ∧ (y.loop 0).entry = .spec ∧ y.mx.cur = some 0 ∧ (y.loop 0).cyc = 0 ∧
        (y.loop 0).startAt = x.now ∧ (y.loop 0).seen = x.slotsOf 0 ∧ (y.loop 0).shw = (x.loop 0).shw ∧
        (y.loop 0).par = (List.range 32).map (blockWord x.activeBank 0 (x.blockOf 0)) ∧
        y.mx.pc = (if loopPresent x.activeBank 0 = true then some (entryIndex x.activeBank 0 .spec) else none) ∧
        y = { x with mx := { x.mx with loops := y.mx.loops, cur := some 0, pc := y.mx.pc } } ∧ ∀ j, j ≠ 0 → y.loop j = x.loop j) ∧
    (x.e1Due = true → x.specOn = true → x.mx.cur.isSome = true → x.e1Turn x.now = none →
      exec (.spec l t) s = .next (s.setLane l { x with mx := { x.mx with waiting := x.mx.waiting ++ [⟨0, true, x.now⟩] } })) ∧
    (x.e1Due = false ∨ x.specOn = false → exec (.spec l t) s = .next (s.setLane l x)) ∧
    (∀ (n : Fin 8) (k : Fin 9) (stale : Bool) (c : Nat), k.val = n.val + 1 → x.loopExists k = true → x.slotDue k = true →
      x.e1Due = true → x.mx.cur = none ∨ x.mx.cur = some k → x.mx.waiting = [] → x.e1Free ≤ x.now →
      stale = (decide ((x.loop k).entry = .spec)
        || (!(x.loop k).committed && (decide ((x.loop k).entry ≠ .none) || !(x.loop k).shw.isEmpty))) →
      c = firstCause (if stale then (x.loop k).cause ||| 8 else (x.loop k).cause) →
      ∃ y, exec (.brakeSlot l n t) s = .next (s.setLane l y) ∧ y.mx.cur = some k ∧
        (y.loop k).entry = (if x.specOn = true ∧ c = 0 then .corr else .full) ∧ (y.loop k).specValid = false ∧
        (y.loop k).committed = false ∧ (y.loop k).owes = true ∧ (y.loop k).inTime = false ∧ (y.loop k).cause = 0 ∧
        (y.loop k).startAt = x.now ∧ (y.loop k).cyc = 0 ∧ (y.loop k).seen = x.slotsOf k ∧
        (y.loop k).par = (List.range 32).map (blockWord x.activeBank k (x.blockOf k)) ∧
        y.mx.pc = (if loopPresent x.activeBank k = true then some (entryIndex x.activeBank k (y.loop k).entry) else none) ∧
        (c = 0 → y.objs = x.objs) ∧
        (c ≠ 0 → x.specOn = true → CountedBy (O.squashTotal k) 1 x y ∧ CountedBy (squashObj k c) 1 x y ∧ (y.loop k).shw = []) ∧
        ObjsKept [(O.squashTotal k).key, (squashObj k c).key] x y ∧ ∀ j, j ≠ k → y.loop j = x.loop j) ∧
    (∀ (n : Fin 8) (k j : Fin 9), k.val = n.val + 1 → x.loopExists k = true → x.slotDue k = true → x.e1Due = true →
      x.mx.cur = some j → j ≠ k → x.e1Turn x.now = none →
      ∃ y, exec (.brakeSlot l n t) s = .next (s.setLane l y) ∧ y.mx.cur = some j ∧ y.mx.pc = x.mx.pc ∧
        y.mx.waiting = (x.mx.waiting.filter fun w => w.loop ≠ k) ++ [⟨k, false, x.now⟩] ∧ (y.loop k).specValid = false ∧
        (y.loop k).owes = true ∧ y.objs = x.objs ∧ ∀ i, i ≠ k → y.loop i = x.loop i) ∧
    (∀ (n : Fin 8) (k : Fin 9), k.val = n.val + 1 → x.loopExists k = false ∨ x.slotDue k = false →
      exec (.brakeSlot l n t) s = .next (s.setLane l x)) ∧
    (∀ (n : Fin 8) (k : Fin 9), k.val = n.val + 1 → x.loopExists k = true → x.slotDue k = true → x.e1Due = false →
      ∃ y, exec (.brakeSlot l n t) s = .next (s.setLane l y) ∧ (y.loop k).specValid = false ∧
        y.rbit (Rg.pwmStat (loopStage k)) 9 = false ∧ y.objs = x.objs ∧ RegsKept [(Rg.pwmStat (loopStage k)).addr] x y ∧
        y = { x with mx := y.mx, regs := y.regs } ∧ ∀ i, i ≠ k → y.loop i = x.loop i) ∧
    (∀ (k : Fin 9), x.loopExists k = true → (x.loop k).owes = true → (x.loop k).inTime = false → (x.loop k).obRun + 1 ≠ 3 →
      ∃ y, exec (.overburden l k t) s = .next (s.setLane l y) ∧ CountedBy (O.overburdens k) 1 x y ∧
        (y.loop k).owes = false ∧ (y.loop k).obRun = (x.loop k).obRun + 1 ∧
        y.stg (loopStage k) = { x.stg (loopStage k) with
          atPoint := some (if (x.loop k).specValid = true then some (x.loop k).spec else none) } ∧
        ObjsKept [(O.overburdens k).key] x y ∧ (∀ j, j ≠ k → y.loop j = x.loop j) ∧
        (∀ q, q ≠ loopStage k → y.stg q = x.stg q) ∧ y.coll = x.coll ∧ y.regs = x.regs) ∧
    (∀ (k : Fin 9), x.loopExists k = true → (x.loop k).owes = true → (x.loop k).inTime = false → (x.loop k).obRun = 2 →
      ∃ y x1, exec (.overburden l k t) s = .next (s.setLane l y) ∧ CountedBy (O.overburdens k) 1 x x1 ∧ x1.coll = x.coll ∧
        ErrorOf x1 (overburdenSrc k) (if (x.loop k).specValid = true then 2 else 1) y ∧ (y.loop k).obRun = 0) ∧
    (∀ (k : Fin 9), x.loopExists k = false ∨ (x.loop k).owes = false ∨ (x.loop k).inTime = true →
      exec (.overburden l k t) s = .next (s.setLane l x))

/-- RUN of the matrix engine starts and stops the loops: a start and a stop leave no entry open and every loop committed, and a stop
leaves no work waiting; a lane that has not started runs none. SPEC_EN as written comes into force with the next reload, for which a
CONFIG squash of every loop waits too. A bench block of a loop of the variant is forced from 0 to 63 or released by 0xFF in Assembly
and Workshop; after the release a CONFIG squash of the loop waits for the next reload; other values, other life cycles and other loops
change nothing.
Readings of the model: assumption log 5, 19. -/
def Obligations.EngineControlActsOnEveryLoop : Prop :=
  (∀ (s : State) (l : LaneId) (t : Nat) (x : Lane), FindsE1 s l t x →
    (x.started = false → exec (.mxRun l true t) s = .next (s.setLane l x)) ∧
    ∀ run : Bool, (run = true → x.started = true) →
      ∃ y, exec (.mxRun l run t) s = .next (s.setLane l y) ∧ y.rbit Rg.mxCtl 0 = run ∧ y.rbit Rg.mxStat 0 = run ∧
        (∀ k, y.loop k = if run = true ∧ x.rbit Rg.mxCtl 0 = true then x.loop k
          else { x.loop k with started := false, entry := .none, committed := true, owes := false }) ∧
        (run = false → y.mx.cur = none ∧ y.mx.pc = none ∧ y.mx.waiting = []) ∧
        (run = true → y.mx.cur = x.mx.cur ∧ y.mx.pc = x.mx.pc ∧ y.mx.waiting = x.mx.waiting) ∧
        RegsKept [Rg.mxCtl.addr, Rg.mxStat.addr] x y ∧ y = { x with mx := y.mx, regs := y.regs }) ∧
  (∀ (s : State) (l : LaneId) (t : Nat) (x : Lane), Sees s l t x →
    (∀ en : Bool,
      ∃ y, exec (.specEn l en t) s = .next (s.setLane l y) ∧ y.rbit Rg.mxCtl 1 = en ∧ y.specOn = x.specOn ∧
        y.obj O.specEnable = b2n en ∧ (∀ k : Fin 9, k.val ∈ y.mx.config) ∧ ObjsKept [O.specEnable.key] x y ∧
        RegsKept [Rg.mxCtl.addr] x y ∧ y = { x with mx := { x.mx with config := y.mx.config }, regs := y.regs, objs := y.objs }) ∧
    (∀ (k : Fin 9) (v : BitVec 8), x.loopExists k = true → (x.obj O.lcStateObj = 1 ∨ x.obj O.lcStateObj = 4) →
      v.toNat < 64 ∨ v.toNat = 255 →
      ∃ y, exec (.benchForce l k v t) s = .next (s.setLane l y) ∧ y.obj (O.benchForce k) = v.toNat ∧
        (v.toNat = 255 → x.obj (O.benchForce k) ≠ 255 → k.val ∈ y.mx.config) ∧
        (∀ j : Nat, j ≠ k.val ∨ v.toNat ≠ 255 ∨ x.obj (O.benchForce k) = 255 → (j ∈ y.mx.config ↔ j ∈ x.mx.config)) ∧
        y = { x with mx := { x.mx with config := y.mx.config }, objs := y.objs } ∧ ObjsKept [(O.benchForce k).key] x y) ∧
    (∀ (k : Fin 9) (v : BitVec 8), x.loopExists k = false ∨ (x.obj O.lcStateObj ≠ 1 ∧ x.obj O.lcStateObj ≠ 4) ∨
        (64 ≤ v.toNat ∧ v.toNat ≠ 255) →
      exec (.benchForce l k v t) s = .next (s.setLane l x)))

/-- The standby bank: bytes written to it read back and no other byte of either bank changes, its eligibility goes, and a swap
that waits is refused with code 4; 1 starts its check; a check into which a write has fallen fails. A swap request sets the
pending swap, 16 samples ahead for target 0, and is refused with code 1 where the target is less than 16 samples away.
Readings of the model: assumption log 20, 72. -/
def Obligations.StandbyBankIsWrittenCheckedAndSwapped : Prop :=
  ∀ (s : State) (l : LaneId) (t : Nat) (x : Lane), Sees s l t x →
    (∀ (off : Nat) (data : List Byte), off + data.length ≤ bankSize →
      ∃ y, exec (.coefStandbyImage l off data t) s = .next (s.setLane l y) ∧ y.activeBank = x.activeBank ∧
        (∀ i, (h : i < data.length) → memRead y.standbyBank (off + i) = data[i]) ∧
        (∀ a, a < off ∨ off + data.length ≤ a → memRead y.standbyBank a = memRead x.standbyBank a) ∧
        y.standbyEligible = false ∧ y.mx.swap = none ∧ (x.mx.swap.isSome = true → y.obj O.swapResult = 4) ∧
        (x.mx.checking = true → y.mx.modified = true) ∧ (x.mx.checking = false → y.obj O.standbyState = 0) ∧
        ObjsKept [O.standbyState.key, O.swapResult.key] x y ∧ RegsKept [Rg.mxStat.addr] x y) ∧
    (exec (.coefStandbyCheck l 1 t) s
      = .next (s.setLane l ({ x with mx := { x.mx with checking := true, modified := false } }.setObj O.standbyState 1))) ∧
    (∀ v : BitVec 8, v ≠ 1 → exec (.coefStandbyCheck l v t) s = .next (s.setLane l x)) ∧
    (x.mx.checking = true → x.mx.modified = true →
      ∃ y, exec (.standbyCheckDone l t) s = .next (s.setLane l y) ∧ y.obj O.standbyState = 3 ∧ y.standbyEligible = false ∧
        y.mx.checking = false ∧ ObjsKept [O.standbyState.key] x y) ∧
    (∀ c : Nat, x.mx.checking = true → x.mx.modified = false →
      c = ({ x with mx := { x.mx with checking := false } } : Lane).checkBank l x.standbyBank →
      ∃ y, exec (.standbyCheckDone l t) s = .next (s.setLane l y) ∧ y.obj O.standbyState = (if c = 0 then 2 else 3) ∧
        y.standbyEligible = decide (c = 0) ∧ y.mx.checking = false ∧ (c ≠ 0 → y.obj O.standbyFail = c) ∧
        ObjsKept [O.standbyState.key, O.standbyFail.key, O.imgVerifyLast.key] x y) ∧
    (∀ target : BitVec 32, target ≠ 0 → 16 ≤ (target.toNat + (2 ^ 32 - x.smp.no)) % 2 ^ 32 →
      (target.toNat + (2 ^ 32 - x.smp.no)) % 2 ^ 32 < 2 ^ 31 →
      ∃ y, exec (.swapRequest l target t) s = .next (s.setLane l y) ∧ y.mx.swap = some (true, some target.toNat) ∧
        y.rbit Rg.mxStat 2 = true ∧ y.objs = x.objs ∧ RegsKept [Rg.mxStat.addr] x y) ∧
    (∃ y, exec (.swapRequest l 0 t) s = .next (s.setLane l y) ∧ y.mx.swap = some (true, some ((x.smp.no + 16) % 2 ^ 32)) ∧
      y.rbit Rg.mxStat 2 = true) ∧
    (∀ target : BitVec 32, target ≠ 0 → (target.toNat + (2 ^ 32 - x.smp.no)) % 2 ^ 32 < 16 ∨
        2 ^ 31 ≤ (target.toNat + (2 ^ 32 - x.smp.no)) % 2 ^ 32 →
      ∃ y, exec (.swapRequest l target t) s = .next (s.setLane l y) ∧ y.mx = x.mx ∧ y.obj O.swapResult = 1 ∧
        y.fld Rg.mxStat 8 8 = 1 ∧ ObjsKept [O.swapResult.key] x y) ∧
    (∃ y, exec (.mxSwapReq l t) s = .next (s.setLane l y) ∧ y.rbit Rg.mxStat 2 = true ∧ y.mx.swapAt = x.now ∧
      y.mx.swap = some (false, if x.reg Rg.mxSwapSample = 0 then none else some (x.reg Rg.mxSwapSample))) ∧
    (∃ y, exec (.mxSwapCancel l t) s = .next (s.setLane l y) ∧ y.mx = { x.mx with swap := none } ∧
      y.rbit Rg.mxStat 2 = false ∧ y.objs = x.objs ∧ RegsKept [Rg.mxStat.addr] x y)

/-- A steering reload of a lane whose samples run numbers the sample that starts, takes the instant of the reload, keeps the
frame it has sent as that of the sample before, and has sent none yet; a lane whose samples do not run does nothing.
Exchange frames. A lane sends one frame in a sample, unless it listens: the frame that it sends is kept as its own, its number is that of
the sample, and posts that came late are counted. A received frame that begins in the sample before its t5 becomes the peer's frame of
the sample unless one has come, and one with a good CRC gives its number and its claim; nothing of the other peer changes. Listening
ends at its instant, at which lane time is set where no peer claims and it has not been set. A type that no frame has is counted.
The frame shows a steering set that is not to be driven as not driven: a lane that does not claim or whose availability has gone ceases.
Readings of the model: assumption log 7, 13, 85, 133. -/
def Obligations.SamplesStartAndExchangeTheirFrames : Prop :=
  (∀ (s : State) (l : LaneId) (t : Nat) (x : Lane) (c : Captures), Sees s l t x →
    (x.up = false → exec (.steeringReload l t c) s = .next (s.setLane l x)) ∧
    (x.up = true → ∃ y, exec (.steeringReload l t c) s = .next (s.setLane l y) ∧ y.smp.no = x.nextSampleNo l ∧
      y.smp.reloadAt = x.now ∧ y.smp.prevReload = x.smp.reloadAt ∧ y.smp.prevOwn = x.smp.own ∧ y.smp.own = none ∧
      y.smp.sent = false ∧ y.drive.tWind = c.tWind.toNat ∧ y.sio.fb = c.fb.toNat ∧ y.smp.vBrake = c.vBrake.toNat ∧
      y.powered = true ∧ y.now = x.now)) ∧
  ((∀ (s : State) (l : LaneId) (t : Nat) (x : Lane), FindsE1 s l t x → x.up = true → x.smp.listening = false →
    x.smp.sent = false →
    ∃ y f, exec (.exchangeSend l t) s = .next (s.setLane l y) ∧ y.smp = { x.smp with own := some f, sent := true, lastSend := x.now } ∧
      f.source = BitVec.ofNat 8 (4 + laneNo l) ∧ f.sampleNo = BitVec.ofNat 32 x.smp.no ∧
      f.reloadTime = BitVec.ofNat 64 x.smp.reloadAt ∧ f.firstCause = BitVec.ofNat 32 x.coll.firstCause ∧
      f.verdictLo = BitVec.ofNat 8 x.peerLo.verdict ∧ f.verdictHi = BitVec.ofNat 8 x.peerHi.verdict ∧
      f.evictOut = BitVec.ofNat 8 x.linesOut ∧ f.claim = BitVec.ofNat 16 x.claimField ∧
      CountedBy O.postLate (if x.e1Due = true ∧ (x.loop 0).postsIn 11 = false then 1 else 0) x y ∧
      ObjsKept [O.postLate.key] x y ∧ (y.steer.driving = true → y.claim.claiming = true ∧ y.capSteer = true) ∧
      (x.steer.driving = false ∨ (x.claim.claiming = true ∧ x.capSteer = true) → y.steer = x.steer ∧ y.regs = x.regs) ∧
      RegsKept [Rg.gdStat.addr] x y ∧
      y = { x with smp := y.smp, dem := x.placeDemand.dem, objs := y.objs, steer := y.steer, regs := y.regs,
                   drive := { x.drive with angleSent := f.angleStatus.toNat } }) ∧
  (∀ (s : State) (l : LaneId) (t : Nat) (x : Lane), FindsE1 s l t x →
    x.up = false ∨ x.smp.listening = true ∨ x.smp.sent = true → exec (.exchangeSend l t) s = .next (s.setLane l x)) ∧
  (∀ (s : State) (l : LaneId) (rx : BirixRx) (f : ExchFrame) (x : Lane), Sees s l (rx.fin.getD rx.start) x →
    ∃ y, exec (.exchangeFrame l rx f) s = .next (s.setLane l y) ∧
      (y.peer rx.peer).got = (if (x.peer rx.peer).got.isNone = true ∧ x.smp.reloadAt ≤ rx.start ∧ rx.start < x.smp.reloadAt + 8000
        then some (f, rx) else (x.peer rx.peer).got) ∧
      (y.peer rx.peer).crcLast = (if rx.crc = crc32 (exchBytes f) then some (f.sampleNo.toNat, bitOf f.status.toNat 0)
        else (x.peer rx.peer).crcLast) ∧
      y = x.updPeer rx.peer fun p => { p with got := (y.peer rx.peer).got, crcLast := (y.peer rx.peer).crcLast }) ∧
  (∀ (s : State) (l : LaneId) (t : Nat) (x : Lane), Sees s l t x → x.smp.listening = true → x.smp.listenUntil ≤ x.now →
    (x.smp.timeSet = true ∨ (∃ p, (x.peer p).claims = true) →
      exec (.listenEnd l t) s = .next (s.setLane l { x with smp := { x.smp with listening := false, takeNo := true } })) ∧
    (∀ d : Int, x.smp.timeSet = false → (∀ p, (x.peer p).claims = false) →
      d = (if x.obj O.netTimeSource ≠ 0 then -x.net.offsetAt x.now else 0) →
      ∃ y, exec (.listenEnd l t) s = .next (s.setLane l y) ∧
        y.smp = { x.smp with listening := false, takeNo := true, timeSet := true, slew := x.smp.slew + d } ∧
        y.net = x.net.shifted d ∧
        y.peerLo = { x.peerLo with offset := x.peerLo.offset - d } ∧ y.peerHi = { x.peerHi with offset := x.peerHi.offset - d } ∧
        y = { x with smp := y.smp, net := y.net, peerLo := y.peerLo, peerHi := y.peerHi })) ∧
  (∀ (s : State) (l : LaneId) (t : Nat) (x : Lane), Sees s l t x → x.smp.listening = false ∨ x.now < x.smp.listenUntil →
    exec (.listenEnd l t) s = .next (s.setLane l x)) ∧
  (∀ (s : State) (l : LaneId) (p : Peer) (ty : BitVec 8) (x : Lane), Has s l x → ty.toNat = 0 ∨ 5 < ty.toNat →
    (x.peer p).unknownTypes + 1 < 2 ^ 32 →
    exec (.birixTypeUnknown l p ty) s
      = .next (s.setLane l (x.updPeer p fun q => { q with unknownTypes := q.unknownTypes + 1 }))))

/-- The check at t5. It runs in one order: the frames, votes and verdicts of the module, the drives and brakes, the writes that
have waited, the commits, then requests; and a steering stage that still drives after it is available: one whose
availability has gone has ceased to drive. Each peer's frame of the sample is judged in its four checks; the lanes that claim, steer and
brake are those of the claiming lanes' frames, the module state is their number, the stop required is that of these counts, and the time
from which it stands runs on while it holds. A lane whose samples do not run does nothing.
Readings of the model: assumption log 13 to 17. -/
def Obligations.ExchangeCheckActsInOrder : Prop :=
  ∀ (s : State) (l : LaneId) (t : Nat) (v : Bool) (x : Lane), Sees s l t x →
    (x.up = false → exec (.exchangeCheck l ⟨t, v⟩) s = .next (s.setLane l x)) ∧
    (x.up = true → ∀ (m : Lane) (s1 s2 : State), m = ((x.e1Until x.now).watchTerminals v).checkModule l →
      s1 = s.setLane l (m.checkDrives l (s.peersOf l)) → s2 = commitT5 l (takeWrites l s1) →
      (∀ p, (m.peer p).got = none ∧
        (m.peer p).failed = (if (checkFrame x.smp.reloadAt x.smp.no (x.peer p).got).ok = true then 0 else (x.peer p).failed + 1) ∧
        (m.peer p).now = (if (checkFrame x.smp.reloadAt x.smp.no (x.peer p).got).ok = true
          then (x.peer p).got.map (fun g => g.1) else none)) ∧
      m.obj O.lanesClaiming = (m.countLanes l).1 ∧ m.obj O.steerLanes = (m.countLanes l).2.1 ∧
      m.obj O.brakeLanes = (m.countLanes l).2.2 ∧ m.obj O.moduleState = popLanes (m.countLanes l).1 ∧
      m.flag O.stopRequired = m.stopNeeded (popLanes (m.countLanes l).1) (popLanes (m.countLanes l).2.1)
        (popLanes (m.countLanes l).2.2) ∧
      m.claim.stopFrom = (if m.flag O.stopRequired = true then some (x.claim.stopFrom.getD x.now) else none) ∧
      ∃ y, exec (.exchangeCheck l ⟨t, v⟩) s = .next (s2.setLane l y) ∧ exec (.exchangeCheck l ⟨t, v⟩) s = .next (s.setLane l y) ∧
        (y.steer.driving = true → y.capSteer = true) ∧ y.txn.snap.isSome = true ∧
        y = ((((((((s2.lane l).takeQuote l).checkRequal l (s2.peersOf l)).checkRequests l (s2.peersOf l)).sendSeeds l).resync).checkSteer).dropLate
          (s2.lane l).now).takeSnap l)

/-- A peer's frame at t5 (R41): one that passes Presence, Timing, Integrity and Sequence delivers its values and ends the run of
failures; any other leaves the last good frame and lengthens the run. Time frames: lane time is slewed by at most 10 ns a millisecond
towards the claiming lanes and 1 ns a millisecond towards network time, and both peers are sent the instant at which the frame leaves
on their link, when their last one came, and when the lane's own last one left; a frame with a good CRC from the peer it names gives
round trip and offset by the four instants, the first of them that of the own frame which the peer has had (the last one, or the one before where
the two frames cross), once both ends have heard each other, and the first one of a claiming peer sets lane time.
Readings of the model: assumption log 7, 13, 37, 104, 133. -/
def Obligations.PeerFramesAreJudgedAndTimeFramesTaken : Prop :=
  (∀ (p : PeerSt) (reload no : Nat), ((p.judge reload no).1.failed = 0 ↔ (checkFrame reload no p.got).ok = true) ∧
    ((checkFrame reload no p.got).ok = true → (p.judge reload no).1.last = p.got.map (fun g => g.1) ∧
      (p.judge reload no).1.heard = true ∧ (p.judge reload no).1.now = p.got.map (fun g => g.1)) ∧
    ((checkFrame reload no p.got).ok = false → (p.judge reload no).1.last = p.last ∧ (p.judge reload no).1.now = none ∧
      (p.judge reload no).1.failed = p.failed + 1) ∧ (p.judge reload no).1.got = none) ∧
  ((∀ (s : State) (l : LaneId) (t : Nat) (x z : Lane), Sees s l t x → x.up = true → z = x.slewTime →
    ∃ y, exec (.timeFrameSend l t) s = .next (s.setLane l y) ∧
      y.out.times = x.out.times ++
        [(.lo, ⟨BitVec.ofNat 8 (laneNo l), BitVec.ofNat 64 (z.linkStart .lo 32), BitVec.ofNat 64 x.peerLo.lastTimeRx,
          BitVec.ofNat 64 x.peerLo.lastTimeTx⟩),
         (.hi, ⟨BitVec.ofNat 8 (laneNo l), BitVec.ofNat 64 (z.linkStart .hi 32), BitVec.ofNat 64 x.peerHi.lastTimeRx,
          BitVec.ofNat 64 x.peerHi.lastTimeTx⟩)] ∧
      y.smp = { x.smp with slew := x.smp.slew + x.slewStep, slewAt := x.now } ∧
      y.net = x.net.shifted x.slewStep ∧
      (∀ p, y.peer p = { x.peer p with
        offset := (x.peer p).offset - x.slewStep, lastTimeTx := z.linkStart p 32, prevTimeTx := (x.peer p).lastTimeTx,
        linkFree := z.linkStart p 32 + birixNs 32 }) ∧
      x.slewStep.natAbs ≤ 11 * (if x.smp.slewAt = 0 then 1 else (x.now - x.smp.slewAt) / 1000000) ∧
      y = { x with smp := y.smp, net := y.net, peerLo := y.peerLo, peerHi := y.peerHi, out := y.out }) ∧
  (∀ (s : State) (l : LaneId) (t : Nat) (x : Lane), Sees s l t x → x.up = false →
    exec (.timeFrameSend l t) s = .next (s.setLane l x)) ∧
  (∀ (s : State) (l : LaneId) (rx : BirixRx) (f : TimeFrame) (x : Lane) (t1 t2 t3 t4 : Int) (off : Int) (rt : Nat),
    Sees s l (rx.fin.getD rx.start) x → x.up = true → rx.fin.isSome = true → rx.crc = crc32 (timeBytes f) →
    bits f.source.toNat 0 2 = laneNo (peerId l rx.peer) → t1 = (x.peer rx.peer).timeTxOf t2 t3 t4 → t2 = f.lastRx.toNat →
    t3 = f.sendTime.toNat → t4 = rx.start → rt = ((t4 - t1) - (t3 - t2)).toNat → off = roundDiv ((t2 - t1) + (t3 - t4)) 2 →
    (t1 ≠ 0 → t2 ≠ 0 → x.smp.timeSet = true ∨ (x.peer rx.peer).claims = false →
      exec (.timeFrame l rx f) s = .next (s.setLane l (x.updPeer rx.peer fun q =>
        { q with lastTimeRx := rx.start, roundTrip := rt, offset := off }))) ∧
    (t1 ≠ 0 → t2 ≠ 0 → x.smp.timeSet = false → (x.peer rx.peer).claims = true →
      ∃ y, exec (.timeFrame l rx f) s = .next (s.setLane l y) ∧ (y.peer rx.peer).offset = 0 ∧
        (y.peer rx.peer).roundTrip = rt ∧ (y.peer rx.peer).lastTimeRx = rx.start ∧
        y.smp = { x.smp with timeSet := true, slew := x.smp.slew + off } ∧
        y.net = x.net.shifted off) ∧
    (t1 = 0 ∨ t2 = 0 → exec (.timeFrame l rx f) s
      = .next (s.setLane l (x.updPeer rx.peer fun q => { q with lastTimeRx := rx.start })))) ∧
  (∀ (s : State) (l : LaneId) (rx : BirixRx) (f : TimeFrame) (x : Lane), Sees s l (rx.fin.getD rx.start) x →
    x.up = false ∨ rx.fin = none ∨ rx.crc ≠ crc32 (timeBytes f) ∨ bits f.source.toNat 0 2 ≠ laneNo (peerId l rx.peer) →
    exec (.timeFrame l rx f) s = .next (s.setLane l x)))

/-- Parts of a proposal gather in order (a part that does not follow drops them), ACCEPT and REFUSE up to 4 samples after the last part
answer the lane's own proposal, which a refusal aborts at both peers and, with result 0, proposes again after the commit that the peer
holds; APPLY marks the proposal that the lane holds, and ABORT drops it, in parts or whole. Any other frame changes nothing.
Readings of the model: assumption log 74, 75. -/
def Obligations.CommitFramesMoveAProposal : Prop :=
  ∀ (s : State) (l : LaneId) (rx : BirixRx) (f : CommitFrame) (x : Lane), Sees s l (rx.fin.getD rx.start) x →
    (commitOk l rx f 1 = true → bits f.commitId.toNat 30 2 = laneNo (peerId l rx.peer) → bits f.part.toNat 0 7 = 0 →
      exec (.propose l rx f) s = .next (s.setLane l (x.setInProp rx.peer (some ⟨f.commitId.toNat, 1, f.applySample.toNat,
        f.entries, if bitOf f.part.toNat 7 then some x.smp.no else none⟩)))) ∧
    (∀ q : PeerProp, commitOk l rx f 1 = true → bits f.commitId.toNat 30 2 = laneNo (peerId l rx.peer) →
      bits f.part.toNat 0 7 ≠ 0 → x.inProp rx.peer = some q → q.id = f.commitId.toNat → q.next = bits f.part.toNat 0 7 →
      q.full = none →
      exec (.propose l rx f) s = .next (s.setLane l (x.setInProp rx.peer (some ⟨f.commitId.toNat, bits f.part.toNat 0 7 + 1,
        f.applySample.toNat, joinParts q.entries f.entries, if bitOf f.part.toNat 7 then some x.smp.no else none⟩)))) ∧
    (commitOk l rx f 1 = true → bits f.commitId.toNat 30 2 = laneNo (peerId l rx.peer) → bits f.part.toNat 0 7 ≠ 0 →
      (∀ q, x.inProp rx.peer = some q → q.id ≠ f.commitId.toNat ∨ q.next ≠ bits f.part.toNat 0 7 ∨ q.full ≠ none) →
      exec (.propose l rx f) s = .next (s.setLane l (x.setInProp rx.peer none))) ∧
    (commitOk l rx f 1 = false ∨ bits f.commitId.toNat 30 2 ≠ laneNo (peerId l rx.peer) →
      exec (.propose l rx f) s = .next (s.setLane l x)) ∧
    (∀ p : Proposal, x.com.own = some p → commitOk l rx f 2 = true → f.commitId.toNat = p.id →
      samplesFrom p.lastSample x.smp.no ≤ 4 →
      exec (.accept l rx f) s = .next (s.setLane l { x with com := { x.com with
        own := some { p with okLo := p.okLo || decide (rx.peer = .lo), okHi := p.okHi || decide (rx.peer = .hi) } } })) ∧
    (commitOk l rx f 2 = false ∨ (∀ p, x.com.own = some p → f.commitId.toNat ≠ p.id ∨ 4 < samplesFrom p.lastSample x.smp.no) →
      exec (.accept l rx f) s = .next (s.setLane l x)) ∧
    (∀ p : Proposal, x.com.own = some p → commitOk l rx f 3 = true → f.commitId.toNat = p.id → p.go = false →
      samplesFrom p.lastSample x.smp.no ≤ 4 →
      ∃ y g, exec (.refuse l rx f) s = .next (s.setLane l y) ∧ y.com.own = none ∧
        y.out.commits = x.out.commits ++ [(.lo, g), (.hi, g)] ∧ g.phase = 5 ∧ g.commitId = BitVec.ofNat 32 p.id ∧
        (f.result = 0 → y.com.waiting = (p.src, p.entries) :: x.com.waiting ∧
          y.com.retryAt = some ((f.applySample.toNat + 1) % 2 ^ 32) ∧ y.objs = x.objs ∧ y.txn = x.txn ∧ y.cs = x.cs)) ∧
    (commitOk l rx f 3 = false ∨
        (∀ p, x.com.own = some p → f.commitId.toNat ≠ p.id ∨ p.go = true ∨ 4 < samplesFrom p.lastSample x.smp.no) →
      exec (.refuse l rx f) s = .next (s.setLane l x)) ∧
    (∀ h : HeldProp, x.com.held = some h → commitOk l rx f 4 = true → f.commitId.toNat = h.id → h.peer = rx.peer →
      exec (.apply l rx f) s = .next (s.setLane l { x with com := { x.com with held := some { h with go := true } } })) ∧
    (commitOk l rx f 4 = false ∨ (∀ h, x.com.held = some h → f.commitId.toNat ≠ h.id ∨ h.peer ≠ rx.peer) →
      exec (.apply l rx f) s = .next (s.setLane l x)) ∧
    (commitOk l rx f 5 = true →
      ∃ y, exec (.abort l rx f) s = .next (s.setLane l y) ∧ y = { x with com := y.com } ∧
        (∀ q, x.inProp rx.peer = some q → y.inProp rx.peer = (if q.id = f.commitId.toNat then none else some q)) ∧
        (∀ h, x.com.held = some h → y.com.held = (if h.id = f.commitId.toNat ∧ h.peer = rx.peer then none else some h)) ∧
        y.com.own = x.com.own ∧ y.inProp (otherPeer rx.peer) = x.inProp (otherPeer rx.peer)) ∧
    (commitOk l rx f 5 = false → exec (.abort l rx f) s = .next (s.setLane l x))

/-- DIGEST frames go to both peers; a received one is held for its peer, and judged once the start has been judged. SYNC_REQ is
answered with the set in parts of at most 960 bytes, an entry that is longer in pieces; the parts of a set under way gather in order. Every
frame takes its time on its link.
Readings of the model: assumption log 74, 76, 77. -/
def Obligations.DigestsAndSetsTravelBetweenLanes : Prop :=
  (∀ (s : State) (l : LaneId) (t : Nat) (x : Lane), Sees s l t x →
    (x.up = false → exec (.digestSend l t) s = .next (s.setLane l x)) ∧
    (x.up = true → ∃ y, exec (.digestSend l t) s = .next (s.setLane l y) ∧ y.com = { x.com with digestSent := true } ∧
      (∃ f g : CommitFrame, y.out.commits = x.out.commits ++ [(.lo, f), (.hi, g)] ∧ f.phase = 6 ∧ g.phase = 6 ∧
        f.setCounter = BitVec.ofNat 32 (x.obj O.dictSetCounter) ∧ f.setDigest = x.setDigest l ∧ g.setDigest = x.setDigest l) ∧
      (∀ p, y.peer p = { x.peer p with linkFree := (y.peer p).linkFree }) ∧
      y = { x with com := y.com, peerLo := y.peerLo, peerHi := y.peerHi, out := { x.out with commits := y.out.commits, starts := y.out.starts } })) ∧
  (∀ (s : State) (l : LaneId) (rx : BirixRx) (f : CommitFrame) (x : Lane), Sees s l (rx.fin.getD rx.start) x →
    (x.up = true → commitOk l rx f 6 = true → x.com.judged = false →
      exec (.digest l rx f) s = .next (s.setLane l { x with com := match rx.peer with
        | .lo => { x.com with digLo := some (f.setCounter.toNat, padTo 32 f.setDigest) }
        | .hi => { x.com with digHi := some (f.setCounter.toNat, padTo 32 f.setDigest) } })) ∧
    (x.up = true → commitOk l rx f 6 = true → x.com.judged = true →
      ∃ y, exec (.digest l rx f) s = .next (s.setLane l y) ∧
        y.com.digLo = (match rx.peer with | .lo => some (f.setCounter.toNat, padTo 32 f.setDigest) | .hi => x.com.digLo) ∧
        y.com.digHi = (match rx.peer with | .hi => some (f.setCounter.toNat, padTo 32 f.setDigest) | .lo => x.com.digHi) ∧
        (x.com.own.isSome = true ∨ x.com.held.isSome = true ∨ x.com.syncPeer.isSome = true →
          y.com.digestDue = true ∧ y.objs = x.objs)) ∧
    (x.up = false ∨ commitOk l rx f 6 = false → exec (.digest l rx f) s = .next (s.setLane l x))) ∧
  (∀ (s : State) (l : LaneId) (rx : BirixRx) (f : CommitFrame) (x : Lane), Sees s l (rx.fin.getD rx.start) x →
    (x.up = true → commitOk l rx f 7 = true →
      ∃ y, exec (.syncReq l rx f) s = .next (s.setLane l y) ∧
        y.out.commits.length = x.out.commits.length + (partsOf (x.setEntries l)).length ∧
        y.out.commits.take x.out.commits.length = x.out.commits ∧
        (∀ c ∈ y.out.commits.drop x.out.commits.length, c.1 = rx.peer ∧ c.2.phase = 8) ∧
        (y.out.commits.drop x.out.commits.length).map (fun c => c.2.entries) = partsOf (x.setEntries l) ∧
        (partsOf (x.setEntries l)).flatten = (x.setEntries l).flatMap pieces ∧
        (∀ p ∈ partsOf (x.setEntries l), (p.flatMap entryBytes).length ≤ 960) ∧
        (∀ p, y.peer p = { x.peer p with linkFree := (y.peer p).linkFree }) ∧
        y = { x with peerLo := y.peerLo, peerHi := y.peerHi, out := { x.out with commits := y.out.commits, starts := y.out.starts } }) ∧
    (x.up = false ∨ commitOk l rx f 7 = false → exec (.syncReq l rx f) s = .next (s.setLane l x))) ∧
  (∀ (s : State) (l : LaneId) (rx : BirixRx) (f : CommitFrame) (x : Lane), Sees s l (rx.fin.getD rx.start) x →
    (commitOk l rx f 8 = true → x.com.syncPeer = some rx.peer → x.com.syncDone = none →
      bits f.part.toNat 0 7 = x.com.syncNext →
      exec (.syncData l rx f) s = .next (s.setLane l { x with com := { x.com with
        syncNext := x.com.syncNext + 1, syncSet := joinParts x.com.syncSet f.entries,
        syncDone := if bitOf f.part.toNat 7 then some f.setCounter.toNat else none } })) ∧
    (commitOk l rx f 8 = false ∨ x.com.syncPeer ≠ some rx.peer ∨ x.com.syncDone.isSome = true ∨
      bits f.part.toNat 0 7 ≠ x.com.syncNext → exec (.syncData l rx f) s = .next (s.setLane l x))) ∧
  (∀ e : Entry, (pieces e).flatMap Entry.value = e.value ∧
    ∀ q ∈ pieces e, entryKey q = entryKey e ∧ q.ty = e.ty ∧ (entryBytes q).length ≤ 960)

/-- While a lane's samples run, an ANNOUNCE frame with the firmware revision, the serial of the bank, the program's revision and the state
goes to either peer, in its time on the link, and a received one is held. A seed addressed to a lane that does not claim is kept for its sample, and a claiming
lane takes none. The capture's frames: an armed peer changes nothing, a trigger of a peer sets the trigger sample of a capture that
waits for it or has a later one, and a written trigger arms the own one. Any other frame changes nothing.
Readings of the model: assumption log 26, 59. -/
def Obligations.AnnouncementsSeedsAndTriggersAreTaken : Prop :=
  (∀ (s : State) (l : LaneId) (t : Nat) (x : Lane), Sees s l t x →
    (x.netUp = false → exec (.announceSend l t) s = .next (s.setLane l x)) ∧
    (x.netUp = true → ∃ (y : Lane) (f g : UpdateFrame), exec (.announceSend l t) s = .next (s.setLane l y) ∧
      y.out.updates = x.out.updates ++ [(.lo, f), (.hi, g)] ∧ f.kind = 1 ∧ g.kind = 1 ∧ g.body = f.body ∧
      f.body = bytesBE 4 x.fwRev ++ bytesBE 4 (bankSerial x.activeBank) ++ bytesBE 4 (imgRevision x.upd.progActive.manifest)
        ++ bytesBE 1 (x.obj O.updState) ++ [0, 0, 0] ∧
      y.cs = { x.cs with xfers := x.cs.xfers + 2 } ∧ (∀ p, y.peer p = { x.peer p with linkFree := (y.peer p).linkFree }) ∧
      y = { x with cs := y.cs, peerLo := y.peerLo, peerHi := y.peerHi, out := { x.out with updates := y.out.updates, starts := y.out.starts } })) ∧
  (∀ (s : State) (l : LaneId) (rx : BirixRx) (f : UpdateFrame) (x : Lane), Sees s l (rx.fin.getD rx.start) x →
    (updateOk l rx f = true → x.netUp = true → f.kind = 1 → f.body.length = 16 →
      exec (.announce l rx f) s = .next (s.setLane l { x with upd := match rx.peer with
        | .lo => { x.upd with annLo := some ⟨be f.body 0 4, be f.body 4 4, be f.body 8 4, be f.body 12 1⟩ }
        | .hi => { x.upd with annHi := some ⟨be f.body 0 4, be f.body 4 4, be f.body 8 4, be f.body 12 1⟩ } })) ∧
    (updateOk l rx f = false ∨ x.netUp = false ∨ f.kind ≠ 1 ∨ f.body.length ≠ 16 → exec (.announce l rx f) s = .next (s.setLane l x))) ∧
  (∀ (s : State) (l : LaneId) (rx : BirixRx) (f : UpdateFrame) (x : Lane), Sees s l (rx.fin.getD rx.start) x →
    (updateOk l rx f = true → x.netUp = true → f.kind = 2 → f.body.length = 64 → x.claim.claiming = false →
      exec (.shaperSeed l rx f) s = .next (s.setLane l { x with shape := { x.shape with seed := some ⟨f.sample.toNat, f.body⟩ } })) ∧
    (updateOk l rx f = false ∨ x.netUp = false ∨ f.kind ≠ 2 ∨ f.body.length ≠ 64 ∨ x.claim.claiming = true →
      exec (.shaperSeed l rx f) s = .next (s.setLane l x))) ∧
  (∀ (s : State) (l : LaneId) (rx : BirixRx) (f : CaptureFrame) (x : Lane), Sees s l (rx.fin.getD rx.start) x →
    exec (.armed l rx f) s = .next (s.setLane l x)) ∧
  (∀ (s : State) (l : LaneId) (rx : BirixRx) (f : CaptureFrame) (x : Lane) (waits : Prop), Sees s l (rx.fin.getD rx.start) x →
    (waits ↔ captureOk l rx f = true ∧ f.phase = 2 ∧ x.cap.active = true ∧ x.cap.mode = 2 ∧ bitOf (x.obj O.capTrig) 3 = true ∧
      ∀ tr, x.cap.trig = some tr → 2 ^ 31 ≤ samplesFrom tr f.sample.toNat) →
    (waits → ∃ y, exec (.trigger l rx f) s = .next (s.setLane l y) ∧ y.cap = { x.cap with trig := some f.sample.toNat } ∧
      y.obj O.capState = 3 ∧ y.obj O.capTrigSample = f.sample.toNat ∧
      y.obj O.capTrigSource = 3 + 64 * laneNo (peerId l rx.peer) ∧ y = { x with cap := y.cap, objs := y.objs } ∧
      ObjsKept [O.capState.key, O.capTrigSample.key, O.capTrigSource.key] x y) ∧
    (¬ waits → exec (.trigger l rx f) s = .next (s.setLane l x))) ∧
  (∀ (s : State) (l : LaneId) (t : Nat) (v : BitVec 8) (x : Lane), Sees s l t x →
    exec (.capTrigNow l t v) s = .next (s.setLane l (if v.toNat ≤ 1 then
      { x with cap := { x.cap with trigNow := x.cap.active } } else x)))

/-- Error sources. A listed source that asserts, a broken pair and a firmware source that drives its pair are an error of the
lane (R301 to R306), each under its own number, as its pair's reading changes into asserted or broken; one that reads so already goes on. Source 5
also ends the open entry of the loop it names (R157). A pair reads so until the instant at which it reads idle again. A failed self-test
slice is source 6, an eighth abort in a row source 7; a slice comes only in its gap (R156). A reserved source never asserts, and firmware that
drives a hardware source is refused and counted; where it ends a source in the cycle of a refused clear, the clear is judged again.
Readings of the model: assumption log 29, 32, 94, 151. -/
def Obligations.AssertingSourcesStopTheLane : Prop :=
  (∀ (s : State) (l : LaneId) (sp : RailSpan) (x : Lane), FindsE1 s l sp.t x →
    ∀ (src : BitVec 8) (data : BitVec 32) (v : Bool) (r a : Lane), r = (x.seeTerminals v).takeReading →
    a = { r with coll := (r.coll.setAsserted src.toNat).setHeal src.toNat sp.till, mx := if src = 5 then (r.endE1 (data.toNat % 16)).mx else r.mx } →
    (listedSource src.toNat = true → src.toNat ∉ r.coll.asserted →
      ∃ y, exec (.sourceAsserted l src data v sp) s = .next (s.setLane l y) ∧ ErrorOf a src.toNat data.toNat y) ∧
    (listedSource src.toNat = true → src.toNat ∈ r.coll.asserted → exec (.sourceAsserted l src data v sp) s = .next (s.setLane l a)) ∧
    (∀ k, r.mx.cur = some k → (r.endE1 (data.toNat % 16)).mx = if k.val = data.toNat % 16 then
      { r.mx with cur := none, pc := none, loops := r.mx.loops.set k { r.mx.loops[k] with entry := .none } } else r.mx) ∧
    (r.mx.cur = none → (r.endE1 (data.toNat % 16)).mx = r.mx) ∧
    (listedSource src.toNat = false → exec (.sourceAsserted l src data v sp) s = .next (s.setLane l (x.seeTerminals v)))) ∧
  (∀ x : Lane, (∀ u, x.coll.undo = some u → u.at_ ≠ x.now) → (∀ u, x.coll.resetUndo = some u → u.1 ≠ x.now) →
    x.takeReading = { x with coll := x.coll.settle x.now } ∧
    ∀ src : Nat, ((∃ h ∈ x.coll.heals, h.1 = src ∧ h.2 ≤ x.now) →
        (src ∉ x.coll.driven → src ∉ x.takeReading.coll.asserted) ∧ ∀ b ∈ x.takeReading.coll.broken, b.1 ≠ src) ∧
      ((∀ h ∈ x.coll.heals, h.1 = src → x.now < h.2) →
        (src ∈ x.takeReading.coll.asserted ↔ src ∈ x.coll.asserted) ∧
        ∀ b, (src, b) ∈ x.takeReading.coll.broken ↔ (src, b) ∈ x.coll.broken)) ∧
  (∀ (s : State) (l : LaneId) (sp : RailSpan) (x : Lane), Sees s l sp.t x → ∀ (src : BitVec 8) (b : Bool) (r a : Lane),
    r = x.takeReading → a = { r with coll := (r.coll.setBroken src.toNat b).setHeal src.toNat sp.till } →
    (listedSource src.toNat = true → x.injecting src.toNat = false ∨ b = false → (∀ p ∈ r.coll.broken, p.1 ≠ src.toNat) →
      ∃ y, exec (.brokenWire l src b sp) s = .next (s.setLane l y) ∧ ErrorOf a 0 (src.toNat + if b then 0x300 else 0) y) ∧
    (listedSource src.toNat = true → x.injecting src.toNat = false ∨ b = false → (∃ p ∈ r.coll.broken, p.1 = src.toNat) →
      exec (.brokenWire l src b sp) s = .next (s.setLane l a)) ∧
    (listedSource src.toNat = false ∨ x.injecting src.toNat = true ∧ b = true →
      exec (.brokenWire l src b sp) s = .next (s.setLane l x))) ∧
  ∀ (s : State) (l : LaneId) (t : Nat) (x : Lane), Sees s l t x →
    (∀ (src : BitVec 8) (data : BitVec 32) (r a z : Lane),
      r = ({ x with coll := { x.coll with driven := insertAsc src.toNat x.coll.driven } }).takeReading →
      a = { r with coll := (r.coll.setAsserted src.toNat).setHeal src.toNat none } →
      z = { x with coll := { x.coll with driven := removeAsc src.toNat x.coll.driven, asserted := removeAsc src.toNat x.coll.asserted } } →
      (firmwareSource src.toNat = true → src.toNat ∉ x.coll.driven → src.toNat ∉ r.coll.asserted → ∃ y,
        exec (.collFw l src true data t) s = .next (s.setLane l y) ∧ ErrorOf a src.toNat data.toNat y) ∧
      (firmwareSource src.toNat = true → src.toNat ∉ x.coll.driven → src.toNat ∈ r.coll.asserted →
        exec (.collFw l src true data t) s = .next (s.setLane l a)) ∧
      (firmwareSource src.toNat = true → src.toNat ∈ x.coll.driven →
        exec (.collFw l src true data t) s = .next (s.setLane l x)) ∧
      (firmwareSource src.toNat = true → x.coll.refusedAt ≠ some x.now →
        exec (.collFw l src false data t) s = .next (s.setLane l z)) ∧
      (firmwareSource src.toNat = true → x.coll.refusedAt = some x.now →
        exec (.collFw l src false data t) s = .next (s.setLane l z.requestClear)) ∧
      (∀ a, firmwareSource src.toNat = false →
        exec (.collFw l src a data t) s = .next (s.setLane l (if listedSource src.toNat = true ∨ src = 0 then x.inc O.fwWriteRefused else x)))) ∧
    ∀ (block : Fin 9) (may : Prop) (w : Bool → Lane), (∀ ok, w ok =
        let z := { x with pwr := { x.pwr with aborts := x.pwr.aborts.set (block.val + 1) 0 } }
        if block = 7 then z.injectSlice ok else z) →
      (may ↔ x.up = true ∧ x.fld Rg.pwrStat 0 3 < 2 ∧ (block = 1 → x.sliceGap x.now = true) ∧
        (block = 3 → ∃ st, (x.stg st).driving = false)) →
      (¬ may → (∀ ok, exec (.selfTestSlice l block ok t) s = .next (s.setLane l x)) ∧
        exec (.sliceAbort l block t) s = .next (s.setLane l x)) ∧
      (may → ∃ y, exec (.selfTestSlice l block false t) s = .next (s.setLane l y) ∧
        ErrorOf (w false) 6 (block.val + 1) y) ∧
      (may → exec (.selfTestSlice l block true t) s = .next (s.setLane l (w true))) ∧
      (may → nth x.pwr.aborts (block.val + 1) ≠ 7 → ∃ y, exec (.sliceAbort l block t) s = .next (s.setLane l y) ∧
        CountedBy O.sliceAborts 1 x y ∧ ObjsKept [O.sliceAborts.key] x y ∧
        y = { x with objs := y.objs, pwr := { x.pwr with
          aborts := x.pwr.aborts.set (block.val + 1) ((nth x.pwr.aborts (block.val + 1) + 1) % 8) } }) ∧
      (may → nth x.pwr.aborts (block.val + 1) = 7 → ∃ y z, exec (.sliceAbort l block t) s = .next (s.setLane l y) ∧
        CountedBy O.sliceAborts 1 x y ∧ ObjsKept [O.sliceAborts.key] x y ∧
        z = { x with objs := y.objs,
                     pwr := { x.pwr with aborts := x.pwr.aborts.set (block.val + 1) 0 } } ∧
        ErrorOf z 7 (block.val + 1) y)

/-- INJECT. In Assembly and Workshop a written injection sets COLL_INJ, and a source that read idle is counted as injected only
(or not seen); one that read asserted already, or was under injection, is left as it is; of one broken at 0/0 the pair reads asserted, a real
fault; one at 1/1 reads injected only. An injection that ends leaves a pair that is still broken to be found broken again. Elsewhere, and for
source 0, nothing changes. In the collector's own slices one idle source is injected, unless the host injects.
Readings of the model: assumption log 32, 33, 151. -/
def Obligations.InjectionTouchesNoErrorState : Prop :=
  ∀ (s : State) (l : LaneId) (t : Nat) (x : Lane) (v : BitVec 16) (seen : Bool) (data : BitVec 32), Sees s l t x →
    ((x.obj O.lcStateObj ≠ 1 ∧ x.obj O.lcStateObj ≠ 4 ∨ 512 ≤ v.toNat ∨ v.toNat = 256) →
      exec (.inject l v seen data t) s = .next (s.setLane l x)) ∧
    ((x.obj O.lcStateObj = 1 ∨ x.obj O.lcStateObj = 4) → v.toNat < 512 → v.toNat ≠ 256 →
      ∃ y z w, exec (.inject l v seen data t) s = .next (s.setLane l y) ∧ z.obj O.inject = v.toNat ∧
        z.fld Rg.collInj 0 9 = v.toNat ∧ ObjsKept [O.inject.key] x z ∧ RegsKept [Rg.collInj.addr] x z ∧
        z = { x with objs := z.objs, regs := z.regs } ∧
        (256 ≤ v.toNat → x.injecting (v.toNat - 256) = true → y = z) ∧
        (v.toNat < 256 → y = w) ∧
        (x.rbit Rg.collInj 8 = false → w = z) ∧
        (∀ (o : Nat) (c : Coll), x.rbit Rg.collInj 8 = true → o = x.fld Rg.collInj 0 8 →
          c = { x.coll.settle x.now with injSeen := false, injOpen := false } →
          (x.coll.injOpen = true → o ∈ c.asserted → ErrorOf { z with coll := c.setBroken o false } 0 o w) ∧
          (x.coll.injOpen = false ∨ o ∉ c.asserted → (o, true) ∈ c.broken → ErrorOf { z with coll := c } 0 (o + 0x300) w) ∧
          (x.coll.injOpen = false ∨ o ∉ c.asserted → (o, true) ∉ c.broken → w = { z with coll := c })) ∧
        ∀ (src : Nat) (c : Coll) (r q : Lane), v.toNat = 256 + src → x.injecting src = false → c = w.coll.settle w.now →
          r = { w with coll := { c with injSeen := seen || decide ((src, true) ∈ c.broken), injOpen := decide ((src, false) ∈ c.broken) } } →
          q = r.takeReading →
          (src ∈ c.asserted → y = r) ∧
          (src ∉ c.asserted → (src, false) ∈ c.broken →
            ErrorOf { q with mx := if src = 5 then (q.endE1 (data.toNat % 16)).mx else q.mx,
                             coll := (q.coll.setAsserted src).setHeal src none } src data.toNat y) ∧
          (src ∉ c.asserted → (src, false) ∉ c.broken →
            (seen = true ∨ (src, true) ∈ c.broken → y = { r with coll := r.coll.occurInjected src data.toNat x.now }) ∧
            (seen = false → (src, true) ∉ c.broken → y.rbit Rg.collInj 9 = true ∧ y.fld Rg.collInj 0 9 = v.toNat ∧
              CountedBy O.injNotSeen 1 r y ∧ ObjsKept [O.injNotSeen.key] r y ∧ RegsKept [Rg.collInj.addr] r y ∧
              y = { r with objs := y.objs, regs := y.regs }))) ∧
    ∀ (ok : Bool) (c : Coll) (idle : Nat → Prop), c = { x.coll.settle x.now with slices := x.coll.slices + 1 } →
      (∀ src, idle src ↔ listedSource src = true ∧ src ∉ c.asserted ∧ ∀ b ∈ c.broken, b.1 ≠ src) →
      (x.rbit Rg.collInj 8 = true ∨ (∀ src, ¬ idle src) → x.injectSlice ok = { x with coll := c }) ∧
      (x.rbit Rg.collInj 8 = false → (∃ src, idle src) → ∃ src z, idle src ∧ z.fld Rg.collInj 0 8 = src ∧ z.rbit Rg.collInj 8 = false ∧
        RegsKept [Rg.collInj.addr] x z ∧ z = { x with regs := z.regs, coll := { c with injSeen := false, injOpen := false } } ∧
        (ok = true → x.injectSlice ok = { z with coll := z.coll.occurInjected src (Config.injData src x.now) x.now }) ∧
        (ok = false → ∃ y, x.injectSlice ok = y ∧ y.rbit Rg.collInj 9 = true ∧ CountedBy O.injNotSeen 1 z y ∧
          ObjsKept [O.injNotSeen.key] z y ∧ RegsKept [Rg.collInj.addr] z y ∧ y = { z with objs := y.objs, regs := y.regs }))

/-- A clear request is judged on the pairs as they read in its cycle, and its result is that of the first row of R310 that
applies: nothing latched 6, a source asserted 2, a pair broken 3, an injection active 4, three clears accepted within the
preceding 60 s 5, otherwise accepted, 1. An accepted
clear, of either origin, counts among the three; a reading in the same cycle undoes it, and it is refused with 2. A request comes as
FAULT_CLEAR, whether of the host or of E0, and as the automatic clear of R197.
Readings of the model: assumption log 94. -/
def Obligations.ClearRequestsAreJudgedInOrder : Prop :=
  (∀ (s : State) (l : LaneId) (t : Nat) (x z q : Lane) (r : Nat), Sees s l t x →
    r = (if z.coll.anyLatched = false then 6 else if z.coll.asserted ≠ [] then 2
      else if ∃ b ∈ z.coll.broken, ¬ (z.injecting b.1 = true ∧ b.2 = true) then 3
      else if z.rbit Rg.collInj 8 = true then 4
      else if 3 ≤ (z.coll.clears.filter fun c => decide (z.now < c + 60000000000)).length then 5 else 1) →
    q = { z with coll := { z.coll with refusedAt := if r = 2 then some z.now else none } } →
    (∀ still : List (BitVec 8), z = { x with coll := (x.coll.still still).settle x.now } →
      ∃ y, exec (.faultClear l 1 still t) s = .next (s.setLane l y) ∧
      y.obj O.clearResult = r ∧ (r = 1 → y.coll.error = false ∧ y.coll.anyLatched = false ∧
        y.coll.clears = (z.now :: z.coll.clears).take 3) ∧ (r ≠ 1 → y = q.setObj O.clearResult r)) ∧
    (∀ t0, z = { x with coll := ({ x.coll with asserted := removeAsc 0x17 x.coll.asserted } : Coll).settle x.now } →
      x.flag O.bermAutoClear = true →
      x.shape.l1Below = some t0 → t0 + 1000000 * x.obj O.bermClearWait ≤ x.now → bitOf (x.coll.spall 0x17).flags 0 = true →
      ∃ y, exec (.bermAutoClear l t) s = .next (s.setLane l y) ∧ y.obj O.clearResult = r ∧
        (r = 1 → y.coll.error = false ∧ y.coll.anyLatched = false ∧
        y.coll.clears = (z.now :: z.coll.clears).take 3) ∧ (r ≠ 1 → y = q.setObj O.clearResult r))) ∧
  ∀ (x : Lane) (u : ClearUndo), x.coll.undo = some u → u.at_ = x.now →
    x.undoClear.coll = { x.coll with recs := u.recs, error := true, errorAt := u.errorAt, requal := false, firstSrc := u.firstSrc,
                                     occ := u.occ, clears := u.clears, undo := none } ∧
    x.undoClear.obj O.clearResult = 2 ∧ x.undoClear.obj O.clearsTotal = x.obj O.clearsTotal - 1 ∧
    x.undoClear.drive.firstClass = u.firstClass

/-- FAULT_CLEAR is judged in the order of R310 on the pairs as they read then, and gives its result; an accepted clear resets
LATCHED and FIRST of every record, ends the error state, begins the re-qualification (R311) and needs every stage's diagnostics anew, which
a stage that may runs at once. RECORD_RESET empties the
records, unless one is latched; an occurrence of its own cycle follows it. The re-qualification's slice starts the off-state diagnostics, or
is an error; the first causes that wait are copied to the fault log, each to the next entry.
Readings of the model: assumption log 94, 150. -/
def Obligations.ClearsAndResetsOfTheFaultRecords : Prop :=
  ∀ (s : State) (l : LaneId) (t : Nat) (x : Lane), Sees s l t x →
    (∀ (v : BitVec 8) (still : List (BitVec 8)) (x1 : Lane), x1 = { x with coll := (x.coll.still still).settle x.now } →
      (v ≠ 1 → exec (.faultClear l v still t) s = .next (s.setLane l { x with coll := x.coll.still still })) ∧
      (v = 1 → x1.judgeClear ≠ 1 → exec (.faultClear l v still t) s
        = .next (s.setLane l (({ x1 with coll := { x1.coll with refusedAt := if x1.judgeClear = 2 then some x.now else none } }).setObj
          O.clearResult x1.judgeClear))) ∧
      (v = 1 → x1.judgeClear = 1 → ∃ y, exec (.faultClear l v still t) s = .next (s.setLane l y) ∧
        y.obj O.clearResult = 1 ∧ y.coll.error = false ∧ y.coll.anyLatched = false ∧ y.coll.requal = true ∧
        y.coll.requalSlice = false ∧ y.coll.firstSrc = 0 ∧ y.coll.occ = 0 ∧ y.coll.clears = (x.now :: x.coll.clears).take 3 ∧
        (∃ u, y.coll.undo = some u ∧ u.at_ = x.now ∧ u.recs = x.coll.recs ∧ u.errorAt = x.coll.errorAt ∧ u.firstSrc = x.coll.firstSrc ∧
          u.occ = x.coll.occ ∧ u.clears = x.coll.clears ∧ u.firstClass = x.drive.firstClass ∧ u.reopened = !x.sio.enable) ∧
        (∀ src, bitOf (y.coll.spall src).flags 0 = false ∧ bitOf (y.coll.spall src).flags 2 = false ∧
          (y.coll.spall src).count = (x.coll.spall src).count) ∧
        CountedBy O.clearsTotal 1 x y ∧ (∀ st, (y.stg st).exhausted = false ∧ (y.stg st).driving = (x.stg st).driving ∧
          (y.stg st).diag = (if (x.stg st).diag = .failed then .failed else .due) ∧
          ((y.stg st).diagRun = true ↔ x.diagMet st = true ∧ ((x.stg st).diagRun = true ∨
            x.hasStage st = true ∧ (x.stg st).driving = false ∧ (x.stg st).diag ≠ .failed))) ∧
        (x.sio.enable = true → y.sio = x.sio) ∧
        y = { x with coll := y.coll, objs := y.objs, regs := y.regs, steer := y.steer, brakes := y.brakes, drive := y.drive, sio := y.sio })) ∧
    (∀ v : BitVec 8, (v ≠ 1 → exec (.recordReset l v t) s = .next (s.setLane l x)) ∧
      (v = 1 → x.coll.anyLatched = true →
        exec (.recordReset l v t) s = .next (s.setLane l (x.setRbit Rg.collStat 5 true))) ∧
      (v = 1 → x.coll.anyLatched = false →
        ∃ y, exec (.recordReset l v t) s = .next (s.setLane l y) ∧ y.coll.resetUndo = some (x.now, x.coll.recs) ∧
          y = { x with coll := { x.coll with recs := y.coll.recs, resetUndo := y.coll.resetUndo } } ∧
          ((∀ r ∈ x.coll.recs, r.last = x.now → bitOf r.flags 1 = false) → y.coll.recs = []) ∧
          ∀ src : Nat, (∀ r ∈ x.coll.recs, r.src = src → r.last = x.now → bitOf r.flags 1 = false) → y.coll.spall src = { src := src })) ∧
    (∀ (ok : Bool) (block : Fin 9) (w : Lane),
      w = (if ok = true then ({ x with coll := { x.coll with requalSlice := true, requalAgree := 0 } }).injectSlice true
           else if block = 7 then x.injectSlice false else x) →
      (x.coll.requal = false ∨ x.coll.requalSlice = true →
        exec (.requalificationSliceDone l ok block t) s = .next (s.setLane l x)) ∧
      (x.coll.requal = true → x.coll.requalSlice = false → ok = true →
        ∃ y, exec (.requalificationSliceDone l ok block t) s = .next (s.setLane l y) ∧
          y.coll.requalSlice = true ∧ y.coll.requalAgree = 0 ∧
          (∀ g : Stage → StageSt, (∀ st, g st = if x.hasStage st = true ∧ (x.stg st).driving = false ∧ (x.stg st).diag ≠ .failed
            then { x.stg st with diag := .due } else x.stg st) → DiagRuns x g y) ∧
          y = { w with regs := y.regs, steer := y.steer, brakes := y.brakes } ∧ RegsKept [Rg.gdStat.addr] w y) ∧
      (x.coll.requal = true → x.coll.requalSlice = false → ok = false →
        ∃ y, exec (.requalificationSliceDone l ok block t) s = .next (s.setLane l y) ∧
          ErrorOf w 6 (block.val + 1) y)) ∧
    (x.coll.logDue = [] → exec (.faultLogCopy l t) s = .next (s.setLane l x)) ∧
    (∀ src : Nat, x.coll.logDue = [src] →
      ∃ y, exec (.faultLogCopy l t) s = .next (s.setLane l y) ∧ y.coll = { x.coll with logDue := [] } ∧
        y.oct (O.faultLog (x.obj O.logNext)) = logEntry (laneNo l) (x.coll.spall src) ∧
        y.obj O.logNext = (x.obj O.logNext + 1) % 16 ∧ CountedBy O.nvStores 1 x y ∧
        ObjsKept [O.logNext.key, O.nvStores.key] x y ∧
        y = { x with coll := y.coll, objs := y.objs, octs := y.octs, nv := y.nv }) ∧
    (∀ (src : Nat) (rest : List Nat), x.coll.logDue = src :: rest →
      ∃ z : Lane, exec (.faultLogCopy l t) s = .next (s.setLane l (z.copyFaultLog l)) ∧ z.coll = { x.coll with logDue := rest } ∧
        z.oct (O.faultLog (x.obj O.logNext)) = logEntry (laneNo l) (x.coll.spall src) ∧
        z.obj O.logNext = (x.obj O.logNext + 1) % 16)

/-- Protective trips. Desaturation, gross current, a locked-out gate supply or bootstrap and the 32nd truncated period put a
stage in a trip with their cause; while its soft turn-off runs, a further detector adds its leg and switch to the record (gross current of
the same switch in the same tick makes it cause 2), and later it is the cause from which the wait runs. Both
switches of a leg commanded on are one interlock event for the leg in a period, and the third consecutive period with one is
an error; in a pulse in which the interlock holds the leg no desaturation is judged (R269).
Readings of the model: assumption log 92. -/
def Obligations.DetectorsTripTheirStage : Prop :=
  (∀ (s : State) (l : LaneId) (st : Stage) (sw : Switch) (b : Bool) (t : Nat) (x : Lane), Sees s l t x →
    ((x.stg st).held sw.leg = true → exec (.desaturation l st sw t) s = .next (s.setLane l x)) ∧
    (x.tripped st = false →
      ((x.stg st).held sw.leg = false → ∃ y, exec (.desaturation l st sw t) s = .next (s.setLane l y) ∧
        TripOf x st 1 (legBit sw.leg) (swBit sw) false true false y) ∧
      (∃ y, exec (.grossCurrent l st sw b t) s = .next (s.setLane l y) ∧
        TripOf x st 2 (legBit sw.leg) (swBit sw) b true false y)) ∧
    (∀ (i : Instr) (c : Nat) (k : Bool), i = .desaturation l st sw t ∧ c = 1 ∧ k = false ∧
        (x.stg st).held sw.leg = false ∨ i = .grossCurrent l st sw b t ∧ c = 2 ∧ k = b →
      x.tripped st = true →
      (∀ t0, (x.stg st).softFrom = some t0 → x.now ≤ t0 + 2000 → ∃ y, exec i s = .next (s.setLane l y) ∧
        y.fld (Rg.gdTrip st) 0 4 = (if c = 2 ∧ x.now < (x.stg st).tripAt + 4 ∧ x.fld (Rg.gdTrip st) 7 6 = swBit sw then 2
          else x.fld (Rg.gdTrip st) 0 4) ∧
        y.fld (Rg.gdTrip st) 4 3 = x.fld (Rg.gdTrip st) 4 3 ||| legBit sw.leg ∧
        y.fld (Rg.gdTrip st) 7 6 = x.fld (Rg.gdTrip st) 7 6 ||| swBit sw ∧
        y.rbit (Rg.gdTrip st) 13 = (x.rbit (Rg.gdTrip st) 13 || k) ∧
        y.fld (Rg.gdTrip st) 14 3 = x.fld (Rg.gdTrip st) 14 3 ∧ (y.stg st) = { x.stg st with causeAt := x.now } ∧
        (∀ o, o ≠ st → y.stg o = x.stg o) ∧ RegsKept [(Rg.gdTrip st).addr] x y ∧
        y = { x with regs := y.regs, steer := y.steer, brakes := y.brakes }) ∧
      ((∀ t0, (x.stg st).softFrom = some t0 → t0 + 2000 < x.now) → ∃ y, exec i s = .next (s.setLane l y) ∧
        y.fld (Rg.gdTrip st) 0 4 = c ∧ y.fld (Rg.gdTrip st) 4 13 = x.fld (Rg.gdTrip st) 4 13 ∧
        (y.stg st) = { x.stg st with causeAt := x.now, railOk := false } ∧ (∀ o, o ≠ st → y.stg o = x.stg o) ∧
        RegsKept [(Rg.gdTrip st).addr] x y ∧ y = { x with regs := y.regs, steer := y.steer, brakes := y.brakes }))) ∧
  (∀ (s : State) (l : LaneId) (n : Fin 8) (leg : Leg) (t : Nat) (x x1 : Lane), Sees s l t x →
    x1 = { x with brakes := x.brakes.set n { x.brakes[n] with bootOut := x.brakes[n].bootOut.set (legIx leg) true } } →
    ∃ y, exec (.bootstrapLockout l n leg t) s = .next (s.setLane l y) ∧
      (x.tripped (.brake n) = false → TripOf x1 (.brake n) 6 (legBit leg) (swBit ⟨leg, true⟩) false false false y) ∧
      (x.tripped (.brake n) = true → y.fld (Rg.gdTrip (.brake n)) 0 4 = 6 ∧
        y.fld (Rg.gdTrip (.brake n)) 4 13 = x.fld (Rg.gdTrip (.brake n)) 4 13 ∧ RegsKept [(Rg.gdTrip (.brake n)).addr] x y ∧
        y = { x1 with regs := y.regs, brakes := x1.brakes.set n { x1.brakes[n] with causeAt := x.now, railOk := false } })) ∧
  (∀ (s : State) (l : LaneId) (sup : Fin 7) (t : Nat) (x x1 : Lane), Sees s l t x →
    x1 = ({ x with gate := { x.gate with supOut := x.gate.supOut.set sup true } }).uvBits →
    (sup.val < 6 → x.pwr.supplyOk = true → x.tripped .steer = false →
      ∃ y, exec (.gateSupplyLockout l sup t) s = .next (s.setLane l y) ∧
        TripOf x1 .steer 4 (supplySwitch sup).2 (supplySwitch sup).1 false false true y) ∧
    (sup.val < 6 → x.pwr.supplyOk = true → x.tripped .steer = true →
      ∃ y, exec (.gateSupplyLockout l sup t) s = .next (s.setLane l y) ∧ y.fld (Rg.gdTrip .steer) 0 4 = 4 ∧
        y.fld (Rg.gdTrip .steer) 4 13 = x.fld (Rg.gdTrip .steer) 4 13 ∧ RegsKept [(Rg.gdTrip .steer).addr] x1 y ∧
        y = { x1 with regs := y.regs, steer := { x.steer with causeAt := x.now, causeHeld := true, railOk := false } }) ∧
    (sup.val < 6 → x.pwr.supplyOk = false →
      exec (.gateSupplyLockout l sup t) s = .next (s.setLane l x1.ceaseSteer)) ∧
    (sup.val = 6 → x.drive.bsClass = true → exec (.gateSupplyLockout l sup t) s = .next (s.setLane l x1.openBrakes)) ∧
    (sup.val = 6 → x.drive.bsClass = false → ∃ y, exec (.gateSupplyLockout l sup t) s = .next (s.setLane l y) ∧
      ∀ n : Fin 8, n.val < x.nDrives → y.tripped (.brake n) = true ∧ (y.stg (.brake n)).causeHeld = true ∧
        y.fld (Rg.gdTrip (.brake n)) 0 4 = 5 ∧ (x.tripped (.brake n) = false → (y.stg (.brake n)).driving = false ∧
          y.reg (Rg.gdTripTime (.brake n)) = x.now % 2 ^ 32) ∧
        (x.tripped (.brake n) = true → y.fld (Rg.gdTrip (.brake n)) 4 13 = x.fld (Rg.gdTrip (.brake n)) 4 13)) ∧
    (sup.val = 6 → x.drive.bsClass = false → (∀ n : Fin 8, (x.brakes[n]).tries x.now < 3) →
      ∃ y, exec (.gateSupplyLockout l sup t) s = .next (s.setLane l y) ∧ (∀ n : Fin 8, x.nDrives ≤ n.val → y.brakes[n] = x.brakes[n]) ∧
        y = { x1 with objs := y.objs, regs := y.regs, brakes := y.brakes, claim := { x.claim with winHealthy := y.claim.winHealthy } })) ∧
  (∀ (s : State) (l : LaneId) (st : Stage) (sw : Switch) (t : Nat) (x x1 : Lane) (g : StageSt), Sees s l t x →
    g = { x.stg st with plim := (x.stg st).plim.set (legIx sw.leg) true, truncNow := true,
                        truncRun := (x.stg st).truncRun + if (x.stg st).truncNow then 0 else 1 } →
    x1 = (match st with
      | .steer => { x.inc O.plimEvents with drive := { x.drive with limFlags := x.drive.limFlags ||| swBit sw } }
      | .brake n => { x with brk := { x.brk with
          drv := x.brk.drv.set n { x.brk.drv[n] with trunc := x.brk.drv[n].trunc ||| swBit sw } } }).setStg st g →
    (g.truncRun < 32 ∨ x.tripped st = true → exec (.limitTruncation l st sw t) s = .next (s.setLane l x1)) ∧
    (32 ≤ g.truncRun → x.tripped st = false → ∃ y, exec (.limitTruncation l st sw t) s = .next (s.setLane l y) ∧
      TripOf x1 st 3 (legBit sw.leg) (swBit sw) false false false y)) ∧
  (∀ (s : State) (l : LaneId) (st : Stage) (leg : Leg) (p t : Nat) (w x : Lane) (run : Nat) (x1 : Lane), Sees s l t w →
    x = w.setStg st { w.stg st with ilHold := (w.stg st).ilHold.set (legIx leg) (some (w.stg st).periods) } →
    (legIx leg < (w.stg st).ilHold.length → (x.stg st).held leg = true) ∧
    run = (if nth (x.stg st).ilRun (legIx leg) ≠ 0 ∧ nth (x.stg st).ilLast (legIx leg) + 1 = p
      then nth (x.stg st).ilRun (legIx leg) + 1 else 1) →
    x1 = ((x.setStg st { x.stg st with ilLast := (x.stg st).ilLast.set (legIx leg) p
                                       ilRun := (x.stg st).ilRun.set (legIx leg) run }).setRbit Rg.gdStat 15 true).inc (ilObj st) →
    (nth (x.stg st).ilRun (legIx leg) ≠ 0 → nth (x.stg st).ilLast (legIx leg) = p →
      exec (.shootThroughInterlock l st leg p t) s = .next (s.setLane l x)) ∧
    (nth (x.stg st).ilRun (legIx leg) = 0 ∨ nth (x.stg st).ilLast (legIx leg) ≠ p → run ≠ 3 →
      exec (.shootThroughInterlock l st leg p t) s = .next (s.setLane l x1)) ∧
    (nth (x.stg st).ilRun (legIx leg) ≠ 0 → nth (x.stg st).ilLast (legIx leg) ≠ p → run = 3 →
      ∃ y, exec (.shootThroughInterlock l st leg p t) s = .next (s.setLane l y) ∧
        ErrorOf x1 (match st with | .steer => 0x15 | .brake n => 0x28 + n.val) (legBit leg) y))

/-- When a soft turn-off ends, the stage has ceased driving: of the steering stage, the comparator of R95 chooses open or short by
the terminal voltage found then (a short stays latched); of a brake stage, the winding stays open. At its second level each gate is at
its off level. With no soft turn-off under way both commands change nothing. -/
def Obligations.SoftTurnOffEndsDriving : Prop :=
  ∀ (s : State) (l : LaneId) (st : Stage) (t : Nat) (v : Bool) (x : Lane), Sees s l t x →
    ((x.stg st).softFrom = none → exec (.softTurnOffLevel2 l st t) s = .next (s.setLane l x) ∧
      exec (.softTurnOffEnd l st t v) s = .next (s.setLane l x)) ∧
    ((x.stg st).softFrom ≠ none →
      exec (.softTurnOffLevel2 l st t) s = .next (s.setLane l (x.setStg st { x.stg st with driving := false, gate := .off })) ∧
      ∃ y, exec (.softTurnOffEnd l st t v) s = .next (s.setLane l y) ∧
        y.stg st = { x.stg st with driving := false, softFrom := none, gate := .off } ∧ (∀ o, o ≠ st → y.stg o = x.stg o) ∧
        (st = .steer → y.gate = { x.gate with emfHigh := v, emfAt := x.now } ∧
          y.rbit Rg.gdStat 12 = (v || x.rbit Rg.gdStat 12)) ∧ (st ≠ .steer → y.gate = x.gate ∧ y.regs = x.regs) ∧
        RegsKept [Rg.gdStat.addr] x y ∧
        y = { x with gate := y.gate, regs := y.regs, steer := y.steer, brakes := y.brakes })

/-- Retries. A trip whose rail check has passed, whose cause has gone and has been away for 10 ms clears by itself, which is a
try (R262); the rail check counts in the last 2 ms of the wait or later, and a failed one is a new trip of cause 8; a cause that persists for 1 s exhausts the trip, an error. A gate
supply that comes back lets the wait run from then.
Readings of the model: assumption log 29. -/
def Obligations.TripsClearByRetryOrExhaust : Prop :=
  ∀ (s : State) (l : LaneId) (st : Stage) (t : Nat) (x : Lane), Sees s l t x →
    (x.tripped st = true → (x.stg st).railOk = true → (x.stg st).causeHeld = false → (x.stg st).exhausted = false →
      (x.stg st).causeAt + 10000000 ≤ x.now → ∃ y, exec (.tripWaitEnd l st t) s = .next (s.setLane l y) ∧
      y.tripped st = false ∧ y.rbit Rg.gdStat (tripBit st) = false ∧
      y.stg st = { x.stg st with clears := (x.now :: (x.stg st).clears).take 4, railOk := false, softFrom := none } ∧
      y.fld (Rg.gdTrip st) 14 2 = min ((y.stg st).tries x.now) 3 ∧ y.fld (Rg.gdTrip st) 0 14 = x.fld (Rg.gdTrip st) 0 14 ∧
      (∀ o, o ≠ st → y.stg o = x.stg o) ∧ RegsKept [(Rg.gdTrip st).addr, Rg.gdStat.addr] x y ∧
      y = { x with regs := y.regs, steer := y.steer, brakes := y.brakes }) ∧
    (x.tripped st = false ∨ (x.stg st).railOk = false ∨ (x.stg st).causeHeld = true ∨ (x.stg st).exhausted = true ∨
      x.now < (x.stg st).causeAt + 10000000 → exec (.tripWaitEnd l st t) s = .next (s.setLane l x)) ∧
    (∀ (nodes : List Nat) (vPos : Nat),
      (x.tripped st = false ∨ (x.stg st).exhausted = true ∨ (x.stg st).causeHeld = true ∨ x.now < (x.stg st).causeAt + 8000000 ∨
        x.diagReady st vPos = false →
        exec (.railCheckDone l st t nodes vPos) s = .next (s.setLane l x)) ∧
      (x.tripped st = true → (x.stg st).exhausted = false → (x.stg st).causeHeld = false → (x.stg st).causeAt + 8000000 ≤ x.now →
        x.diagReady st vPos = true → (∃ n ∈ nodes.take 3, vPos < n + (railMargins st).1) ∨ nth nodes 0 < (railMargins st).2 →
        ∃ y, exec (.railCheckDone l st t nodes vPos) s = .next (s.setLane l y) ∧
          TripOf (x.autoClear st) st 8 1 0 false false false y) ∧
      (x.tripped st = true → (x.stg st).exhausted = false → (x.stg st).causeHeld = false → (x.stg st).causeAt + 8000000 ≤ x.now →
        x.diagReady st vPos = true → (∀ n ∈ nodes.take 3, n + (railMargins st).1 ≤ vPos) → (railMargins st).2 ≤ nth nodes 0 →
        (x.now < (x.stg st).causeAt + 10000000 →
          exec (.railCheckDone l st t nodes vPos) s = .next (s.setLane l (x.setStg st { x.stg st with railOk := true }))) ∧
        ((x.stg st).causeAt + 10000000 ≤ x.now → ∃ y, exec (.railCheckDone l st t nodes vPos) s = .next (s.setLane l y) ∧
          y.tripped st = false ∧ y.rbit Rg.gdStat (tripBit st) = false ∧
          y.stg st = { x.stg st with clears := (x.now :: (x.stg st).clears).take 4, railOk := false, softFrom := none } ∧
          RegsKept [(Rg.gdTrip st).addr, Rg.gdStat.addr] x y ∧ y = { x with regs := y.regs, steer := y.steer, brakes := y.brakes }))) ∧
    (x.tripped st = true → (x.stg st).causeHeld = true → (x.stg st).exhausted = false →
      (x.stg st).tripAt + 1000000000 ≤ x.now → ∃ y, exec (.tripPersists l st t) s = .next (s.setLane l y) ∧
      (y.stg st).exhausted = true ∧ ErrorOf (x.setStg st { x.stg st with exhausted := true }) (exhaustedSrc st)
        (x.reg (Rg.gdTrip st)) y) ∧
    (x.tripped st = false ∨ (x.stg st).causeHeld = false ∨ (x.stg st).exhausted = true ∨
      x.now < (x.stg st).tripAt + 1000000000 → exec (.tripPersists l st t) s = .next (s.setLane l x)) ∧
    (∀ (sup : Fin 31) (x1 : Lane), sup.val < 6 →
      x1 = ({ x with gate := { x.gate with supOut := x.gate.supOut.set sup false } }).uvBits →
      exec (.gateSupplyRelease l sup t) s = .next (s.setLane l
        (if (x1.gate.supOut.take 6).any id = true ∨ (x.steer).causeHeld = false then x1
         else { x1 with steer := { x.steer with causeHeld := false, causeAt := x.now } }))) ∧
    (∀ (sup : Fin 31) (x1 : Lane), sup.val = 6 →
      x1 = ({ x with gate := { x.gate with supOut := x.gate.supOut.set sup false } }).uvBits →
      ∃ y, exec (.gateSupplyRelease l sup t) s = .next (s.setLane l y) ∧ y = { x1 with brakes := y.brakes } ∧
        ∀ n : Fin 8, y.brakes[n] = if x.brakes[n].causeHeld = false then x.brakes[n]
          else { x.brakes[n] with causeHeld := false, causeAt := x.now }) ∧
    (∀ (sup : Fin 31) (n : Fin 8) (i : Fin 3), sup.val = 7 + 3 * n.val + i.val →
      exec (.gateSupplyRelease l sup t) s = .next (s.setLane l { x with
        brakes := x.brakes.set n { x.brakes[n] with bootOut := x.brakes[n].bootOut.set i false } }))

/-- Off-state diagnostics (R264 to R267). DIAG_GO has every stage that does not drive owe them, and a stage runs them once its
precondition is met; a run gives the code and the node voltages of its legs, or 4 for each leg while its precondition is not met; a stage
that failed keeps its result. The capacitance is measured in the first injection of the steering stage. A bootstrap warning refreshes the leg, and a terminal voltage above the link shorts an open set, with or without the logic
supply (R95), but for the time of a soft turn-off.
Readings of the model: assumption log 28, 150. -/
def Obligations.OffStateDiagnosticsAndShort : Prop :=
  (∀ (s : State) (l : LaneId) (t : Nat) (x : Lane), Sees s l t x →
    (∃ y, exec (.diagGo l t) s = .next (s.setLane l y) ∧
      (∀ g : Stage → StageSt, (∀ st, g st = if x.hasStage st = true ∧ (x.stg st).driving = false ∧ (x.stg st).diag ≠ .failed
        then { x.stg st with diag := .due } else x.stg st) → DiagRuns x g y) ∧
      RegsKept [Rg.gdStat.addr] x y ∧ y = { x with regs := y.regs, steer := y.steer, brakes := y.brakes }) ∧
    (∀ (st : Stage) (nodes : List Nat) (vPos : Nat),
      ((x.stg st).driving = true ∨ (x.stg st).diag = .failed ∨ x.hasStage st = false →
        exec (.offStateDiagnostics l st t nodes vPos) s = .next (s.setLane l x)) ∧
      ((x.stg st).driving = false → (x.stg st).diag ≠ .failed → x.hasStage st = true → x.diagReady st vPos = false →
        ∃ y, exec (.offStateDiagnostics l st t nodes vPos) s = .next (s.setLane l y) ∧ y.obj (diagObj st) = 0x444 ∧
          y.stg st = { x.stg st with diagRun := false } ∧ (∀ o, o ≠ st → y.stg o = x.stg o) ∧
          y.rbit Rg.gdStat 13 = (allStages.any fun o => (y.stg o).diagRun) ∧
          y.rbit Rg.gdStat 14 = (x.rbit Rg.gdStat 14 || !(allStages.any fun o => (y.stg o).diagRun)) ∧
          ObjsKept [(diagObj st).key] x y ∧ RegsKept [Rg.gdStat.addr] x y ∧
          y = { x with objs := y.objs, regs := y.regs, steer := y.steer, brakes := y.brakes }) ∧
      ((x.stg st).driving = false → (x.stg st).diag ≠ .failed → x.hasStage st = true → x.diagReady st vPos = true →
        ∃ y, exec (.offStateDiagnostics l st t nodes vPos) s = .next (s.setLane l y) ∧
          y.obj (diagObj st) = classifyLeg st nodes vPos 0 + 16 * classifyLeg st nodes vPos 1
            + 256 * classifyLeg st nodes vPos 2 ∧
          y.obj (vnodeObj st) = (List.range 9).foldl (fun a i => a * 65536 + nth nodes i % 65536) 0 ∧
          (y.stg st).diagRun = false ∧ y.rbit Rg.gdStat 13 = (allStages.any fun o => (y.stg o).diagRun) ∧
          y.rbit Rg.gdStat 14 = (x.rbit Rg.gdStat 14 || !(allStages.any fun o => (y.stg o).diagRun)) ∧
          ((∀ i < 3, classifyLeg st nodes vPos i = 0) → (y.stg st) = { x.stg st with diag := .passed, diagRun := false } ∧
            (∀ o, o ≠ st → y.stg o = x.stg o) ∧ ObjsKept [(diagObj st).key, (vnodeObj st).key] x y ∧ RegsKept [Rg.gdStat.addr] x y ∧
            y = { x with objs := y.objs, regs := y.regs, steer := y.steer, brakes := y.brakes }) ∧
          ((∃ i < 3, classifyLeg st nodes vPos i ≠ 0) → (y.stg st).diag = .failed ∧ (y.stg st).driving = false ∧
            (st = .steer → y.drive.hvClass = true ∧ y.rbit Rg.sioCt 0 = false) ∧
            (∀ n, st = .brake n → y.obj (O.bdInService n.val) = 0 ∧
              y.brk = { x.brk with drv := x.brk.drv.set n { x.brk.drv[n] with inService := false, originOk := false } } ∧
              (∀ o, o ≠ st → y.stg o = x.stg o) ∧ RegsKept [Rg.gdStat.addr] x y ∧
              ObjsKept [(diagObj st).key, (vnodeObj st).key, (O.bdInService n.val).key] x y ∧
              y = { x with objs := y.objs, regs := y.regs, brakes := y.brakes, brk := y.brk })))) ∧
    (∀ (st : Stage) (v : BitVec 16),
      (v ≠ 0 ∨ x.obj O.lcStateObj ≠ 4 ∨ x.hasStage st = false → exec (.diagResultWrite l st v t) s = .next (s.setLane l x)) ∧
      (v = 0 → x.obj O.lcStateObj = 4 → x.hasStage st = true → ∃ y, exec (.diagResultWrite l st v t) s = .next (s.setLane l y) ∧
        y.obj (diagObj st) = 0 ∧
        DiagRuns x (fun o => if o = st then { x.stg st with diag := .due, diagRun := false } else x.stg o) y ∧
        ObjsKept [(diagObj st).key] x y ∧ RegsKept [Rg.gdStat.addr] x y ∧
        y = { x with objs := y.objs, regs := y.regs, steer := y.steer, brakes := y.brakes })) ∧
    (x.steer.diagRun = false ∨ x.steer.diagFrom + 2000000 ≤ x.now → ∀ r, exec (.cextGo l t r) s = .next (s.setLane l x)) ∧
    (∀ dt : Nat, x.steer.diagRun = true → x.now < x.steer.diagFrom + 2000000 → ∃ (y : Lane) (leg : Int), exec (.cextGo l t (some dt)) s = .next (s.setLane l y) ∧
      leg = roundDiv ((dt : Int) - 48 * Config.cStageLow x.cal) 48 ∧ y.rbit Rg.etStat 9 = true ∧
      (dt ≤ 1000000 → 0 ≤ leg → leg ≤ 10000 → (∀ i < 3, y.reg (Rg.etCext i) = leg.toNat) ∧ y.rbit Rg.etStat 10 = false ∧
        y.gate = { x.gate with cextOk := [true, true, true] }) ∧
      (1000000 < dt ∨ leg < 0 ∨ 10000 < leg → RegsKept [Rg.etStat.addr] x y ∧ y.rbit Rg.etStat 10 = true ∧
        y.gate = { x.gate with cextOk := [false, false, false] }) ∧ y = { x with regs := y.regs, gate := y.gate }) ∧
    (x.steer.diagRun = true → x.now < x.steer.diagFrom + 2000000 → ∃ y, exec (.cextGo l t none) s = .next (s.setLane l y) ∧ y.rbit Rg.etStat 10 = true ∧
      y.gate = { x.gate with cextOk := [false, false, false] } ∧ RegsKept [Rg.etStat.addr] x y ∧
      y = { x with regs := y.regs, gate := y.gate }) ∧
    (∀ (n : Fin 8) (leg : Leg), ∃ y, exec (.bootstrapWarning l n leg t) s = .next (s.setLane l y) ∧
      (y.stg (.brake n)) = { x.stg (.brake n) with forced := (x.stg (.brake n)).forced.set (legIx leg) true } ∧
      y.rbit Rg.gdStat 18 = true ∧ CountedBy (O.bgBootWarns n.val) 1 x y ∧ (∀ o, o ≠ .brake n → y.stg o = x.stg o) ∧
      ObjsKept [(O.bgBootWarns n.val).key] x y ∧ RegsKept [Rg.gdStat.addr] x y ∧
      y = { x with objs := y.objs, regs := y.regs, brakes := y.brakes })) ∧
  ∀ (s : State) (l : LaneId) (t : Nat) (x : Lane), x = s.laneAt l t →
    (x.steer.driving = true ∨ x.steer.softRuns x.now = true → exec (.backEmfAboveLink l t) s
      = .next (s.setLane l { x with gate := { x.gate with emfHigh := true, emfAt := x.now, emfLowSince := none } })) ∧
    (x.steer.driving = false → x.steer.softRuns x.now = false → exec (.backEmfAboveLink l t) s = .next (s.setLane l
      (({ x with gate := { x.gate with emfHigh := true, emfAt := x.now, emfLowSince := none } }).setRbit Rg.gdStat 12 true)))

/-- Sensor supplies (R274, R295). A cause trips its supply in a lane that has started: the state, the count, the supply off,
the healthy window ended (R77); the fourth trip within 1 s is an error. 10 ms after the last cause the supply is on again, its points not judged in the frame.
Readings of the model: assumption log 30. -/
def Obligations.SensorSuppliesTripAndComeBack : Prop :=
  ∀ (s : State) (l : LaneId) (n : Fin 4) (t : Nat) (x : Lane), Sees s l t x →
    (∀ (c : Nat) (i : Instr), (c = 1 ∧ i = .supplyOutOfBand l n t ∨ c = 2 ∧ i = .supplyOvercurrent l n t) →
      (x.started = false → exec i s = .next (s.setLane l x)) ∧
      (x.started = true → (x.sup n).tripped = true →
        exec i s = .next (s.setLane l ((x.setObj (O.supplyState n) c).setSup n { x.sup n with causeAt := x.now }))) ∧
      (∀ tries : Nat, x.started = true → (x.sup n).tripped = false → tries = ((x.sup n).clears.filter fun c => x.now < c + 1000000000).length →
        ∃ y z, exec i s = .next (s.setLane l y) ∧ z.obj (O.supplyState n) = c ∧ CountedBy (O.supTrips n) 1 x z ∧
          z.rbit Rg.sioStat n = true ∧ z.rbit Rg.sioCtl n = false ∧
          z.sio = (x.setSup n { x.sup n with tripped := true, causeAt := x.now, exhausted := decide (3 ≤ tries) }).sio ∧
          ObjsKept [(O.supplyState n).key, (O.supTrips n).key] x z ∧ RegsKept [Rg.sioStat.addr, Rg.sioCtl.addr] x z ∧
          z = { x with objs := z.objs, regs := z.regs, sio := z.sio, claim := { x.claim with winHealthy := false } } ∧
          (tries < 3 → y = z) ∧ (3 ≤ tries → ErrorOf z (0x38 + n) c y))) ∧
    ((x.sup n).tripped = true → (x.sup n).causeAt + 10000000 ≤ x.now → (x.sup n).exhausted = false ∨ x.coll.error = false →
      ∃ y, exec (.supplyTripClear l n t) s = .next (s.setLane l y) ∧ y.obj (O.supplyState n) = 0 ∧
        y.rbit Rg.sioStat n = false ∧ y.rbit Rg.sioCtl n = true ∧
        y.sio = ((x.setSup n { x.sup n with tripped := false, exhausted := false, clears := (x.now :: (x.sup n).clears).take 4 }).spoilSupply n).sio ∧
        ObjsKept [(O.supplyState n).key] x y ∧ RegsKept [Rg.sioStat.addr, Rg.sioCtl.addr] x y ∧
        y = { x with objs := y.objs, regs := y.regs, sio := y.sio }) ∧
    ((x.sup n).tripped = false ∨ x.now < (x.sup n).causeAt + 10000000 ∨ (x.sup n).exhausted = true ∧ x.coll.error = true →
      exec (.supplyTripClear l n t) s = .next (s.setLane l x))

/-- Test pulses (R272 to R274, R293). A slot classifies every point against its supply's pattern (SIO_SLOT reads it from lane time), and a
tripped supply's own dip makes the frame one that is not judged, a sense above its band shows that its cause holds on; the end of a frame judges the points, shows the invalid inputs and
the SENT channels of an invalid sense, trips a supply whose sense failed a second frame in a row, and takes a written schedule
image, or the factory image where that one is not accepted.
Readings of the model: assumption log 29, 30. -/
def Obligations.TestPulsesAreCheckedByFrame : Prop :=
  ∀ (s : State) (l : LaneId) (t : Nat) (x : Lane), Sees s l t x →
    (∀ (sup ana : List SlotReading) (k : Nat), k = t % 9600000 / 100000 →
      ∃ y, exec (.testPulseSlot l t sup ana) s = .next (s.setLane l y) ∧
        (∀ i p, x.sio.supPts[i]? = some p → ∃ q, y.sio.supPts[i]? = some q ∧
          ∀ d, d = dips (laneNo l) i (nth x.sio.patterns i) k →
            ((x.sup i).tripped = false → q = match sup[i]? with | some r => p.step k (dipClass r) d | none => p) ∧
            ((x.sup i).tripped = true → ∀ w, (w = match sup[i]? with | some r => p.step k (dipClass r) false | none => p) →
              q = { w with spoilt := w.spoilt || d })) ∧
        (∀ i p n, x.sio.anaPts[i]? = some p → n = x.obj (O.anaSupply i) → ∃ q, y.sio.anaPts[i]? = some q ∧
          ∀ d, d = dips (laneNo l) n (nth x.sio.patterns n) k →
            ((x.sup n).tripped = false → q = match ana[i]? with | some r => p.step k (dipClass r) d | none => p) ∧
            ((x.sup n).tripped = true → ∀ w, (w = match ana[i]? with | some r => p.step k (dipClass r) false | none => p) →
              q = { w with spoilt := w.spoilt || d })) ∧
        (∀ n < x.sio.sups.length, n < 4 → y.sup n = if (x.sup n).tripped = true ∧ ∃ r, sup[n]? = some r ∧ (5250 < r.v1 ∨ 5250 < r.v2)
          then { x.sup n with causeAt := x.now } else x.sup n) ∧
        y = { x with sio := { x.sio with supPts := y.sio.supPts, anaPts := y.sio.anaPts, sups := y.sio.sups } }) ∧
    x.regView Rg.sioSlot = x.now % 9600000 / 100000 ∧
    (∃ y, exec (.testPulseFrameEnd l t) s = .next (s.setLane l y) ∧ y.sio.frameWhole = true ∧ y.sio.nextImg = none ∧
      (∀ i < 6, y.rbit Rg.sioStat (4 + i) = ((x.sio.anaPts.getD i {}).judge x.sio.frameWhole).invalid) ∧
      (∀ c < 4, x.obj (O.sentSupply c) < 4 → y.rbit Rg.sioStat (10 + c)
        = ((x.sio.supPts.getD (x.obj (O.sentSupply c)) {}).judge x.sio.frameWhole).invalid) ∧
      (x.sio.nextImg = none → (∀ n < 4, (x.sio.supPts.getD n {}).unclean x.sio.frameWhole = false) →
        (∀ i < 6, ∀ p, x.sio.anaPts[i]? = some p → y.sio.anaPts[i]? = some (p.judge x.sio.frameWhole)) ∧
        (∀ n < 4, ∀ p, x.sio.supPts[n]? = some p → y.sio.supPts[n]? = some (p.judge x.sio.frameWhole)) ∧
        y = { x with objs := y.objs, regs := y.regs, sio := { x.sio with frameWhole := true, anaPts := y.sio.anaPts, supPts := y.sio.supPts } } ∧
        ObjsKept [O.xchkEvents.key, O.xchkLast.key] x y) ∧
      (∀ n < 4, (x.sio.supPts.getD n {}).unclean x.sio.frameWhole = true →
        2 ≤ ((x.sio.supPts.getD n {}).judge x.sio.frameWhole).badRun → y.obj (O.supplyState n) = 3) ∧
      (x.sio.nextImg = none → y.sio.patterns = x.sio.patterns ∧ y.sio.offp = x.sio.offp ∧ y.sio.tsEn = x.sio.tsEn) ∧
      (∀ b, x.sio.nextImg = some b → y.rbit Rg.sioStat 18 = (!imgOk (x.obj O.lcStateObj) b || decide (b = factorySchedule)) ∧
        y.sio.patterns = (if imgOk (x.obj O.lcStateObj) b = true then imgPatterns b else [0x96, 0x96, 0x96, 0x96]) ∧
        y.sio.offp = (if imgOk (x.obj O.lcStateObj) b = true then imgOffp b else [1000, 2500, 4000]) ∧
        y.sio.tsEn = (if imgOk (x.obj O.lcStateObj) b = true then (b.getD 14 0).toNat % 4 else 3))) ∧
    (∀ img : List Byte, ∃ y, exec (.sioScheduleWrite l img t) s = .next (s.setLane l y) ∧
      y.oct O.sioSchedule = img ∧ y.sio = { x.sio with nextImg := some img } ∧ y = { x with sio := y.sio, octs := y.octs })

/-- Sensor frames. A SENT frame that passes every check of R277 is the latest of its receiver, with the field that R278 cuts
out, beside the one before, and its status bits may end a serial message; any other frame is counted and changes nothing else but the
synchronisation pulse that the next frame's is compared with, and breaks off the serial message that it falls in. An excitation peak gives the resolver's
angle, speed and flags (R279).
Readings of the model: assumption log 30, 138, 139. -/
def Obligations.SensorFramesAreTakenOrCounted : Prop :=
  (∀ (s : State) (l : LaneId) (ch : Fin 5) (f : SentRx) (x : Lane) (o : Nat) (ok : Bool), Sees s l f.endTime x →
    o = (if ch.val < 4 then x.obj (O.sentOptions ch) else 0) →
    ok = (x.syncOk ch f.sync && decide (f.nibbles.length = x.sentNibbles ch) && (!bitOf o 1 || f.pausePulse) &&
      decide (f.crc.toNat = crc4 (bitOf o 0) f.nibbles)) →
    (ok = false → exec (.sentFrame l ch f) s = .next (s.setLane l ((
      { x with sio := { x.sio with sent := x.sio.sent.set ch { x.sio.sent.getD ch {} with sync := f.sync, serial := [] } } }).inc
        O.sentFrameFaults))) ∧
    (ok = true → ∀ q : SentSt, q = x.sio.sent.getD ch {} → ∃ y n, exec (.sentFrame l ch f) s = .next (s.setLane l y) ∧
      y = { x with sio := { x.sio with sent := x.sio.sent.set ch n } } ∧ n.valid = true ∧ n.endTime = f.endTime ∧
      n.status = f.status.toNat ∧ n.sync = f.sync ∧ n.serial = (f.status.toNat / 4 :: q.serial).take 18 ∧
      n.message = (serialMessage (bitOf o 0) n.serial).orElse (fun _ => q.message) ∧ (q.valid = true → n.prevEnd = q.endTime ∧ n.prevRaw = q.raw) ∧
      (q.valid = false → n.prevEnd = 0 ∧ n.prevRaw = 0) ∧
      (ch.val < 4 → n.raw = nibField f.nibbles (bits (x.obj (O.sentField ch)) 0 3) (bits (x.obj (O.sentField ch)) 3 3 + 1)) ∧
      (ch.val = 4 → n.raw = nibField f.nibbles 0 (x.sentNibbles ch)))) ∧
  (∀ (s : State) (l : LaneId) (t : Nat) (a : BitVec 16) (v : Code) (g : BitVec 4) (x : Lane), Sees s l t x →
    exec (.resolverUpdate l t a v g) s = .next (s.setLane l { x with sio := { x.sio with
      resAngle := a.toNat, resSpeed := v.toNat, resFlags := g.toNat, resAt := t, resSeen := true } }))

/-- Safe-stop inputs (R285, R286, R295). Three samples in a row open or close a channel, but for samples in its own pulse's window; one whose
contact opened in its own pulse is open at the first sample outside; a
pulse that the input does not follow, and a foreign pulse, fail the check until both channels have followed 20 in a row; a
channel open for 500 ms beside a closed one, counted from the sample that found them so, is a discrepancy.
Readings of the model: assumption log 30. -/
def Obligations.SafeStopInputsAreTested : Prop :=
  ∀ (s : State) (l : LaneId) (t : Nat) (x : Lane), Sees s l t x →
    (∀ (ch : Bool) (u v : Option Nat), bitOf x.sio.tsEn (b2n ch) = false →
      exec (.safeStopTestPulse l ch t u v) s = .next (s.setLane l x)) ∧
    (∀ (ch : Bool) (u v : Nat), bitOf x.sio.tsEn (b2n ch) = true → u ≤ 150 → v ≤ 150 →
      ∃ y, exec (.safeStopTestPulse l ch t (some u) (some v)) s = .next (s.setLane l y) ∧
        y.ss ch = { x.ss ch with followed := (x.ss ch).followed + 1, stayedOff := false } ∧ y.ss (!ch) = x.ss (!ch) ∧
        y.sio.checkOk = (x.sio.checkOk || (decide (20 ≤ (y.ss ch).followed) && decide (20 ≤ (y.ss (!ch)).followed))) ∧
        y.rbit Rg.sioStat 16 = y.sio.checkOk ∧ RegsKept [Rg.sioStat.addr] x y ∧ y = { x with sio := y.sio, regs := y.regs }) ∧
    (∀ (ch : Bool) (u v : Option Nat), bitOf x.sio.tsEn (b2n ch) = true → u = none ∨ v = none ∨ (∃ n, (u = some n ∨ v = some n) ∧ 150 < n) →
      ∃ y, exec (.safeStopTestPulse l ch t u v) s = .next (s.setLane l y) ∧ (y.ss ch).followed = 0 ∧
        y.sio.checkOk = false ∧ CountedBy O.ssPulseFails 1 x y ∧ y.rbit Rg.sioStat 16 = false ∧ y.stopDemand = true ∧
        y.ss ch = { x.ss ch with followed := 0, stayedOff := v.isNone } ∧ y.ss (!ch) = x.ss (!ch) ∧ y = { x with sio := y.sio, objs := y.objs, regs := y.regs } ∧
        ObjsKept [O.ssPulseFails.key] x y ∧ RegsKept [Rg.sioStat.addr] x y) ∧
    (∀ on0 on1 : Bool, ∃ y, exec (.safeStopSample l t on0 on1) s = .next (s.setLane l y) ∧
        y.sio.ss0 = (if bitOf x.sio.tsEn 0 = true ∧ inPulse (laneNo l) false t = true then x.sio.ss0 else x.sio.ss0.sample on0 t) ∧
        y.sio.ss1 = (if bitOf x.sio.tsEn 1 = true ∧ inPulse (laneNo l) true t = true then x.sio.ss1 else x.sio.ss1.sample on1 t) ∧
        (∀ (c : SsSt) (on : Bool), c.stayedOff = true → c.closed = true → on = false → (c.sample on t).closed = false ∧ (c.sample on t).openAt = t) ∧
        (y.sio.ss0.closed = y.sio.ss1.closed → y.sio.discrepAt = none ∧ y.sio.discrepSeen = false) ∧
        (y.sio.ss0.closed ≠ y.sio.ss1.closed → y.sio.discrepAt = some (x.sio.discrepAt.getD t) ∧ y.sio.discrepSeen = x.sio.discrepSeen) ∧
        y.rbit Rg.sioStat 16 = x.sio.checkOk ∧
        y.sio = { x.sio with ss0 := y.sio.ss0, ss1 := y.sio.ss1, discrepAt := y.sio.discrepAt, discrepSeen := y.sio.discrepSeen } ∧
        y.rbit Rg.sioStat 14 = !y.sio.ss0.closed ∧
        y.rbit Rg.sioStat 15 = !y.sio.ss1.closed ∧ RegsKept [Rg.sioStat.addr] x y ∧
        y = { x with sio := y.sio, regs := y.regs }) ∧
    (∀ (ch : Bool) (d : Nat), d < 100000 ∨ 400000 < d → exec (.safeStopInputChange l ch d t) s = .next (s.setLane l x)) ∧
    (∀ (ch : Bool) (d : Nat), 100000 ≤ d → d ≤ 400000 → bitOf x.sio.tsEn (b2n ch) = true →
        inPulse (laneNo l) ch t = true ∨ t - d ≤ pulseStart (laneNo l) ch t → exec (.safeStopInputChange l ch d t) s = .next (s.setLane l x)) ∧
    (∀ (ch : Bool) (d : Nat), 100000 ≤ d → d ≤ 400000 → bitOf x.sio.tsEn (b2n ch) = false ∨
        inPulse (laneNo l) ch t = false ∧ pulseStart (laneNo l) ch t < t - d →
      ∃ y, exec (.safeStopInputChange l ch d t) s = .next (s.setLane l y) ∧ y.ss ch = { x.ss ch with followed := 0 } ∧
        y.ss (!ch) = x.ss (!ch) ∧ y.sio.checkOk = false ∧ y.rbit Rg.sioStat 16 = false ∧
        CountedBy O.ssPulseFails 1 x y ∧ ObjsKept [O.ssPulseFails.key] x y ∧ RegsKept [Rg.sioStat.addr] x y ∧
        y = { x with sio := y.sio, objs := y.objs, regs := y.regs }) ∧
    (∀ t0, x.sio.discrepAt = some t0 → t0 + 500000000 ≤ x.now → x.sio.discrepSeen = false →
        ∃ y, exec (.safeStopDiscrepancy l t) s = .next (s.setLane l y) ∧ CountedBy O.ssDiscrepancies 1 x y ∧
          y.rbit Rg.sioStat 17 = true ∧ y.sio = { x.sio with discrepSeen := true } ∧ ObjsKept [O.ssDiscrepancies.key] x y ∧
          RegsKept [Rg.sioStat.addr] x y ∧ y = { x with sio := y.sio, objs := y.objs, regs := y.regs }) ∧
    ((∀ t0, x.sio.discrepAt = some t0 → x.now < t0 + 500000000) ∨ x.sio.discrepSeen = true →
        exec (.safeStopDiscrepancy l t) s = .next (s.setLane l x))

/-- Contactors (R289, R290). The closing sequence: KN, then PRE, then KP once the link is charged, then PRE off; the opening
sequence: KP and PRE off, KN 20 ms later, and none while the steering stage drives; a lane in its reset-safe state closes none (R5). A precharge that times out opens all
three and is class HV; an input with a drive's role that differs from its command after its wait is an error with all three off and the enable switch open; with
an error latched no drive switches on.
Off-pulses of the contactor drives (R291, R292). An off-pulse at its offset, or repeated, of a drive that is on passes when its output fell within 150
µs; the second failure in a row is an error; a real demand discards it, to be repeated 10 ms later, and the eighth discard
in a row is an error.
Readings of the model: assumption log 31, 93, 146, 148. -/
def Obligations.ContactorsSwitchInSequenceAndAreTested : Prop :=
  (∀ (s : State) (l : LaneId) (t : Nat) (x : Lane), Sees s l t x →
    (x.started = true → x.sio.enable = true → x.ctState = 0 ∨ x.ctState = 6 ∧ x.sio.seqAt + 10000000000 ≤ x.now → ∃ y, exec (.closingSequence l t) s = .next (s.setLane l y) ∧ y.ctState = 1 ∧
      (y.ct .kn).on = true ∧ y.ct .kp = x.ct .kp ∧ y.ct .pre = x.ct .pre ∧ y.rbit Rg.sioCt 0 = true ∧
      y.rbit Rg.sioCt 2 = true ∧ y.sio.seqAt = x.now ∧ RegsKept [Rg.sioCt.addr] x y ∧ y = { x with sio := y.sio, regs := y.regs }) ∧
    (x.started = false ∨ x.sio.enable = false ∨ x.ctState ≠ 0 ∧ (x.ctState ≠ 6 ∨ x.now < x.sio.seqAt + 10000000000) →
      exec (.closingSequence l t) s = .next (s.setLane l (x.setRbit Rg.sioCt 0 x.started))) ∧
    (x.steer.driving = true → exec (.openingSequence l t) s = .next (s.setLane l x)) ∧
    (x.steer.driving = false → x.ctState = 0 ∨ x.ctState = 6 →
      exec (.openingSequence l t) s = .next (s.setLane l (x.setRbit Rg.sioCt 0 false))) ∧
    (x.steer.driving = false → x.ctState ≠ 0 → x.ctState ≠ 6 →
      ∃ y, exec (.openingSequence l t) s = .next (s.setLane l y) ∧ y.ctState = 5 ∧ (y.ct .kp).on = false ∧
        (y.ct .pre).on = false ∧ y.ct .kn = { x.ct .kn with abandoned := decide (x.ctState = 1) } ∧ y.rbit Rg.sioCt 0 = false ∧ y.sio.seqAt = x.now ∧
        RegsKept [Rg.sioCt.addr] x y ∧ y = { x with sio := y.sio, regs := y.regs }) ∧
    (x.ctState = 5 → x.sio.seqAt + 20000000 ≤ x.now → ∃ y, exec (.knOpenDelay l t) s = .next (s.setLane l y) ∧
      y.ctState = 0 ∧ (y.ct .kn).on = false ∧ y.ct .kp = x.ct .kp ∧ y.ct .pre = x.ct .pre ∧ RegsKept [Rg.sioCt.addr] x y ∧
      y = { x with sio := y.sio, regs := y.regs }) ∧
    (x.ctState ≠ 5 ∨ x.now < x.sio.seqAt + 20000000 → exec (.knOpenDelay l t) s = .next (s.setLane l x)) ∧
    (∀ (fb : BitVec 4) (reads : Nat → Bool) (closed : CtDrive → Prop), (∀ k, reads k = (bitOf fb.toNat k != bitOf (x.obj O.fbInvert) k)) →
      (∀ d, closed d ↔ (∃ k < 4, x.fbRole k = ctIx d + 1) ∧ (∀ k < 4, x.fbRole k = ctIx d + 1 → reads k = true) ∧ x.coll.error = false) →
    (x.ctState = 1 → closed .kn → ∃ y, exec (.feedbackConfirmed l .kn ⟨t, fb⟩) s = .next (s.setLane l y) ∧ y.ctState = 2 ∧
      (y.ct .pre).on = true ∧ y.sio.preAt = x.now ∧ y.ct .kp = x.ct .kp ∧ y.ct .kn = x.ct .kn ∧
      RegsKept [Rg.sioCt.addr] x y ∧ y = { x with sio := y.sio, regs := y.regs }) ∧
    (x.ctState = 3 → closed .kp → ∃ y, exec (.feedbackConfirmed l .kp ⟨t, fb⟩) s = .next (s.setLane l y) ∧ y.ctState = 4 ∧
      (y.ct .pre).on = false ∧ y.ct .kp = x.ct .kp ∧ y.ct .kn = x.ct .kn ∧ y.hvClosed = true ∧
      (x.drive.linkPresent = true → y.drive.hvClass = false) ∧ (x.drive.linkPresent = false → y.drive = x.drive) ∧
      DiagRuns y x.stg y ∧
      y = { x with sio := y.sio, regs := y.regs, drive := y.drive, steer := y.steer, brakes := y.brakes }) ∧
    (∀ d : CtDrive, ((d = .kn → x.ctState ≠ 1) ∧ (d = .kp → x.ctState ≠ 3)) ∨ ¬ closed d →
      exec (.feedbackConfirmed l d ⟨t, fb⟩) s = .next (s.setLane l x)) ∧
    (∀ d : CtDrive, x.ctWaited d = true → (x.ct d).abandoned = false → (∃ k < 4, x.fbRole k = ctIx d + 1 ∧ reads k ≠ (x.ct d).on) →
      ∃ y, exec (.feedbackMismatch l d ⟨t, fb⟩) s = .next (s.setLane l y) ∧ y.Stopped ∧
      y.coll.spall (0x3C + ctIx d) = (x.coll.spall (0x3C + ctIx d)).occur (b2n (x.ct d).on + 2 * b2n (!(x.ct d).on)) x.now false
        (x.coll.takesFirst (0x3C + ctIx d) x.now) ∧ (∀ e, (y.ct e).on = false) ∧ y.ctState = 0 ∧ y.sio.enable = false ∧
      (x.hvClosed = true → y.drive.hvClass = true) ∧ y = { x with coll := y.coll, regs := y.regs, steer := y.steer, brakes := y.brakes, claim := y.claim, drive := y.drive, sio := y.sio }) ∧
    (∀ d : CtDrive, x.ctWaited d = false ∨ (x.ct d).abandoned = true ∨ (∀ k < 4, x.fbRole k = ctIx d + 1 → reads k = (x.ct d).on) →
      exec (.feedbackMismatch l d ⟨t, fb⟩) s = .next (s.setLane l x))) ∧
    (∀ v u : Nat, x.ctState = 2 → x.coll.error = false → x.obj O.preMinV < v → v < u + 5 → u < v + 5 →
      ∃ y, exec (.prechargeComplete l t ⟨v, u⟩) s = .next (s.setLane l y) ∧
      y.ctState = 3 ∧ (y.ct .kp).on = true ∧ y.obj O.prechargeTime = min ((x.now - x.sio.preAt) / 1000000) 65535 ∧
      ObjsKept [O.prechargeTime.key] x y ∧ RegsKept [Rg.sioCt.addr] x y ∧ y = { x with sio := y.sio, regs := y.regs, objs := y.objs }) ∧
    (∀ v u : Nat, x.ctState ≠ 2 ∨ x.coll.error = true ∨ v ≤ x.obj O.preMinV ∨ u + 5 ≤ v ∨ v + 5 ≤ u →
      exec (.prechargeComplete l t ⟨v, u⟩) s = .next (s.setLane l x)) ∧
    (x.ctState = 2 → x.sio.preAt + 1000000 * x.obj O.preTimeout ≤ x.now →
      ∃ y, exec (.prechargeTimeout l t) s = .next (s.setLane l y) ∧ y.ctState = 6 ∧ (∀ d, (y.ct d).on = false) ∧
        y.drive.hvClass = true ∧ (x.drive.hvClass = true ∨ x.drive.firstClass = 0 ∨ x.drive.firstClass = 3 →
          RegsKept [Rg.sioCt.addr] x y ∧ y = { x with sio := y.sio, regs := y.regs, drive := y.drive })) ∧
    (x.ctState ≠ 2 ∨ x.now < x.sio.preAt + 1000000 * x.obj O.preTimeout →
      exec (.prechargeTimeout l t) s = .next (s.setLane l x))) ∧
  (∀ (s : State) (l : LaneId) (d : CtDrive) (t : Nat) (x : Lane) (u : Option Nat) (r : Bool), Sees s l t x →
    (x.inOffp d t = false → exec (.contactorOffPulse l d t u r) s = .next (s.setLane l x)) ∧
    ((∀ a, (x.ct d).retestAt = some a → x.now < a) → exec (.offPulseRetest l d t u r) s = .next (s.setLane l x)) ∧
    (∀ i : Instr, i = .contactorOffPulse l d t u r ∧ x.inOffp d t = true ∨
        i = .offPulseRetest l d t u r ∧ (∃ a, (x.ct d).retestAt = some a ∧ a ≤ x.now) →
      ((x.ct d).on = false → exec i s = .next (s.setLane l x)) ∧
      (∀ n, (x.ct d).on = true → r = false → u = some n → n ≤ 150 →
        exec i s = .next (s.setLane l (x.setCt d { x.ct d with discardRun := 0, retestAt := none, failRun := 0 }))) ∧
      (∀ z : Lane, (x.ct d).on = true → r = false → (∀ n, u = some n → 150 < n) →
        z = x.setCt d { x.ct d with discardRun := 0, retestAt := none, failRun := (x.ct d).failRun + 1 } →
        ((x.ct d).failRun ≠ 1 → exec i s = .next (s.setLane l z)) ∧
        ((x.ct d).failRun = 1 → ∃ y, exec i s = .next (s.setLane l y) ∧ ErrorOf z 0x3F (ctIx d) y)) ∧
      (∀ z : Lane, (x.ct d).on = true → r = true →
        z = (x.setCt d { x.ct d with discardRun := (x.ct d).discardRun + 1, retestAt := some (x.now + 10000000) }).inc O.offpDiscards →
        ((x.ct d).discardRun ≠ 7 → exec i s = .next (s.setLane l z)) ∧
        ((x.ct d).discardRun = 7 → ∃ y, exec i s = .next (s.setLane l y) ∧ ErrorOf z 0x40 (ctIx d) y))))

/-- Claim frames and timers of the arbiter (R79, R82, R85, R74, R86). A half takes a valid frame whose counter has advanced by 1
to 15 and starts its timer for a claim that is not disregarded; a first frame after 500 µs only sets the reference; another
frame changes nothing. A timer that has run 500 µs takes every output to its safe state and opens the stop line; a half that
fails degrades the arbiter, and both failed switch everything off (a handshake that a failed half misses is the other one's failure); a power-up has everything off.
Readings of the model: assumption log 10, 11. -/
def Obligations.ArbiterTakesFramesAndWatchesTimers : Prop :=
  (∀ (s : State) (h : ArbHalf) (k : LaneId) (t : Nat) (f : ClaimFrame) (c : BitVec 16) (a : Arbiter), s.arb.powered = true →
    a = (s.arb.at_ t).expire h →
    ((a.half h).fault = true ∨ frameIds (laneNo k) f c = false →
      exec (.claimFrame h k t f c) s = .next { s with arb := a }) ∧
    ((a.half h).fault = false → frameIds (laneNo k) f c = true →
      (((a.half h).links.of k).ref = none ∨ ∃ r, ((a.half h).links.of k).ref = some r ∧ r.2 + 500000 ≤ t) →
      exec (.claimFrame h k t f c) s = .next { s with arb := a.setHalf h { a.half h with
        links := (a.half h).links.upd k { (a.half h).links.of k with ref := some (f.counter.toNat, t) } } }) ∧
    (∀ r, (a.half h).fault = false → frameIds (laneNo k) f c = true → ((a.half h).links.of k).ref = some r → t < r.2 + 500000 →
      (1 ≤ (f.counter.toNat + 65536 - r.1) % 65536 ∧ (f.counter.toNat + 65536 - r.1) % 65536 ≤ 15 →
        ∃ b, exec (.claimFrame h k t f c) s = .next { s with arb := a.setHalf h b } ∧
          b = { a.half h with links := b.links, timer := b.timer } ∧ (b.links.of k).frame = some f ∧
          (b.links.of k).endAt = some t ∧ (b.links.of k).ref = some (f.counter.toNat, t) ∧
          (∀ j, j ≠ k → b.links.of j = (a.half h).links.of j) ∧
          b.timer = if f.claim ≠ 0 ∧ nthB (a.half h).disregard (laneNo k - 1) = false then t else (a.half h).timer) ∧
      ((f.counter.toNat + 65536 - r.1) % 65536 = 0 ∨ 15 < (f.counter.toNat + 65536 - r.1) % 65536 →
        exec (.claimFrame h k t f c) s = .next { s with arb := a }))) ∧
  (∀ (s : State) (h : ArbHalf) (t : Nat) (a : Arbiter), s.arb.powered = true → s.arb.Inv → a = s.arb.at_ t →
    ((a.half h).fault = true ∨ (a.half h).safe = true ∨ a.now < (a.half h).timer + 500000 →
      exec (.safeStateTimer h t) s = .next { s with arb := a }) ∧
    ((a.half h).fault = false → (a.half h).safe = false → (a.half h).timer + 500000 ≤ a.now →
      ∃ b, exec (.safeStateTimer h t) s = .next { s with arb := b } ∧ b.allSafe = true ∧ b.vented ∧ (b.half h).safe = true ∧
        (∀ n < 8, bitOf a.safeMode n = false → a.ramp.getD n none = none → nth b.outState n = 0) ∧
        b.chanFault = a.chanFault ∧ b.chanCause = a.chanCause ∧ b.safeMode = a.safeMode)) ∧
  (∀ (s : State) (h : ArbHalf) (t : Nat) (a : Arbiter) (i : Instr), s.arb.powered = true → a = s.arb.at_ t →
    (i = .halfFault h t ∨ i = .handshakeTimeout h t ∧ (a.half h).fault = false ∨
      i = .handshakeTimeout (match h with | .halfA => .halfB | .halfB => .halfA) t ∧
        (a.half (match h with | .halfA => .halfB | .halfB => .halfA)).fault = true) →
    ∃ b, exec i s = .next { s with arb := b } ∧ (b.half h).fault = true ∧ b.degraded = true ∧
      ((a.half (match h with | .halfA => .halfB | .halfB => .halfA)).fault = false → b.outState = a.outState ∧
        b = { a.setHalf h { a.half h with fault := true } with degraded := true }) ∧
      ((a.half (match h with | .halfA => .halfB | .halfB => .halfA)).fault = true →
        b.outState = List.replicate 8 0 ∧ b.vented ∧ b.allSafe = true)) ∧
  (∀ (s : State) (t : Nat), ∃ b, exec (.arbiterPowerUp t) s = .next { s with arb := b } ∧ b.powered = true ∧ b.now = t ∧
    b.safeMode = 0 ∧ b.vented ∧ b.Inv ∧ (∀ h, (b.half h).timer = t ∧ (b.half h).fault = false))

/-- An evaluation of the arbiter (R72, R74, R85). Two healthy halves that agree on a candidate apply its command, each output
that is not held to its duty; with none the outputs stay; a disagreement changes no output, and the third in a row degrades
the arbiter; a half alone only lowers duties; out of the safe state only a lane whose claim was current before wins. The sending half
returns the status frame.
Readings of the model: assumption log 9, 10, 107, 108, 109. -/
def Obligations.ArbiterEvaluationAppliesTheAgreedClaim : Prop :=
  ∀ (s : State) (t : Nat) (sense : ArbSense) (a : Arbiter) (ha hb : HalfSt), s.arb.powered = true → s.arb.Inv →
    a = ((s.arb.at_ t).expire .halfA).expire .halfB →
    ha = (if a.halfA.fault then a.halfA else a.halfA.judgeDisregard t) →
    hb = (if a.halfB.fault then a.halfB else a.halfB.judgeDisregard t) →
    ∃ b, exec (.arbiterEvaluation t sense) s = .next { s with arb := b } ∧ b.evalCount = (a.evalCount + 1) % 65536 ∧
      b.Inv ∧
      (∀ f, a.halfA.fault = false → a.halfB.fault = false → ha.candidate t = some f → agree (some f) (hb.candidate t) = true →
        b.agreed = true ∧ b.disagreeRun = 0 ∧
        (a.allSafe = false ∨ nthB a.claimed (bits f.claim.toNat 0 2 - 1) = true → b.winner = f.claim.toNat ∧
          b.cmdCounter = f.counter.toNat ∧ b.safeMode = f.safeMode.toNat ∧ b.allSafe = false ∧
          (a.degraded = false → b.stopCmd = bitOf f.control.toNat 0) ∧
          ∀ n < 8, (nthB a.chanFault n = false → bitOf f.chanHold.toNat n = false →
              (a.degraded = false ∨ (f.outCmd.getD n 0).toNat ≤ nth a.outState n) →
              nth b.outState n = (f.outCmd.getD n 0).toNat ∧ b.ramp.getD n none = none) ∧
            (bitOf f.chanHold.toNat n = true → nthB b.chanFault n = true) ∧
            (nthB a.chanFault n = true → bitOf f.chanHold.toNat n = false → bitOf f.chanClear.toNat n = true →
              bitOf sense.checkPass.toNat n = true → nthB b.chanFault n = false) ∧
            (nthB a.chanFault n = true → bitOf f.chanClear.toNat n = false → nthB b.chanFault n = true ∧
              nth b.outState n = nth a.outState n)) ∧
        (a.allSafe = true → nthB a.claimed (bits f.claim.toNat 0 2 - 1) = false → b.outState = a.outState ∧ b.allSafe = true)) ∧
      (a.halfA.fault = false → a.halfB.fault = false → ha.candidate t = none → hb.candidate t = none →
        b.agreed = true ∧ b.disagreeRun = 0 ∧ b.winner = 0 ∧ b.outState = a.outState ∧ b.stopCmd = a.stopCmd) ∧
      (a.halfA.fault = false → a.halfB.fault = false → agree (ha.candidate t) (hb.candidate t) = false →
        b.agreed = false ∧ b.disagreeRun = a.disagreeRun + 1 ∧ b.degraded = (a.degraded || decide (3 ≤ a.disagreeRun + 1)) ∧
        b.outState = a.outState ∧ b.stopCmd = a.stopCmd ∧ b.winner = a.winner) ∧
      (∀ c, a.halfA.fault ≠ a.halfB.fault → c = (if a.halfA.fault then hb.candidate t else ha.candidate t) →
        b.agreed = false ∧ (∀ n < 8, nth b.outState n ≤ nth a.outState n) ∧
        (c = none ∨ a.allSafe = true → b.outState = a.outState ∧ b.stopCmd = a.stopCmd ∧ b.winner = a.winner) ∧
        (∀ f, c = some f → a.allSafe = false → b.winner = f.claim.toNat ∧ b.cmdCounter = f.counter.toNat ∧
          b.safeMode = f.safeMode.toNat ∧ b.stopCmd = (bitOf f.control.toNat 0 && a.stopCmd))) ∧
      (∀ n < 3, nthB b.claimed n = ((allLanes.map fun k => ha.claimsNow t k && hb.claimsNow t k).getD n false)) ∧
      (∀ h : ArbHalf, h = (if b.evalCount % 2 = 0 then .halfA else .halfB) →
        ((b.half h).fault = false → b.status = some b.statusFrame) ∧ ((b.half h).fault = true → b.status = a.status)) ∧
      (a.halfA.fault = true → a.halfB.fault = true → b.agreed = false ∧ b.outState = a.outState ∧ b.stopCmd = a.stopCmd)

/-- Checks of the arbiter's outputs (R83, R87): a switch that stays high at a command to 0 or in its off-pulse, of half A at duty 255 and
of half B at any duty, in the slot of the cycle of 500 ms that is its own (a test that a command change cut is repeated in the next slot), an open load, an overcurrent and an
output that does not follow its duty hold the channel with their cause; otherwise the outputs are as they were.
Readings of the model: assumption log 11. -/
def Obligations.ArbiterOutputChecksHoldTheirChannel : Prop :=
  (∀ (s : State) (h : ArbHalf) (n : Fin 8) (t : Nat) (v w : Bool) (a : Arbiter) (slot cause : Nat), s.arb.powered = true → s.arb.Inv →
    a = s.arb.at_ t → slot = 2 * n + (match h with | .halfA => 0 | .halfB => 1) → cause = (match h with | .halfA => 3 | .halfB => 4) →
    (nth a.outState n = 0 → v = false → exec (.offPulseTest h n t v w) s = .next { s with arb := a }) ∧
    (nth a.outState n = 0 → v = true → ∃ b, exec (.offPulseTest h n t v w) s = .next { s with arb := b } ∧ a.HeldAt n cause b) ∧
    (nth a.outState n ≠ 0 → (a.now % 500000000 / 31250000 ≠ slot ∧ a.offPulse.getD slot none ≠ some (a.now / 31250000) ∨ h = .halfA ∧ nth a.outState n ≠ 255) →
      exec (.offPulseTest h n t v w) s = .next { s with arb := a }) ∧
    (nth a.outState n ≠ 0 → (h = .halfA → nth a.outState n = 255) →
      (a.now % 500000000 / 31250000 = slot ∨ a.offPulse.getD slot none = some (a.now / 31250000)) →
      (w = true → exec (.offPulseTest h n t v w) s = .next { s with arb := { a with offPulse := a.offPulse.set slot (some (a.now / 31250000 + 1)) } }) ∧
      (w = false → v = false →
        exec (.offPulseTest h n t v w) s = .next { s with arb := { a with offPulse := a.offPulse.set slot none } }) ∧
      (w = false → v = true → ∃ b, exec (.offPulseTest h n t v w) s = .next { s with arb := b } ∧
        ({ a with offPulse := a.offPulse.set slot none } : Arbiter).HeldAt n cause b))) ∧
  (∀ (s : State) (n : Fin 8) (i ms : Nat), s.arb.powered = true → s.arb.Inv →
    (nth s.arb.outState n = 255 → i < 30 → 10 ≤ ms →
      ∃ b, exec (.openLoad n i ms) s = .next { s with arb := b } ∧ s.arb.HeldAt n 1 b) ∧
    (nth s.arb.outState n ≠ 255 ∨ 30 ≤ i ∨ ms < 10 → exec (.openLoad n i ms) s = .next s) ∧
    (4500 < i ∧ 20 ≤ ms ∨ 12000 < i →
      ∃ b, exec (.overcurrent n i ms) s = .next { s with arb := b } ∧ s.arb.HeldAt n 2 b) ∧
    (i ≤ 12000 → i ≤ 4500 ∨ ms < 20 → exec (.overcurrent n i ms) s = .next s) ∧
    (∀ m : BitVec 8, (nth s.arb.outState n + 4 < m.toNat ∨ m.toNat + 4 < nth s.arb.outState n) → 10 ≤ ms →
      ∃ b, exec (.outputNotFollowingDuty n m ms) s = .next { s with arb := b } ∧ s.arb.HeldAt n 6 b) ∧
    (∀ m : BitVec 8, m.toNat ≤ nth s.arb.outState n + 4 ∧ nth s.arb.outState n ≤ m.toNat + 4 ∨ ms < 10 →
      exec (.outputNotFollowingDuty n m ms) s = .next s))

/-- What the lanes send to the arbiter and take from it (R75 to R78, R81, R87 to R89): the claim frame with a counter that
advances and claim 0 without a claim; a healthy window raises TENURE, 63 only for the winner; a status frame with its CRC
gives the winner and the outputs, another is counted; 0 requests the clear of a held output and ends the exclusions of its feedback; a
feedback compared against the
other lanes' by majority. Eviction and gate power (R53 to R58). A line shows in GD_STAT; both lines together, neither
answered by an own line, cut the gate power once: every stage off, the count of the Sump up to 3; re-arming needs a power-on
and both lines idle, and every stage needs its diagnostics again; a latched short goes once the terminal voltage has been
low for 10 ms.
Readings of the model: assumption log 12, 14, 86. -/
def Obligations.LanesClaimAndEvictionLinesCutPower : Prop :=
  (∀ (s : State) (l : LaneId) (t : Nat) (x : Lane), Sees s l t x →
    (x.up = false → exec (.claimFrameSend l t) s = .next (s.setLane l x)) ∧
    (x.up = true → ∃ y f, exec (.claimFrameSend l t) s = .next (s.setLane l y) ∧ y.claim = { x.claim with
          counter := f.counter.toNat, last := some f, winHealthy := y.claim.winHealthy } ∧
        f.source = BitVec.ofNat 8 (laneNo l) ∧ f.counter = BitVec.ofNat 16 (x.claim.counter + 1) ∧
        (x.claim.claiming = false ∨ x.gateCut = true → f.claim = 0) ∧
        (x.claim.claiming = true → x.gateCut = false →
          f.claim = BitVec.ofNat 16 (256 * x.score l + 4 * x.claim.tenure + laneNo l)) ∧
        (y.claim.winHealthy = true ↔ x.claim.winHealthy = true ∧ x.claim.claiming = true ∧ bitOf (x.score l) 7 = true) ∧
        (x.upd.answerDue = true → f.claim = 0 → y.upd.answerDue = false) ∧
        (x.upd.answerDue = false ∨ f.claim ≠ 0 → CountedBy O.claimFrames 1 x y ∧ ObjsKept [O.claimFrames.key] x y ∧
          y = { x with claim := y.claim, objs := y.objs })) ∧
    (t % 100000000 ≠ 0 → exec (.claimWindowEnd l t) s = .next (s.setLane l x)) ∧
    (t % 100000000 = 0 → ∃ y, exec (.claimWindowEnd l t) s = .next (s.setLane l y) ∧ y = { x with claim := { x.claim with
        tenure := y.claim.tenure, winHealthy := x.claim.claiming } } ∧
      (x.claim.claiming = true → x.claim.winHealthy = true → x.claim.winner = true → y.claim.tenure = min (x.claim.tenure + 1) 63) ∧
      (x.claim.claiming = true → x.claim.winHealthy = true → x.claim.winner = false →
        y.claim.tenure = min (x.claim.tenure + 1) 62) ∧
      (x.claim.claiming = false ∨ x.claim.winHealthy = false → y.claim.tenure = 0)) ∧
    (∀ (f : StatusFrame) (c : BitVec 16),
      (c ≠ crc16 (statusBytes f) → exec (.arbiterStatusFrame l t f c) s = .next (s.setLane l (x.inc O.statusErrors))) ∧
      (c = crc16 (statusBytes f) → ∃ y, exec (.arbiterStatusFrame l t f c) s = .next (s.setLane l y) ∧
        y.obj O.arbWinner = f.winner.toNat ∧ y.obj O.arbFlags = f.arbFlags.toNat ∧ y.obj O.arbDisregard = f.disregard.toNat ∧
        y.obj O.arbStopState = f.stopState.toNat ∧ (∀ n < 8, y.obj (O.outStateObj n) = (f.outState.getD n 0).toNat ∧
          y.obj (O.outFault n) = bits f.chanCause.toNat (4 * (7 - n)) 4) ∧
        (y.claim.winner = true ↔ f.winner ≠ 0 ∧ bits f.winner.toNat 0 2 = laneNo l) ∧
        y.claim.tenure = (if y.claim.winner then x.claim.tenure else min x.claim.tenure 62) ∧
        (bitOf f.arbFlags.toNat 4 = true → y.obj O.arbDisagreements = x.obj O.arbDisagreements) ∧
        (bitOf f.arbFlags.toNat 4 = false → CountedBy O.arbDisagreements 1 x y) ∧
        ObjsKept ([O.arbWinner.key, O.arbFlags.key, O.arbDisregard.key, O.arbStopState.key, O.arbDisagreements.key, O.wins.key] ++
          (List.range 8).map (fun n => (O.outStateObj n).key) ++ (List.range 8).map (fun n => (O.outFault n).key)) x y ∧
        y = { x with claim := y.claim, objs := y.objs })) ∧
    (∀ (n : Fin 8) (v : BitVec 8), (v ≠ 0 → exec (.outFaultClear l n v t) s = .next (s.setLane l x)) ∧
      (v = 0 → ∃ y, exec (.outFaultClear l n v t) s = .next (s.setLane l y) ∧ y = { x with claim := { x.claim with
          chanClear := x.claim.chanClear.set n true, chanHold := x.claim.chanHold.set n false, fbRun := y.claim.fbRun, fbOut := y.claim.fbOut } } ∧
        (∀ i, (i < 3 * n.val ∨ 3 * n.val + 3 ≤ i) → nth y.claim.fbRun i = nth x.claim.fbRun i ∧ nthB y.claim.fbOut i = nthB x.claim.fbOut i) ∧
        ∀ i, 3 * n.val ≤ i → i < 3 * n.val + 3 → nth y.claim.fbRun i = 0 ∧ nthB y.claim.fbOut i = false)) ∧
    (∀ n : Fin 8, x.claim.claiming = false ∨ x.fbWaited n = false →
      exec (.contactorFeedbackCompare l n t) s = .next (s.setLane l x)) ∧
    (∀ (n : Fin 8) (rs : List (Nat × Bool)) (bad : Nat), x.claim.claiming = true → x.fbWaited n = true →
      x.claim.fbRun.length = 24 → x.claim.fbOut.length = 24 → rs = x.fbReadings l n → bad = (rs.filter fun r => r.2).length →
      ∃ y, exec (.contactorFeedbackCompare l n t) s = .next (s.setLane l y) ∧ y = { x with claim := { x.claim with
          fbRun := y.claim.fbRun, fbOut := y.claim.fbOut, fbEvents := y.claim.fbEvents, chanHold := y.claim.chanHold } } ∧
        y.claim.fbEvents = x.claim.fbEvents + (if 3 ≤ nth y.claim.fbRun (3 * n + laneNo l - 1) then 1 else 0) ∧
        (∀ i, (i < 3 * n.val ∨ 3 * n.val + 3 ≤ i) → nth y.claim.fbRun i = nth x.claim.fbRun i ∧ nthB y.claim.fbOut i = nthB x.claim.fbOut i) ∧
        y.claim.chanHold = (if rs.length < 2 * bad ∧ x.claim.winner = true then x.claim.chanHold.set n true else x.claim.chanHold) ∧
        (∀ (ln : Nat) (b : Bool), 1 ≤ ln → ln ≤ 3 → 3 ≤ rs.length → (ln, b) ∈ rs → (b = true ∧ bad = 1 ∨ b = false ∧ bad = 2) →
          nth y.claim.fbRun (3 * n + ln - 1) = nth x.claim.fbRun (3 * n + ln - 1) + 1 ∧
          nthB y.claim.fbOut (3 * n + ln - 1) = (nthB x.claim.fbOut (3 * n + ln - 1) || decide (3 ≤ nth y.claim.fbRun (3 * n + ln - 1)))) ∧
        (∀ (ln : Nat) (b : Bool), 1 ≤ ln → ln ≤ 3 → (ln, b) ∈ rs → (b = true ∧ bad ≠ 1 ∨ b = false ∧ bad + 1 ≠ rs.length) →
          nth y.claim.fbRun (3 * n + ln - 1) = 0) ∧
        (rs.length < 3 → ∀ ln, 1 ≤ ln → ln ≤ 3 → nth y.claim.fbRun (3 * n + ln - 1) = 0))) ∧
  (∀ (s : State) (l : LaneId) (t : Nat) (x : Lane), Sees s l t x →
    (∀ (p : Peer) (v : Bool), ∃ y, exec (.evictionLine l p v t) s = .next (s.setLane l y) ∧
      y.peer p = { x.peer p with lineIn := v } ∧ y.peer (otherPeer p) = x.peer (otherPeer p) ∧
      y.rbit Rg.gdStat (1 + peerIx p) = v ∧ RegsKept [Rg.gdStat.addr] x y ∧
      y = { x with peerLo := y.peerLo, peerHi := y.peerHi, regs := y.regs }) ∧
    (∀ v : Bool, x.lineCounts .lo = false ∨ x.lineCounts .hi = false ∨ x.gateCut = true →
      exec (.gatePowerLatch l t v) s = .next (s.setLane l (x.seeTerminals v))) ∧
    (∀ v : Bool, x.lineCounts .lo = true → x.lineCounts .hi = true → x.gateCut = false →
      ∃ y, exec (.gatePowerLatch l t v) s = .next (s.setLane l y) ∧ y.gateCut = true ∧ y.fld Rg.gdCtl 0 9 = 0 ∧
        y.fld Rg.sumpEvict 0 2 = min (x.fld Rg.sumpEvict 0 2 + 1) 3 ∧ (x.obj O.gpwrCuts + 1 < 2 ^ 16 →
          y.obj O.gpwrCuts = x.obj O.gpwrCuts + 1) ∧ y.steer.driving = false ∧ (∀ n : Fin 8, y.brakes[n].driving = false) ∧
        (∀ p, (y.peer p).lineOut = false) ∧ y.gate = { x.gate with emfHigh := v, emfAt := x.now, porSince := false } ∧
        (x.drive.firstClass = 0 ∨ x.drive.firstClass = 1 → y.drive = { x.drive with firstClass := 1 } ∧ y.coll = x.coll ∧
          y = { x with drive := y.drive, objs := y.objs, regs := y.regs, gate := y.gate, steer := y.steer, brakes := y.brakes,
                       peerLo := y.peerLo, peerHi := y.peerHi }) ∧ ObjsKept [O.gpwrCuts.key] x y ∧
        RegsKept [Rg.gdStat.addr, Rg.gdCtl.addr, Rg.sumpEvict.addr] x y) ∧
    (∀ t0 : Nat, x.gate.emfLowSince = some t0 → t0 + 10000000 ≤ x.now → x.gateCut = false →
      exec (.shortRelease l t) s = .next (s.setLane l (x.setRbit Rg.gdStat 12 false))) ∧
    ((∀ t0, x.gate.emfLowSince = some t0 → x.now < t0 + 10000000) ∨ x.gateCut = true → exec (.shortRelease l t) s = .next (s.setLane l x)) ∧
    (x.gate.porSince = true → x.peerLo.lineIn = false → x.peerHi.lineIn = false →
      ∃ y, exec (.rearm l t) s = .next (s.setLane l y) ∧ y.gateCut = false ∧ y.rbit Rg.gdStat 14 = false ∧
        DiagRuns x (fun st => { x.stg st with diag := if (x.stg st).diag = .failed then .failed else .due }) y ∧
        RegsKept [Rg.gdStat.addr] x y ∧ y = { x with regs := y.regs, steer := y.steer, brakes := y.brakes }) ∧
    (x.gate.porSince = false ∨ x.peerLo.lineIn = true ∨ x.peerHi.lineIn = true →
      exec (.rearm l t) s = .next (s.setLane l (x.inc O.rearmRefused))))

/-- Load groups (R231 to R242, R246). A commit is judged with E1 run up to its counter value: with part of its set written it is SPLIT,
of a period out of range, or of the steering stage at which the frame schedule does not fit or while it drives, PERCHG, beside an E1
commit COLLIDE; an accepted set waits for the update point it meets or the one after, LATE; one that comes in the tick of the mid-period point waits for the
boundary. A boundary or a mid-period point makes the
waiting set active, each duty clamped; after an overburden it transfers the speculative set as a fallback, or holds, and a late set waits
for the next point. A cancel and a fall of EN discard the sets; a rise starts the counter at 0, and no stage of a lane that has not
started. Readings of the model: assumption log 27, 118. -/
def Obligations.LoadGroupsCommitAndTransfer : Prop :=
  (∀ (s : State) (l : LaneId) (st : Stage) (n : Nat) (withE1 : Bool) (at_ : Nat) (w x : Lane) (collides part refused : Prop)
      (nextMid ok held : Bool), (s.lane l).powered = true →
    at_ = ((s.lane l).stg st).reloadAt + 4 * n → w = (s.lane l).e1Until at_ → x = w.settle st at_ →
    (collides ↔ withE1 = true ∨ ∃ e set, (w.stg st).coming = some (e, set) ∧ w.countAt st e = n) →
    (part ↔ x.rbit (Rg.pwmCtl st) 2 = true ∧ x.fld (Rg.pwmLgctl st) 2 4 ≠ 0 ∧ x.fld (Rg.pwmLgctl st) 2 4 ≠ 15) →
    (refused ↔ periodOk st (x.shadow st).per = false ∨ st = .steer ∧ (x.shadow st).per ≠ x.per st ∧
      (x.steer.driving = true ∨ scheduleFits x.activeBank (x.shadow st).per = false)) →
    nextMid = (x.rbit (Rg.pwmCtl st) 1 && decide (n < x.per st / 2)) →
    ok = decide (n + 8 ≤ if nextMid then x.per st / 2 else x.per st) →
    held = (x.rbit (Rg.pwmCtl st) 1 && decide (n = x.per st / 2) && !(x.stg st).pastMid) →
    ∃ y, exec (.lgCommit l st n withE1) s = .next (s.setLane l y) ∧ y.fld (Rg.pwmLgctl st) 2 4 = 0 ∧
      (collides → y.rbit (Rg.pwmStat st) 10 = true ∧ CountedBy (collidesObj st) 1 x y ∧ ObjsKept [(collidesObj st).key] x y ∧
        RegsKept [(Rg.pwmLgctl st).addr, (Rg.pwmStat st).addr] x y ∧ y = { x with objs := y.objs, regs := y.regs }) ∧
      (¬ collides → part → y.rbit (Rg.pwmStat st) 0 = true ∧ CountedBy (splitsObj st) 1 x y ∧ ObjsKept [(splitsObj st).key] x y ∧
        RegsKept [(Rg.pwmLgctl st).addr, (Rg.pwmStat st).addr] x y ∧ y = { x with objs := y.objs, regs := y.regs }) ∧
      (¬ collides → ¬ part → refused → y.rbit (Rg.pwmStat st) 5 = true ∧ (st = .steer → CountedBy O.steerPerchg 1 x y) ∧
        ObjsKept (if st = .steer then [O.steerPerchg.key] else []) x y ∧
        RegsKept [(Rg.pwmLgctl st).addr, (Rg.pwmStat st).addr] x y ∧ y = { x with objs := y.objs, regs := y.regs }) ∧
      (¬ collides → ¬ part → ¬ refused →
        y.stg st = (if ok && !held then { x.stg st with pendNow := some (x.shadow st) } else { x.stg st with pendNext := some (x.shadow st) }) ∧
        y.fld (Rg.pwmClat st) 0 16 = n % 65536 ∧ y.rbit (Rg.pwmClat st) 16 = !ok ∧
        y.rbit (Rg.pwmClat st) 17 = (if ok then nextMid else !nextMid && x.rbit (Rg.pwmCtl st) 1) ∧
        y.rbit (Rg.pwmStat st) 4 = (!ok || x.rbit (Rg.pwmStat st) 4) ∧ (∀ o, o ≠ st → y.stg o = x.stg o) ∧
        RegsKept [(Rg.pwmLgctl st).addr, (Rg.pwmStat st).addr, (Rg.pwmClat st).addr] x y ∧
        y = { x with steer := y.steer, brakes := y.brakes, regs := y.regs })) ∧
  (∀ (s : State) (l : LaneId) (st : Stage) (x z : Lane), Has s l x → z = (x.e1Until x.now).settle st x.now →
    exec (.lgCancel l st) s = .next (s.setLane l (z.setStg st { z.stg st with pendNow := none, pendNext := none }))) ∧
  (∀ (s : State) (l : LaneId) (st : Stage) (t : Nat) (x z : Lane), FindsE1 s l t x → z = x.settle st x.now →
    (x.rbit (Rg.pwmCtl st) 0 = false ∨ x.rbit (Rg.pwmCtl st) 1 = false →
      exec (.midPeriodPoint l st t) s = .next (s.setLane l x)) ∧
    (x.rbit (Rg.pwmCtl st) 0 = true → x.rbit (Rg.pwmCtl st) 1 = true →
      ∃ y, exec (.midPeriodPoint l st t) s = .next (s.setLane l y) ∧ (y.stg st).pendNext = none ∧ (∀ o, o ≠ st → y.stg o = z.stg o) ∧
        (y.stg st).atPoint = none ∧ y.rbit (Rg.pwmStat st) 2 = decide ((z.stg st).atPoint = some none) ∧
        y.rbit (Rg.pwmStat st) 3 = ((z.stg st).atPoint.isSome && decide ((z.stg st).atPoint ≠ some none)) ∧
        y = { z with steer := y.steer, brakes := y.brakes, regs := y.regs, objs := y.objs } ∧
        ((z.stg st).atPoint = none → (z.stg st).pendNow = none → (y.stg st).pendNow = (z.stg st).pendNext ∧ y.objs = z.objs ∧
          RegsKept [(Rg.pwmStat st).addr, Rg.mxStat.addr] z y) ∧
        (∀ set, (z.stg st).atPoint = none → (z.stg st).pendNow = some set → set.per ≠ z.per st →
          (y.stg st).pendNow = some ((z.stg st).pendNext.getD set) ∧ y.objs = z.objs ∧ RegsKept [(Rg.pwmStat st).addr, Rg.mxStat.addr] z y) ∧
        (∀ set, (z.stg st).atPoint = none → (z.stg st).pendNow = some set → set.per = z.per st →
          (y.stg st).pendNow = (z.stg st).pendNext ∧ ∀ i d, i < 3 → set.duty[i]? = some d →
            y.reg (Rg.pwmDutyAct st i) = (clampDuty (z.rbit (Rg.pwmCtl st) 3) (window st) set.per d).1 ∧
            (y.stg st).fall[i]? = some (midLeg (set.per / 2) (nth (z.stg st).fall i) (nth (z.stg st).limit i)
              (dEff (z.rbit (Rg.pwmCtl st) 4 && !limited (nth (z.stg st).limit i)) (z.fld (Rg.pwmCnt st) 16 4)
                (y.reg (Rg.pwmDutyAct st i))))) ∧
        ((z.stg st).atPoint = some none → (y.stg st).pendNow = ((z.stg st).pendNext.orElse fun _ => (z.stg st).pendNow) ∧
          (∀ i < 3, y.reg (Rg.pwmDutyAct st i) = z.reg (Rg.pwmDutyAct st i)) ∧ CountedBy (O.holds (stageLoop st)) 1 z y ∧
          ObjsKept [(O.holds (stageLoop st)).key] z y) ∧
        (∀ u, (z.stg st).atPoint = some (some u) →
          (y.stg st).pendNow = ((z.stg st).pendNext.orElse fun _ => (z.stg st).pendNow) ∧ CountedBy (O.fallbacks (stageLoop st)) 1 z y ∧
          ∀ i < 3, y.reg (Rg.pwmDutyAct st i) = (clampDuty (z.rbit (Rg.pwmCtl st) 3) (window st) (z.per st)
            (duty16 (z.per st) (z.fld (Rg.pwmVConv st) 0 16) (nth u i)).1).1))) ∧
  (∀ (s : State) (l : LaneId) (st : Stage) (t : Nat) (w x : Lane) (a per : Nat), FindsE1 s l t w → x = w.settle st w.now →
    a = x.smp.reloadAt + 4 * x.fld (Rg.pwmPhase st) 0 16 → per = 4 * x.per .steer →
    (∀ en : Bool, en = x.rbit (Rg.pwmCtl st) 0 ∨ en = true ∧ x.started = false →
      exec (.pwmEn l st en t) s = .next (s.setLane l x)) ∧
    (x.rbit (Rg.pwmCtl st) 0 = false → x.started = true → ∃ y, exec (.pwmEn l st true t) s = .next (s.setLane l y) ∧
      y.rbit (Rg.pwmCtl st) 0 = true ∧ y.reg (Rg.pwmCnt st) = 0 ∧ (∀ i < 3, y.reg (Rg.pwmDutyAct st i) = 0) ∧
      y.stg st = { x.stg st with
        coming := none, atPoint := none, pendNow := none, pendNext := none, fall := [0, 0, 0], limit := [0xFFFFF, 0xFFFFF, 0xFFFFF],
        pastMid := false,
        reloadAt := if st = .steer then x.now else if x.now ≤ a then a else a + (x.now - a + per - 1) / per * per } ∧
      (∀ o, o ≠ st → y.stg o = x.stg o) ∧
      RegsKept [(Rg.pwmCtl st).addr, (Rg.pwmCnt st).addr, (Rg.pwmDutyAct st 0).addr, (Rg.pwmDutyAct st 1).addr,
        (Rg.pwmDutyAct st 2).addr] x y ∧ y = { x with steer := y.steer, brakes := y.brakes, regs := y.regs }) ∧
    (x.rbit (Rg.pwmCtl st) 0 = true → ∃ y, exec (.pwmEn l st false t) s = .next (s.setLane l y) ∧ y.rbit (Rg.pwmCtl st) 0 = false ∧
      (∀ g, g = { x.stg st with coming := none, atPoint := none, pendNow := none, pendNext := none, fall := [0, 0, 0] } →
        ((x.stg st).softFrom = none ∨ x.tripped st = false →
          y.stg st = { g with driving := false, gate := if (x.stg st).softRuns x.now then g.gate else .off }) ∧
        ((x.stg st).softFrom.isSome = true → x.tripped st = true → y.stg st = g)) ∧
      (∀ o, o ≠ st → y.stg o = x.stg o) ∧ RegsKept [(Rg.pwmCtl st).addr, Rg.gdStat.addr] x y ∧
      y = { x with steer := y.steer, brakes := y.brakes, regs := y.regs })) ∧
  (∀ (s : State) (l : LaneId) (n : Fin 8) (t : Nat) (x z : Lane) (g : StageSt), FindsE1 s l t x → z = x.settle (.brake n) x.now →
    g = z.brakes[n] →
    (x.rbit (Rg.pwmCtl (.brake n)) 0 = false → exec (.brakeBoundary l n t) s = .next (s.setLane l x)) ∧
    (x.rbit (Rg.pwmCtl (.brake n)) 0 = true → ∃ y, exec (.brakeBoundary l n t) s = .next (s.setLane l y) ∧
      y.brakes[n].driving = (g.driving || x.mayBrake l n) ∧ y.brakes[n].reloadAt = x.now ∧
      y.brakes[n].gate = (if y.brakes[n].driving then .driven else .off) ∧
      y.brakes[n].perRecs = [] ∧ y.brakes[n].pendNext = none ∧ y.brakes[n].perReq = none ∧ y.brakes[n].atPoint = none ∧
      y.brakes[n].periods = g.periods + 1 ∧
      y.fld (Rg.pwmCnt (.brake n)) 16 4 = (x.fld (Rg.pwmCnt (.brake n)) 16 4 + 1) % 16 ∧
      y.rbit (Rg.pwmStat (.brake n)) 2 = decide (g.atPoint = some none) ∧
      y.rbit (Rg.pwmStat (.brake n)) 3 = (g.atPoint.isSome && decide (g.atPoint ≠ some none)) ∧
      (g.atPoint = none → y.brakes[n].pendNow = g.pendNext) ∧
      (g.atPoint.isSome = true → y.brakes[n].pendNow = (g.pendNext.orElse fun _ => g.pendNow)) ∧
      (g.atPoint = none → g.pendNow = none → g.perReq = none → y.per (.brake n) = x.per (.brake n) ∧ ∀ i < 3,
        y.reg (Rg.pwmDutyAct (.brake n) i) = x.reg (Rg.pwmDutyAct (.brake n) i)) ∧
      (∀ set p i d, g.atPoint = none → g.pendNow = some set → p = g.perReq.getD set.per → i < 3 → set.duty[i]? = some d →
        y.reg (Rg.pwmDutyAct (.brake n) i) = (clampDuty (x.rbit (Rg.pwmCtl (.brake n)) 3) 100 p d).1 % 2 ^ 32 ∧
        y.per (.brake n) = p % 2 ^ 16) ∧
      (∀ p i, g.atPoint = none → g.pendNow = none → g.perReq = some p → i < 3 → y.per (.brake n) = p % 2 ^ 16 ∧
        y.reg (Rg.pwmDutyAct (.brake n) i)
          = (clampDuty (x.rbit (Rg.pwmCtl (.brake n)) 3) 100 p (x.reg (Rg.pwmDutyAct (.brake n) i))).1 % 2 ^ 32) ∧
      (g.atPoint = some none → CountedBy (O.holds (stageLoop (.brake n))) 1 x y) ∧
      (∀ u, g.atPoint = some (some u) → CountedBy (O.fallbacks (stageLoop (.brake n))) 1 x y ∧ (g.perReq = none → ∀ i < 3,
        y.reg (Rg.pwmDutyAct (.brake n) i) = (clampDuty (x.rbit (Rg.pwmCtl (.brake n)) 3) 100 (x.per (.brake n))
            (duty16 (x.per (.brake n)) (x.fld (Rg.pwmVConv (.brake n)) 0 16) (nth u i)).1).1)) ∧
      (∀ o, o ≠ .brake n → y.stg o = x.stg o) ∧ y = { x with brakes := y.brakes, regs := y.regs, objs := y.objs }))

/-- Edge records and spent reserves (R97 to R99, R107, R61, R114, R219). While the edge timers run, an edge leaves its record in
the open buffer and ends the leg's truncation mark: SOFT and HARD by the complementary turn-on command, OVLP in the capture window of
another leg's crossing; a record in whose window its own leg crosses again loses VALID. A probe leaves a probe record. A full buffer loses
the record, with flag and count; a reserve or budget that is spent reads 0.
Readings of the model: assumption log 88, 111, 112. -/
def Obligations.EdgesAreRecordedAndReservesSpent : Prop :=
  (∀ (s : State) (l : LaneId) (st : Stage) (e : EdgeIn) (x z : Lane), Has s l x →
    z = (if st = .steer ∧ 1 < e.gateHold then x.inc O.steerGateWaits else x) →
    (x.rbit Rg.etCtl 0 = false → exec (.edgeCrossing l st e) s = .next (s.setLane l z)) ∧
    (x.rbit Rg.etCtl 0 = true → ∀ (r : EdgeRec) (g : StageSt) (w c len : Nat) (met : Nat → List EdgeRec → List EdgeRec),
      w = 8 * window st → c = e.cross % 2 ^ 19 → len = 2 * (x.smp.reloadAt - x.smp.prevReload) →
      (∀ b rs, met b rs = rs.map fun q => if q.probe = true ∨ b < q.tCross ∨ q.tCross + w ≤ b then q
        else if q.leg = legIx e.leg then { q with valid := false } else { q with ovlp := true }) →
      r = { tCross := c, leg := legIx e.leg, rise := e.rise, valid := true, probe := false, plim := nthB (x.stg st).plim (legIx e.leg),
            soft := (match e.onCmd with | some k => decide (e.cross + 20 ≤ k) | none => true),
            hard := (match e.onCmd with | some k => decide (k < e.cross) | none => false),
            ovlp := ((x.stg st).openRecs.any fun q => !q.probe && decide (q.tCross ≤ c) && decide (c < q.tCross + w) &&
                decide (q.leg ≠ legIx e.leg)) ||
              ((x.stg st).latched.any fun q => !q.probe && decide (q.tCross ≤ c + len) && decide (c + len < q.tCross + w) &&
                decide (q.leg ≠ legIx e.leg)),
            scree := x.fld (Rg.pwmCnt st) 16 4, tSlew := min e.slew 0xFFF, tCmd := e.cmdTick % 65536 } →
      g = { x.stg st with
            plim := (x.stg st).plim.set (legIx e.leg) false, latched := met (c + len) (x.stg st).latched,
            perRecs := met c (x.stg st).perRecs ++ [r], openRecs := met c (x.stg st).openRecs } →
      ((x.stg st).openRecs.length < bufferSize st → exec (.edgeCrossing l st e) s = .next (s.setLane l (z.setStg st
        { g with openRecs := g.openRecs ++ [r] }))) ∧
      (bufferSize st ≤ (x.stg st).openRecs.length → exec (.edgeCrossing l st e) s = .next (s.setLane l (((z.setStg st g).setRbit
          Rg.etStat (stageIx st) true).inc O.etOverflows))))) ∧
  (∀ (s : State) (l : LaneId) (sw : Switch) (c k : Nat) (x : Lane), Has s l x →
    (x.rbit Rg.etCtl 0 = false ∨ x.rbit Rg.etCtl 2 = false ∨ x.probeRef (switchIx sw) = 0 →
      exec (.probeTrip l sw c k) s = .next (s.setLane l x)) ∧
    (x.rbit Rg.etCtl 0 = true → x.rbit Rg.etCtl 2 = true → x.probeRef (switchIx sw) ≠ 0 → x.steer.openRecs.length < bufferSize .steer →
      ∃ y r, exec (.probeTrip l sw c k) s = .next (s.setLane l y) ∧ y.steer.openRecs = x.steer.openRecs ++ [r] ∧
        r.probe = true ∧ r.leg = legIx sw.leg ∧ r.rise = sw.high ∧ r.tCross = c % 2 ^ 19 ∧ r.tCmd = k % 65536 ∧
        r.valid = false ∧ y.drive = { x.drive with limFlags := x.drive.limFlags ||| 64 * 2 ^ switchIx sw } ∧
        y = { x with steer := y.steer, drive := y.drive }) ∧
    (x.rbit Rg.etCtl 0 = true → x.rbit Rg.etCtl 2 = true → x.probeRef (switchIx sw) ≠ 0 → bufferSize .steer ≤ x.steer.openRecs.length →
      ∃ y, exec (.probeTrip l sw c k) s = .next (s.setLane l y) ∧ y.steer.openRecs = x.steer.openRecs ∧ y.rbit Rg.etStat 0 = true ∧
        CountedBy O.etOverflows 1 x y ∧ ObjsKept [O.etOverflows.key] x y ∧ RegsKept [Rg.etStat.addr] x y ∧
        y.drive = { x.drive with limFlags := x.drive.limFlags ||| 64 * 2 ^ switchIx sw } ∧
        y = { x with steer := { x.steer with perRecs := y.steer.perRecs }, drive := y.drive, objs := y.objs, regs := y.regs })) ∧
  (∀ (s : State) (l : LaneId) (t : Nat) (x : Lane), Sees s l t x →
    (∃ y, exec (.overdriveBudgetSpent l t) s = .next (s.setLane l y) ∧ y.obj O.odBudgetOwn = 0 ∧ y.drive.budgetNs = 0 ∧
      y.drive.odInForce = (x.drive.odInForce && decide (x.steerCount = 1)) ∧ ObjsKept [O.odBudgetOwn.key] x y ∧
      y = { x with objs := y.objs, drive := { x.drive with budgetNs := 0, odInForce := y.drive.odInForce } }) ∧
    (exec (.peakReserveSpent l t) s
      = .next (s.setLane l (({ x with drive := { x.drive with reserveNs := 0 } }).setObj O.peakReserve 0))) ∧
    (∀ n : Fin 8, x.nDrives ≤ n.val → exec (.brakePeakReserveSpent l n t) s = .next (s.setLane l x)) ∧
    (∀ n : Fin 8, n.val < x.nDrives → ∃ y, exec (.brakePeakReserveSpent l n t) s = .next (s.setLane l y) ∧ y.obj (O.bdPeakReserve n) = 0 ∧
      y.bd n = { x.bd n with reserveNs := 0 } ∧ ObjsKept [(O.bdPeakReserve n).key] x y ∧ y = { x with objs := y.objs, brk := y.brk }))

/-- The loss of the rotor and its re-lock (R161 to R173, R176). Of a sample without a commit of its own only the link power of the sample
before is taken, and not during a re-lock. The angles of a judged sample's frames are compared once. The third innovation in a row of the
angle channel above its bound, or the eighth sample in a row in which the own angle alone disagrees, is a loss: the re-lock begins, the torque share goes to 0, the sample's windows are discarded.
The eighth within the bound of the re-lock, of samples whose slots carry the substitute, ends it; one not complete after 1 ms is an error.
A checked channel over its limit for the set number of samples is source 0x18.
Readings of the model: assumption log 26. -/
def Obligations.SupervisionFindsTheLossOfTheRotor : Prop :=
  (∀ (s : State) (l : LaneId) (t : Nat) (x : Lane) (e : Nat), FindsE1 s l t x → e = (x.innov (x.obj O.supChAngle)).natAbs →
    ((x.loop 0).fresh = false → x.spv.state = 1 → exec (.supervisionRun l t) s = .next (s.setLane l (x.angleAgreement l))) ∧
    ((x.loop 0).fresh = false → x.spv.state ≠ 1 → exec (.supervisionRun l t) s = .next (s.setLane l (x.angleAgreement l).linkCheck)) ∧
    (x.spv.last = none → x.linkCheck = x) ∧
    ((x.loop 0).fresh = true → ∃ y, exec (.supervisionRun l t) s = .next (s.setLane l y) ∧ (y.loop 0).fresh = false ∧
      (x.spv.state = 1 ∨ y.spv.state = 1 → y.spv.last = none ∧ y.coll = x.coll) ∧
      (x.spv.state ≠ 1 → y.spv.state ≠ 1 → y.spv.last.map (fun p => p.no) = some x.smp.no) ∧
      (24 ≤ x.obj O.supChAngle → x.anglesDue l = false → y.spv.state = x.spv.state ∧ y.spv.lossRun = x.spv.lossRun ∧
        y.spv.minorRun = x.spv.minorRun) ∧
      (24 ≤ x.obj O.supChAngle → x.spv.state ≠ 1 → (x.angleAgreement l).spv.state = 1 →
        y.spv.state = 1 ∧ y.spv.lossAt = x.now ∧ y.obj O.supState = 1 ∧ y.obj O.lossCauseLast = 2 ∧ y.obj O.torqueShareObj = 0 ∧
        y.slot 29 = 0 ∧ CountedBy O.rotorLosses 1 x y ∧ CountedBy O.angleDisagree 1 x y) ∧
      (x.usableAngles l = [] → x.obj O.supChAngle < 24 →
        (0x0AAAAAAB < e → x.spv.lossRun = 2 → x.spv.state ≠ 1 → y.spv.state = 1 ∧ y.spv.lossAt = x.now ∧
          y.spv.relockRun = 0 ∧ y.obj O.supState = 1 ∧ y.obj O.lossCauseLast = 1 ∧ y.obj O.torqueShareObj = 0 ∧ y.slot 29 = 0 ∧
          CountedBy O.rotorLosses 1 x y) ∧
        (e ≤ 0x0AAAAAAB → x.spv.state = 0 → y.spv.state = 0 ∧ y.spv.lossRun = 0 ∧ y.obj O.rotorLosses = x.obj O.rotorLosses) ∧
        (e ≤ 0x038E38E4 → x.spv.state = 1 → x.spv.carried = true → x.spv.relockRun = 7 → y.spv.state = 2 ∧ y.obj O.supState = 2 ∧
          y.obj O.relockTimeLast = min ((x.now - x.spv.lossAt) / 1000) 0xFFFF) ∧
        (e ≤ 0x0AAAAAAB → x.spv.state = 1 → x.spv.carried = false ∨ 0x038E38E4 < e → y.spv.state = 1 ∧ y.spv.relockRun = 0) ∧
        (∀ c < 24, e ≤ 0x0AAAAAAB → x.spv.state = 0 → x.checkedCh c = true → x.obj (O.supInnovLim c) < (x.innov c).natAbs →
          x.obj O.supInnovN ≤ nth x.spv.innRun c + 1 → bitOf (y.coll.spall 0x18).flags 0 = true ∧ y.Stopped)))) ∧
  (∀ (l : LaneId) (x : Lane) (n : Nat), ((∀ p a f us, x.usableAngles l = (p, a, f) :: us → n = f.sampleNo.toNat) ∧
      (x.usableAngles l = [] → x.smp.own.map (fun f : ExchFrame => f.sampleNo.toNat) = some n)) →
    (x.anglesDue l = true ↔ n ∈ (x.loop 0).commitNos ∧ x.spv.agreeNo ≠ some n) ∧
    (x.anglesDue l = false → x.angleAgreement l = x) ∧
    (x.anglesDue l = true → (x.angleAgreement l).spv.agreeNo = some n) ∧
    (x.anglesDue l = true → x.usableAngles l = [] → x.angleAgreement l = { x with spv := { x.spv with agreeNo := some n, minorRun := 0 } }) ∧
    (∀ (p q : Peer) (a b c : Nat) (f g o : ExchFrame) (y : Lane), x.usableAngles l = [(p, a, f), (q, b, g)] → y = x.angleAgreement l →
      x.anglesDue l = true → x.ownFrameOf f.sampleNo = some o → c = angleSet1 o.rotorAngle.toNat (laneNo l) (x.obj O.steerSetDisp) →
      x.anglesDiffer c a = true → x.anglesDiffer c b = true → x.anglesDiffer a b = false → CountedBy O.angleDisagree 1 x y ∧
      (x.spv.minorRun < 7 → y.spv = { x.spv with agreeNo := some n, minorRun := x.spv.minorRun + 1 }) ∧
      (x.spv.minorRun = 7 → x.spv.state ≠ 1 → y.spv.state = 1 ∧ y.spv.lossAt = x.now ∧ y.obj O.supState = 1 ∧
        y.obj O.lossCauseLast = 2 ∧ y.obj O.torqueShareObj = 0 ∧ y.slot 29 = 0 ∧ CountedBy O.rotorLosses 1 x y))) ∧
  ∀ (s : State) (l : LaneId) (t : Nat) (x : Lane), Sees s l t x →
    (x.spv.state = 1 → x.spv.lossAt + 1000000 ≤ x.now → ∃ y, exec (.relockTimeout l t) s = .next (s.setLane l y) ∧
      ErrorOf x 0x1D (min ((x.now - x.spv.lossAt) / 1000) 0xFFFF) y) ∧
    (x.spv.state ≠ 1 ∨ x.now < x.spv.lossAt + 1000000 → exec (.relockTimeout l t) s = .next (s.setLane l x))

/-- Stops and the energy of the brakes (R178 to R198). The hold of a lost host ends in a stop, the stop time of a simplex lane
makes its stop due, standstill completes a stop and parks; every 100 ms the trim follows the measured
deceleration within its bounds; a
BERM level ends after its time below, level 3 is error 0x17, which clears by itself where that is allowed.
Readings of the model: assumption log 21, 23. -/
def Obligations.StopsAndBrakeEnergyActAtTheirTimes : Prop :=
  ∀ (s : State) (l : LaneId) (t : Nat) (x : Lane), Sees s l t x →
    (x.obj O.hostState = 1 → x.shape.lostAt + 1000000 * x.obj O.hostLossHold ≤ x.now →
      exec (.hostLossHoldEnd l t) s
        = .next (s.setLane l (({ x with shape := { x.shape with holdEnd := x.now } }).setObj O.hostState 2))) ∧
    (x.obj O.hostState ≠ 1 ∨ x.now < x.shape.lostAt + 1000000 * x.obj O.hostLossHold →
      exec (.hostLossHoldEnd l t) s = .next (s.setLane l x)) ∧
    (∀ t0, x.claim.stopFrom = some t0 → exec (.simplexStopTimeEnd l t) s = .next (s.setLane l
      (if t0 + 1000000 * x.obj O.simplexStopTime ≤ x.now then { x with claim := { x.claim with stopDue := true } } else x))) ∧
    (x.claim.stopFrom = none → exec (.simplexStopTimeEnd l t) s = .next (s.setLane l x)) ∧
    (x.obj O.stopState = 1 → x.standstill = true → ∃ y, exec (.standstill l t) s = .next (s.setLane l y) ∧
      y.obj O.stopState = 2 ∧ CountedBy O.stopsCompleted 1 x y ∧ y.brk = { x.brk with
        parkOn := true, releasing := false, drv := x.brk.drv.map fun d => { d with unlockFailed := false },
        locksLo := x.brk.locksLo.map fun (k : LockSeen) => if k = .back then .locked else k,
        locksHi := x.brk.locksHi.map fun (k : LockSeen) => if k = .back then .locked else k } ∧
      y.shape = { x.shape with held := none } ∧
      ObjsKept [O.stopState.key, O.stopsCompleted.key] x y ∧ y = { x with objs := y.objs, brk := y.brk, shape := y.shape }) ∧
    (x.obj O.stopState ≠ 1 ∨ x.standstill = false → exec (.standstill l t) s = .next (s.setLane l x)) ∧
    (x.obj O.stopState ≠ 1 ∨ x.now < x.shape.trimAt + 100000000 → exec (.stopTrimUpdate l t) s = .next (s.setLane l x)) ∧
    (∀ v v0 dec am tr : Rat, x.obj O.stopState = 1 → x.shape.trimAt + 100000000 ≤ x.now → x.speedInput = some v →
      x.shape.prevSpeed = some v0 → dec = (x.obj O.stopDecelTarget : Rat) / 100 →
      am = (v0 - v) / 36 / (((x.now - x.shape.trimAt : Nat) : Rat) / 1000000000) →
      tr = (x.obj O.stopTrim : Rat) / 1000 * (1 + (dec - am) / dec / 4) →
      ∃ y, exec (.stopTrimUpdate l t) s = .next (s.setLane l y) ∧ y.shape = { x.shape with prevSpeed := some v, trimAt := x.now } ∧
        (y.obj O.stopTrim : Int) = roundRat (max (1 / 2) (min 2 tr) * 1000) ∧
        500 ≤ y.obj O.stopTrim ∧ y.obj O.stopTrim ≤ 2000 ∧ ObjsKept [O.stopTrim.key] x y ∧
        y = { x with objs := y.objs, shape := y.shape }) ∧
    (∀ v : Rat, x.obj O.stopState = 1 → x.shape.trimAt + 100000000 ≤ x.now → x.speedInput = some v → x.shape.prevSpeed = none →
      exec (.stopTrimUpdate l t) s = .next (s.setLane l { x with shape := { x.shape with prevSpeed := some v, trimAt := x.now } })) ∧
    (x.obj O.stopState = 1 → x.shape.trimAt + 100000000 ≤ x.now → x.speedInput = none →
      exec (.stopTrimUpdate l t) s = .next (s.setLane l { x with shape := { x.shape with prevSpeed := none, trimAt := x.now } })) ∧
    (∀ t0, x.shape.l1Below = some t0 → t0 + 1000000 * x.obj O.bermExitTime ≤ x.now →
      ∃ y, exec (.bermExit l false t) s = .next (s.setLane l y) ∧ y.shape = { x.shape with l1 := false } ∧
        y.obj O.bermLevel = y.shape.level ∧ ObjsKept [O.bermLevel.key] x y ∧ y = { x with objs := y.objs, shape := y.shape }) ∧
    (∀ t0, x.shape.l2Below = some t0 → t0 + 1000000 * x.obj O.bermExitTime ≤ x.now →
      ∃ y, exec (.bermExit l true t) s = .next (s.setLane l y) ∧ y.shape = { x.shape with l2 := false } ∧
        y.obj O.bermLevel = y.shape.level ∧ ObjsKept [O.bermLevel.key] x y ∧ y = { x with objs := y.objs, shape := y.shape }) ∧
    ((∀ t0, x.shape.l1Below = some t0 → x.now < t0 + 1000000 * x.obj O.bermExitTime) → exec (.bermExit l false t) s = .next (s.setLane l x)) ∧
    ((∀ t0, x.shape.l2Below = some t0 → x.now < t0 + 1000000 * x.obj O.bermExitTime) → exec (.bermExit l true t) s = .next (s.setLane l x)) ∧
    (∀ (v : Nat) (b : Bool), v < x.obj O.bermL3 → exec (.bermLevel3 l t v b) s = .next (s.setLane l x)) ∧
    (∀ (v : Nat) (b : Bool) (r a : Lane), r = ((x.seeTerminals b).inc O.bermL3Errors).takeReading →
      a = { r with coll := (r.coll.setAsserted 0x17).setHeal 0x17 none } → x.obj O.bermL3 ≤ v →
      (0x17 ∉ r.coll.asserted → ∃ y, exec (.bermLevel3 l t v b) s = .next (s.setLane l y) ∧ ErrorOf a 0x17 v y) ∧
      (0x17 ∈ r.coll.asserted → exec (.bermLevel3 l t v b) s = .next (s.setLane l a))) ∧
    (x.flag O.bermAutoClear = false ∨ (∀ t0, x.shape.l1Below = some t0 → x.now < t0 + 1000000 * x.obj O.bermClearWait) ∨
      bitOf (x.coll.spall 0x17).flags 0 = false →
      exec (.bermAutoClear l t) s = .next (s.setLane l x)) ∧
    (∀ t0 (z : Lane), x.flag O.bermAutoClear = true → x.shape.l1Below = some t0 → t0 + 1000000 * x.obj O.bermClearWait ≤ x.now →
      bitOf (x.coll.spall 0x17).flags 0 = true →
      z = { x with coll := ({ x.coll with asserted := removeAsc 0x17 x.coll.asserted } : Coll).settle x.now } →
      ∃ y, exec (.bermAutoClear l t) s = .next (s.setLane l y) ∧ y.obj O.clearResult = z.judgeClear ∧
        (z.judgeClear = 1 → y.coll.error = false ∧ y.coll.anyLatched = false) ∧
        (z.judgeClear ≠ 1 → y = ({ z with coll := { z.coll with refusedAt := if z.judgeClear = 2 then some z.now else none } }).setObj
          O.clearResult z.judgeClear))

/-- Hall codes of a brake drive (R204, R205, R217). An accepted step moves the position by one sixth of a turn either way; a
code that is invalid or skips a sector is a fault; four faults in the last 64 changes, or an invalid code held for 2 ms,
take the drive out of service: winding open, origin lost. A drive that the variant lacks does nothing. A restore needs a valid code at rest; homing ends at rest with
origin 0.
Readings of the model: assumption log 24, 127. -/
def Obligations.HallCodesMoveADriveOrFaultIt : Prop :=
  ∀ (s : State) (l : LaneId) (n : Fin 8) (t : Nat) (x : Lane), Sees s l t x →
    (∀ c : BitVec 3, c.toNat = (x.bd n).code ∨ x.nDrives ≤ n.val → exec (.hallChange l n c t) s = .next (s.setLane l x)) ∧
    (∀ (c : BitVec 3) (a b v : Nat), n.val < x.nDrives → c.toNat ≠ (x.bd n).code → (x.bd n).lastValid = some v →
      sectorOf (x.flag (O.bdDir n)) v = some a → sectorOf (x.flag (O.bdDir n)) c.toNat = some b →
      (b = (a + 1) % 6 ∨ a = (b + 1) % 6) → (((x.bd n).faults.take 63).filter id).length < 4 →
      ∃ y, exec (.hallChange l n c t) s = .next (s.setLane l y) ∧ (y.bd n).code = c.toNat ∧ (y.bd n).lastValid = some c.toNat ∧
        (y.bd n).pos = (if b = (a + 1) % 6 then (x.bd n).pos + 64 else (x.bd n).pos + 65536 - 64) % 65536 ∧
        (y.bd n).faults = (false :: (x.bd n).faults).take 64 ∧
        y.bd n = { x.bd n with
          code := (y.bd n).code, lastValid := (y.bd n).lastValid, pos := (y.bd n).pos, faults := (y.bd n).faults, changeAt := x.now,
          changeDt := if (x.bd n).changeAt = 0 then none else some (x.now - (x.bd n).changeAt), moved := true,
          lockLow := min (x.bd n).lockLow (y.bd n).pos } ∧
        (a = (b + 1) % 6 → y.obj (O.bdParkPos n) = 0xFFFF) ∧ ObjsKept [(O.bdParkPos n).key] x y ∧
        (∀ m, m ≠ n → y.bd m = x.bd m) ∧ y = { x with objs := y.objs, brk := y.brk }) ∧
    (∀ (c : BitVec 3) (b : Nat), n.val < x.nDrives → c.toNat ≠ (x.bd n).code → (x.bd n).lastValid = none →
      sectorOf (x.flag (O.bdDir n)) c.toNat = some b → (((x.bd n).faults.take 63).filter id).length < 4 → ∃ y, exec (.hallChange l n c t) s = .next (s.setLane l y) ∧
        (y.bd n).lastValid = some c.toNat ∧ (y.bd n).pos = (x.bd n).pos ∧
        (y.bd n).faults = (false :: (x.bd n).faults).take 64 ∧ (y.bd n).moved = (x.bd n).moved ∧ (∀ m, m ≠ n → y.bd m = x.bd m) ∧
        y = { x with brk := y.brk }) ∧
    (∀ c : BitVec 3, n.val < x.nDrives → c.toNat ≠ (x.bd n).code → (sectorOf (x.flag (O.bdDir n)) c.toNat = none ∨ ∃ v a b,
        (x.bd n).lastValid = some v ∧ sectorOf (x.flag (O.bdDir n)) v = some a ∧
        sectorOf (x.flag (O.bdDir n)) c.toNat = some b ∧ 2 ≤ (b + 6 - a) % 6 ∧ (b + 6 - a) % 6 ≤ 4) →
      ∃ y, exec (.hallChange l n c t) s = .next (s.setLane l y) ∧ (y.bd n).code = c.toNat ∧ (y.bd n).pos = (x.bd n).pos ∧
        (sectorOf (x.flag (O.bdDir n)) c.toNat = none → (y.bd n).lastValid = (x.bd n).lastValid ∧ (y.bd n).moved = (x.bd n).moved) ∧
        (sectorOf (x.flag (O.bdDir n)) c.toNat ≠ none → (y.bd n).lastValid = some c.toNat ∧ (y.bd n).moved = true) ∧ (y.bd n).faultNow = true ∧
        (y.bd n).faults = (true :: (x.bd n).faults).take 64 ∧
        CountedBy (O.bdHallFaults n) 1 x y ∧
        (4 ≤ ((y.bd n).faults.filter id).length → (x.bd n).inService = true → (y.bd n).inService = false ∧
          (y.bd n).originOk = false ∧ y.obj (O.bdInService n) = 0 ∧ y.brakes[n].driving = false) ∧
        (((y.bd n).faults.filter id).length < 4 → (y.bd n).inService = (x.bd n).inService ∧ y.brakes = x.brakes) ∧
        (∀ m, m ≠ n → y.bd m = x.bd m ∧ y.brakes[m] = x.brakes[m]) ∧ y = { x with objs := y.objs, brk := y.brk, brakes := y.brakes }) ∧
    ((x.bd n).code = 0 ∨ (x.bd n).code = 7 → (x.bd n).changeAt + 2000000 ≤ x.now → (x.bd n).inService = true → n.val < x.nDrives →
      exec (.hallInvalidHold l n t) s = .next (s.setLane l (x.outOfService n)) ∧ ((x.outOfService n).bd n).inService = false ∧
      ((x.outOfService n).bd n).originOk = false ∧ (x.outOfService n).obj (O.bdInService n) = 0 ∧
      (x.outOfService n).brakes[n].driving = false) ∧
    ((x.bd n).code ≠ 0 ∧ (x.bd n).code ≠ 7 ∨ x.now < (x.bd n).changeAt + 2000000 ∨ (x.bd n).inService = false ∨ x.nDrives ≤ n.val →
      exec (.hallInvalidHold l n t) s = .next (s.setLane l x)) ∧
    (1 ≤ (x.bd n).code → (x.bd n).code ≤ 6 → (x.bd n).changeAt + 100000000 ≤ x.now → n.val < x.nDrives →
      ∃ y, exec (.bdRestore l n t) s = .next (s.setLane l y) ∧ y.bd n = { x.bd n with inService := true, faults := [] } ∧
        y.obj (O.bdInService n) = 1 ∧ (∀ m, m ≠ n → y.bd m = x.bd m) ∧ ObjsKept [(O.bdInService n).key] x y ∧
        y = { x with objs := y.objs, brk := y.brk }) ∧
    ((x.bd n).code = 0 ∨ 6 < (x.bd n).code ∨ x.now < (x.bd n).changeAt + 100000000 ∨ x.nDrives ≤ n.val →
      exec (.bdRestore l n t) s = .next (s.setLane l x)) ∧
    ((x.bd n).mode = 6 → (x.bd n).changeAt + 50000000 ≤ x.now → ∃ y, exec (.homingDone l n t) s = .next (s.setLane l y) ∧
      y.bd n = { x.bd n with pos := 0, originOk := true, mode := if (x.bd n).wantHome then 0 else 2, parkLock := false, armed := false } ∧
      (∀ m, m ≠ n → y.bd m = x.bd m) ∧ y = { x with brk := y.brk }) ∧
    ((x.bd n).mode ≠ 6 ∨ x.now < (x.bd n).changeAt + 50000000 → exec (.homingDone l n t) s = .next (s.setLane l x))

/-- Parking a brake drive (R217 to R227). The force held for 100 ms takes it to the lock, the current off opens its winding, and
the check 200 ms later, against the lowest position since, locks it, tries once more, or locks it with a flag; an unlocking that takes
500 ms is locked again with a flag; implausible forces are flagged and counted, by each lane of the wheel end for itself; retraction begins after its delay, a service retract in Workshop
only.
Readings of the model: assumption log 24, 25, 124, 125. -/
def Obligations.DrivesParkLockAndRetract : Prop :=
  ∀ (s : State) (l : LaneId) (n : Fin 8) (t : Nat) (x : Lane) (w : Nat), Sees s l t x → w = wheelOf l n →
    (∀ t0, (x.bd n).mode = 3 → (x.bd n).nearSince = some t0 → t0 + 100000000 ≤ x.now → exec (.parkForceReached l n t) s
      = .next (s.setLane l (x.updBd n fun d => { d with mode := 4, mode4At := x.now, zeroAt := none, nearSince := none }))) ∧
    ((x.bd n).mode ≠ 3 ∨ (∀ t0, (x.bd n).nearSince = some t0 → x.now < t0 + 100000000) → exec (.parkForceReached l n t) s = .next (s.setLane l x)) ∧
    ((x.bd n).mode = 4 → (x.bd n).zeroAt = none → (x.bd n).parkLock = false →
      ∃ y, exec (.parkCurrentZero l n t) s = .next (s.setLane l y) ∧
        y.bd n = { x.bd n with zeroAt := some x.now, lockPos := (x.bd n).pos, lockLow := (x.bd n).pos } ∧ y.brakes[n].driving = false ∧
        (∀ m, m ≠ n → y.bd m = x.bd m ∧ y.brakes[m] = x.brakes[m]) ∧ y = { x with brk := y.brk, brakes := y.brakes }) ∧
    ((x.bd n).mode ≠ 4 ∨ (x.bd n).zeroAt ≠ none ∨ (x.bd n).parkLock = true →
      exec (.parkCurrentZero l n t) s = .next (s.setLane l x)) ∧
    (∀ t0, (x.bd n).mode = 4 → (x.bd n).zeroAt = some t0 → t0 + 200000000 ≤ x.now → (x.bd n).parkLock = false →
      ∃ y slip, exec (.lockCheck l n t) s = .next (s.setLane l y) ∧ slip = x.countsOf w (x.obj O.bwParkSlip) ∧
        ((x.bd n).lockPos ≤ (x.bd n).lockLow + slip → y.bd n = { x.bd n with parkLock := true, moved := false } ∧
          y.obj (O.bdParkPos n) = (x.bd n).pos ∧ bits (y.obj (O.weFlags w)) 0 1 = 0 ∧
          ObjsKept [(O.bdParkPos n).key, (O.weFlags w).key] x y) ∧
        ((x.bd n).lockLow + slip < (x.bd n).lockPos → (x.bd n).lockTry = 0 →
          y.bd n = { x.bd n with mode := 3, lockTry := 1, zeroAt := none, nearSince := none } ∧ y.objs = x.objs) ∧
        ((x.bd n).lockLow + slip < (x.bd n).lockPos → (x.bd n).lockTry ≠ 0 → y.bd n = { x.bd n with parkLock := true } ∧
          CountedBy (O.bdParkFails n) 1 x y ∧ bits (y.obj (O.weFlags w)) 0 1 = 1 ∧
          ObjsKept [(O.bdParkFails n).key, (O.weFlags w).key] x y) ∧
        (∀ m, m ≠ n → y.bd m = x.bd m) ∧ y = { x with objs := y.objs, brk := y.brk }) ∧
    ((x.bd n).mode ≠ 4 ∨ (∀ t0, (x.bd n).zeroAt = some t0 → x.now < t0 + 200000000) ∨ (x.bd n).parkLock = true →
      exec (.lockCheck l n t) s = .next (s.setLane l x)) ∧
    ((x.bd n).mode = 5 → (x.bd n).unlockAt + 500000000 ≤ x.now → ∃ y, exec (.unlockTimeout l n t) s = .next (s.setLane l y) ∧
      y.bd n = { x.bd n with mode := 4, parkLock := true, zeroAt := some x.now, unlockFailed := true } ∧ y.brakes[n].driving = false ∧
      bits (y.obj (O.weFlags w)) 0 1 = 1 ∧ bits (y.obj (O.weFlags w)) 1 15 = bits (x.obj (O.weFlags w)) 1 15 ∧
      ObjsKept [(O.weFlags w).key] x y ∧ y = { x with objs := y.objs, brk := y.brk, brakes := y.brakes }) ∧
    ((x.bd n).mode ≠ 5 ∨ x.now < (x.bd n).unlockAt + 500000000 → exec (.unlockTimeout l n t) s = .next (s.setLane l x)) ∧
    (∀ (r : Fin 3) (t0 : Nat), (x.bd n).since.getD r none = some t0 → t0 + (if r.val = 2 then 200000000 else 50000000) ≤ x.now →
      ∃ y, exec (.forcePlausibility l n r t) s = .next (s.setLane l y) ∧
        (r.val = 2 → y.bd n = { x.bd n with since := (x.bd n).since.set r none, waive := true, cands := [] } ∧ y.objs = x.objs) ∧
        (r.val ≠ 2 → y.bd n = { x.bd n with since := (x.bd n).since.set r none } ∧ bits (y.obj (O.weFlags w)) 1 1 = 1 ∧
          CountedBy (O.bdForceDisagree n) 1 x y ∧ ObjsKept [(O.weFlags w).key, (O.bdForceDisagree n).key] x y) ∧
        (∀ m, m ≠ n → y.bd m = x.bd m) ∧ y = { x with objs := y.objs, brk := y.brk }) ∧
    (∀ r : Fin 3, (∀ t0, (x.bd n).since.getD r none = some t0 → x.now < t0 + (if r.val = 2 then 200000000 else 50000000)) →
      exec (.forcePlausibility l n r t) s = .next (s.setLane l x)) ∧
    (∀ t0, (x.bd n).zeroSince = some t0 → t0 + 1000000 * x.obj O.bwRetractDelay ≤ x.now → (x.bd n).mode = 0 ∨ (x.bd n).mode = 2 →
      x.fittedD l n = true → (x.bd n).wantHome = false → x.brk.parkOn = false → exec (.retractDelay l n t) s
        = .next (s.setLane l (x.updBd n fun d => { d with mode := if d.originOk then 1 else 6 }))) ∧
    ((∀ t0, (x.bd n).zeroSince = some t0 → x.now < t0 + 1000000 * x.obj O.bwRetractDelay) ∨
        (x.bd n).mode ≠ 0 ∧ (x.bd n).mode ≠ 2 ∨ (x.bd n).wantHome = true ∨ x.brk.parkOn = true ∨ x.fittedD l n = false →
      exec (.retractDelay l n t) s = .next (s.setLane l x)) ∧
    (∀ v : BitVec 8, x.obj O.lcStateObj = 4 → v.toNat ≤ 12 → x.brk.releasing = false →
      ∃ y, exec (.svcWeRetract l v t) s = .next (s.setLane l y) ∧ y.obj O.svcWeRetract = v.toNat ∧
        (y.bd n).wantHome = (x.fittedD l n && decide (w + 1 = v.toNat)) ∧ ObjsKept [O.svcWeRetract.key] x y ∧
        y = { x with objs := y.objs, brk := y.brk }) ∧
    (∀ v : BitVec 8, x.obj O.lcStateObj ≠ 4 ∨ 12 < v.toNat ∨ x.brk.releasing = true →
      exec (.svcWeRetract l v t) s = .next (s.setLane l x)) ∧
    (x.obj O.lcStateObj = 4 → (x.bd n).originOk = true → n.val < x.nDrives →
      exec (.bdPadChanged l n t) s = .next (s.setLane l (x.updBd n fun d => { d with pad := true }))) ∧
    (x.obj O.lcStateObj ≠ 4 ∨ (x.bd n).originOk = false ∨ x.nDrives ≤ n.val → exec (.bdPadChanged l n t) s = .next (s.setLane l x))

/-- Engines, mailboxes and doorbells (R5, R26, R361, R454 to R457, R470). E0 of a lane that has started releases, and resets, E2 to E6; a kick
too early or too late, or none for 2 ms, is error 0x02 of the engine; a word enters an empty mailbox, is refused by a full one, waits in
its crossing while the receiver's island is stopped, and is taken by its receiver alone, with a notice to the sender; an engine whose island
is stopped does neither; a doorbell waits until its mailbox is empty.
Readings of the model: assumption log 35. -/
def Obligations.EnginesKickAndExchangeWords : Prop :=
  (∀ (s : State) (l : LaneId) (t : Nat) (x : Lane), Sees s l t x →
    (∀ (e : Fin 8) (run : Bool), ownedEngine e = true → x.started = true ∨ run = false →
      ∃ y, exec (.engRun l e run t) s = .next (s.setLane l y) ∧
      y.rbit Rg.engCtl e = run ∧ y.rbit Rg.engStat e = run ∧
      y.eng = (if run = true ∧ x.rbit Rg.engCtl e = false then
        { x.eng with kickAt := x.eng.kickAt.set e none, relAt := x.eng.relAt.set e x.now } else x.eng) ∧
      RegsKept [Rg.engCtl.addr, Rg.engStat.addr] x y ∧ y = { x with regs := y.regs, eng := y.eng }) ∧
    (∀ (e : Fin 8) (run : Bool), ownedEngine e = false ∨ x.started = false ∧ run = true →
      exec (.engRun l e run t) s = .next (s.setLane l x)) ∧
    (exec (.engKick l 1 t) s = .next (s.setLane l x)) ∧
    (∀ e : Fin 8, e ≠ 1 → x.eng.kickAt.getD e none = none ∨
        (∃ p, x.eng.kickAt.getD e none = some p ∧ p + 100000 ≤ x.now ∧ x.now ≤ p + 2000000) →
      exec (.engKick l e t) s
        = .next (s.setLane l { x with eng := { x.eng with kickAt := x.eng.kickAt.set e (some x.now) } })) ∧
    (∀ (e : Fin 8) (z : Lane) (p : Nat), z = ({ x with eng :=
        { x.eng with kickAt := x.eng.kickAt.set e none, relAt := x.eng.relAt.set e x.now } }).setRbit Rg.engStat (e + 8) true →
      e ≠ 1 → x.eng.kickAt.getD e none = some p → x.now < p + 100000 ∨ p + 2000000 < x.now →
        ∃ y, exec (.engKick l e t) s = .next (s.setLane l y) ∧ ErrorOf z 0x02 e y) ∧
    (∀ (a d : Fin 8) (w : BitVec 32),
      (a = d ∨ a = 1 ∨ x.islandStopped a = true → exec (.mailboxWrite l a d w t) s = .next (s.setLane l x)) ∧
      (a ≠ d → a ≠ 1 → x.islandStopped a = false → x.islandStopped d = true → exec (.mailboxWrite l a d w t) s
        = .next (s.setLane l { x with eng := { x.eng with held := x.eng.held ++ [(a.val, d.val, w.toNat)] } })) ∧
      (a ≠ d → a ≠ 1 → x.islandStopped a = false → x.islandStopped d = false → x.mbxFull a d = true →
        ∃ y, exec (.mailboxWrite l a d w t) s = .next (s.setLane l y) ∧
        y.rbit (Rg.mbxStat a d) 1 = true ∧ y.mbxFull a d = true ∧ RegsKept [(Rg.mbxStat a d).addr] x y ∧
        y = { x with regs := y.regs, eng := { x.eng with refusals := y.eng.refusals } }) ∧
      (a ≠ d → a ≠ 1 → x.islandStopped a = false → x.islandStopped d = false → x.mbxFull a d = false →
        ∃ y, exec (.mailboxWrite l a d w t) s = .next (s.setLane l y) ∧
        y.reg (Rg.mbxData a d) = w.toNat ∧ y.mbxFull a d = true ∧ y.rbit (Rg.mbxInbox d) a = true ∧
        RegsKept [(Rg.mbxData a d).addr, (Rg.mbxStat a d).addr, (Rg.mbxInbox d).addr] x y ∧ y = { x with regs := y.regs })) ∧
    (∀ (d : Fin 4) (w : BitVec 32),
      (x.flag (O.dbFull d) = true → exec (.doorbell l d w t) s = .next (s.setLane l x)) ∧
      (x.flag (O.dbFull d) = false → ∃ y, exec (.doorbell l d w t) s = .next (s.setLane l y) ∧ y.obj (O.doorbell d) = w.toNat ∧
        y.flag (O.dbFull d) = true ∧ ObjsKept [(O.doorbell d).key, (O.dbFull d).key] x y ∧ y = { x with objs := y.objs })) ∧
    (∀ (d : Fin 4) (e : Nat) (free : Prop), e = x.obj (O.dbRoute d) → e < 8 →
      (free ↔ x.flag (O.dbFull d) = true ∧ x.eng.dbTo.getD d none = none ∧ x.mbxFull 0 e = false ∧
        ∀ w, (0, e, w) ∉ x.eng.held) →
      (free → x.islandStopped e = false →
        ∃ y, exec (.doorbellForward l d t) s = .next (s.setLane l y) ∧ y.eng = { x.eng with dbTo := x.eng.dbTo.set d (some e) } ∧
          y.mbxFull 0 e = true ∧ y.reg (Rg.mbxData 0 e) = x.obj (O.doorbell d) % 2 ^ 32 ∧ y.rbit (Rg.mbxInbox e) 0 = true ∧
          RegsKept [(Rg.mbxData 0 e).addr, (Rg.mbxStat 0 e).addr, (Rg.mbxInbox e).addr] x y ∧
          y = { x with regs := y.regs, eng := y.eng }) ∧
      (free → x.islandStopped e = true → exec (.doorbellForward l d t) s = .next (s.setLane l { x with eng := { x.eng with
        dbTo := x.eng.dbTo.set d (some e), held := x.eng.held ++ [(0, e, x.obj (O.doorbell d))] } })) ∧
      (¬ free → exec (.doorbellForward l d t) s = .next (s.setLane l x)))) ∧
  ∀ (s : State) (l : LaneId) (t : Nat) (x : Lane), FindsE1 s l t x →
    (∀ e : Fin 8, ownedEngine e = false → exec (.engReset l e t) s = .next (s.setLane l x)) ∧
    (∀ e : Fin 8, ownedEngine e = true → ∃ y, exec (.engReset l e t) s = .next (s.setLane l y) ∧
      (∀ k < 8, y.mbxFull k e = false) ∧ y.reg (Rg.mbxNote e) = 0 ∧ y.reg (Rg.mbxIe e) = 0 ∧
      (∀ k < 8, k ≠ e.val → x.mbxFull k e = true ∨ (∃ w, (k, e.val, w) ∈ x.eng.held) → y.rbit (Rg.mbxNote k) (e + 8) = true) ∧
      y.eng.held = x.eng.held.filter (fun w => w.2.1 ≠ e.val) ∧
      y.eng.kickAt = x.eng.kickAt.set e none ∧ y.eng.relAt = x.eng.relAt.set e x.now ∧
      y = { x with regs := y.regs, objs := y.objs, eng := y.eng }) ∧
    (∀ (e : Fin 8) (z : Lane), z = ({ x with eng :=
        { x.eng with kickAt := x.eng.kickAt.set e none, relAt := x.eng.relAt.set e x.now } }).setRbit Rg.engStat (e + 8) true →
      ((if e = 1 then x.e1Late else x.kickLate e) = true → ∃ y, exec (.watchdogTrip l e t) s = .next (s.setLane l y) ∧ ErrorOf z 0x02 e y) ∧
      ((if e = 1 then x.e1Late else x.kickLate e) = false → exec (.watchdogTrip l e t) s = .next (s.setLane l x))) ∧
    (∀ a d r : Fin 8,
      (x.islandStopped r = true → exec (.mailboxTake l a d r t) s = .next (s.setLane l x)) ∧
      (x.islandStopped r = false → r ≠ d ∨ a = d ∨ x.mbxFull a d = false →
        exec (.mailboxTake l a d r t) s = .next (s.setLane l { x with bus := 0 })) ∧
      (x.islandStopped r = false → r = d → a ≠ d → x.mbxFull a d = true →
        ∃ y, exec (.mailboxTake l a d r t) s = .next (s.setLane l y) ∧
        y.bus = x.reg (Rg.mbxData a d) ∧ y.mbxFull a d = false ∧ y.rbit (Rg.mbxInbox d) a = false ∧
        y.rbit (Rg.mbxNote a) d = true ∧ RegsKept [(Rg.mbxStat a d).addr, (Rg.mbxInbox d).addr, (Rg.mbxNote a).addr] x y ∧
        (a ≠ 0 → y = { x with bus := y.bus, regs := y.regs }) ∧
        (a = 0 → y = { x with bus := y.bus, regs := y.regs, objs := y.objs, eng := { x.eng with dbTo := y.eng.dbTo } } ∧
          ∀ i < 4, x.eng.dbTo.getD i none = some d.val → y.obj (O.dbFull i) = 0 ∧ y.eng.dbTo.getD i none = none)))

/-- The memories' scrubbing, the ageing monitors and the register block (R7 to R9, R132, R231, R263, R451, R454, R458 to R463). A memory of a stopped island is not
scrubbed. An uncorrectable word is error 0x04, or 0x05 where it is the open entry's, which it ends; a corrected one is counted and takes a cycle of E1's open entry where it lies in its memories, the third pass in a row makes it a stuck bit; an ageing entry of 32 bytes
overwrites the oldest, when 100 operating hours have made it due; a register write takes the RW bits and clears the W1C bits that are written 1,
a stage whose driver enable it clears ceases driving, and SRC and EN of COLL_INJ begin and end an injection; a read clears the RC
bits; an engine that may not write is refused and counted.
Readings of the model: assumption log 34, 36, 38, 120, 143. -/
def Obligations.ScrubbingMonitorsAndRegisters : Prop :=
  (∀ (s : State) (l : LaneId) (t : Nat) (x : Lane), FindsE1 s l t x →
    (∀ (m : Fin 16) (a : BitVec 32) (k : Nat), k = m.val * 2 ^ 32 + a.toNat →
      (∀ e, isMemory m = false ∨ x.memStopped m = true → exec (.scrub l m a e t) s = .next (s.setLane l x)) ∧
      (∀ j, x.mx.cur = some j → isMemory m = true → x.memStopped m = false → x.wordOfLoop j m a.toNat = true →
        ∃ y, exec (.scrub l m a .uncorrectable t) s = .next (s.setLane l y) ∧ y.Stopped ∧
        y.coll.spall 5 = (x.coll.spall 5).occur (j.val + 256 * (a.toNat / 4 % 2 ^ 24)) x.now false (x.coll.takesFirst 5 x.now) ∧
        y.mx = { x.mx with cur := none, pc := none, loops := x.mx.loops.set j { x.mx.loops[j] with entry := .none } } ∧
        y = { x with coll := y.coll, objs := y.objs, regs := y.regs, steer := y.steer, brakes := y.brakes, claim := y.claim, drive := y.drive, eng := y.eng, mx := y.mx }) ∧
      (∀ j, m.val = 3 → (x.wordOfLoop j m a.toNat = true ↔ a.toNat % 0x4000 / 0x400 = j)) ∧
      (isMemory m = true → x.memStopped m = false → (∀ j, x.mx.cur = some j → x.wordOfLoop j m a.toNat = false) →
        ∃ y, exec (.scrub l m a .uncorrectable t) s = .next (s.setLane l y) ∧ y.Stopped ∧
        y.coll.spall 4 = (x.coll.spall 4).occur (m.val + 256 * (a.toNat / 4 % 2 ^ 24)) x.now false (x.coll.takesFirst 4 x.now) ∧
        y = { x with coll := y.coll, objs := y.objs, regs := y.regs, steer := y.steer, brakes := y.brakes, claim := y.claim, drive := y.drive, eng := y.eng }) ∧
      (isMemory m = true → x.memStopped m = false → ∃ y, exec (.scrub l m a .none t) s = .next (s.setLane l y) ∧ kvGet 0 y.eng.scrub k = 0 ∧
        ObjsKept [O.scrubPassTime.key] x y ∧ y = { x with objs := y.objs, eng := { x.eng with scrub := y.eng.scrub, passAt := y.eng.passAt } }) ∧
      (∀ b, isMemory m = true → x.memStopped m = false → ∃ y, exec (.scrub l m a (.single b) t) s = .next (s.setLane l y) ∧
        (bits (x.obj O.memCorrected) (32 * (15 - m.val)) 32 + 1 < 2 ^ 32 → bits (y.obj O.memCorrected) (32 * (15 - m.val)) 32
          = bits (x.obj O.memCorrected) (32 * (15 - m.val)) 32 + 1) ∧ CountedBy O.memCorrectedLife 1 x y ∧
        y.obj O.memLastCorr = m.val * 2 ^ 56 + b.toNat * 2 ^ 48 + a.toNat ∧
        kvGet 0 y.eng.scrub k = min (kvGet 0 x.eng.scrub k + 1) 4 ∧
        (kvGet 0 x.eng.scrub k = 2 → CountedBy O.memStuck 1 x y) ∧
        (kvGet 0 x.eng.scrub k ≠ 2 → y.obj O.memStuck = x.obj O.memStuck) ∧
        (∀ j, x.mx.cur = some j → m.val = 3 ∨ m.val = (if x.bank1Active then 0xC else 0xB) → y.mx = { x.mx with loops := y.mx.loops } ∧
          y.loop j = { x.loop j with cyc := (x.loop j).cyc + 1, cycEntry := (x.loop j).cycEntry + 1 } ∧ ∀ i, i ≠ j → y.loop i = x.loop i) ∧
        (x.mx.cur = none ∨ m.val ≠ 3 ∧ m.val ≠ (if x.bank1Active then 0xC else 0xB) → y.mx = x.mx) ∧
        ObjsKept [O.scrubPassTime.key, O.memCorrected.key, O.memCorrectedLife.key, O.memLastCorr.key, O.memStuck.key] x y ∧
        y = { x with objs := y.objs, eng := y.eng, mx := y.mx })) ∧
    (∀ (e : Fin 8) (a v hw : BitVec 32),
      (e.val ∉ writers a.toNat ∨ e = 1 → exec (.registerWrite l e a v hw t) s = .next (s.setLane l x.busRefuse)) ∧
      (e.val ∈ writers a.toNat → e ≠ 1 → 0x18000000 ≤ a.toNat → a.toNat < 0x50000000 → ∀ r, regAt a.toNat = some r →
        (r.addr = Rg.gdCtl.addr → ∀ w, w = x.setReg r (writeWord r (x.reg r) v.toNat hw.toNat) → ∃ z y,
          z = (if x.gateCut = true then w.setFld Rg.gdCtl 0 9 0 else w) ∧
          exec (.registerWrite l e a v hw t) s = .next (s.setLane l y) ∧ RegsKept [Rg.gdStat.addr] z y ∧
          (∀ st, (y.stg st).driving = ((x.stg st).driving && z.rbit Rg.gdCtl (stageIx st))) ∧
          y = { z with steer := y.steer, brakes := y.brakes, regs := y.regs }) ∧
        (r.addr = Rg.collInj.addr → ∀ (w : Lane) (src : Nat) (en : Bool), w = x.setReg r (writeWord r (x.reg r) v.toNat hw.toNat) →
          src = bits v.toNat 0 8 → en = bitOf v.toNat 8 → ∃ z, z = (if x.gateCut = true then w.setFld Rg.gdCtl 0 9 0 else w) ∧
          exec (.registerWrite l e a v hw t) s = .next (s.setLane l (if en = true ∧ src = 0 then z
            else z.setInjection src en (Config.injData src x.now) (Config.railSeen (laneNo l) src x.now)))) ∧
        (r.addr ≠ Rg.gdCtl.addr → r.addr ≠ Rg.collInj.addr → ∃ y, exec (.registerWrite l e a v hw t) s = .next (s.setLane l y) ∧ y = { x with regs := y.regs } ∧
          RegsKept ([r.addr] ++ (if x.gateCut then [Rg.gdCtl.addr] else []) ++
            (allStages.filter fun st => a.toNat == (Rg.pwmPerSh st).addr || (List.range 3).any fun i => a.toNat == (Rg.pwmDutySh st i).addr).map
              fun st => (Rg.pwmLgctl st).addr) x y ∧
          (x.gateCut = false ∨ r.addr ≠ Rg.gdCtl.addr → y.reg r = writeWord r (x.reg r) v.toNat hw.toNat % 2 ^ 32) ∧
          (x.gateCut = false ∨ r.addr ≠ Rg.gdCtl.addr → ownRowMask r.addr = 0 → r.addr ≠ Rg.pwrCtl.addr → ∀ i < 32,
            bitOf r.rw i = false ∨ bitOf r.w1c i = false → bitOf (y.reg r) i =
              if bitOf r.w1c i then bitOf hw.toNat i || (bitOf (x.reg r) i && !bitOf v.toNat i)
              else if bitOf r.rw i then bitOf v.toNat i else bitOf (x.reg r) i) ∧
          (x.gateCut = true → y.fld Rg.gdCtl 0 9 = 0) ∧
          (∀ st, a.toNat = (Rg.pwmPerSh st).addr → y.rbit (Rg.pwmLgctl st) 2 = true) ∧
          ∀ st, ∀ i < 3, a.toNat = (Rg.pwmDutySh st i).addr → y.rbit (Rg.pwmLgctl st) (3 + i) = true)) ∧
      (e.val ∈ writers a.toNat → e ≠ 1 → a.toNat / 4 * 4 + 4 ≤ memTop a.toNat →
        ∃ y, exec (.registerWrite l e a v hw t) s = .next (s.setLane l y) ∧
          memReadAll y.eng.mem (a.toNat / 4 * 4) 4 = bytesLE 4 v.toNat ∧
          (∀ b, b < a.toNat / 4 * 4 ∨ a.toNat / 4 * 4 + 4 ≤ b → memRead y.eng.mem b = memRead x.eng.mem b) ∧
          y = { x with eng := { x.eng with mem := y.eng.mem } }) ∧
      (e.val ∈ writers a.toNat → e ≠ 1 → a.toNat < 0x18000000 → memTop a.toNat < a.toNat / 4 * 4 + 4 →
        exec (.registerWrite l e a v hw t) s = .next (s.setLane l x.busRefuse)) ∧
      (e.val ∈ writers a.toNat → e ≠ 1 → 0x50000000 ≤ a.toNat → exec (.registerWrite l e a v hw t) s
        = .next (s.setLane l (if x.inActive a.toNat then x.busRefuse
          else x.writeStandby (a.toNat % 0x400000 / 4 * 4) (bytesLE 4 v.toNat))))) ∧
    (∀ (a hw : BitVec 32) (r : Rg.Reg) (z : Lane), regAt a.toNat = some r → a.toNat ≠ (Rg.laneTime false).addr → a.toNat ≠ (Rg.laneTime true).addr →
      z = allStages.foldl (fun (x : Lane) st => x.settle st x.now) x →
      ∃ y, exec (.readClearRegister l a hw t) s = .next (s.setLane l y) ∧ y.bus = z.regView r ||| (hw.toNat &&& r.rc) ∧
        (r.rc = 0 → y.regs = z.regs) ∧ (r.rc ≠ 0 → y.reg r = (z.reg r &&& (0xFFFFFFFF ^^^ r.rc)) % 2 ^ 32) ∧
        RegsKept [r.addr] z y ∧ y = { z with bus := y.bus, regs := y.regs }) ∧
    (∀ a hw : BitVec 32, regAt a.toNat = none → a.toNat ≠ (Rg.laneTime false).addr → a.toNat ≠ (Rg.laneTime true).addr →
      exec (.readClearRegister l a hw t) s
        = .next (s.setLane l (if readable a.toNat then { x with bus := x.wordAt a.toNat } else ({ x with bus := 0 }).busRefuse))) ∧
    (∀ hw : BitVec 32, exec (.readClearRegister l (BitVec.ofNat 32 (Rg.laneTime true).addr) hw t) s
        = .next (s.setLane l { x with bus := x.reg (Rg.laneTime true) })) ∧
    (∀ hw : BitVec 32, ∃ y, exec (.readClearRegister l (BitVec.ofNat 32 (Rg.laneTime false).addr) hw t) s = .next (s.setLane l y) ∧
      y.bus = x.now % 2 ^ 32 ∧ y.reg (Rg.laneTime true) = x.now / 2 ^ 32 % 2 ^ 32 ∧ RegsKept [(Rg.laneTime true).addr] x y ∧
      y = { x with bus := y.bus, regs := y.regs })) ∧
  ∀ (s : State) (l : LaneId) (t : Nat) (x : Lane), Sees s l t x →
    (∀ counts : List Nat, ∃ y, exec (.processReading l counts t) s = .next (s.setLane l y) ∧
      ObjsKept [O.procDeviation.key, O.ageingEvents.key, O.ageingFlag.key] x y ∧ y = { x with objs := y.objs } ∧
      ∀ i < 6, ∃ dev : Int, dev = satI 16 (roundDiv (10000 * ((Config.procRefer x.cal i (nth counts i) (toI 16 (nth x.eng.temps i))
          (nth x.eng.volts (13 + i)) : Int) - Config.procFactory x.cal i)) (Config.procFactory x.cal i)) ∧
        y.arr16 O.procDeviation 6 i = ofI 16 dev ∧
        (dev < -500 → -500 ≤ toI 16 (x.arr16 O.procDeviation 6 i) → y.obj O.ageingFlag = 1)) ∧
    (x.eng.ageDue = false → exec (.ageingLogEntry l t) s = .next (s.setLane l x)) ∧
    (∀ n : Nat, x.eng.ageDue = true → n = x.obj O.ageLogNext → ∃ y, exec (.ageingLogEntry l t) s = .next (s.setLane l y) ∧
      y.obj O.ageLogNext = (n + 1) % 1024 ∧ memReadAll y.eng.log (32 * n) 32 = x.ageEntry ∧
      (∀ a, a < 32 * n ∨ 32 * n + 32 ≤ a → memRead y.eng.log a = memRead x.eng.log a) ∧ 
      ObjsKept [O.ageLogNext.key] x y ∧
      y = { x with objs := y.objs, eng := { x.eng with log := y.eng.log, ageSeen := false, corrected := 0, ageDue := false } }) ∧
    (2 ≤ x.fld Rg.pwrStat 0 3 → exec (.operatingHoursTick l t) s = .next (s.setLane l x)) ∧
    (x.fld Rg.pwrStat 0 3 < 2 → ∃ y, exec (.operatingHoursTick l t) s = .next (s.setLane l y) ∧
      CountedBy O.operatingHours 1 x y ∧ ObjsKept [O.operatingHours.key, O.tempHistSteer.key, O.tempHistBrake.key] x y ∧
      y = { x with objs := y.objs, eng := { x.eng with ageDue := x.eng.ageDue || decide (y.obj O.operatingHours % 1000 = 0) } })

/-- Network time and gates (R316, R320, R323, R324, R327, R341). A Sync with its Follow_Up gives its port valid time for three
intervals, and the counter follows the highest valid source, at once from none, slewed at most 1 µs per second after another source or a
holdover, and between Syncs at the rate that two Syncs of the source gave; a port that loses it, a gate that opens or
closes and a link that goes down act on their port alone; a stream without a delivery for 100 ms loses its history.
Readings of the model: assumption log 46 to 48, 152, 153. -/
def Obligations.NetworkTimeAndGatesFollowTheirPort : Prop :=
  (∀ (s : State) (l : LaneId) (f : GptpRx) (x : Lane), Sees s l f.stamp x →
    (f.fcsOk = false → exec (.gptpFrame l f) s = .next (s.setLane l (x.incElem (O.rxFailCounts (netIx f.net)) 5 0))) ∧
    (f.fcsOk = true → ∃ y, exec (.gptpFrame l f) s = .next (s.setLane l y) ∧
      (y.net.port f.net).linkUp = (x.net.port f.net).remoteOk ∧
      (y.net.port f.net).timeOk = (f.asCapable && ((x.net.port f.net).timeOk || f.syncWithFollowUp)) ∧
      (f.asCapable = true → f.syncWithFollowUp = true → (y.net.port f.net).syncAt = f.stamp ∧
        (y.net.port f.net).syncEvery = f.syncInterval) ∧
      y.net.port f.net = { x.net.port f.net with
        phyUp := true, localOk := true, linkUp := (x.net.port f.net).remoteOk, timeOk := (y.net.port f.net).timeOk, syncAt := (y.net.port f.net).syncAt,
        syncEvery := (y.net.port f.net).syncEvery } ∧
      (f.asCapable = false ∨ f.syncWithFollowUp = false → (y.net.port f.net).syncAt = (x.net.port f.net).syncAt ∧
        (y.net.port f.net).syncEvery = (x.net.port f.net).syncEvery) ∧
      y.net = { y.net with hist := x.net.hist, rseq := x.net.rseq, stopUntil := x.net.stopUntil, stopCause := x.net.stopCause } ∧
      (∀ n, n ≠ f.net → y.net.port n = x.net.port n) ∧
      y.obj O.netTimeSource = (if y.net.a.timeValid f.stamp then 1 else if y.net.b.timeValid f.stamp then 2
        else if x.obj O.netTimeSource = 0 then 0 else 3) ∧
      (f.asCapable = true → f.syncWithFollowUp = true → x.obj O.netTimeSource = 0 → y.obj O.netTimeSource = netIx f.net + 1 →
        y.net.offset = (f.stamp : Int) - f.netTime) ∧
      (∀ (meas : Int) (src : Nat), meas = (f.stamp : Int) - f.netTime → src = netIx f.net + 1 →
        (f.asCapable = false ∨ f.syncWithFollowUp = false ∨ y.obj O.netTimeSource ≠ src → y.net.offset = x.net.offset ∧
          y.net.rate = x.net.rate ∧ y.net.offAt = x.net.offAt ∧ y.net.seen = x.net.seen ∧ y.net.slewAt = x.net.slewAt) ∧
        (f.asCapable = true → f.syncWithFollowUp = true → y.obj O.netTimeSource = src → y.net.offAt = f.stamp ∧
          y.net.seen = some (src, (f.stamp : Int), meas) ∧
          (∀ t0 m0, x.net.seen = some (src, t0, m0) → t0 < f.stamp →
            y.net.rate = ((meas - m0 : Int) : Rat) / ((((f.stamp : Nat) : Int) - t0 : Int) : Rat)) ∧
          (x.obj O.netTimeSource ≠ 0 → x.obj O.netTimeSource ≠ 3 → (∀ e, x.net.seen = some e → e.1 = src) → x.net.slewAt = 0 →
            y.net.offset = meas) ∧
          (x.obj O.netTimeSource ≠ 0 → (x.obj O.netTimeSource = 3 ∨ ∃ e, x.net.seen = some e ∧ e.1 ≠ src) → x.net.slewAt = 0 →
            y.net.offset = x.net.offsetAt f.stamp) ∧
          (x.obj O.netTimeSource ≠ 0 → x.net.slewAt ≠ 0 →
            |y.net.offset - x.net.offsetAt f.stamp| ≤ (((f.stamp - x.net.slewAt) / 1000000 : Nat) : Int)))) ∧
      ObjsKept [O.netTimeSource.key, O.gmIdentity.key] x y ∧ y = { x with objs := y.objs, net := y.net })) ∧
  (∀ (s : State) (l : LaneId) (n : Net) (t : Nat) (x : Lane), Sees s l t x →
    (∃ y, exec (.netTimeLost l n t) s = .next (s.setLane l y) ∧
      ((x.net.port n).timeValid t = true → y.net = x.net) ∧ ((x.net.port n).timeValid t = false → (y.net.port n).timeOk = false) ∧
      (∀ m, m ≠ n → y.net.port m = x.net.port m) ∧
      y.obj O.netTimeSource = (if y.net.a.timeValid t then 1 else if y.net.b.timeValid t then 2
        else if x.obj O.netTimeSource = 0 then 0 else 3) ∧ ObjsKept [O.netTimeSource.key] x y ∧
      y = { x with objs := y.objs, net := y.net }) ∧
    (∃ y, exec (.gateWindow l n t) s = .next (s.setLane l y) ∧
      ((x.net.port n).tx = none → (x.net.port n).cut = none → (x.net.port n).queue = [] → (x.net.port n).freeAt ≤ t →
        y = x.updPort n fun p => { p with window := x.windowAt t }) ∧
      (∀ f e stop, (x.net.port n).tx = some (f, e) → t < e → f.cls ≠ 2 → classOpen (x.windowAt t) f.cls = false → (x.net.port n).queue = [] →
        stop = max t ((x.net.port n).txAt + 576) →
        (e < stop + 608 → y = x.updPort n fun p => { p with window := x.windowAt t }) ∧
        (stop + 608 ≤ e → classOpen (x.windowAt (stop + 128)) f.cls = false →
          (y.net.port n).tx = none ∧ (y.net.port n).cut = some (f, e + 64 - stop) ∧ (y.net.port n).freeAt = stop + 128 ∧
          CountedBy (O.txPreemptions (netIx n)) 1 x y)) ∧
      (∀ f e, (x.net.port n).tx = some (f, e) → t < e → f.cls = 2 ∨ classOpen (x.windowAt t) f.cls = true → (x.net.port n).queue = [] →
        y = x.updPort n fun p => { p with window := x.windowAt t }) ∧
      (∀ m, m ≠ n → y.net.port m = x.net.port m) ∧ ObjsKept [(O.txFrames (netIx n)).key, (O.txPreemptions (netIx n)).key] x y ∧
      y = { x with objs := y.objs, net := y.net }) ∧
    (∀ phy loc rem : Bool, ∃ y, exec (.linkDown l n ⟨t, phy, loc, rem⟩) s = .next (s.setLane l y) ∧
      (y.net.port n).linkUp = (phy && loc && rem) ∧ (y.net.port n).phyUp = phy ∧ (y.net.port n).localOk = loc ∧
      (y.net.port n).remoteOk = rem ∧
      (phy = false ∨ loc = false ∨ rem = false → (x.net.port n).linkUp = false → y = (x.portTo n t).updPort n fun p =>
        { p with phyUp := phy, localOk := loc, remoteOk := rem }) ∧
      (phy = false ∨ loc = false ∨ rem = false → (x.net.port n).linkUp = true → CountedBy (O.linkDowns (netIx n)) 1 x y ∧
        (y.net.port n).tx = none ∧ (y.net.port n).cut = none) ∧
      (phy = true → loc = true → rem = true → y.obj (O.linkDowns (netIx n)) = x.obj (O.linkDowns (netIx n))) ∧
      (∀ m, m ≠ n → y.net.port m = x.net.port m) ∧
      ObjsKept [(O.txFrames (netIx n)).key, (O.linkDowns (netIx n)).key] x y ∧ y = { x with objs := y.objs, net := y.net }) ∧
    (∀ (m : BitVec 48) (v : BitVec 16), ∃ y, exec (.streamHistoryReset l m v t) s = .next (s.setLane l y) ∧
      y = { x with net := { x.net with hist := y.net.hist } } ∧
      ∀ e, e ∈ y.net.hist ↔ e ∈ x.net.hist ∧ (e.1 ≠ streamKey m.toNat v.toNat ∨ t < e.2.at_ + 100000000)))

/-- The steps of R321 in their order. A frame for a lane whose ports do not run is not seen, one above 1,522 bytes is none; a wrong FCS, another VLAN, one the
bucket does not pass, one that MACsec does not accept and one with a wrong header are discarded under the count of their
step; a duplicate and a rogue sequence number under their own (of two copies at one instant the one on Net A is kept); any other is delivered and enters its stream's history (R322,
R323).
Readings of the model: assumption log 40 to 42, 154. -/
def Obligations.ReceivedFramesPassTheStepsInOrder : Prop :=
  ∀ (x p q v : Lane) (me : LaneId) (rx : Ingress) (cls : Nat) (r : Bool) (vid : Nat) (big : Prop),
    vid = (match rx.net with | .netA => x.obj O.netVidA | .netB => x.obj O.netVidB) →
    v = (x.updPort rx.net fun k => { k with phyUp := true, localOk := true, linkUp := k.remoteOk }) →
    (big ↔ 1522 < rx.frameRoom + if rx.sectag = true then 70 else 38) →
    (x.netUp = false → x.ingress me rx cls r = (false, x)) ∧
    (x.netUp = true → big → x.ingress me rx cls r = (false, v)) ∧
    (x.netUp = true → ¬ big → rx.fcsOk = false → x.ingress me rx cls r = (false, v.rxFail rx.net 1)) ∧
    (x.netUp = true → ¬ big → rx.fcsOk = true → rx.tpid ≠ 0x8100 ∨ rx.vid.map (fun w => w.toNat) ≠ some vid →
      x.ingress me rx cls r = (false, v.rxFail rx.net 2)) ∧
    (x.netUp = true → ¬ big → rx.fcsOk = true → rx.tpid = 0x8100 → rx.vid.map (fun w => w.toNat) = some vid →
      (v.police rx = (false, p) → x.ingress me rx cls r = (false, p.rxFail rx.net 3)) ∧
      (v.police rx = (true, p) → p.macsec rx = (false, q) → x.ingress me rx cls r = (false, q.rxFail rx.net 4)) ∧
      (v.police rx = (true, p) → p.macsec rx = (true, q) → q.headerOk me rx cls r = false →
        x.ingress me rx cls r = (false, q.rxFail rx.net 5)) ∧
      (∀ key, key = streamKey rx.srcMac.toNat rx.stream.toNat →
        v.police rx = (true, p) → p.macsec rx = (true, q) → q.headerOk me rx cls r = true →
        (∀ (new : Hist),
          (kvFind q.net.hist key = none ∧ new = ⟨rx.rseq.toNat, 1, rx.stamp, decide (rx.net = .netB)⟩ ∨
            ∃ (h : Hist) (d : Nat), kvFind q.net.hist key = some h ∧ d = (rx.rseq.toNat + 65536 - h.h) % 65536 ∧
              (h.at_ + 100000000 ≤ rx.stamp ∧ new = ⟨rx.rseq.toNat, 1, rx.stamp, decide (rx.net = .netB)⟩ ∨
                rx.stamp < h.at_ + 100000000 ∧ 1 ≤ d ∧ d ≤ 32767 ∧
                  new = ⟨rx.rseq.toNat, (h.mask * 2 ^ min 32 d + 1) % 2 ^ 32, rx.stamp, decide (rx.net = .netB)⟩ ∨
                rx.stamp < h.at_ + 100000000 ∧ 65504 < d ∧ bitOf h.mask (65536 - d) = false ∧
                  new = ⟨h.h, h.mask ||| 2 ^ (65536 - d), rx.stamp, decide (rx.net = .netB)⟩)) →
          ∃ y, x.ingress me rx cls r = (true, y) ∧ CountedBy (O.rxAccepted (netIx rx.net)) 1 q y ∧
            kvFind y.net.hist key = some new ∧ (∀ k, k ≠ key → kvFind y.net.hist k = kvFind q.net.hist k) ∧
            ObjsKept [(O.rxAccepted (netIx rx.net)).key] q y ∧
            y = { q with objs := y.objs, net := { q.net with hist := y.net.hist } }) ∧
        (∀ (h : Hist) (d : Nat), kvFind q.net.hist key = some h → d = (rx.rseq.toNat + 65536 - h.h) % 65536 →
          rx.stamp < h.at_ + 100000000 →
          (d = 0 ∨ 65504 < d ∧ bitOf h.mask (65536 - d) = true →
            (rx.net = .netB ∨ h.viaB = false ∨ h.h ≠ rx.rseq.toNat ∨ h.at_ ≠ rx.stamp →
              x.ingress me rx cls r = (false, q.inc (O.rxDuplicates (netIx rx.net)))) ∧
            (rx.net = .netA → h.viaB = true → h.h = rx.rseq.toNat → h.at_ = rx.stamp →
              ∃ y, x.ingress me rx cls r = (false, y) ∧ y.obj (O.rxAccepted 1) = q.obj (O.rxAccepted 1) - 1 ∧
                CountedBy (O.rxDuplicates 1) 1 q y ∧ CountedBy (O.rxAccepted 0) 1 q y ∧
                ObjsKept [(O.rxAccepted 1).key, (O.rxDuplicates 1).key, (O.rxAccepted 0).key] q y ∧ y = { q with objs := y.objs })) ∧
          (32767 < d → d ≤ 65504 → x.ingress me rx cls r = (false, q.inc (O.rxRogue (netIx rx.net)))))))

/-- Key agreement (R333 to R335, R343, R344, R359). A delivered request is answered, with the REASON that an abandoned exchange left due
to its host first; a HELLO of another XID abandons the exchange under way, one that the rules allow starts one, a refused one is counted
with its REASON; the reply takes fresh draws; the segments of a confirmation gather, and the whole is accepted only for the exchange under
way with both checks passed; the session then opens with the keys of the agreement; an exchange that is late is abandoned, and goes on for
a frame on time by its stamp.
Readings of the model: assumption log 39, 43, 44. -/
def Obligations.KeyAgreementRunsOneExchange : Prop :=
  (∀ (s : State) (l : LaneId) (rx : Ingress) (k : KaPrefix) (x z w : Lane), Sees s l rx.stamp x → w = z.kaExpire rx.stamp →
    (x.ingress l rx 6 true = (false, z) → exec (.kaCertReq l rx k) s = .next (s.setLane l z)) ∧
    (x.ingress l rx 6 true = (true, z) → (∀ r, w.ka.due ≠ some (r, rx.srcMac.toNat)) → exec (.kaCertReq l rx k) s = .next (s.setLane l
      (if bits rx.seg.toNat 0 5 ≠ 0x10 then (w.kaFail rx k 7).kaCount 7
       else if w.oct O.idCert = [] then w.kaFail rx k 5
       else w.sendKa 0x81 rx.srcMac.toNat k.hostKey.toNat k.session.toNat k.xid.toNat (w.oct O.idCert) rx.stamp))) ∧
    (∀ r, x.ingress l rx 6 true = (true, z) → w.ka.due = some (r, rx.srcMac.toNat) → exec (.kaCertReq l rx k) s
      = .next (s.setLane l (({ w with ka := { w.ka with due := none, phase := if w.ka.phase = KaPhase.late then .idle else w.ka.phase } }).kaFail
        rx k r)))) ∧
  (∀ (s : State) (l : LaneId) (rx : Ingress) (k : KaPrefix) (nH ek : List Byte) (x z w v u : Lane) (recent : List Nat) (foreign owed : Prop),
    Sees s l rx.stamp x →
    (x.ingress l rx 6 false = (false, z) → exec (.kaHello l rx k nH ek) s = .next (s.setLane l z)) ∧
    (x.ingress l rx 6 false = (true, z) → w = z.sessionAt rx.stamp →
      recent = w.ka.hellos.filter (fun t => decide (rx.stamp < t + 1000000000)) →
      v = ({ w with ka := { w.ka with hellos := rx.stamp :: recent } }).kaExpire rx.stamp →
      u = (if v.ka.phase.busy = true ∧ v.ka.xid ≠ k.xid.toNat then ({ v with ka := { v.ka with phase := .idle } }).inc O.kaFails else v) →
      (foreign ↔ ∃ n, u.sess.num = some n ∧
        (rx.srcMac.toNat ≠ u.sess.mac ∨ k.hostKey.toNat ≠ u.sess.key ∨ newerSession k.session.toNat n = false)) →
      (owed ↔ ∃ r, u.ka.due = some (r, rx.srcMac.toNat)) →
      (4 ≤ recent.length → exec (.kaHello l rx k nH ek) s
        = .next (s.setLane l { w with ka := { w.ka with hellos := recent, dropped := w.ka.dropped + 1 } })) ∧
      (recent.length < 4 → foreign → exec (.kaHello l rx k nH ek) s = .next (s.setLane l ((u.kaFail rx k 6).kaCount 6))) ∧
      (∀ r, recent.length < 4 → ¬ foreign → u.ka.due = some (r, rx.srcMac.toNat) → exec (.kaHello l rx k nH ek) s = .next (s.setLane l
        (({ u with ka := { u.ka with due := none, phase := if u.ka.phase = KaPhase.late then .idle else u.ka.phase } }).kaFail rx k r))) ∧
      (recent.length < 4 → ¬ foreign → ¬ owed →
        (u.helloReason rx k nH ek = 0 → u.ka.phase.busy = true → exec (.kaHello l rx k nH ek) s = .next (s.setLane l u)) ∧
        (u.helloReason rx k nH ek = 0 → u.ka.phase.busy = false → exec (.kaHello l rx k nH ek) s = .next (s.setLane l
          { u with ka := { u.ka with
            phase := .hello, mac := rx.srcMac.toNat, session := k.session.toNat, key := k.hostKey.toNat, xid := k.xid.toNat, nH := nH,
            ek := ek } })) ∧
        (u.helloReason rx k nH ek ≠ 0 →
          ∃ y, exec (.kaHello l rx k nH ek) s = .next (s.setLane l y) ∧ y.ka = u.ka ∧
            CountedBy O.kaFails 1 u y ∧ y.obj O.kaFailLast = u.helloReason rx k nH ek ∧
            y = { u with objs := y.objs, net := y.net })))) ∧
  (∀ (s : State) (l : LaneId) (t : Nat) (x : Lane), Sees s l t x →
    (x.ka.phase ≠ .hello → exec (.kaReply l t) s = .next (s.setLane l x)) ∧
    (∀ nL ct th1 : List Byte, x.ka.phase = .hello → nL = x.random32 l → ct = padTo 1088 (Config.mlKemCt x.ka.ek (x.drawNo l)) →
      th1 = sha3 (kaPrefix 2 x.ka.key x.ka.session x.ka.xid ++ x.ka.nH ++ x.ka.ek ++ nL ++ ct ++ sha3 (x.oct O.idCert)
        ++ bytesBE 4 (x.unitNo + 2 ^ 24 * laneNo l)) →
      ∃ y, exec (.kaReply l t) s = .next (s.setLane l y) ∧ y.ka = { x.ka with
          phase := .reply, ss := Config.mlKemSs x.ka.ek (x.drawNo l), th2 := sha3 (th1 ++ laneSign l th1 "SKT3-KA-L"),
          replyAt := x.now, conf := [], confLast := none, draws := x.ka.draws + 1 } ∧
        y = ({ x with ka := y.ka }).sendKa 0x82 x.ka.mac x.ka.key x.ka.session x.ka.xid
          (nL ++ ct ++ sha3 (x.oct O.idCert) ++ laneSign l th1 "SKT3-KA-L") x.now ∧
        y = { x with ka := y.ka, objs := y.objs, net := y.net }) ∧
    (x.ka.phase ≠ .confirmed → exec (.kaDone l t) s = .next (s.setLane l x)) ∧
    (∀ of : String → List Byte, (∀ n, of n = sha3 (ascii n ++ x.ka.ss ++ x.ka.th2)) →
      x.ka.phase = .confirmed → ∃ y, exec (.kaDone l t) s = .next (s.setLane l y) ∧
      y.ka = { x.ka with phase := .idle, nextAn := (x.ka.nextAn + 1) % 4 } ∧ y.sess =
        { num := some x.ka.session, prot := true, mac := x.ka.mac, key := x.ka.key, lastAt := x.now, an := some x.ka.nextAn,
          sakHm := of "SKT3 SAK HM", sakMh := of "SKT3 SAK MH", salt := (of "SKT3 SALT").take 12 } ∧
      y.net.hist = [] ∧ y.txn.tags = [] ∧ y.txn.reportDue = [] ∧ (∀ n, (y.net.port n).pnTop = 0 ∧ (y.net.port n).pnMask = 0) ∧
      CountedBy O.sessionsOpened 1 x y ∧ CountedBy O.kaDoneCount 1 x y ∧
      y = { x with ka := y.ka, sess := y.sess, net := y.net, txn := y.txn, objs := y.objs }) ∧
    (x.kaLate t = true → ∃ y, exec (.kaTimeout l t) s = .next (s.setLane l y) ∧
      y.ka = { x.ka with phase := .late, due := some (4, x.ka.mac), failWas := x.obj O.kaFailLast } ∧ CountedBy O.kaFails 1 x y ∧
      y.obj O.kaFailLast = 4 ∧ ObjsKept [O.kaFails.key, O.kaFailLast.key] x y ∧ y = { x with ka := y.ka, objs := y.objs } ∧
      y = x.kaExpire t) ∧
    (x.kaLate t = false → exec (.kaTimeout l t) s = .next (s.setLane l x) ∧ x.kaExpire t = x)) ∧
  (∀ (x y : Lane) (t : Nat), y = x.kaRevive t →
    (x.ka.phase ≠ .late ∨ x.ka.replyAt + 1000000000 < t → y = x) ∧
    (x.ka.phase = .late → t ≤ x.ka.replyAt + 1000000000 → y.ka = { x.ka with phase := .reply, due := none } ∧
      y.obj O.kaFails = x.obj O.kaFails - 1 ∧ y.obj O.kaFailLast = x.ka.failWas ∧ ObjsKept [O.kaFails.key, O.kaFailLast.key] x y ∧
      y = { x with ka := y.ka, objs := y.objs })) ∧
  (∀ (s : State) (l : LaneId) (rx : Ingress) (k : KaPrefix) (sig conf : List Byte) (x z v w u : Lane) (i : Nat) (last : Bool),
    Sees s l rx.stamp x → v = (z.kaRevive rx.stamp).kaExpire rx.stamp → i = bits rx.seg.toNat 0 4 → last = bitOf rx.seg.toNat 4 →
    w = { v with ka := { v.ka with conf := kvPut i (sig ++ conf) v.ka.conf, confLast := if last = true then some i else v.ka.confLast } } →
    u = { w with ka := { w.ka with conf := [], confLast := none } } →
    (x.ingress l rx 6 false = (false, z) → exec (.kaConfirm l rx k sig conf) s = .next (s.setLane l z)) ∧
    (∀ (same whole verified : Prop) (body : List Byte), x.ingress l rx 6 false = (true, z) →
      (same ↔ v.ka.phase = .reply ∧ v.ka.xid = k.xid.toNat ∧ v.ka.session = k.session.toNat ∧ v.ka.key = k.hostKey.toNat ∧
        v.ka.mac = rx.srcMac.toNat) →
      (whole ↔ ∃ n, w.ka.confLast = some n ∧ ∀ j ≤ n, ∃ e ∈ w.ka.conf, e.1 = j) →
      body = ((List.range (w.ka.confLast.getD 0 + 1)).flatMap fun j => kvGet [] w.ka.conf j) →
      (verified ↔ Config.mlDsaVerify (v.oct (O.hostKey v.ka.key)) v.ka.th2 (ascii "SKT3-KA-H") (body.take 2420) = true) →
      (¬ same → last = false → exec (.kaConfirm l rx k sig conf) s = .next (s.setLane l v)) ∧
      (∀ r, ¬ same → last = true → v.ka.due = some (r, rx.srcMac.toNat) → exec (.kaConfirm l rx k sig conf) s = .next (s.setLane l
        (({ v with ka := { v.ka with due := none, phase := if v.ka.phase = KaPhase.late then .idle else v.ka.phase } }).kaFail rx k r))) ∧
      (¬ same → last = true → (∀ r, v.ka.due ≠ some (r, rx.srcMac.toNat)) →
        exec (.kaConfirm l rx k sig conf) s = .next (s.setLane l ((v.kaFail rx k 7).kaCount 7))) ∧
      (same → ¬ whole → exec (.kaConfirm l rx k sig conf) s = .next (s.setLane l w)) ∧
      (same → whole → body.length ≠ 2452 →
        exec (.kaConfirm l rx k sig conf) s = .next (s.setLane l ((u.kaFail rx k 7).kaCount 7))) ∧
      (same → whole → body.length = 2452 → ¬ verified →
        exec (.kaConfirm l rx k sig conf) s = .next (s.setLane l ((u.kaFail rx k 2).kaAbandon 2))) ∧
      (same → whole → body.length = 2452 → verified → body.drop 2420 ≠ sha3 (ascii "SKT3 CONF H" ++ v.ka.ss ++ v.ka.th2) →
        exec (.kaConfirm l rx k sig conf) s = .next (s.setLane l ((u.kaFail rx k 3).kaAbandon 3))) ∧
      (same → whole → body.length = 2452 → verified → body.drop 2420 = sha3 (ascii "SKT3 CONF H" ++ v.ka.ss ++ v.ka.th2) →
        exec (.kaConfirm l rx k sig conf) s = .next (s.setLane l { u with ka := { u.ka with phase := .confirmed } }))))

/-- A delivered Demand of the open session is judged by its pair against the last pair accepted in the session (R351): the
first of a session is accepted with any pair; so is a later number of the same epoch, and a newer epoch with any number. The
same pair is a duplicate and any other is stale: both are counted and change nothing else. -/
def Obligations.DemandPairsAreJudgedSerially : Prop :=
  ∀ (s : State) (l : LaneId) (rx : Ingress) (d : DemandPayload) (x z : Lane), Sees s l rx.stamp x →
    (x.sessionAt rx.stamp).ingress l rx 1 false = (true, z) → z.bound rx d.session.toNat = true → demandZero d = true →
    rx.length.toNat = 56 → ∀ nt : Int, nt = z.netTime rx.stamp →
    ((z.sess.pair = none ∨ ∃ e0 s0, z.sess.pair = some (e0, s0) ∧
        ((d.epoch.toNat + 65536 - e0) % 65536 = 0 ∧ 1 ≤ (d.seq.toNat + 2 ^ 32 - s0) % 2 ^ 32 ∧
          (d.seq.toNat + 2 ^ 32 - s0) % 2 ^ 32 ≤ 2 ^ 31 - 1 ∨
        1 ≤ (d.epoch.toNat + 65536 - e0) % 65536 ∧ (d.epoch.toNat + 65536 - e0) % 65536 ≤ 32767)) →
      ∃ y r, exec (.demand l rx d) s = .next (s.setLane l y) ∧ y.dem = { z.dem with acc := r :: z.dem.acc, ownAt := rx.stamp } ∧
        r = { session := d.session.toNat, epoch := d.epoch.toNat, seq := d.seq.toNat, crc := (crc32 (demandBytes d)).toNat,
              motion := padTo 40 d.motion, stamp := rx.stamp } ∧
        y.sess = { z.sess with pair := some (d.epoch.toNat, d.seq.toNat), lastAt := max z.sess.lastAt rx.stamp } ∧
        CountedBy O.demandAccepted 1 z y ∧
        y.txn = { z.txn with reportDue := (z.txn.reportDue.filter fun (e : DueReport) => e.cycle ≠ z.cycleNo nt) ++
          [⟨r.rank, rx.stamp, z.cycleNo nt, rx.stamp - z.cyclePos nt, decide (1000 * z.obj O.netDemandWin < z.cyclePos nt),
            decide (z.txn.reported = some (z.cycleNo nt))⟩] } ∧
        (1000 * z.obj O.netDemandWin < z.cyclePos nt → CountedBy O.demandLate 1 z y) ∧
        (z.cyclePos nt ≤ 1000 * z.obj O.netDemandWin → y.obj O.demandLate = z.obj O.demandLate) ∧
        (y.flag O.quietActive = true ↔ bitOf d.flags.toNat 0 = true) ∧ (bitOf d.flags.toNat 0 = false → y.net = z.net) ∧
        (bitOf d.flags.toNat 0 = true → ∀ n, ∀ f ∈ (y.net.port n).queue, f.cls ≠ 4 ∧ f.cls ≠ 5) ∧
        ObjsKept [O.demandAccepted.key, O.demandLate.key, O.quietActive.key, O.quietDrops.key, (O.txFrames 0).key, (O.txFrames 1).key] z y ∧
        y = { z with sess := y.sess, dem := y.dem, txn := y.txn, objs := y.objs, net := y.net }) ∧
    (∀ e0 s0 : Nat, z.sess.pair = some (e0, s0) →
      ((d.epoch.toNat + 65536 - e0) % 65536 = 0 → (d.seq.toNat + 2 ^ 32 - s0) % 2 ^ 32 = 0 →
        exec (.demand l rx d) s = .next (s.setLane l (z.inc O.demandDuplicate))) ∧
      (32767 < (d.epoch.toNat + 65536 - e0) % 65536 ∨
          (d.epoch.toNat + 65536 - e0) % 65536 = 0 ∧ 2 ^ 31 ≤ (d.seq.toNat + 2 ^ 32 - s0) % 2 ^ 32 →
        exec (.demand l rx d) s = .next (s.setLane l (z.inc O.demandStale))))

/-- Demands that do not reach E2, and Reports (R343, R348, R353, R354). A Demand that is not delivered changes nothing more, one of
no session or another is counted, and one with reserved bits or of another length is discarded (the model's reading, assumption
logs 41 and 78). The first Report due whose window is open, that of a second one of its cycle being the open window, and
whose Demand came 5 µs before, goes out, on each port that has link; a lane that may send no frame sends none. -/
def Obligations.DemandsAreDiscardedAndReported : Prop :=
  (∀ (s : State) (l : LaneId) (rx : Ingress) (d : DemandPayload) (x z : Lane), Sees s l rx.stamp x →
    ((x.sessionAt rx.stamp).ingress l rx 1 false = (false, z) → exec (.demand l rx d) s = .next (s.setLane l z)) ∧
    ((x.sessionAt rx.stamp).ingress l rx 1 false = (true, z) →
      (z.bound rx d.session.toNat = false → exec (.demand l rx d) s = .next (s.setLane l (z.inc O.foreignDiscards))) ∧
      (z.bound rx d.session.toNat = true → demandZero d = false ∨ rx.length.toNat ≠ 56 →
        exec (.demand l rx d) s = .next (s.setLane l z)))) ∧
  (∀ (s : State) (l : LaneId) (t : Nat) (x : Lane), Sees s l t x →
    ∀ win : DueReport → Nat, (∀ d, win d = 1000 * (x.obj O.netDemandWin + if d.second = true then x.obj O.netReportWin else 0)) →
    ((∀ d ∈ x.txn.reportDue, x.now < d.start + win d ∨ x.now < d.stamp + 5000) ∨ x.netUp = false ∨
      x.mute = true → exec (.report l t) s = .next (s.setLane l x)) ∧
    (∀ (d : DueReport) (before after : List DueReport), x.txn.reportDue = before ++ d :: after →
      (∀ e ∈ before, x.now < e.start + win e ∨ x.now < e.stamp + 5000) →
      d.start + win d ≤ x.now → d.stamp + 5000 ≤ x.now → x.netUp = true → x.mute = false →
      ∃ y, exec (.report l t) s = .next (s.setLane l y) ∧
        y.txn = { x.txn with reportDue := x.txn.reportDue.filter (fun (e : DueReport) => e.cycle ≠ d.cycle),
                             reported := some d.cycle, report := x.reportBytes l d, revRefused := (x.snapNow l).reversals,
                             parkRefused := (x.snapNow l).parkRefusals } ∧
        CountedBy O.reportsSent 1 x y ∧ y.net = (x.sendMsg x.sess.mac 2 x.now [x.reportBytes l d]).net ∧
        ((∀ n, (x.net.port n).linkUp = false) → ObjsKept [O.reportsSent.key] x y ∧
          y.net = { x.net with rseq := x.net.rseq.set 2 ((nth x.net.rseq 2 + 1) % 65536) }) ∧
        y = { x with objs := y.objs, net := y.net, txn := y.txn }))

/-- Requests of the host (R343 to R346, R355 to R360). One whose segments are complete is executed when its tag lets it: a read
and a bulk read are answered, a write is judged and taken, a close ends the session, an open begins one in Blank and
Assembly, an unknown operation is answered 4. Tags: a fresh one opens, one in use answers 7, a quarantined one 6.
Readings of the model: assumption log 50 to 52, 80, 81. -/
def Obligations.RequestsRunWhenTheirTagLetsThem : Prop :=
  (∀ (x : Lane) (h : TxnHead) (t : Nat), x.flag O.quietActive = true →
    x.letIn false h t = (false, if tagJudge (kvFind x.txn.tags (h.tag.toNat / 16)) (h.tag.toNat % 16) t = .drop
      then x.inc O.txnTagDrops else x.inc O.quietDrops)) ∧
  (∀ (x z : Lane) (l : LaneId) (rx : Ingress) (h : TxnHead) (data : List Byte),
    ((x.sessionAt rx.stamp).ingress l rx 3 false = (false, z) → x.takeSegment l rx h data = (none, z)) ∧
    ((x.sessionAt rx.stamp).ingress l rx 3 false = (true, z) → rx.seg.toNat % 32 = 16 → z.bound rx h.session.toNat = true →
      z.expired (z.netTime rx.stamp) h.hostTime.toNat = false → x.takeSegment l rx h data = (some (h, data), z)) ∧
    ((x.sessionAt rx.stamp).ingress l rx 3 false = (true, z) → rx.seg.toNat % 32 = 16 → z.bound rx h.session.toNat = true →
      z.expired (z.netTime rx.stamp) h.hostTime.toNat = true → x.takeSegment l rx h data = (none, z.inc O.txnExpired)) ∧
    ((x.sessionAt rx.stamp).ingress l rx 3 false = (true, z) → rx.seg.toNat % 32 = 16 → z.bound rx h.session.toNat = false →
      z.mayOpen rx h = false → x.takeSegment l rx h data = (none, z.inc O.foreignDiscards))) ∧
  (∀ (x : Lane) (can : Bool) (h : TxnHead) (t : Nat), (can = true ∨ x.flag O.quietActive = false) →
    (kvFind (x.tagTable can) (h.tag.toNat / 16) = none → x.txn.opened.length < 16 →
      ∃ y, x.letIn can h t = (true, y) ∧ y.txn.opened = x.txn.opened ++ [⟨x.headId can h, h, .t5⟩] ∧
        kvFind (y.tagTable can) (h.tag.toNat / 16) = some (h.tag.toNat % 16, .open_) ∧ y.objs = x.objs) ∧
    (kvFind (x.tagTable can) (h.tag.toNat / 16) = none → 16 ≤ x.txn.opened.length →
      x.letIn can h t = (false, x.reply (x.headId can h) h 8)) ∧
    (kvFind (x.tagTable can) (h.tag.toNat / 16) = some (h.tag.toNat % 16, .open_) →
      x.letIn can h t = (false, x.inc O.txnTagDrops)) ∧
    (∀ g, kvFind (x.tagTable can) (h.tag.toNat / 16) = some (g, .open_) → (h.tag.toNat % 16 + 16 - g) % 16 ≠ 0 →
      x.letIn can h t = (false, x.reply (x.headId can h) h 7)) ∧
    (∀ g u c m use, use = .closed u c m ∨ use = .free u c m → kvFind (x.tagTable can) (h.tag.toNat / 16) = some (g, use) → t < u →
      ((h.tag.toNat % 16 + 16 - g) % 16 = 0 → x.letIn can h t = (false, (x.queueAnswer (x.headId can h) c m).inc O.txnRepeats)) ∧
      (1 ≤ (h.tag.toNat % 16 + 16 - g) % 16 → (h.tag.toNat % 16 + 16 - g) % 16 ≤ 8 →
        x.letIn can h t = (false, x.reply (x.headId can h) h 6)) ∧
      (8 < (h.tag.toNat % 16 + 16 - g) % 16 → x.letIn can h t = (false, x.inc O.txnTagDrops))) ∧
    (∀ g u c m use, use = .closed u c m ∨ use = .free u c m → kvFind (x.tagTable can) (h.tag.toNat / 16) = some (g, use) → u ≤ t →
      (1 ≤ (h.tag.toNat % 16 + 16 - g) % 16 → (h.tag.toNat % 16 + 16 - g) % 16 ≤ 8 → x.txn.opened.length < 16 →
        ∃ y, x.letIn can h t = (true, y) ∧ y.txn.opened = x.txn.opened ++ [⟨x.headId can h, h, .t5⟩]) ∧
      ((h.tag.toNat % 16 + 16 - g) % 16 = 0 ∨ 8 < (h.tag.toNat % 16 + 16 - g) % 16 →
        x.letIn can h t = (false, x.inc O.txnTagDrops)))) ∧
  (∀ (s : State) (l : LaneId) (rx : Ingress) (h h' : TxnHead) (data d' : List Byte) (x z y : Lane), Sees s l rx.stamp x →
    (x.takeSegment l rx h data = (none, z) → exec (.write l rx h data) s = .next (s.setLane l z)) ∧
    (x.takeSegment l rx h data = (some (h', d'), z) → z.letIn false h' rx.stamp = (false, y) →
      exec (.write l rx h data) s = .next (s.setLane l y)) ∧
    (x.takeSegment l rx h data = (some (h', d'), z) → z.letIn false h' rx.stamp = (true, y) → ∀ c : Nat,
      c = y.judgeHostWrite l ((s.setLane l y).peersOf l) (headKey h') h'.offset.toNat h'.dataLen.toNat d' →
      (c ≠ 0 → exec (.write l rx h data) s = .next (s.setLane l (y.answerId (y.headId false h') c []))) ∧
      (c = 0 → exec (.write l rx h data) s = .next (routeWrite l (y.headId false h') (skdTarget (headKey h')) h'.offset.toNat d'
        rx.stamp (s.setLane l y)))) ∧
    (x.takeSegment l rx h [] = (none, z) → (x.pwr.selftest ≠ .failed → exec (.read l rx h) s = .next (s.setLane l z)) ∧
      exec (.bulkRead l rx h) s = .next (s.setLane l z) ∧ exec (.sessionClose l rx h) s = .next (s.setLane l z) ∧
      exec (.sessionOpen l rx h) s = .next (s.setLane l z) ∧ exec (.txnBadOp l rx h) s = .next (s.setLane l z)) ∧
    (x.pwr.selftest = .failed → exec (.read l rx h) s = .next (s.setLane l (x.heldRead l rx h))) ∧
    (x.takeSegment l rx h [] = (some (h', d'), z) → z.letIn false h' rx.stamp = (false, y) →
      (x.pwr.selftest ≠ .failed → exec (.read l rx h) s = .next (s.setLane l y)) ∧
      exec (.bulkRead l rx h) s = .next (s.setLane l y) ∧ exec (.sessionClose l rx h) s = .next (s.setLane l y) ∧
      exec (.txnBadOp l rx h) s = .next (s.setLane l y) ∧
      (z.sess.num.isSome = true → exec (.sessionOpen l rx h) s = .next (s.setLane l y))) ∧
    (x.takeSegment l rx h [] = (some (h', d'), z) → z.sess.num = none →
      (h'.session = 0 → exec (.sessionOpen l rx h) s = .next (s.setLane l (z.inc O.foreignDiscards))) ∧
      (h'.session ≠ 0 → z.flag O.quietActive = true → exec (.sessionOpen l rx h) s = .next (s.setLane l (z.inc O.quietDrops))) ∧
      (h'.session ≠ 0 → z.flag O.quietActive = false → z.txn.opened.length < 16 →
        ∃ v w, (z.openSession h'.session.toNat rx.srcMac.toNat 0 none rx.stamp).letIn false h' rx.stamp = (true, v) ∧
          exec (.sessionOpen l rx h) s = .next (s.setLane l w) ∧
          w = v.answerId (v.headId false h') (if z.obj O.lcStateObj ≤ 1 then 0 else 9) [] ∧
          w.sess.num = some h'.session.toNat ∧ w.sess.prot = false ∧ w.sess.mac = rx.srcMac.toNat ∧
          CountedBy O.sessionsOpened 1 z w)) ∧
    (∀ e : Lane, x.takeSegment l rx h [] = (some (h', d'), z) → z.letIn false h' rx.stamp = (true, y) →
      e = (y.e1Until y.now).portsTo (y.e1Until y.now).now →
      (x.pwr.selftest ≠ .failed → exec (.read l rx h) s = .next (s.setLane l (e.answerId (e.headId false h')
        (e.readObj l false (headKey h') h'.offset.toNat 1384).1 (e.readObj l false (headKey h') h'.offset.toNat 1384).2))) ∧
      (h'.dataLen = 0 ∨ 11240 < h'.dataLen.toNat → (y.readObj l true (headKey h') h'.offset.toNat (min h'.dataLen.toNat 11240)).1 = 0 →
        exec (.bulkRead l rx h) s = .next (s.setLane l (y.answerId (y.headId false h') 4 []))) ∧
      (1 ≤ h'.dataLen.toNat → h'.dataLen.toNat ≤ 11240 → exec (.bulkRead l rx h) s = .next (s.setLane l
        (y.answerId (y.headId false h') (y.readObj l true (headKey h') h'.offset.toNat (min h'.dataLen.toNat 11240)).1
          (y.readObj l true (headKey h') h'.offset.toNat (min h'.dataLen.toNat 11240)).2))) ∧
      (∃ w, exec (.sessionClose l rx h) s = .next (s.setLane l w) ∧ w = (y.answerId (y.headId false h') 0 []).closeSession ∧
        w.sess = {} ∧ w.txn.tags = [] ∧ w.txn.parts = [] ∧ w.txn.reportDue = [] ∧ w.net.hist = []) ∧
      (z.sess.num.isSome = true → exec (.sessionOpen l rx h) s = .next (s.setLane l (y.answerId (y.headId false h')
        (if 1 < z.obj O.lcStateObj then 9 else if h'.session = 0 then 4 else 0) []))) ∧
      exec (.txnBadOp l rx h) s = .next (s.setLane l (z.reply (z.headId false h') h' 4)))) ∧
  (∀ (s : State) (l : LaneId) (t : Nat) (x : Lane), Sees s l t x →
    (x.sessionOver t = false → x.txn.old = none ∨ x.sess.num.isSome = true →
      exec (.sessionTimeout l t) s = .next (s.setLane l x)) ∧
    (∀ o, x.sess.num = none → x.txn.old = some o →
      (o.deadline < t → exec (.sessionTimeout l t) s = .next (s.setLane l x)) ∧
      (t ≤ o.deadline → ∃ y, exec (.sessionTimeout l t) s = .next (s.setLane l y) ∧ y.sess = o.sess ∧ y.net.hist = o.hist ∧
        y.txn.tags = o.tags ∧ y.txn.old = none ∧ y = { x with sess := y.sess, net := { x.net with hist := o.hist }, txn := y.txn })) ∧
    (x.sessionOver t = true → ∃ y, exec (.sessionTimeout l t) s = .next (s.setLane l y) ∧ y.sess = {} ∧ y.net.hist = [] ∧
      y.txn.tags = [] ∧ y.txn.parts = [] ∧ y.txn.reportDue = [] ∧
      (∃ o, y.txn.old = some o ∧ o.sess = x.sess ∧ o.hist = x.net.hist ∧ o.tags = x.txn.tags ∧
        o.deadline = x.sess.lastAt + 1000000 * x.obj O.sessionTimeout) ∧ y = { x with sess := y.sess, net := { x.net with hist := [] }, txn := y.txn }) ∧
    (∀ (can : Bool) (tag : BitVec 12),
      (∀ g u c m, kvFind (x.tagTable can) tag.toNat = some (g, .closed u c m) → u ≤ t →
        ∃ y, exec (.tagQuarantineEnd l can tag t) s = .next (s.setLane l y) ∧
          kvFind (y.tagTable can) tag.toNat = some (g, .free u c m) ∧ y = { x with txn := y.txn }) ∧
      ((∀ g u c m, kvFind (x.tagTable can) tag.toNat = some (g, .closed u c m) → t < u) →
        exec (.tagQuarantineEnd l can tag t) s = .next (s.setLane l x))))

/-- The CAN XL port (R336 to R340, R342). Every frame brings the error state of the port, and while it is bus off nothing is received.
A stop frame that is accepted holds its stop for 10 ms; a frame with another header is counted as ignored; a transaction is
executed one at a time, a write is refused in service, an OP that is not listed is answered 4; the requests of SKD-2, CAN FD
frames with the lane's ID, read and write the objects that they alias.
Readings of the model: assumption log 82 to 84. -/
def Obligations.CanFramesStopAndTransact : Prop :=
  (∀ (s : State) (l : LaneId) (rx : CanRx) (p : List Byte) (v x : Lane), Sees s l rx.fin v → x = v.setObj O.canxlState rx.busState.val →
    (x.netUp = false ∨ rx.busState = 2 → exec (.stopFrame l rx p) s = .next (s.setLane l x)) ∧
    (x.netUp = true → rx.busState ≠ 2 → x.canHeader rx 0x010 true = false ∨ p.length ≠ 8 ∨ be p 0 4 % 2 ^ 18 ≠ rx.acceptance.toNat % 2 ^ 18 →
      exec (.stopFrame l rx p) s = .next (s.setLane l (x.inc O.canxlIgnored))) ∧
    (x.netUp = true → rx.busState ≠ 2 → x.canHeader rx 0x010 true = true → p.length = 8 → be p 0 4 % 2 ^ 18 = rx.acceptance.toNat % 2 ^ 18 →
      (x.flag O.canxlStopEn = true → be p 6 2 = (crc16 (p.take 6)).toNat →
        ∃ y, exec (.stopFrame l rx p) s = .next (s.setLane l y) ∧
          y.net = { x.net with stopUntil := some (x.now + 10000000), stopCause := be p 4 1 } ∧ y.canStop x.now = true ∧
          CountedBy O.stopFrames 1 x y ∧ ObjsKept [O.stopFrames.key] x y ∧ y = { x with net := y.net, objs := y.objs }) ∧
      (x.flag O.canxlStopEn = false ∨ be p 6 2 ≠ (crc16 (p.take 6)).toNat →
        exec (.stopFrame l rx p) s = .next (s.setLane l x)))) ∧
  (∀ (s : State) (l : LaneId) (t : Nat) (x : Lane), Sees s l t x →
    (x.canStop x.now = true → exec (.stopFrameHoldEnd l t) s = .next (s.setLane l x)) ∧
    (x.canStop x.now = false →
      exec (.stopFrameHoldEnd l t) s = .next (s.setLane l { x with net := { x.net with stopUntil := none } }))) ∧
  (∀ (s : State) (l : LaneId) (rx : CanRx) (h : TxnHead) (data : List Byte) (v x z y : Lane), Sees s l rx.fin v →
    x = v.setObj O.canxlState rx.busState.val →
    (x.pwr.selftest = .failed → exec (.canTransaction l rx h data) s = .next (s.setLane l (x.heldCan l rx h))) ∧
    (x.pwr.selftest ≠ .failed →
    (x.netUp = false ∨ rx.busState = 2 → exec (.canTransaction l rx h data) s = .next (s.setLane l x)) ∧
    (x.canTake l rx h data.length = (false, z) → exec (.canTransaction l rx h data) s = .next (s.setLane l z)) ∧
    (x.netUp = true → rx.busState ≠ 2 → x.canHeader rx (0x400 + laneNo l) false = false ∨ 488 < data.length →
      exec (.canTransaction l rx h data) s = .next (s.setLane l (x.inc O.canxlIgnored))) ∧
    (x.netUp = true → rx.busState ≠ 2 → x.canHeader rx (0x400 + laneNo l) false = true → data.length ≤ 488 → x.canBusy = true →
      exec (.canTransaction l rx h data) s = .next (s.setLane l (x.inc O.canxlDrops))) ∧
    (x.canTake l rx h data.length = (true, z) → z.letIn true h rx.start = (false, y) →
      exec (.canTransaction l rx h data) s = .next (s.setLane l y)) ∧
    (x.canTake l rx h data.length = (true, z) → z.letIn true h rx.start = (true, y) →
      (h.op = 0 ∨ 5 < h.op.toNat → exec (.canTransaction l rx h data) s = .next (s.setLane l (z.reply (z.headId true h) h 4))) ∧
      (∀ e : Lane, h.op = 1 → e = (y.e1Until y.now).portsTo (y.e1Until y.now).now → exec (.canTransaction l rx h data) s = .next (s.setLane l
        (e.answerId (e.headId true h) (e.readObj l false (headKey h) h.offset.toNat 488).1
          (e.readObj l false (headKey h) h.offset.toNat 488).2))) ∧
      (h.op = 2 → y.obj O.lcStateObj = 3 →
        exec (.canTransaction l rx h data) s = .next (s.setLane l (y.answerId (y.headId true h) 9 []))) ∧
      (h.op = 2 → y.obj O.lcStateObj ≠ 3 → ∃ w, exec (.canTransaction l rx h data) s = .next w ∧ w = serveWrite l (y.headId true h)
        (headKey h) h.offset.toNat h.dataLen.toNat data rx.start (s.setLane l y)) ∧
      (h.op = 3 → exec (.canTransaction l rx h data) s = .next (s.setLane l (y.serveBulk l true 488 h))) ∧
      (h.op = 4 ∨ h.op = 5 → exec (.canTransaction l rx h data) s = .next (s.setLane l (y.answerId (y.headId true h) 2 [])))))) ∧
  (∀ (s : State) (l : LaneId) (t : SkdRx) (p : List Byte) (x e : Lane) (c : Instr), Sees s l t.t x →
    c = .skd2AliasRead l t p ∧ e = (x.e1Until x.now).setObj O.canxlState t.busState.val ∨
      c = .skd2AliasWrite l t p ∧ e = x.setObj O.canxlState t.busState.val →
    (e.netUp = false ∨ e.flag O.canxlSkd2En = false ∨ p.length ≠ 8 ∨ t.fd = false ∨ t.priority.toNat ≠ 0x5A0 + laneNo l ∨
      t.busState = 2 → exec c s = .next (s.setLane l e)) ∧
    (e.netUp = true → e.flag O.canxlSkd2En = true → p.length = 8 → t.fd = true → t.priority.toNat = 0x5A0 + laneNo l →
      t.busState ≠ 2 →
      (be p 0 1 ≠ 1 → be p 0 1 ≠ 2 → exec c s = .next (s.setLane l (e.inc O.canxlIgnored))) ∧
      (be p 0 1 = 1 ∨ be p 0 1 = 2 → e.canBusy = true → exec c s = .next (s.setLane l (e.inc O.canxlDrops))) ∧
      (be p 0 1 = 1 ∨ be p 0 1 = 2 → e.canBusy = false → 16 ≤ e.txn.opened.length →
        exec c s = .next (s.setLane l (e.reply skdId (skdHead p) 8)))) ∧
    (∀ w z : Lane, e.netUp = true → e.flag O.canxlSkd2En = true → p.length = 8 → t.fd = true → t.priority.toNat = 0x5A0 + laneNo l →
      t.busState ≠ 2 → e.canBusy = false → e.txn.opened.length < 16 →
      w = { e with txn := { e.txn with opened := e.txn.opened ++ [⟨skdId, skdHead p, .t5⟩] } } →
      (be p 0 1 = 1 → z = w.portsTo w.now → ((z.readObj l false (headKey (skdHead p)) 0 4).1 = 0 →
        (z.readObj l false (headKey (skdHead p)) 0 4).2.length = (skdHead p).dataLen.toNat →
        exec c s = .next (s.setLane l (z.answerId skdId 0 (z.readObj l false (headKey (skdHead p)) 0 4).2))) ∧
        ((z.readObj l false (headKey (skdHead p)) 0 4).1 = 0 →
        (z.readObj l false (headKey (skdHead p)) 0 4).2.length ≠ (skdHead p).dataLen.toNat →
        exec c s = .next (s.setLane l (z.answerId skdId 3 []))) ∧
        ((z.readObj l false (headKey (skdHead p)) 0 4).1 ≠ 0 → exec c s = .next (s.setLane l (z.answerId skdId
          (z.readObj l false (headKey (skdHead p)) 0 4).1 (z.readObj l false (headKey (skdHead p)) 0 4).2)))) ∧
      (be p 0 1 = 2 → z = w → (z.obj O.lcStateObj = 3 → exec c s = .next (s.setLane l (z.answerId skdId 9 []))) ∧
        (z.obj O.lcStateObj ≠ 3 → (skdHead p).dataLen.toNat = 0 ∨ 4 < (skdHead p).dataLen.toNat →
          exec c s = .next (s.setLane l (z.answerId skdId 3 []))) ∧
        (z.obj O.lcStateObj ≠ 3 → 1 ≤ (skdHead p).dataLen.toNat → (skdHead p).dataLen.toNat ≤ 4 →
          ∃ u, exec c s = .next u ∧ u = serveWrite l skdId (headKey (skdHead p)) 0 (skdHead p).dataLen.toNat
            (bytesBE (skdHead p).dataLen.toNat (skdHead p).offset.toNat) t.t (s.setLane l z)))))

/-- Non-volatile memory (R371, R373, R379 to R383). NV_STORE and RO_STORE put what is due into a new image in the copy not in
use; NV_USER_RESET stores one without entries. A write of the staged image makes it not eligible, its check ends with the
code of R383, and an install proposes its entries only for an eligible image of that digest. A write of 0 resets an input's
exclusions (R46), and the objects that track a peak start again (R199, R160, R471).
Readings of the model: assumption log 53 to 56. -/
def Obligations.StoresAndStagedImagesActByTheirRules : Prop :=
  ∀ (s : State) (l : LaneId) (t : Nat) (x : Lane), Sees s l t x →
    (∃ y, exec (.nvStore l t) s = .next (s.setLane l y) ∧ y.nv.due = [] ∧ (∀ o ∈ y.txn.opened, o.wait ≠ .store) ∧
      (x.nv.due = [] → y.nv = x.nv) ∧
      (x.nv.due ≠ [] → StoreOf l x.nv.due x y ∧
        y.nv = { x.nv with copyA := y.nv.copyA, copyB := y.nv.copyB, use := y.nv.use, roBase := y.nv.roBase, due := [] }) ∧
      ((∀ o ∈ x.txn.opened, o.wait ≠ .store) → ObjsKept [O.nvStores.key] x y ∧ y = { x with nv := y.nv, objs := y.objs })) ∧
    (x.roDue l = [] → exec (.roStore l t) s = .next (s.setLane l x)) ∧
    (x.roDue l ≠ [] → ∃ y, exec (.roStore l t) s = .next (s.setLane l y) ∧ StoreOf l (x.roDue l) x y ∧
      ObjsKept [O.nvStores.key] x y ∧ y = { x with nv := { x.nv with copyA := y.nv.copyA, copyB := y.nv.copyB, use := y.nv.use, roBase := y.nv.roBase }, objs := y.objs }) ∧
    (∀ v : BitVec 8, (v ≠ 1 → exec (.nvUserReset l v t) s = .next (s.setLane l x)) ∧
      (v = 1 → ∃ y b c, exec (.nvUserReset l v t) s = .next (s.setLane l y) ∧ y.nv.inUse = some (b, c) ∧ c.entries = [] ∧ c.kind = 2 ∧
        c.lane = laneNo l ∧ c.digest = nvDigestOf c ∧
        c.gen = (match x.nv.inUse with | some (_, c0) => c0.gen + 1 | none => 1) ∧ y.nv.due = [] ∧ CountedBy O.nvStores 1 x y ∧
        ObjsKept [O.nvStores.key] x y ∧
        y = { x with objs := y.objs,
                     nv := { x.nv with copyA := y.nv.copyA, copyB := y.nv.copyB, use := y.nv.use, roBase := y.nv.roBase, due := [] } })) ∧
    (∀ (off : Nat) (given data : List Byte), data = given.take (262144 - off) →
      ∃ y, exec (.nvStage l off given t) s = .next (s.setLane l y) ∧
        (∀ a, memRead y.nv.stage a = if off ≤ a ∧ a < off + data.length then data.getD (a - off) 0 else memRead x.nv.stage a) ∧
        y.nv.stageLen = (if data = [] then x.nv.stageLen else max x.nv.stageLen (off + data.length)) ∧
        y.nv.checkSpoilt = decide (x.obj O.nvStageState = 1) ∧
        y.obj O.nvStageState = (if x.obj O.nvStageState = 1 then 1 else 0) ∧ ObjsKept [O.nvStageState.key] x y ∧
        y = { x with objs := y.objs, nv := y.nv } ∧
        y.nv = { x.nv with stage := y.nv.stage, stageLen := y.nv.stageLen, checkSpoilt := y.nv.checkSpoilt }) ∧
    (∀ v : BitVec 8, (v ≠ 1 → exec (.nvStageCheck l v t) s = .next (s.setLane l x)) ∧
      (v = 1 → exec (.nvStageCheck l v t) s = .next (s.setLane l
        (({ x with nv := { x.nv with checkSpoilt := false } } : Lane).setObj O.nvStageState 1)))) ∧
    (x.obj O.nvStageState ≠ 1 → exec (.nvStageCheckDone l t) s = .next (s.setLane l x)) ∧
    (x.obj O.nvStageState = 1 → ∃ y, exec (.nvStageCheckDone l t) s = .next (s.setLane l y) ∧
      y.obj O.nvStageState = (if x.nv.checkSpoilt = false ∧ x.judgeStage l = 0 then 2 else 3) ∧
      y.obj O.nvStageFail = (if x.nv.checkSpoilt = true then x.obj O.nvStageFail else x.judgeStage l) ∧
      (be (memReadAll x.nv.stage 0 0x40) 0 4 ≠ 0x534B4E56 → x.nv.checkSpoilt = false → y.obj O.nvStageFail = 1) ∧
      ObjsKept [O.nvStageState.key, O.nvStageFail.key] x y ∧ y = { x with objs := y.objs }) ∧
    (∀ digest : List Byte,
      (∀ es, x.obj O.nvStageState = 2 → memReadAll x.nv.stage 0x20 32 = digest → x.nv.stagedEntries = some es →
        exec (.nvStageInstall l digest t) s = .next (s.setLane l
          { x with com := { x.com with waiting := x.com.waiting ++ [(.install, es)] } })) ∧
      (x.obj O.nvStageState ≠ 2 ∨ memReadAll x.nv.stage 0x20 32 ≠ digest →
        exec (.nvStageInstall l digest t) s = .next (s.setLane l x))) ∧
    (∀ (n : Fin 10) (v : BitVec 8), (v ≠ 0 → exec (.voteStatusReset l n v t) s = .next (s.setLane l x)) ∧
      (v = 0 → ∃ y, exec (.voteStatusReset l n v t) s = .next (s.setLane l y) ∧
        y.obj (O.voteStatus n) = x.obj (O.voteStatus n) / 8 * 8 ∧ y.votes[n] = { x.votes[n] with runs := [0, 0, 0] } ∧
        (∀ m : Fin 10, m ≠ n → y.votes[m] = x.votes[m]) ∧ ObjsKept [(O.voteStatus n).key] x y ∧
        y = { x with objs := y.objs, votes := y.votes })) ∧
    (∀ (index : BitVec 16) (sub : BitVec 8) (data : List Byte) (key : Nat), key = index.toNat * 256 + sub.toNat →
      (x.judgeWrite false key 0 data ≠ 0 ∨ zeroOnly key = true ∧ ofBytesBE data ≠ 0 →
        exec (.counterReset l index sub data t) s = .next (s.setLane l x)) ∧
      (x.judgeWrite false key 0 data = 0 → zeroOnly key = false ∨ ofBytesBE data = 0 →
        (key = O.tempMaxSeen.key →
          exec (.counterReset l index sub data t) s = .next (s.setLane l (x.setArr16 O.tempMaxSeen x.eng.temps))) ∧
        (key = O.voltMinSeen.key →
          exec (.counterReset l index sub data t) s = .next (s.setLane l (x.setArr16 O.voltMinSeen x.eng.volts))) ∧
        (key = O.voltMaxSeen.key →
          exec (.counterReset l index sub data t) s = .next (s.setLane l (x.setArr16 O.voltMaxSeen x.eng.volts))) ∧
        (key = O.vLinkPeak.key → exec (.counterReset l index sub data t) s = .next (s.setLane l (x.setObj O.vLinkPeak 0))) ∧
        (∀ k : Fin 9, key = (O.commitLatMax k).key →
          exec (.counterReset l index sub data t) s = .next (s.setLane l (x.setObj (O.commitLatMax k) 0)))))

/-- Firmware and program images (R396, R413 to R415, R418, R424). Bytes of a firmware image are taken by a lane that stands
aside alone, and leave its inactive slot not eligible; the end of a check gives its code and makes the slot, or the staged
program image, eligible on a pass alone; UPD_STATE of a lane that stands aside is 2 while either is eligible. An accepted activation changes the boot slot to the inactive one where its firmware
is checked, stores what is due, closes the session and makes the restart due; a trial not confirmed in time fails and does
so too.
Readings of the model: assumption log 57, 66, 70. -/
def Obligations.ImagesAreTakenCheckedAndActivated : Prop :=
  ∀ (s : State) (l : LaneId) (t : Nat) (x : Lane), Sees s l t x →
    (∀ (off : Nat) (given data : List Byte), data = given.take (6295552 - off) →
      (x.claim.aside = false → exec (.fwImage l off given t) s = .next (s.setLane l x)) ∧
      (x.claim.aside = true → ∃ y, exec (.fwImage l off given t) s = .next (s.setLane l y) ∧
        (∀ a, memRead y.upd.img a = if off ≤ a ∧ a < off + data.length then data.getD (a - off) 0 else memRead x.upd.img a) ∧
        y.upd.filled = (if off ≤ x.upd.filled then max x.upd.filled (off + data.length) else x.upd.filled) ∧
        y.inactiveSlot = {} ∧ y.activeSlot = x.activeSlot ∧ y.obj O.fwInstallState = 0 ∧
        y.obj O.updState = (if x.obj O.updState = 1 ∨ x.obj O.updState = 2 then (if x.obj O.progState = 2 then 2 else 1)
          else x.obj O.updState) ∧
        ObjsKept [O.fwInstallState.key, O.updState.key] x y ∧ y = { x with objs := y.objs, upd := y.upd } ∧
        y.upd.progStaged = x.upd.progStaged ∧ y.upd.progActive = x.upd.progActive)) ∧
    (∀ (off : Nat) (given data : List Byte), data = given.take (266240 - off) →
      ∃ y, exec (.progImage l off given t) s = .next (s.setLane l y) ∧
        (∀ a, memRead y.upd.progImg a =
          if off ≤ a ∧ a < off + data.length then data.getD (a - off) 0 else memRead x.upd.progImg a) ∧
        y.upd.progFilled = (if off ≤ x.upd.progFilled then max x.upd.progFilled (off + data.length) else x.upd.progFilled) ∧
        y.upd.progStaged = {} ∧ y.upd.progActive = x.upd.progActive ∧ y.activeSlot = x.activeSlot ∧
        y.inactiveSlot = x.inactiveSlot ∧ y.obj O.progState = 0 ∧
        y.obj O.updState = (if x.claim.aside = true ∧ (x.obj O.updState = 1 ∨ x.obj O.updState = 2) then
          (if x.obj O.fwInstallState = 2 then 2 else 1) else x.obj O.updState) ∧ ObjsKept [O.progState.key, O.updState.key] x y ∧
        y = { x with objs := y.objs, upd := y.upd }) ∧
    (exec (.fwInstallCheck l 1 t) s = .next (s.setLane l (x.setObj O.fwInstallState 1)) ∧
      exec (.progCheck l 1 t) s = .next (s.setLane l (x.setObj O.progState 1)) ∧
      ∀ v : BitVec 8, v ≠ 1 → exec (.fwInstallCheck l v t) s = .next (s.setLane l x) ∧
        exec (.progCheck l v t) s = .next (s.setLane l x)) ∧
    (x.obj O.fwInstallState ≠ 1 → x.obj O.progState ≠ 1 → exec (.fwInstallCheckDone l t) s = .next (s.setLane l x)) ∧
    (x.obj O.fwInstallState = 1 → ∃ y m c code, exec (.fwInstallCheckDone l t) s = .next (s.setLane l y) ∧
      imgParts x.upd.img x.upd.filled = (m, c) ∧ code = x.verifyImage l 1 m c 0 ∧
      (be m 0 4 ≠ 0x534B5349 → code = 1) ∧ y.obj O.imgVerifyLast = code ∧
      y.obj O.fwInstallState = (if code = 0 then 2 else 3) ∧ y.inactiveSlot = ⟨m, decide (code = 0), c, false⟩ ∧
      y.activeSlot = x.activeSlot ∧
      y.obj O.updState = (if x.claim.aside = true ∧ (x.obj O.updState = 1 ∨ x.obj O.updState = 2) then
        (if code = 0 ∨ x.obj O.progState = 2 then 2 else 1) else x.obj O.updState) ∧
      ObjsKept [O.imgVerifyLast.key, O.fwInstallState.key, O.updState.key] x y ∧ y = { x with objs := y.objs, upd := y.upd }) ∧
    (x.obj O.fwInstallState ≠ 1 → x.obj O.progState = 1 →
      ∃ y m c code, exec (.fwInstallCheckDone l t) s = .next (s.setLane l y) ∧
        imgParts x.upd.progImg x.upd.progFilled = (m, c) ∧ (be m 0 4 ≠ 0x534B5349 → code = 1) ∧
        (code = 0 ↔ x.verifyImage l 3 m c 0 = 0 ∧ progLayoutOk c = true) ∧
        (x.verifyImage l 3 m c 0 ≠ 0 → progLayoutOk c = true → code = x.verifyImage l 3 m c 0) ∧
        y.obj O.imgVerifyLast = code ∧ y.obj O.progState = (if code = 0 then 2 else 3) ∧
        y.upd = { x.upd with progStaged := ⟨m, decide (code = 0), c, false⟩ } ∧
        y.obj O.updState = (if x.claim.aside = true ∧ (x.obj O.updState = 1 ∨ x.obj O.updState = 2) then
          (if x.obj O.fwInstallState = 2 ∨ code = 0 then 2 else 1) else x.obj O.updState) ∧
        ObjsKept [O.imgVerifyLast.key, O.progState.key, O.updState.key] x y ∧ y = { x with objs := y.objs, upd := y.upd }) ∧
    (∀ v : BitVec 8,
      (v ≠ 1 ∨ x.claim.aside = false ∨ x.obj O.fwInstallState ≠ 2 ∧ x.upd.progStaged.eligible = false →
        exec (.fwActivate l v t) s = .next (s.setLane l x)) ∧
      (v = 1 → x.claim.aside = true → x.obj O.fwInstallState = 2 ∨ x.upd.progStaged.eligible = true →
        ∃ y, exec (.fwActivate l v t) s = .next (s.setLane l y) ∧ y.obj O.updState = 3 ∧ y.pwr = { x.pwr with restart := true } ∧
          y.sess = {} ∧ y.txn.tags = [] ∧ y.net.hist = [] ∧ y.nv.due = [] ∧ y.rbit Rg.sioCt 0 = false ∧
          (x.ctState = 0 ∨ x.ctState = 6 → y.sio = x.sio) ∧
          (x.ctState ≠ 0 → x.ctState ≠ 6 → y.ctState = 5 ∧ (y.ct .kp).on = false ∧ (y.ct .pre).on = false ∧
            y.ct .kn = { x.ct .kn with abandoned := decide (x.ctState = 1) }) ∧
          (x.obj O.fwInstallState = 2 → y.obj O.fwBootSlot = 1 - x.obj O.fwSlot ∧ y.upd = { x.upd with trialNext := true }) ∧
          (x.obj O.fwInstallState ≠ 2 → y.obj O.fwBootSlot = x.obj O.fwBootSlot ∧ y.upd = x.upd) ∧
          ObjsKept [O.fwBootSlot.key, O.updState.key, O.nvStores.key] x y ∧ RegsKept [Rg.sioCt.addr] x y ∧
          y.coll = x.coll ∧ y.claim = x.claim ∧ y.steer = x.steer ∧ y.brakes = x.brakes ∧ y.mx = x.mx)) ∧
    (x.obj O.fwTrial ≠ 1 ∨ x.now < x.upd.trialAt + 1000000 * x.obj O.fwTrialTime →
      exec (.fwTrialTimeout l t) s = .next (s.setLane l x)) ∧
    (x.obj O.fwTrial = 1 → x.upd.trialAt + 1000000 * x.obj O.fwTrialTime ≤ x.now →
      ∃ y, exec (.fwTrialTimeout l t) s = .next (s.setLane l y) ∧ y.obj O.fwTrial = 3 ∧ y.pwr = { x.pwr with restart := true } ∧
        y.sess = {} ∧ CountedBy O.fwTrialFails 1 x y ∧ CountedBy O.nvStores 1 x y ∧
        y.obj O.fwBootSlot = (if x.upd.trialFw = true then 1 - x.obj O.fwSlot else x.obj O.fwBootSlot) ∧
        y.activeSlot = (if x.upd.trialFw = true then { x.activeSlot with eligible := false } else x.activeSlot) ∧
        y.inactiveSlot = x.inactiveSlot ∧
        y.upd.progActive = (if x.upd.trialProg = true then x.upd.progPrev else x.upd.progActive) ∧
        ObjsKept [O.fwTrial.key, O.fwTrialFails.key, O.fwBootSlot.key, O.nvStores.key] x y ∧ y.regs = x.regs ∧
        y.coll = x.coll ∧ y.claim = x.claim)

/-- Standing aside (R416 to R418, R426). A request that a code of R416 refuses leaves its code and changes nothing of the lane's
work; an accepted one withdraws the claim without an error and stops the brake stages, and for removal the steering stage,
the gate drivers and the contactors too. The lane is ready for removal once the link has fallen below 60 V; ending it begins
the re-qualification.
Readings of the model: assumption log 58. -/
def Obligations.StandingAsideWithdrawsTheLane : Prop :=
  (∀ (s : State) (l : LaneId) (t : Nat) (v : Bool) (x x1 : Lane) (c : Nat), Sees s l t x →
    x1 = { x with gate := { x.gate with emfHigh := v, emfAt := x.now } } → c = x1.judgeAside l (s.peersOf l) →
    (x.obj O.lcStateObj = 0 ∨ x.obj O.lcStateObj = 5 → c = 6) ∧
    (x.obj O.lcStateObj ≠ 0 → x.obj O.lcStateObj ≠ 5 → x.claim.claiming = false → c = 0) ∧
    (x.obj O.lcStateObj ≠ 0 → x.obj O.lcStateObj ≠ 5 → x.claim.claiming = true →
      (x.peer .lo).claims = false ∨ (x.peer .hi).claims = false → c = 4) ∧
    (c ≠ 0 → ∃ y, exec (.standAside l v t) s = .next (s.setLane l y) ∧ exec (.standAsideForRemoval l v t) s = .next (s.setLane l y) ∧
      y.obj O.updRefuse = c ∧ y.claim = x.claim ∧ y.upd = { x.upd with request := none } ∧ y.coll = x.coll ∧ y.regs = x.regs ∧
      y.steer = x.steer ∧ y.brakes = x.brakes ∧
      ((∀ o ∈ x.txn.opened, o.wait ≠ .aside) → ObjsKept [O.updRefuse.key] x y ∧
        y = { x1 with objs := y.objs, upd := { x.upd with request := none } })) ∧
    (c = 0 → ∃ y, exec (.standAside l v t) s = .next (s.setLane l y) ∧
      y.obj O.updState = (if x.obj O.fwInstallState = 2 ∨ x.obj O.progState = 2 then 2 else 1) ∧ y.obj O.updStandAside = 1 ∧
      y.claim = { x.claim with aside := true, claiming := false, tenure := 0 } ∧
      y.upd = { x.upd with asideAt := some x.now, answerDue := true, request := none } ∧
      y.coll = { x.coll with requal := false, requalSlice := false } ∧ (∀ m : Fin 8, y.brakes[m].driving = false) ∧
      ObjsKept [O.updState.key, O.updStandAside.key] x y ∧
      y = { x1 with claim := y.claim, upd := y.upd, coll := y.coll, brakes := y.brakes, objs := y.objs }) ∧
    (c = 0 → ∃ y, exec (.standAsideForRemoval l v t) s = .next (s.setLane l y) ∧
      y.obj O.updState = (if x.obj O.fwInstallState = 2 ∨ x.obj O.progState = 2 then 2 else 1) ∧
      y.obj O.updStandAside = 2 ∧ y.claim = { x.claim with aside := true, claiming := false, tenure := 0 } ∧
      y.upd = { x.upd with removal := true, asideAt := some x.now, answerDue := true, request := none } ∧
      y.coll = { x.coll with requal := false, requalSlice := false } ∧ (∀ m : Fin 8, y.brakes[m].driving = false) ∧
      y.fld Rg.gdCtl 0 9 = 0 ∧ y.rbit Rg.sioCt 0 = false ∧
      (x.steer.softRuns x.now = false → v = true → y.rbit Rg.gdStat 12 = true) ∧
      (x.steer.softRuns x.now = true ∨ v = false → y.rbit Rg.gdStat 12 = x.rbit Rg.gdStat 12) ∧
      (x.ctState ≠ 0 → x.ctState ≠ 6 → y.ctState = 5 ∧ (y.ct .kp).on = false ∧ (y.ct .pre).on = false ∧
        y.ct .kn = { x.ct .kn with abandoned := decide (x.ctState = 1) }) ∧
      y.steer = x.steer.stop x.now ∧
      ObjsKept [O.updState.key, O.updStandAside.key] x y ∧ RegsKept [Rg.gdCtl.addr, Rg.gdStat.addr, Rg.sioCt.addr] x y)) ∧
  (∀ (s : State) (l : LaneId) (t : Nat) (x : Lane), Sees s l t x →
    (∀ volts : Nat,
      (x.claim.aside = true → x.upd.removal = true → volts < 60 →
        exec (.readyForRemoval l volts t) s = .next (s.setLane l (x.setObj O.updState 5))) ∧
      (x.claim.aside = false ∨ x.upd.removal = false ∨ 60 ≤ volts →
        exec (.readyForRemoval l volts t) s = .next (s.setLane l x))) ∧
    (x.claim.aside = false → exec (.standAsideEnd l t) s = .next (s.setLane l x)) ∧
    (x.claim.aside = true → ∃ y, exec (.standAsideEnd l t) s = .next (s.setLane l y) ∧ y.claim = { x.claim with aside := false } ∧
      y.obj O.updState = 4 ∧ y.obj O.updStandAside = 0 ∧ (x.coll.error = true → y.coll = x.coll) ∧
      (x.coll.error = false → y.coll = { x.coll with requal := true, requalSlice := true, requalAgree := 0 }) ∧
      ObjsKept [O.updState.key, O.updStandAside.key] x y ∧
      y = { x with claim := y.claim, objs := y.objs, coll := y.coll }))

/-- Two-party changes at their originator (R400 to R405). CS_IMAGE takes bytes and loads a set that is complete and passes; an
authorisation is held only for the loaded set and when it verifies; with both, or by CS_APPLY in Assembly, the set is
judged, and a change that passes goes to the peers heard and is ready at once with none; a confirmation completes it,
another result or 10 ms end it. A peer confirms what it judges; authorisations expire after 24 h, and a new nonce is the
lowest lane's.
Readings of the model: assumption log 39, 61 to 63, 65. -/
def Obligations.ChangeSetsNeedTheirAuthorisations : Prop :=
  (∀ (s : State) (l : LaneId) (t : Nat) (x : Lane), Sees s l t x →
    (∀ (off : Nat) (given data : List Byte), data = given.take (65536 - off) →
      (x.lcAllows O.csImage.key = false ∨ x.cs.nonceOpen = true → exec (.csImage l off given t) s = .next (s.setLane l x)) ∧
      (x.lcAllows O.csImage.key = true → x.cs.nonceOpen = false →
        ∃ y f n b, exec (.csImage l off given t) s = .next (s.setLane l y) ∧
          (∀ a, memRead y.cs.img a = if off ≤ a ∧ a < off + data.length then data.getD (a - off) 0 else memRead x.cs.img a) ∧
          f = extent (if off = 0 then 0 else x.cs.filled) off data.length ∧ n = be (memReadAll y.cs.img 0 0x40) 0xC 4 ∧
          b = memReadAll y.cs.img 0 (min n 65536) ∧ y.cs.eng = none ∧ y.cs.fs = none ∧ y.cs.run = x.cs.run ∧
          (f < 16 ∨ f < n → y.cs.loaded = none ∧ y.cs.filled = f) ∧
          (16 ≤ f → n ≤ f → x.csLoads b = true → y.cs.loaded = some b ∧ y.oct O.csDigest = sha3 b) ∧
          (16 ≤ f → n ≤ f → x.csLoads b = false → y.cs.loaded = none ∧ y.cs.filled = 0) ∧ y.obj O.csHeld = 0 ∧
          y.obj O.csState = (if x.cs.run.isSome then 3 else if y.cs.loaded.isSome then 1 else 0) ∧
          ObjsKept [O.csState.key, O.csHeld.key] x y ∧ y = { x with cs := y.cs, objs := y.objs, octs := y.octs })) ∧
    (∀ auth : List Byte,
      (x.lcAllows O.csAuth.key = false ∨ x.cs.loaded = none → exec (.csAuth l auth t) s = .next (s.setLane l x)) ∧
      (∀ b, x.cs.loaded = some b → x.authOk (sha3 b) auth = false → exec (.csAuth l auth t) s = .next (s.setLane l x)) ∧
      (∀ b, x.lcAllows O.csAuth.key = true → x.cs.loaded = some b → ∃ y, exec (.csAuth l auth t) s = .next (s.setLane l y) ∧
        (x.authOk (sha3 b) auth = true →
          y.cs.eng = (if be auth 6 1 = 1 then some ⟨auth, t⟩ else freshAuth x.cs.eng t) ∧
          y.cs.fs = (if be auth 6 1 = 2 then some ⟨auth, t⟩ else freshAuth x.cs.fs t) ∧
          (x.cs.run.isSome = true ∨ y.cs.eng = none ∨ y.cs.fs = none → y.cs.run = x.cs.run ∧ y.com = x.com ∧ y.out = x.out) ∧
          (∀ r, x.cs.run = none → y.cs.run = some r → r.set_ = b ∧ r.until_ = t + 10000000 ∧ r.by_ = none)))) ∧
    (∀ v : BitVec 8, (x.obj O.lcStateObj ≠ 1 ∨ v ≠ 1 ∨ x.cs.loaded = none ∨ x.cs.run.isSome = true →
        exec (.csApply l v t) s = .next (s.setLane l x)) ∧
      (∀ b, x.obj O.lcStateObj = 1 → v = 1 → x.cs.loaded = some b → x.cs.run = none →
        (x.hears .lo = false → x.hears .hi = false → ∃ y c, exec (.csApply l v t) s = .next (s.setLane l y) ∧
          c = x.csJudge l (s.peersOf l) true b ∧
          (c = 0 → y.cs.run = some ⟨b, t + 10000000, some 0, some 0, true, none⟩ ∧ y.obj O.csState = 3 ∧
            y.com = { x.com with waiting := x.com.waiting ++ [(.change, csWide b)] } ∧ y.out = x.out) ∧
          (c ≠ 0 → y.cs = x.cs ∧ y.com = x.com ∧ ObjsKept [O.lcFail.key] x y ∧ y = { x with objs := y.objs })) ∧
        (x.hears .lo = true ∨ x.hears .hi = true → ∃ y c, exec (.csApply l v t) s = .next (s.setLane l y) ∧
          c = x.csJudge l (s.peersOf l) true b ∧ y.com = x.com ∧
          (c = 0 → y.cs.run = some ⟨b, t + 10000000, (if x.hears .lo = true then none else some 0),
              (if x.hears .hi = true then none else some 0), false, none⟩ ∧ x.out.updates.length < y.out.updates.length) ∧
          (c ≠ 0 → y.cs = x.cs ∧ y.out = x.out)))) ∧
    (∀ r, x.cs.run = some r → (r.go = true ∨ t < r.until_ → exec (.csConfirmTimeout l t) s = .next (s.setLane l x)) ∧
      (r.go = false → r.until_ ≤ t → ∃ y, exec (.csConfirmTimeout l t) s = .next (s.setLane l y) ∧ y.cs = { x.cs with run := none } ∧
        (r.by_ = none → ObjsKept [O.csState.key, O.csHeld.key] x y ∧ y = { x with cs := y.cs, objs := y.objs, octs := y.octs }))) ∧
    (x.cs.run = none → exec (.csConfirmTimeout l t) s = .next (s.setLane l x)) ∧
    (∀ v : BitVec 8, (v ≠ 1 → exec (.csNonceRenew l v t) s = .next (s.setLane l x)) ∧
      (v = 1 → (∀ p, x.hears p = true → laneNo l < laneNo (peerId l p)) → ∃ y e, exec (.csNonceRenew l v t) s = .next (s.setLane l y) ∧
        e = nonceEntry (x.random32 l) ∧ y = { x with cs := y.cs, ka := y.ka, com := y.com } ∧
        y.cs = { x.cs with nonceOpen := true } ∧ y.ka = { x.ka with draws := x.ka.draws + 1 } ∧
        y.com = { x.com with waiting := x.com.waiting ++ [(.nonce, [e])] }) ∧
      (∀ p, v = 1 → x.hears p = true → laneNo (peerId l p) < laneNo l →
        exec (.csNonceRenew l v t) s = .next (s.setLane l { x with cs := { x.cs with nonceOpen := true } }))) ∧
    (∀ fleet : Bool, ∃ y, exec (.authorisationExpiry l fleet t) s = .next (s.setLane l y) ∧
      y.cs = (if fleet = true then { x.cs with fs := y.cs.fs } else { x.cs with eng := y.cs.eng }) ∧
      (fleet = true → x.cs.fs = none → y.cs.fs = none) ∧ (fleet = false → x.cs.eng = none → y.cs.eng = none) ∧
      (∀ a, fleet = true → x.cs.fs = some a → y.cs.fs = if a.at_ + 86400000000000 < t then none else some a) ∧
      (∀ a, fleet = false → x.cs.eng = some a → y.cs.eng = if a.at_ + 86400000000000 < t then none else some a) ∧
      y.obj O.csHeld = (if y.cs.eng.isSome then 1 else 0) + (if y.cs.fs.isSome then 2 else 0) ∧
      ObjsKept [O.csState.key, O.csHeld.key] x y ∧ y = { x with cs := y.cs, objs := y.objs, octs := y.octs })) ∧
  (∀ (s : State) (l : LaneId) (rx : BirixRx) (f : UpdateFrame) (x : Lane), Sees s l (rx.fin.getD rx.start) x →
    (updateOk l rx f = false ∨ x.netUp = false ∨ f.kind ≠ 3 → exec (.csForward l rx f) s = .next (s.setLane l x)) ∧
    (updateOk l rx f = true → x.netUp = true → f.kind = 3 → f.part = 0x8000 → f.body.length = f.totalLen.toNat →
      ∃ y res, exec (.csForward l rx f) s = .next (s.setLane l y) ∧ y.cs.xfers = x.cs.xfers + 1 ∧
        (match rx.peer with | .lo => y.cs.fwdLo | .hi => y.cs.fwdHi)
          = (if res = 0 then some (f.body.take (be f.body 0xC 4)) else none) ∧
        (x.obj O.lcStateObj = 0 ∨ x.obj O.lcStateObj = 5 → res = 9) ∧
        (x.obj O.lcStateObj ≠ 0 → x.obj O.lcStateObj ≠ 5 → x.csLoads (f.body.take (be f.body 0xC 4)) = false → res = 4) ∧
        (∃ g, y.out.updates = x.out.updates ++ [(rx.peer, g)] ∧ g.kind = 4 ∧ g.result = BitVec.ofNat 8 res ∧ g.body = []) ∧
        (∀ p, y.peer p = { x.peer p with linkFree := (y.peer p).linkFree }) ∧ ObjsKept [O.lcFail.key] x y ∧
        y = { x with cs := y.cs, out := y.out, objs := y.objs, peerLo := y.peerLo, peerHi := y.peerHi }) ∧
    (updateOk l rx f = true → x.netUp = true → f.kind = 3 → f.part = 0 → ∃ y, exec (.csForward l rx f) s = .next (s.setLane l y) ∧
      (match rx.peer with | .lo => y.cs.inLo | .hi => y.cs.inHi) = some ⟨f.xferId.toNat, 1, f.body⟩ ∧ y.out = x.out ∧
      y = { x with cs := y.cs }) ∧
    (updateOk l rx f = false ∨ x.netUp = false ∨ f.kind ≠ 4 ∨ x.cs.run = none → exec (.csConfirm l rx f) s = .next (s.setLane l x)) ∧
    (∀ r, updateOk l rx f = true → x.netUp = true → f.kind = 4 → x.cs.run = some r →
      (r.go = true → exec (.csConfirm l rx f) s = .next (s.setLane l x)) ∧
      (r.go = false → f.result ≠ 0 → ∃ y, exec (.csConfirm l rx f) s = .next (s.setLane l y) ∧ y.cs = { x.cs with run := none } ∧
        y.com = x.com) ∧
      (r.go = false → f.result = 0 → ∀ q, q = (match rx.peer with
          | .lo => { r with confLo := some 0 } | .hi => { r with confHi := some 0 }) →
        (q.confLo = some 0 → q.confHi = some 0 → exec (.csConfirm l rx f) s = .next (s.setLane l
          { x with cs := { x.cs with run := some { q with go := true } },
                   com := { x.com with waiting := x.com.waiting ++ [(.change, csWide r.set_)] } })) ∧
        (q.confLo ≠ some 0 ∨ q.confHi ≠ some 0 → exec (.csConfirm l rx f) s = .next (s.setLane l
          { x with cs := { x.cs with run := some q } })))))

/-- Attestation, enrolment and rollback counters (R391 to R393, R398, R406). A nonce of 32 bytes asks for a quote at the next
t5; the signed quote answers; a certificate is stored when it is accepted alone; counters rise to the larger value, one
advance of a kind used for each that rises, and images below theirs are no longer eligible.
Readings of the model: assumption log 39, 64. -/
def Obligations.QuotesCertificatesAndCountersAreKept : Prop :=
  ∀ (s : State) (l : LaneId) (t : Nat) (x : Lane), Sees s l t x →
    (∀ nonce : List Byte, (nonce.length ≠ 32 → exec (.attestNonce l nonce t) s = .next (s.setLane l x)) ∧
      (nonce.length = 32 → ∃ y, exec (.attestNonce l nonce t) s = .next (s.setLane l y) ∧ y.oct O.attestNonce = nonce ∧
        y.quote = { x.quote with nonce := some nonce } ∧ y.objs = x.objs ∧
        (∀ o : O.Obj, o.key ≠ O.attestNonce.key → y.oct o = x.oct o) ∧ y = { x with octs := y.octs, quote := y.quote })) ∧
    (x.quote.making = none → exec (.quoteReady l t) s = .next (s.setLane l x)) ∧
    (∀ b, x.quote.making = some b → ∃ y, exec (.quoteReady l t) s = .next (s.setLane l y) ∧
      y.oct O.attestQuote = b ++ laneSign l (sha3 b) "SKT3-QUOTE" ∧ y.quote = { x.quote with making := none } ∧
      (∀ o ∈ y.txn.opened, o.wait ≠ .quote) ∧
      ((∀ o ∈ x.txn.opened, o.wait ≠ .quote) → y = { x with octs := y.octs, quote := y.quote })) ∧
    (∀ cert : List Byte,
      (x.lcAllows O.enrolCert.key = false ∨ x.enrolOk l cert = false → exec (.enrolCert l cert t) s = .next (s.setLane l x)) ∧
      (cert.length ≠ 2612 ∨ certHead cert 2 = false ∨ x.oct O.fleetCaKey = [] → exec (.enrolCert l cert t) s = .next (s.setLane l x)) ∧
      (x.lcAllows O.enrolCert.key = true → ∃ y, exec (.enrolCert l cert t) s = .next (s.setLane l y) ∧
        (x.enrolOk l cert = true → y.oct O.enrolCert = cert ∧ O.enrolCert.key ∈ y.nv.due) ∧ y.objs = x.objs ∧
        y = { x with octs := y.octs, nv := y.nv } ∧ y.nv = { x.nv with due := y.nv.due })) ∧
    (∀ v : List (BitVec 32), (v.length ≠ 4 ∨ x.rollbackOk (v.map fun b => b.toNat) = false →
        exec (.rollbackAdvance l v t) s = .next (s.setLane l x)) ∧
      (v.length = 4 → x.rollbackOk (v.map fun b => b.toNat) = true →
        ∃ y, exec (.rollbackAdvance l v t) s = .next (s.setLane l y) ∧
          (∀ k < 4, y.rollback k = max (x.rollback k) (v.getD k 0).toNat) ∧
          (∀ k < 4, y.arr16 O.rollbackLeft 4 k
            = x.arr16 O.rollbackLeft 4 k - (if x.rollback k < (v.getD k 0).toNat then 1 else 0)) ∧
          y.inactiveSlot = (if imgVersion x.inactiveSlot < y.rollback 0 then { x.inactiveSlot with eligible := false }
            else x.inactiveSlot) ∧
          y.activeSlot = x.activeSlot ∧
          (imgVersion x.upd.progStaged < y.rollback 2 → y.upd.progStaged = { x.upd.progStaged with eligible := false }) ∧
          (y.rollback 2 ≤ imgVersion x.upd.progStaged → y.upd.progStaged = x.upd.progStaged) ∧
          (be (bankManifest x.standbyBank) 8 4 < y.rollback 1 → y.standbyEligible = false) ∧
          (y.rollback 1 ≤ be (bankManifest x.standbyBank) 8 4 → y.standbyEligible = x.standbyEligible) ∧
          ObjsKept [O.rollbackCounters.key, O.rollbackLeft.key] x y ∧ RegsKept [Rg.mxStat.addr] x y ∧
          y.upd = { x.upd with slotA := y.upd.slotA, slotB := y.upd.slotB, progStaged := y.upd.progStaged } ∧
          y = { x with objs := y.objs, regs := y.regs, upd := y.upd, mx := y.mx }))

/-- Power requests and the sequence (R433 to R437). A request names a state; the wait instruction asks the blocks in order: with
all agreed the target is entered, E0 last; the first that is busy or refuses ends the try until 10 ms later, one that is
silent owes its answer; a pending lower target is taken first. After 1 s of refusals the request is abandoned.
Readings of the model: assumption log 67, 68. -/
def Obligations.PowerRequestsRunTheSequence : Prop :=
  (∀ (s : State) (target : BitVec 8) (t : Nat), ∃ s1, exec (.pwrModuleRequest target t) s = .next s1 ∧ s1.arb = s.arb ∧
    s1.pending = s.pending ∧ ∀ l, s1.lane l = if (s.lane l).powered then (if target.toNat ≤ 4 then
      { s.laneAt l t with pwr := { (s.lane l).pwr with request := some target.toNat } } else s.laneAt l t) else s.lane l) ∧
  ∀ (s : State) (l : LaneId) (t : Nat) (x : Lane), Sees s l t x →
    (∀ target : BitVec 8,
      (target.toNat ≤ 4 → exec (.pwrRequest l target t) s
        = .next (s.setLane l { x with pwr := { x.pwr with request := some target.toNat } })) ∧
      (4 < target.toNat → exec (.pwrRequest l target t) s = .next (s.setLane l x))) ∧
    (∀ t0, x.pwr.idleFrom = some t0 → 0 < x.obj O.pwrIdlePark → t0 + 1000000000 * x.obj O.pwrIdlePark ≤ x.now →
      exec (.pwrIdlePark l t) s = .next (s.setLane l { x with pwr := { x.pwr with request := some 3 } })) ∧
    (x.pwr.idleFrom = none ∨ x.obj O.pwrIdlePark = 0 ∨
        (∃ t0, x.pwr.idleFrom = some t0 ∧ x.now < t0 + 1000000000 * x.obj O.pwrIdlePark) → exec (.pwrIdlePark l t) s = .next (s.setLane l x)) ∧
    (∀ (answers : List Answer) (z : Lane), z = x.takeLower →
      (x.pend = none → z = x) ∧ (∀ p r, x.pend = some p → x.pwr.target = some r → p ≤ r → z = x) ∧
      (∀ p r, x.pend = some p → x.pwr.target = some r → r < p → p < 8 → z.pwr.target = some p ∧ z.pend = none) ∧
      (x.pwr.target = none → exec (.waitInstruction l answers t) s = .next (s.setLane l x)) ∧
      (∀ r, z.pwr.target = some r → ∃ y, exec (.waitInstruction l answers t) s = .next (s.setLane l y) ∧
        (∀ b, 1 ≤ b → b ≤ (if r = 1 then 2 else 6) →
          (∀ a, 1 ≤ a → a < b → z.blockBusy a = false ∧ answers.getD (a - 1) .silent = .agree) →
          (z.blockBusy b = true ∨ answers.getD (b - 1) .silent = .refuse →
            y.pwr.target = some r ∧ y.pwr.refusedFrom = some (z.pwr.refusedFrom.getD z.now) ∧
            y.pwr.retryAt = some (z.now + 10000000) ∧ y.pwr.asking = none ∧ y.pwr.stopped = [] ∧ y.fld Rg.pwrStat 11 3 = 3 ∧
            y.fld Rg.pwrStat 14 4 = b ∧ y.rbit Rg.pwrStat 18 = false ∧ y.powered = true) ∧
          (z.blockBusy b = false → answers.getD (b - 1) .silent = .silent →
            y.pwr.asking = some b ∧ y.pwr.askedAt = z.now ∧ y.pwr.target = some r ∧ y.pwr.refusedFrom = z.pwr.refusedFrom ∧ y.powered = true)) ∧
        ((∀ b, 1 ≤ b → b ≤ (if r = 1 then 2 else 6) → z.blockBusy b = false ∧ answers.getD (b - 1) .silent = .agree) →
          y.pwr.target = none ∧ y.pwr.refusedFrom = none ∧ y.pend = none ∧ y.reg Rg.pwrAgree = (if r = 1 then 3 else 63) ∧
          (r = 1 → z.pend = none → y.fld Rg.pwrStat 0 3 = 1 ∧ y.fld Rg.pwrCtl 0 3 = 1 ∧ y.fld Rg.pwrStat 7 4 = 0 ∧
            y.fld Rg.pwrStat 11 3 = 1 ∧ RegsKept [Rg.pwrStat.addr, Rg.pwrCtl.addr, Rg.pwrAgree.addr] z y ∧
            y = { z with regs := y.regs, pwr := y.pwr }) ∧
          (r = 1 → z.pend = some 0 → y.fld Rg.pwrStat 0 3 = 0 ∧ y.fld Rg.pwrCtl 0 3 = 0) ∧
          (r = 2 → z.pend = none → y.fld Rg.pwrStat 0 3 = 2 ∧ y.fld Rg.pwrCtl 0 3 = 2 ∧ y.powered = true ∧ y.cap.active = false ∧
            y.reg Rg.sioCtl = 0 ∧ RegsKept [Rg.pwrStat.addr, Rg.pwrCtl.addr, Rg.pwrAgree.addr, Rg.sioCtl.addr] z y) ∧
          (r = 2 → ∀ p, z.pend = some p → y.fld Rg.pwrStat 0 3 = 0 ∧ y.fld Rg.pwrStat 7 4 = 10 ∧ y.pwr.waking = true ∧
            y.pwr.holdAfter = decide (p = 1) ∧ y.coll.requal = true) ∧
          (r = 3 ∨ r = 4 → y.powered = false ∧ y.sess = {} ∧ y.cs.eng = none ∧ y.cs.fs = none ∧ y.cap.active = false ∧ y.nv.due = [] ∧
            y.reg Rg.sumpUnit = z.unitNo ∧ y.reg Rg.sumpTimeLo = z.now % 2 ^ 32 ∧ y.reg Rg.sumpTimeHi = z.now / 2 ^ 32 % 2 ^ 32 ∧
            y.reg Rg.sumpEvict = 0 ∧ (y.ct .kp).on = false ∧ (y.ct .kn).on = false ∧ (y.ct .pre).on = false ∧
            y.fld Rg.pwrStat 0 3 = (if z.pwr.sumpOk = true then r else 4) ∧
            (r = 3 → CountedBy O.parkEntries 1 z y) ∧ (∀ p, z.pend = some p → y.pwr.waking = true ∧ y.fld Rg.pwrStat 7 4 = 7))))) ∧
    (∀ block : Fin 6,
      (x.pwr.asking ≠ some (block.val + 1) ∨ x.now < x.pwr.askedAt + 20000 →
        exec (.agreementTimeout l block t) s = .next (s.setLane l x)) ∧
      (x.pwr.asking = some (block.val + 1) → x.pwr.askedAt + 20000 ≤ x.now → ∃ y, exec (.agreementTimeout l block t) s = .next (s.setLane l y) ∧
        y.fld Rg.pwrStat 11 3 = 3 ∧ y.fld Rg.pwrStat 14 4 = block.val + 1 ∧ y.rbit Rg.pwrStat 18 = true ∧
        y.pwr = { x.pwr with stopped := [], asking := none, refusedFrom := some (x.pwr.refusedFrom.getD x.now), retryAt := some (x.now + 10000000) } ∧
        (3 ∉ x.pwr.stopped → x.eng.held = [] → RegsKept [Rg.pwrStat.addr] x y ∧ y = { x with regs := y.regs, pwr := y.pwr }) ∧
        (3 ∈ x.pwr.stopped → y.rbit Rg.sioCtl 4 = true ∧ y.rbit Rg.sioCtl 6 = true ∧ y.rbit Rg.sioCtl 5 = decide (x.sio.tsEn ≠ 0) ∧
          (∀ n : Fin 4, y.rbit Rg.sioCtl n.val = !(x.sup n.val).tripped) ∧ y.sio = { x.sio with frameWhole := false }) ∧
        (x.eng.held = [] → RegsKept [Rg.pwrStat.addr, Rg.sioCtl.addr] x y) ∧
        y = { x with regs := y.regs, pwr := y.pwr, sio := y.sio, eng := y.eng })) ∧
    (∀ answers : List Answer,
      (x.pwr.retryAt = none → exec (.agreementRetry l answers t) s = .next (s.setLane l x)) ∧
      (∀ t0, x.pwr.retryAt = some t0 → (x.now < t0 → exec (.agreementRetry l answers t) s = .next (s.setLane l x)) ∧
        (t0 ≤ x.now → ∃ y, exec (.agreementRetry l answers t) s = .next (s.setLane l y) ∧
          exec (.waitInstruction l answers t) s = .next (s.setLane l y)))) ∧
    (x.pwr.refusedFrom = none ∨ x.pwr.target = none → exec (.requestAbandoned l t) s = .next (s.setLane l x)) ∧
    (∀ t0 tg, x.pwr.refusedFrom = some t0 → x.pwr.target = some tg →
      (x.now < t0 + 1000000000 → exec (.requestAbandoned l t) s = .next (s.setLane l x)) ∧
      (t0 + 1000000000 ≤ x.now → ∃ y, exec (.requestAbandoned l t) s = .next (s.setLane l y) ∧ y.obj O.pwrRefuse = 4 ∧
        y.pwr = { x.pwr with target := none, refusedFrom := none, retryAt := none, asking := none } ∧ y.pend = none ∧
        y.fld Rg.pwrStat 7 4 = 0 ∧ y.fld Rg.pwrCtl 0 3 = x.fld Rg.pwrStat 0 3 ∧ ObjsKept [O.pwrRefuse.key] x y ∧
        (tg < 2 → y.coll = x.coll ∧ y.sio = x.sio ∧ RegsKept [Rg.pwrStat.addr, Rg.pwrCtl.addr] x y) ∧
        (2 ≤ tg → (x.pwr.selftest = .passed → y.rbit Rg.sioCt 0 = true) ∧ (x.pwr.selftest ≠ .passed → y.rbit Rg.sioCt 0 = false) ∧
          (x.pwr.selftest = .passed → x.sio.enable = true → x.ctState = 0 → y.ctState = 1 ∧ (y.ct .kn).on = true) ∧
          (x.coll.error = true → y.coll = x.coll) ∧
          (x.coll.error = false → y.coll = { x.coll with requal := true, requalSlice := true, requalAgree := 0 }))))

/-- Wakes, starts and supplies (R64, R397, R414, R438 to R448, R474). A source of R438 wakes a lane that is asleep in the state
that its row names, with its enable; a wake frame is judged by its CRC, unit, lane, command and enable, in this order, and one that names
another unit or lane is not counted. A release of reset
starts the lane from its kept state on the slot that verifies; a passed self-test brings it up, a failed one holds it. The
supplies' limits stop, and their return restores, what they feed.
Readings of the model: assumption log 69 to 71. -/
def Obligations.WakesStartsAndSuppliesActOnTheLane : Prop :=
  (∀ (d : Nat) (ps : List (Nat × Bool × Nat)) (line : List WakeSeg),
    line = ⟨.both, d⟩ :: ps.flatMap (fun p => [⟨.spacer, p.1⟩, ⟨if p.2.1 then .one else .zero, p.2.2⟩]) →
    (20000 ≤ d → ps.length = 32 → (∀ p ∈ ps, 400 ≤ p.1 ∧ p.1 ≤ 150000 ∧ 400 ≤ p.2.2) →
      wakeWord line = some (ps.foldl (fun (v : Nat) p => 2 * v + b2n p.2.1) 0)) ∧
    (d < 20000 ∨ ps.length ≠ 32 ∨ (∃ p ∈ ps, 300000 < p.1 ∨ p.1 < 400 ∨ p.2.2 < 400) → wakeWord line = none)) ∧
  (∀ (s : State) (l : LaneId) (t : Nat) (x z : Lane), x = s.laneAt l t →
    (z = { x with pwr := { x.pwr with sumpOk := true } } →
      (x.powered = true ∨ x.fld Rg.pwrStat 0 3 < 3 → exec (.keepAliveRise l t) s = .next (s.setLane l z)) ∧
      (x.powered = false → 3 ≤ x.fld Rg.pwrStat 0 3 →
        ∃ y, exec (.keepAliveRise l t) s = .next (s.setLane l y) ∧ WokenBy 1 0 z y)) ∧
    (z = { x with pwr := { x.pwr with supplyOk := true } } →
      (x.powered = true ∨ x.pwr.sumpOk = false ∨ x.fld Rg.pwrStat 0 3 < 3 →
        exec (.logicSupplyRise l t) s = .next (s.setLane l z)) ∧
      (x.powered = false → x.pwr.sumpOk = true → 3 ≤ x.fld Rg.pwrStat 0 3 →
        ∃ y, exec (.logicSupplyRise l t) s = .next (s.setLane l y) ∧ WokenBy 2 0 z y)) ∧
    (x.powered = false → x.pwr.sumpOk = true → x.fld Rg.pwrStat 0 3 = 3 →
      (x.rbit Rg.sumpWakeEn 1 = true → ∃ y, exec (.ss0Wake l t) s = .next (s.setLane l y) ∧ WokenBy 3 0 x y) ∧
      (x.rbit Rg.sumpWakeEn 2 = true → ∃ y, exec (.canXlWake l t) s = .next (s.setLane l y) ∧ WokenBy 4 0 x y)) ∧
    (x.powered = true ∨ x.pwr.sumpOk = false ∨ x.fld Rg.pwrStat 0 3 ≠ 3 ∨ x.rbit Rg.sumpWakeEn 1 = false →
      exec (.ss0Wake l t) s = .next (s.setLane l x)) ∧
    (x.powered = true ∨ x.pwr.sumpOk = false ∨ x.fld Rg.pwrStat 0 3 ≠ 3 ∨ x.rbit Rg.sumpWakeEn 2 = false →
      exec (.canXlWake l t) s = .next (s.setLane l x)) ∧
    (∀ w : List WakeSeg,
      (x.pwr.sumpOk = false ∨ x.powered = true ∧ x.fld Rg.pwrStat 0 3 ≠ 2 ∨ x.powered = false ∧ x.fld Rg.pwrStat 0 3 ≠ 3 →
        exec (.wakeFrame l w t) s = .next (s.setLane l x)) ∧
      (wakeWord w = none → exec (.wakeFrame l w t) s = .next (s.setLane l x)) ∧
      (∀ v : Nat, wakeWord w = some v → x.pwr.sumpOk = true →
        x.powered = true ∧ x.fld Rg.pwrStat 0 3 = 2 ∨ x.powered = false ∧ x.fld Rg.pwrStat 0 3 = 3 →
        ((crc8 (bytesBE 3 (v / 256))).toNat ≠ v % 256 →
          ∃ y, exec (.wakeFrame l w t) s = .next (s.setLane l y) ∧ y.fld Rg.sumpBad 0 8 = min 255 (x.fld Rg.sumpBad 0 8 + 1) ∧
            y.fld Rg.sumpBad 8 8 = x.fld Rg.sumpBad 8 8 ∧ RegsKept [Rg.sumpBad.addr] x y ∧ y = { x with regs := y.regs }) ∧
        ((crc8 (bytesBE 3 (v / 256))).toNat = v % 256 →
          (bits v 14 18 ≠ x.reg Rg.sumpUnit ∧ bits v 14 18 ≠ 0x3FFFF ∨ bitOf (bits v 11 3) (laneNo l - 1) = false →
            exec (.wakeFrame l w t) s = .next (s.setLane l x)) ∧
          (bits v 14 18 = x.reg Rg.sumpUnit ∨ bits v 14 18 = 0x3FFFF → bitOf (bits v 11 3) (laneNo l - 1) = true →
            bits v 8 3 ≠ 1 → bits v 8 3 ≠ 2 →
            ∃ y, exec (.wakeFrame l w t) s = .next (s.setLane l y) ∧ y.fld Rg.sumpBad 8 8 = min 255 (x.fld Rg.sumpBad 8 8 + 1) ∧
              y.fld Rg.sumpBad 0 8 = x.fld Rg.sumpBad 0 8 ∧ RegsKept [Rg.sumpBad.addr] x y ∧ y = { x with regs := y.regs }) ∧
          (bits v 8 3 = 1 ∨ bits v 8 3 = 2 →
            (x.rbit Rg.sumpWakeEn 0 = false →
              exec (.wakeFrame l w t) s = .next (s.setLane l x)) ∧
            (bits v 14 18 = x.reg Rg.sumpUnit ∨ bits v 14 18 = 0x3FFFF →
              bitOf (bits v 11 3) (laneNo l - 1) = true → x.rbit Rg.sumpWakeEn 0 = true →
              (x.powered = false → ∃ y, exec (.wakeFrame l w t) s = .next (s.setLane l y) ∧ WokenBy 5 (bits v 8 3) x y) ∧
              (x.powered = true → ∃ y, exec (.wakeFrame l w t) s = .next (s.setLane l y) ∧
                y.reg Rg.sumpWakeLast = 5 + 16 * bits v 8 3 ∧ WokenFromDoze (decide (bits v 8 3 = 2)) x y)))))) ∧
    (∃ y, exec (.keepAliveLoss l t) s = .next (s.setLane l y) ∧ (∀ r ∈ sumpRegs, y.reg r = r.reset) ∧ y.pwr.sumpOk = false ∧
      (x.powered = true → y.pwr = { x.pwr with sumpOk := false } ∧ RegsKept (sumpRegs.map fun r => r.addr) x y) ∧
      (x.powered = false → y.fld Rg.pwrStat 0 3 = 4 ∧ y.pwr.waking = false ∧ y.pwr.wakeLatched = false) ∧
      y = { x with regs := y.regs, pwr := y.pwr }) ∧
    (∀ (mv held : Nat) (v : Bool),
      (16000 ≤ mv ∨ 14000 ≤ mv ∧ held ≤ 100 → exec (.logicSupplyLoss l mv held t v) s = .next (s.setLane l x)) ∧
      (mv < 14000 ∨ mv < 16000 ∧ 100 < held → ∃ y, exec (.logicSupplyLoss l mv held t v) s = .next (s.setLane l y) ∧
        y.pwr.supplyOk = false ∧ y.pwr.waking = false ∧
        y.pwr.wakeLatched = (x.pwr.wakeLatched || (!x.powered && x.pwr.waking)) ∧ y.objs = x.objs ∧ y.coll = x.coll ∧
        (x.powered = false → y = { x with pwr := y.pwr }) ∧
        (x.powered = true → y.powered = false ∧ y.fld Rg.pwrStat 0 3 = 4 ∧
          (∀ m : Fin 8, y.brakes[m].driving = false) ∧ y.claim.claiming = false ∧ y.claim.tenure = 0 ∧ (y.ct .kp).on = false ∧
          (y.ct .kn).on = false ∧ (y.ct .pre).on = false ∧ y.steer = x.steer.stop x.now ∧
          (x.steer.softRuns x.now = false → v = true → y.rbit Rg.gdStat 12 = true)))) ∧
    (∀ r : ResetAt, r.t = t →
      (x.powered = false ∧ (x.pwr.waking = false ∨ x.pwr.supplyOk = false) ∨
        x.powered = true ∧ x.pwr.selftest ≠ .notRun ∧ x.restartDue = false →
        exec (.resetRelease l r) s = .next (s.setLane l x)) ∧
      (x.restartDue = true ↔ x.pwr.restart = true ∧
        (x.obj O.updState = 3 → (x.ct .kp).on = false ∧ (x.ct .kn).on = false ∧ (x.ct .pre).on = false)) ∧
      (∀ v w : Lane, v = (match r.cartridge with | some c => x.fit l c | none => x) → w = v.fresh.setObj O.selftestState 1 →
        x.powered = false ∧ x.pwr.waking = true ∧ x.pwr.supplyOk = true ∨
          x.powered = true ∧ (x.pwr.selftest = .notRun ∨ x.restartDue = true) →
        ∃ y, exec (.resetRelease l r) s = .next (s.setLane l y) ∧ y.powered = true ∧ y.coll = {} ∧ y.sess = {} ∧
          y.claim.claiming = false ∧ y.fld Rg.pwrStat 7 4 = 8 ∧ y.rbit Rg.gdStat 12 = x.rbit Rg.gdStat 12 ∧
          y.obj O.lcStateObj = v.obj O.lcStateObj ∧ y.obj O.rollbackCounters = v.obj O.rollbackCounters ∧
          y.oct O.idPublicKey = v.oct O.idPublicKey ∧
          (v.obj O.fwTrial ≠ 1 → w.verifySlot l (v.obj O.fwBootSlot) = 0 →
            y.pwr.selftest = .running ∧ y.obj O.selftestState = 1 ∧ y.obj O.fwSlot = v.obj O.fwBootSlot ∧
            y.obj O.imgVerifyLast = 0 ∧
            y.obj O.fwTrial = (if (v.upd.trialNext || v.upd.progStaged.eligible) = true then 1
              else if v.upd.trialFailed = true then 3 else 0) ∧
            y.upd.trialFw = v.upd.trialNext ∧ y.upd.trialProg = v.upd.progStaged.eligible ∧ y.nv.inUse = v.nv.inUse ∧
            ∀ o : O.Obj, o.key ∉ keptObjs.map (fun p => p.key) →
              o.key ∉ [O.wakeBadFrames.key, O.selftestState.key, O.fwSlot.key, O.fwTrial.key, O.imgVerifyLast.key] →
              y.obj o = o.dflt) ∧
          (v.obj O.fwTrial ≠ 1 → w.verifySlot l (v.obj O.fwBootSlot) ≠ 0 → w.verifySlot l (1 - v.obj O.fwBootSlot) = 0 →
            y.pwr.selftest = .running ∧ y.obj O.fwSlot = 1 - v.obj O.fwBootSlot ∧ y.obj O.imgVerifyLast = 0) ∧
          (v.obj O.fwTrial ≠ 1 → w.verifySlot l (v.obj O.fwBootSlot) ≠ 0 → w.verifySlot l (1 - v.obj O.fwBootSlot) ≠ 0 →
            y.pwr.selftest = .failed ∧ y.pwr.records = [bootFailure] ∧ y.obj O.selftestState = 3 ∧
            y.obj O.imgVerifyLast = w.verifySlot l (1 - v.obj O.fwBootSlot)) ∧
          (v.obj O.fwTrial = 1 → v.upd.trialFw = true → v.obj O.fwSlot ≤ 1 → v.upd.progStaged.eligible = false →
            ((v.failTrial l).fresh.setObj O.selftestState 1).verifySlot l (1 - v.obj O.fwSlot) = 0 →
            y.obj O.fwSlot = 1 - v.obj O.fwSlot ∧ y.obj O.fwTrial = 3 ∧ y.inactiveSlot.eligible = false ∧
            y.pwr.selftest = .running)))) ∧
  (∀ (s : State) (l : LaneId) (t : Nat) (x : Lane), Sees s l t x →
    (∀ (cls : BitVec 4) (mac : BitVec 48) (n : Net),
      (x.fld Rg.pwrStat 0 3 ≠ 2 ∨ cls ≠ 1 ∧ cls ≠ 3 ∧ cls ≠ 6 ∨ mac.toNat ≠ x.macOf l n →
        exec (.ethernetWake l cls mac n t) s = .next (s.setLane l x)) ∧
      (x.fld Rg.pwrStat 0 3 = 2 → cls = 1 ∨ cls = 3 ∨ cls = 6 → mac.toNat = x.macOf l n →
        ∃ y, exec (.ethernetWake l cls mac n t) s = .next (s.setLane l y) ∧ y.reg Rg.sumpWakeLast = 6 ∧ WokenFromDoze false x y)) ∧
    (∀ (v : Option (Fin 3)) (rs : List SelfReading), x.pwr.selftest ≠ .running →
      exec (.selftestDone l ⟨v, rs⟩ t) s = .next (s.setLane l x)) ∧
    (∀ (v : Option (Fin 3)) (rs bad : List SelfReading), x.pwr.selftest = .running →
      bad = rs.filter (fun r => readingPasses r = false) → bad ≠ [] →
      ∃ y, exec (.selftestDone l ⟨v, rs⟩ t) s = .next (s.setLane l y) ∧
        y.pwr = { x.pwr with selftest := .failed, records := x.pwr.records ++ (bad.map readingRecord).take (32 - x.pwr.records.length) } ∧
        y.obj O.selftestState = 3 ∧ y.obj O.selftestTimeLast = min 65535 ((x.now - x.pwr.releasedAt) / 10000) ∧
        y.obj O.laneNumber = laneNo l ∧
        (x.obj O.selftestFails + bad.length < 2 ^ 16 → y.obj O.selftestFails = x.obj O.selftestFails + bad.length) ∧
        ObjsKept [O.selftestState.key, O.selftestTimeLast.key, O.selftestFails.key, O.laneNumber.key] x y ∧
        y = { x with pwr := y.pwr, objs := y.objs }) ∧
    (∀ (v : Option (Fin 3)) (rs : List SelfReading), x.pwr.selftest = .running → (∀ r ∈ rs, readingPasses r = true) →
      v = none ∨ x.nv.factoryOk = false →
      ∃ y, exec (.selftestDone l ⟨v, rs⟩ t) s = .next (s.setLane l y) ∧ y.pwr = { x.pwr with selftest := .failed } ∧
        y.obj O.selftestState = 2 ∧ y.obj O.selftestTimeLast = min 65535 ((x.now - x.pwr.releasedAt) / 10000) ∧
        y.obj O.laneNumber = laneNo l ∧ y.obj O.variantCode = (if v = none then 0 else x.obj O.variantCode) ∧
        ObjsKept [O.selftestState.key, O.selftestTimeLast.key, O.laneNumber.key, O.variantCode.key] x y ∧
        y = { x with pwr := y.pwr, objs := y.objs }) ∧
    (∀ (v : Fin 3) (rs : List SelfReading), x.pwr.selftest = .running → x.nv.factoryOk = true → (∀ r ∈ rs, readingPasses r = true) →
      ∃ y, exec (.selftestDone l ⟨some v, rs⟩ t) s = .next (s.setLane l y) ∧
      y.pwr = { x.pwr with selftest := .passed } ∧ y.obj O.laneNumber = laneNo l ∧ y.obj O.updState = 4 ∧ y.fld Rg.pwrStat 7 4 = 10 ∧
      y.smp = { listening := true, listenUntil := x.now + 2000000 * laneNo l } ∧ y.claim = x.claim ∧
      y.coll = { x.coll with requal := true, requalSlice := true, requalAgree := 0 } ∧
      y.rbit Rg.engStat 2 = true ∧ y.rbit Rg.engStat 3 = true ∧ y.rbit Rg.engStat 4 = true) ∧
    (∀ r : SelfReading,
      (x.pwr.selftest ≠ .running ∧ x.pwr.selftest ≠ .failed ∨ readingPasses r = true →
        exec (.selftestFail l r t) s = .next (s.setLane l x)) ∧
      (x.pwr.selftest = .running ∨ x.pwr.selftest = .failed → readingPasses r = false →
        ∃ y, exec (.selftestFail l r t) s = .next (s.setLane l y) ∧
        y.pwr = { x.pwr with selftest := .failed,
                             records := if x.pwr.records.length < 32 then x.pwr.records ++ [readingRecord r] else x.pwr.records } ∧ y.obj O.selftestState = 3 ∧
        (x.obj O.selftestFails + 1 < 2 ^ 16 → y.obj O.selftestFails = x.obj O.selftestFails + 1) ∧
        y.obj O.laneNumber = laneNo l ∧
        ObjsKept [O.selftestState.key, O.selftestFails.key, O.laneNumber.key] x y ∧ y = { x with pwr := y.pwr, objs := y.objs })) ∧
    (∀ mv : Nat,
      (x.nDrives = 0 ∨ 36000 ≤ mv ∧ mv ≤ 62000 → exec (.brakeSupplyFault l mv t) s = .next (s.setLane l x)) ∧
      (x.nDrives ≠ 0 → mv < 36000 ∨ 62000 < mv → ∃ y, exec (.brakeSupplyFault l mv t) s = .next (s.setLane l y) ∧
        y.drive.brakePresent = false ∧ y.drive.brakeOver = decide (62000 < mv) ∧ y.drive.bsClass = true ∧
        (∀ m : Fin 8, y.brakes[m].driving = false) ∧ y.objs = x.objs ∧
        (x.drive.bsClass = true ∨ x.drive.firstClass = 0 ∨ x.drive.firstClass = 4 →
          y = { x with drive := y.drive, brakes := y.brakes }) ∧
        (x.drive.bsClass = false → x.drive.firstClass = 0 → y.drive.firstClass = 4) ∧
        (x.drive.bsClass = false → x.drive.firstClass ≠ 0 → x.drive.firstClass ≠ 4 → y.Stopped ∧
          bitOf (y.coll.spall 8).flags 0 = true)) ∧
      (x.nDrives = 0 ∨ x.drive.brakePresent = true ∨ x.drive.brakeOver = true ∧ 60000 ≤ mv ∨ x.drive.brakeOver = false ∧ mv ≤ 38000 →
        exec (.brakeSupplyRestored l mv t) s = .next (s.setLane l x)) ∧
      (x.nDrives ≠ 0 → x.drive.brakePresent = false → x.drive.brakeOver = true ∧ mv < 60000 ∨ x.drive.brakeOver = false ∧ 38000 < mv →
        ∃ y, exec (.brakeSupplyRestored l mv t) s = .next (s.setLane l y) ∧ y.drive.brakePresent = true ∧ y.drive.bsClass = false ∧
          y.drive.brakeOver = false ∧ DiagRuns y x.stg y ∧ RegsKept [Rg.gdStat.addr] x y ∧
          y = { x with drive := y.drive, steer := y.steer, brakes := y.brakes, regs := y.regs })) ∧
    (∀ (volts : Nat) (v : Bool),
      (200 ≤ volts → exec (.dcLinkLow l volts t v) s = .next (s.setLane l x)) ∧
      (volts < 200 → ∃ y, exec (.dcLinkLow l volts t v) s = .next (s.setLane l y) ∧ y.drive.linkPresent = false ∧
        y.steer = x.steer.stop x.now ∧
        (x.steer.softRuns x.now = false → v = true → y.rbit Rg.gdStat 12 = true) ∧ y.objs = x.objs ∧
        (x.drive.linkOnce = true → y.drive.hvClass = true) ∧
        (x.drive.linkOnce = false → y.drive = { x.drive with linkPresent := false } ∧ y.coll = x.coll ∧ y.claim = x.claim) ∧
        (x.drive.linkOnce = true → x.drive.hvClass = false → x.drive.firstClass = 0 → y.drive.firstClass = 3 ∧ y.coll = x.coll) ∧
        (x.drive.linkOnce = true → x.drive.hvClass = false → x.drive.firstClass ≠ 0 → x.drive.firstClass ≠ 3 → y.Stopped ∧
          bitOf (y.coll.spall 8).flags 0 = true)) ∧
      (volts ≤ 220 → exec (.dcLinkPresent l volts t) s = .next (s.setLane l x)) ∧
      (220 < volts → ∃ y, exec (.dcLinkPresent l volts t) s = .next (s.setLane l y) ∧ y.drive.linkPresent = true ∧
        y.drive.linkOnce = true ∧ (x.ctState = 4 → y.drive.hvClass = false) ∧ (x.ctState ≠ 4 → y.drive.hvClass = x.drive.hvClass) ∧
        y = { x with drive := y.drive })))
end

