-- ==== Sys2Proof/Laws/State.lean ====
section
/-!
SUPPORT. One lemma for every field and every named update of a lane, and for the lanes of a state: what an update leaves
as it was, so that no proof unfolds a record update.
-/
namespace Sys2Proof.Machine

@[simp] theorem State.lane_setLane (s : State) (l : LaneId) (x : Lane) : (s.setLane l x).lane l = x := by
  cases l <;> rfl

theorem State.lane_setLane_of_ne (s : State) (l m : LaneId) (x : Lane) (h : m ≠ l) :
    (s.setLane l x).lane m = s.lane m := by
  cases l <;> cases m <;> first | rfl | exact absurd rfl h

@[simp] theorem State.arb_setLane (s : State) (l : LaneId) (x : Lane) : (s.setLane l x).arb = s.arb := by
  cases l <;> rfl

@[simp] theorem State.pending_setLane (s : State) (l : LaneId) (x : Lane) : (s.setLane l x).pending = s.pending := by
  cases l <;> rfl

@[simp] theorem State.setLane_setLane (s : State) (l : LaneId) (x y : Lane) :
    (s.setLane l x).setLane l y = s.setLane l y := by
  cases l <;> rfl

@[simp] theorem State.setLane_self (s : State) (l : LaneId) : s.setLane l (s.lane l) = s := by
  cases l <;> rfl

@[simp] theorem State.lane_pending (s : State) (l : LaneId) (q : List Instr) :
    ({ s with pending := q } : State).lane l = s.lane l := by
  cases l <;> rfl

@[simp] theorem State.lane_arb (s : State) (l : LaneId) (a : Arbiter) : ({ s with arb := a } : State).lane l = s.lane l := by
  cases l <;> rfl

@[simp] theorem Lane.setObj_powered (l : Lane) (o : O.Obj) (v : Nat) : (l.setObj o v).powered = l.powered := rfl
@[simp] theorem Lane.setObj_now (l : Lane) (o : O.Obj) (v : Nat) : (l.setObj o v).now = l.now := rfl
@[simp] theorem Lane.setObj_octs (l : Lane) (o : O.Obj) (v : Nat) : (l.setObj o v).octs = l.octs := rfl
@[simp] theorem Lane.setObj_regs (l : Lane) (o : O.Obj) (v : Nat) : (l.setObj o v).regs = l.regs := rfl
@[simp] theorem Lane.setObj_slots (l : Lane) (o : O.Obj) (v : Nat) : (l.setObj o v).slots = l.slots := rfl
@[simp] theorem Lane.setObj_coll (l : Lane) (o : O.Obj) (v : Nat) : (l.setObj o v).coll = l.coll := rfl
@[simp] theorem Lane.setObj_gate (l : Lane) (o : O.Obj) (v : Nat) : (l.setObj o v).gate = l.gate := rfl
@[simp] theorem Lane.setObj_steer (l : Lane) (o : O.Obj) (v : Nat) : (l.setObj o v).steer = l.steer := rfl
@[simp] theorem Lane.setObj_brakes (l : Lane) (o : O.Obj) (v : Nat) : (l.setObj o v).brakes = l.brakes := rfl
@[simp] theorem Lane.setObj_peerLo (l : Lane) (o : O.Obj) (v : Nat) : (l.setObj o v).peerLo = l.peerLo := rfl
@[simp] theorem Lane.setObj_peerHi (l : Lane) (o : O.Obj) (v : Nat) : (l.setObj o v).peerHi = l.peerHi := rfl
@[simp] theorem Lane.setObj_smp (l : Lane) (o : O.Obj) (v : Nat) : (l.setObj o v).smp = l.smp := rfl
@[simp] theorem Lane.setObj_votes (l : Lane) (o : O.Obj) (v : Nat) : (l.setObj o v).votes = l.votes := rfl
@[simp] theorem Lane.setObj_dem (l : Lane) (o : O.Obj) (v : Nat) : (l.setObj o v).dem = l.dem := rfl
@[simp] theorem Lane.setObj_claim (l : Lane) (o : O.Obj) (v : Nat) : (l.setObj o v).claim = l.claim := rfl
@[simp] theorem Lane.setObj_drive (l : Lane) (o : O.Obj) (v : Nat) : (l.setObj o v).drive = l.drive := rfl
@[simp] theorem Lane.setObj_sio (l : Lane) (o : O.Obj) (v : Nat) : (l.setObj o v).sio = l.sio := rfl
@[simp] theorem Lane.setObj_eng (l : Lane) (o : O.Obj) (v : Nat) : (l.setObj o v).eng = l.eng := rfl
@[simp] theorem Lane.setObj_cap (l : Lane) (o : O.Obj) (v : Nat) : (l.setObj o v).cap = l.cap := rfl
@[simp] theorem Lane.setObj_mx (l : Lane) (o : O.Obj) (v : Nat) : (l.setObj o v).mx = l.mx := rfl
@[simp] theorem Lane.setObj_spv (l : Lane) (o : O.Obj) (v : Nat) : (l.setObj o v).spv = l.spv := rfl
@[simp] theorem Lane.setObj_shape (l : Lane) (o : O.Obj) (v : Nat) : (l.setObj o v).shape = l.shape := rfl
@[simp] theorem Lane.setObj_brk (l : Lane) (o : O.Obj) (v : Nat) : (l.setObj o v).brk = l.brk := rfl
@[simp] theorem Lane.setObj_net (l : Lane) (o : O.Obj) (v : Nat) : (l.setObj o v).net = l.net := rfl
@[simp] theorem Lane.setObj_sess (l : Lane) (o : O.Obj) (v : Nat) : (l.setObj o v).sess = l.sess := rfl
@[simp] theorem Lane.setObj_txn (l : Lane) (o : O.Obj) (v : Nat) : (l.setObj o v).txn = l.txn := rfl
@[simp] theorem Lane.setObj_ka (l : Lane) (o : O.Obj) (v : Nat) : (l.setObj o v).ka = l.ka := rfl
@[simp] theorem Lane.setObj_writes (l : Lane) (o : O.Obj) (v : Nat) : (l.setObj o v).writes = l.writes := rfl
@[simp] theorem Lane.setObj_com (l : Lane) (o : O.Obj) (v : Nat) : (l.setObj o v).com = l.com := rfl
@[simp] theorem Lane.setObj_nv (l : Lane) (o : O.Obj) (v : Nat) : (l.setObj o v).nv = l.nv := rfl
@[simp] theorem Lane.setObj_cs (l : Lane) (o : O.Obj) (v : Nat) : (l.setObj o v).cs = l.cs := rfl
@[simp] theorem Lane.setObj_quote (l : Lane) (o : O.Obj) (v : Nat) : (l.setObj o v).quote = l.quote := rfl
@[simp] theorem Lane.setObj_upd (l : Lane) (o : O.Obj) (v : Nat) : (l.setObj o v).upd = l.upd := rfl
@[simp] theorem Lane.setObj_pwr (l : Lane) (o : O.Obj) (v : Nat) : (l.setObj o v).pwr = l.pwr := rfl
@[simp] theorem Lane.setObj_out (l : Lane) (o : O.Obj) (v : Nat) : (l.setObj o v).out = l.out := rfl
@[simp] theorem Lane.setObj_bus (l : Lane) (o : O.Obj) (v : Nat) : (l.setObj o v).bus = l.bus := rfl

@[simp] theorem Lane.setFlag_powered (l : Lane) (o : O.Obj) (b : Bool) : (l.setFlag o b).powered = l.powered := rfl
@[simp] theorem Lane.setFlag_now (l : Lane) (o : O.Obj) (b : Bool) : (l.setFlag o b).now = l.now := rfl
@[simp] theorem Lane.setFlag_octs (l : Lane) (o : O.Obj) (b : Bool) : (l.setFlag o b).octs = l.octs := rfl
@[simp] theorem Lane.setFlag_regs (l : Lane) (o : O.Obj) (b : Bool) : (l.setFlag o b).regs = l.regs := rfl
@[simp] theorem Lane.setFlag_slots (l : Lane) (o : O.Obj) (b : Bool) : (l.setFlag o b).slots = l.slots := rfl
@[simp] theorem Lane.setFlag_coll (l : Lane) (o : O.Obj) (b : Bool) : (l.setFlag o b).coll = l.coll := rfl
@[simp] theorem Lane.setFlag_gate (l : Lane) (o : O.Obj) (b : Bool) : (l.setFlag o b).gate = l.gate := rfl
@[simp] theorem Lane.setFlag_steer (l : Lane) (o : O.Obj) (b : Bool) : (l.setFlag o b).steer = l.steer := rfl
@[simp] theorem Lane.setFlag_brakes (l : Lane) (o : O.Obj) (b : Bool) : (l.setFlag o b).brakes = l.brakes := rfl
@[simp] theorem Lane.setFlag_peerLo (l : Lane) (o : O.Obj) (b : Bool) : (l.setFlag o b).peerLo = l.peerLo := rfl
@[simp] theorem Lane.setFlag_peerHi (l : Lane) (o : O.Obj) (b : Bool) : (l.setFlag o b).peerHi = l.peerHi := rfl
@[simp] theorem Lane.setFlag_smp (l : Lane) (o : O.Obj) (b : Bool) : (l.setFlag o b).smp = l.smp := rfl
@[simp] theorem Lane.setFlag_votes (l : Lane) (o : O.Obj) (b : Bool) : (l.setFlag o b).votes = l.votes := rfl
@[simp] theorem Lane.setFlag_dem (l : Lane) (o : O.Obj) (b : Bool) : (l.setFlag o b).dem = l.dem := rfl
@[simp] theorem Lane.setFlag_claim (l : Lane) (o : O.Obj) (b : Bool) : (l.setFlag o b).claim = l.claim := rfl
@[simp] theorem Lane.setFlag_drive (l : Lane) (o : O.Obj) (b : Bool) : (l.setFlag o b).drive = l.drive := rfl
@[simp] theorem Lane.setFlag_sio (l : Lane) (o : O.Obj) (b : Bool) : (l.setFlag o b).sio = l.sio := rfl
@[simp] theorem Lane.setFlag_eng (l : Lane) (o : O.Obj) (b : Bool) : (l.setFlag o b).eng = l.eng := rfl
@[simp] theorem Lane.setFlag_cap (l : Lane) (o : O.Obj) (b : Bool) : (l.setFlag o b).cap = l.cap := rfl
@[simp] theorem Lane.setFlag_mx (l : Lane) (o : O.Obj) (b : Bool) : (l.setFlag o b).mx = l.mx := rfl
@[simp] theorem Lane.setFlag_spv (l : Lane) (o : O.Obj) (b : Bool) : (l.setFlag o b).spv = l.spv := rfl
@[simp] theorem Lane.setFlag_shape (l : Lane) (o : O.Obj) (b : Bool) : (l.setFlag o b).shape = l.shape := rfl
@[simp] theorem Lane.setFlag_brk (l : Lane) (o : O.Obj) (b : Bool) : (l.setFlag o b).brk = l.brk := rfl
@[simp] theorem Lane.setFlag_net (l : Lane) (o : O.Obj) (b : Bool) : (l.setFlag o b).net = l.net := rfl
@[simp] theorem Lane.setFlag_sess (l : Lane) (o : O.Obj) (b : Bool) : (l.setFlag o b).sess = l.sess := rfl
@[simp] theorem Lane.setFlag_txn (l : Lane) (o : O.Obj) (b : Bool) : (l.setFlag o b).txn = l.txn := rfl
@[simp] theorem Lane.setFlag_ka (l : Lane) (o : O.Obj) (b : Bool) : (l.setFlag o b).ka = l.ka := rfl
@[simp] theorem Lane.setFlag_writes (l : Lane) (o : O.Obj) (b : Bool) : (l.setFlag o b).writes = l.writes := rfl
@[simp] theorem Lane.setFlag_com (l : Lane) (o : O.Obj) (b : Bool) : (l.setFlag o b).com = l.com := rfl
@[simp] theorem Lane.setFlag_nv (l : Lane) (o : O.Obj) (b : Bool) : (l.setFlag o b).nv = l.nv := rfl
@[simp] theorem Lane.setFlag_cs (l : Lane) (o : O.Obj) (b : Bool) : (l.setFlag o b).cs = l.cs := rfl
@[simp] theorem Lane.setFlag_quote (l : Lane) (o : O.Obj) (b : Bool) : (l.setFlag o b).quote = l.quote := rfl
@[simp] theorem Lane.setFlag_upd (l : Lane) (o : O.Obj) (b : Bool) : (l.setFlag o b).upd = l.upd := rfl
@[simp] theorem Lane.setFlag_pwr (l : Lane) (o : O.Obj) (b : Bool) : (l.setFlag o b).pwr = l.pwr := rfl
@[simp] theorem Lane.setFlag_out (l : Lane) (o : O.Obj) (b : Bool) : (l.setFlag o b).out = l.out := rfl
@[simp] theorem Lane.setFlag_bus (l : Lane) (o : O.Obj) (b : Bool) : (l.setFlag o b).bus = l.bus := rfl

@[simp] theorem Lane.inc_powered (l : Lane) (o : O.Obj) : (l.inc o).powered = l.powered := rfl
@[simp] theorem Lane.inc_now (l : Lane) (o : O.Obj) : (l.inc o).now = l.now := rfl
@[simp] theorem Lane.inc_octs (l : Lane) (o : O.Obj) : (l.inc o).octs = l.octs := rfl
@[simp] theorem Lane.inc_regs (l : Lane) (o : O.Obj) : (l.inc o).regs = l.regs := rfl
@[simp] theorem Lane.inc_slots (l : Lane) (o : O.Obj) : (l.inc o).slots = l.slots := rfl
@[simp] theorem Lane.inc_coll (l : Lane) (o : O.Obj) : (l.inc o).coll = l.coll := rfl
@[simp] theorem Lane.inc_gate (l : Lane) (o : O.Obj) : (l.inc o).gate = l.gate := rfl
@[simp] theorem Lane.inc_steer (l : Lane) (o : O.Obj) : (l.inc o).steer = l.steer := rfl
@[simp] theorem Lane.inc_brakes (l : Lane) (o : O.Obj) : (l.inc o).brakes = l.brakes := rfl
@[simp] theorem Lane.inc_peerLo (l : Lane) (o : O.Obj) : (l.inc o).peerLo = l.peerLo := rfl
@[simp] theorem Lane.inc_peerHi (l : Lane) (o : O.Obj) : (l.inc o).peerHi = l.peerHi := rfl
@[simp] theorem Lane.inc_smp (l : Lane) (o : O.Obj) : (l.inc o).smp = l.smp := rfl
@[simp] theorem Lane.inc_votes (l : Lane) (o : O.Obj) : (l.inc o).votes = l.votes := rfl
@[simp] theorem Lane.inc_dem (l : Lane) (o : O.Obj) : (l.inc o).dem = l.dem := rfl
@[simp] theorem Lane.inc_claim (l : Lane) (o : O.Obj) : (l.inc o).claim = l.claim := rfl
@[simp] theorem Lane.inc_drive (l : Lane) (o : O.Obj) : (l.inc o).drive = l.drive := rfl
@[simp] theorem Lane.inc_sio (l : Lane) (o : O.Obj) : (l.inc o).sio = l.sio := rfl
@[simp] theorem Lane.inc_eng (l : Lane) (o : O.Obj) : (l.inc o).eng = l.eng := rfl
@[simp] theorem Lane.inc_cap (l : Lane) (o : O.Obj) : (l.inc o).cap = l.cap := rfl
@[simp] theorem Lane.inc_mx (l : Lane) (o : O.Obj) : (l.inc o).mx = l.mx := rfl
@[simp] theorem Lane.inc_spv (l : Lane) (o : O.Obj) : (l.inc o).spv = l.spv := rfl
@[simp] theorem Lane.inc_shape (l : Lane) (o : O.Obj) : (l.inc o).shape = l.shape := rfl
@[simp] theorem Lane.inc_brk (l : Lane) (o : O.Obj) : (l.inc o).brk = l.brk := rfl
@[simp] theorem Lane.inc_net (l : Lane) (o : O.Obj) : (l.inc o).net = l.net := rfl
@[simp] theorem Lane.inc_sess (l : Lane) (o : O.Obj) : (l.inc o).sess = l.sess := rfl
@[simp] theorem Lane.inc_txn (l : Lane) (o : O.Obj) : (l.inc o).txn = l.txn := rfl
@[simp] theorem Lane.inc_ka (l : Lane) (o : O.Obj) : (l.inc o).ka = l.ka := rfl
@[simp] theorem Lane.inc_writes (l : Lane) (o : O.Obj) : (l.inc o).writes = l.writes := rfl
@[simp] theorem Lane.inc_com (l : Lane) (o : O.Obj) : (l.inc o).com = l.com := rfl
@[simp] theorem Lane.inc_nv (l : Lane) (o : O.Obj) : (l.inc o).nv = l.nv := rfl
@[simp] theorem Lane.inc_cs (l : Lane) (o : O.Obj) : (l.inc o).cs = l.cs := rfl
@[simp] theorem Lane.inc_quote (l : Lane) (o : O.Obj) : (l.inc o).quote = l.quote := rfl
@[simp] theorem Lane.inc_upd (l : Lane) (o : O.Obj) : (l.inc o).upd = l.upd := rfl
@[simp] theorem Lane.inc_pwr (l : Lane) (o : O.Obj) : (l.inc o).pwr = l.pwr := rfl
@[simp] theorem Lane.inc_out (l : Lane) (o : O.Obj) : (l.inc o).out = l.out := rfl
@[simp] theorem Lane.inc_bus (l : Lane) (o : O.Obj) : (l.inc o).bus = l.bus := rfl

@[simp] theorem Lane.inc16_powered (l : Lane) (o : O.Obj) : (l.inc16 o).powered = l.powered := rfl
@[simp] theorem Lane.inc16_now (l : Lane) (o : O.Obj) : (l.inc16 o).now = l.now := rfl
@[simp] theorem Lane.inc16_octs (l : Lane) (o : O.Obj) : (l.inc16 o).octs = l.octs := rfl
@[simp] theorem Lane.inc16_regs (l : Lane) (o : O.Obj) : (l.inc16 o).regs = l.regs := rfl
@[simp] theorem Lane.inc16_slots (l : Lane) (o : O.Obj) : (l.inc16 o).slots = l.slots := rfl
@[simp] theorem Lane.inc16_coll (l : Lane) (o : O.Obj) : (l.inc16 o).coll = l.coll := rfl
@[simp] theorem Lane.inc16_gate (l : Lane) (o : O.Obj) : (l.inc16 o).gate = l.gate := rfl
@[simp] theorem Lane.inc16_steer (l : Lane) (o : O.Obj) : (l.inc16 o).steer = l.steer := rfl
@[simp] theorem Lane.inc16_brakes (l : Lane) (o : O.Obj) : (l.inc16 o).brakes = l.brakes := rfl
@[simp] theorem Lane.inc16_peerLo (l : Lane) (o : O.Obj) : (l.inc16 o).peerLo = l.peerLo := rfl
@[simp] theorem Lane.inc16_peerHi (l : Lane) (o : O.Obj) : (l.inc16 o).peerHi = l.peerHi := rfl
@[simp] theorem Lane.inc16_smp (l : Lane) (o : O.Obj) : (l.inc16 o).smp = l.smp := rfl
@[simp] theorem Lane.inc16_votes (l : Lane) (o : O.Obj) : (l.inc16 o).votes = l.votes := rfl
@[simp] theorem Lane.inc16_dem (l : Lane) (o : O.Obj) : (l.inc16 o).dem = l.dem := rfl
@[simp] theorem Lane.inc16_claim (l : Lane) (o : O.Obj) : (l.inc16 o).claim = l.claim := rfl
@[simp] theorem Lane.inc16_drive (l : Lane) (o : O.Obj) : (l.inc16 o).drive = l.drive := rfl
@[simp] theorem Lane.inc16_sio (l : Lane) (o : O.Obj) : (l.inc16 o).sio = l.sio := rfl
@[simp] theorem Lane.inc16_eng (l : Lane) (o : O.Obj) : (l.inc16 o).eng = l.eng := rfl
@[simp] theorem Lane.inc16_cap (l : Lane) (o : O.Obj) : (l.inc16 o).cap = l.cap := rfl
@[simp] theorem Lane.inc16_mx (l : Lane) (o : O.Obj) : (l.inc16 o).mx = l.mx := rfl
@[simp] theorem Lane.inc16_spv (l : Lane) (o : O.Obj) : (l.inc16 o).spv = l.spv := rfl
@[simp] theorem Lane.inc16_shape (l : Lane) (o : O.Obj) : (l.inc16 o).shape = l.shape := rfl
@[simp] theorem Lane.inc16_brk (l : Lane) (o : O.Obj) : (l.inc16 o).brk = l.brk := rfl
@[simp] theorem Lane.inc16_net (l : Lane) (o : O.Obj) : (l.inc16 o).net = l.net := rfl
@[simp] theorem Lane.inc16_sess (l : Lane) (o : O.Obj) : (l.inc16 o).sess = l.sess := rfl
@[simp] theorem Lane.inc16_txn (l : Lane) (o : O.Obj) : (l.inc16 o).txn = l.txn := rfl
@[simp] theorem Lane.inc16_ka (l : Lane) (o : O.Obj) : (l.inc16 o).ka = l.ka := rfl
@[simp] theorem Lane.inc16_writes (l : Lane) (o : O.Obj) : (l.inc16 o).writes = l.writes := rfl
@[simp] theorem Lane.inc16_com (l : Lane) (o : O.Obj) : (l.inc16 o).com = l.com := rfl
@[simp] theorem Lane.inc16_nv (l : Lane) (o : O.Obj) : (l.inc16 o).nv = l.nv := rfl
@[simp] theorem Lane.inc16_cs (l : Lane) (o : O.Obj) : (l.inc16 o).cs = l.cs := rfl
@[simp] theorem Lane.inc16_quote (l : Lane) (o : O.Obj) : (l.inc16 o).quote = l.quote := rfl
@[simp] theorem Lane.inc16_upd (l : Lane) (o : O.Obj) : (l.inc16 o).upd = l.upd := rfl
@[simp] theorem Lane.inc16_pwr (l : Lane) (o : O.Obj) : (l.inc16 o).pwr = l.pwr := rfl
@[simp] theorem Lane.inc16_out (l : Lane) (o : O.Obj) : (l.inc16 o).out = l.out := rfl
@[simp] theorem Lane.inc16_bus (l : Lane) (o : O.Obj) : (l.inc16 o).bus = l.bus := rfl

@[simp] theorem Lane.inc8_powered (l : Lane) (o : O.Obj) : (l.inc8 o).powered = l.powered := rfl
@[simp] theorem Lane.inc8_now (l : Lane) (o : O.Obj) : (l.inc8 o).now = l.now := rfl
@[simp] theorem Lane.inc8_octs (l : Lane) (o : O.Obj) : (l.inc8 o).octs = l.octs := rfl
@[simp] theorem Lane.inc8_regs (l : Lane) (o : O.Obj) : (l.inc8 o).regs = l.regs := rfl
@[simp] theorem Lane.inc8_slots (l : Lane) (o : O.Obj) : (l.inc8 o).slots = l.slots := rfl
@[simp] theorem Lane.inc8_coll (l : Lane) (o : O.Obj) : (l.inc8 o).coll = l.coll := rfl
@[simp] theorem Lane.inc8_gate (l : Lane) (o : O.Obj) : (l.inc8 o).gate = l.gate := rfl
@[simp] theorem Lane.inc8_steer (l : Lane) (o : O.Obj) : (l.inc8 o).steer = l.steer := rfl
@[simp] theorem Lane.inc8_brakes (l : Lane) (o : O.Obj) : (l.inc8 o).brakes = l.brakes := rfl
@[simp] theorem Lane.inc8_peerLo (l : Lane) (o : O.Obj) : (l.inc8 o).peerLo = l.peerLo := rfl
@[simp] theorem Lane.inc8_peerHi (l : Lane) (o : O.Obj) : (l.inc8 o).peerHi = l.peerHi := rfl
@[simp] theorem Lane.inc8_smp (l : Lane) (o : O.Obj) : (l.inc8 o).smp = l.smp := rfl
@[simp] theorem Lane.inc8_votes (l : Lane) (o : O.Obj) : (l.inc8 o).votes = l.votes := rfl
@[simp] theorem Lane.inc8_dem (l : Lane) (o : O.Obj) : (l.inc8 o).dem = l.dem := rfl
@[simp] theorem Lane.inc8_claim (l : Lane) (o : O.Obj) : (l.inc8 o).claim = l.claim := rfl
@[simp] theorem Lane.inc8_drive (l : Lane) (o : O.Obj) : (l.inc8 o).drive = l.drive := rfl
@[simp] theorem Lane.inc8_sio (l : Lane) (o : O.Obj) : (l.inc8 o).sio = l.sio := rfl
@[simp] theorem Lane.inc8_eng (l : Lane) (o : O.Obj) : (l.inc8 o).eng = l.eng := rfl
@[simp] theorem Lane.inc8_cap (l : Lane) (o : O.Obj) : (l.inc8 o).cap = l.cap := rfl
@[simp] theorem Lane.inc8_mx (l : Lane) (o : O.Obj) : (l.inc8 o).mx = l.mx := rfl
@[simp] theorem Lane.inc8_spv (l : Lane) (o : O.Obj) : (l.inc8 o).spv = l.spv := rfl
@[simp] theorem Lane.inc8_shape (l : Lane) (o : O.Obj) : (l.inc8 o).shape = l.shape := rfl
@[simp] theorem Lane.inc8_brk (l : Lane) (o : O.Obj) : (l.inc8 o).brk = l.brk := rfl
@[simp] theorem Lane.inc8_net (l : Lane) (o : O.Obj) : (l.inc8 o).net = l.net := rfl
@[simp] theorem Lane.inc8_sess (l : Lane) (o : O.Obj) : (l.inc8 o).sess = l.sess := rfl
@[simp] theorem Lane.inc8_txn (l : Lane) (o : O.Obj) : (l.inc8 o).txn = l.txn := rfl
@[simp] theorem Lane.inc8_ka (l : Lane) (o : O.Obj) : (l.inc8 o).ka = l.ka := rfl
@[simp] theorem Lane.inc8_writes (l : Lane) (o : O.Obj) : (l.inc8 o).writes = l.writes := rfl
@[simp] theorem Lane.inc8_com (l : Lane) (o : O.Obj) : (l.inc8 o).com = l.com := rfl
@[simp] theorem Lane.inc8_nv (l : Lane) (o : O.Obj) : (l.inc8 o).nv = l.nv := rfl
@[simp] theorem Lane.inc8_cs (l : Lane) (o : O.Obj) : (l.inc8 o).cs = l.cs := rfl
@[simp] theorem Lane.inc8_quote (l : Lane) (o : O.Obj) : (l.inc8 o).quote = l.quote := rfl
@[simp] theorem Lane.inc8_upd (l : Lane) (o : O.Obj) : (l.inc8 o).upd = l.upd := rfl
@[simp] theorem Lane.inc8_pwr (l : Lane) (o : O.Obj) : (l.inc8 o).pwr = l.pwr := rfl
@[simp] theorem Lane.inc8_out (l : Lane) (o : O.Obj) : (l.inc8 o).out = l.out := rfl
@[simp] theorem Lane.inc8_bus (l : Lane) (o : O.Obj) : (l.inc8 o).bus = l.bus := rfl

@[simp] theorem Lane.incIf_powered (l : Lane) (o : O.Obj) (b : Bool) : (l.incIf o b).powered = l.powered := by cases b <;> rfl
@[simp] theorem Lane.incIf_now (l : Lane) (o : O.Obj) (b : Bool) : (l.incIf o b).now = l.now := by cases b <;> rfl
@[simp] theorem Lane.incIf_octs (l : Lane) (o : O.Obj) (b : Bool) : (l.incIf o b).octs = l.octs := by cases b <;> rfl
@[simp] theorem Lane.incIf_regs (l : Lane) (o : O.Obj) (b : Bool) : (l.incIf o b).regs = l.regs := by cases b <;> rfl
@[simp] theorem Lane.incIf_slots (l : Lane) (o : O.Obj) (b : Bool) : (l.incIf o b).slots = l.slots := by cases b <;> rfl
@[simp] theorem Lane.incIf_coll (l : Lane) (o : O.Obj) (b : Bool) : (l.incIf o b).coll = l.coll := by cases b <;> rfl
@[simp] theorem Lane.incIf_gate (l : Lane) (o : O.Obj) (b : Bool) : (l.incIf o b).gate = l.gate := by cases b <;> rfl
@[simp] theorem Lane.incIf_steer (l : Lane) (o : O.Obj) (b : Bool) : (l.incIf o b).steer = l.steer := by cases b <;> rfl
@[simp] theorem Lane.incIf_brakes (l : Lane) (o : O.Obj) (b : Bool) : (l.incIf o b).brakes = l.brakes := by cases b <;> rfl
@[simp] theorem Lane.incIf_peerLo (l : Lane) (o : O.Obj) (b : Bool) : (l.incIf o b).peerLo = l.peerLo := by cases b <;> rfl
@[simp] theorem Lane.incIf_peerHi (l : Lane) (o : O.Obj) (b : Bool) : (l.incIf o b).peerHi = l.peerHi := by cases b <;> rfl
@[simp] theorem Lane.incIf_smp (l : Lane) (o : O.Obj) (b : Bool) : (l.incIf o b).smp = l.smp := by cases b <;> rfl
@[simp] theorem Lane.incIf_votes (l : Lane) (o : O.Obj) (b : Bool) : (l.incIf o b).votes = l.votes := by cases b <;> rfl
@[simp] theorem Lane.incIf_dem (l : Lane) (o : O.Obj) (b : Bool) : (l.incIf o b).dem = l.dem := by cases b <;> rfl
@[simp] theorem Lane.incIf_claim (l : Lane) (o : O.Obj) (b : Bool) : (l.incIf o b).claim = l.claim := by cases b <;> rfl
@[simp] theorem Lane.incIf_drive (l : Lane) (o : O.Obj) (b : Bool) : (l.incIf o b).drive = l.drive := by cases b <;> rfl
@[simp] theorem Lane.incIf_sio (l : Lane) (o : O.Obj) (b : Bool) : (l.incIf o b).sio = l.sio := by cases b <;> rfl
@[simp] theorem Lane.incIf_eng (l : Lane) (o : O.Obj) (b : Bool) : (l.incIf o b).eng = l.eng := by cases b <;> rfl
@[simp] theorem Lane.incIf_cap (l : Lane) (o : O.Obj) (b : Bool) : (l.incIf o b).cap = l.cap := by cases b <;> rfl
@[simp] theorem Lane.incIf_mx (l : Lane) (o : O.Obj) (b : Bool) : (l.incIf o b).mx = l.mx := by cases b <;> rfl
@[simp] theorem Lane.incIf_spv (l : Lane) (o : O.Obj) (b : Bool) : (l.incIf o b).spv = l.spv := by cases b <;> rfl
@[simp] theorem Lane.incIf_shape (l : Lane) (o : O.Obj) (b : Bool) : (l.incIf o b).shape = l.shape := by cases b <;> rfl
@[simp] theorem Lane.incIf_brk (l : Lane) (o : O.Obj) (b : Bool) : (l.incIf o b).brk = l.brk := by cases b <;> rfl
@[simp] theorem Lane.incIf_net (l : Lane) (o : O.Obj) (b : Bool) : (l.incIf o b).net = l.net := by cases b <;> rfl
@[simp] theorem Lane.incIf_sess (l : Lane) (o : O.Obj) (b : Bool) : (l.incIf o b).sess = l.sess := by cases b <;> rfl
@[simp] theorem Lane.incIf_txn (l : Lane) (o : O.Obj) (b : Bool) : (l.incIf o b).txn = l.txn := by cases b <;> rfl
@[simp] theorem Lane.incIf_ka (l : Lane) (o : O.Obj) (b : Bool) : (l.incIf o b).ka = l.ka := by cases b <;> rfl
@[simp] theorem Lane.incIf_writes (l : Lane) (o : O.Obj) (b : Bool) : (l.incIf o b).writes = l.writes := by cases b <;> rfl
@[simp] theorem Lane.incIf_com (l : Lane) (o : O.Obj) (b : Bool) : (l.incIf o b).com = l.com := by cases b <;> rfl
@[simp] theorem Lane.incIf_nv (l : Lane) (o : O.Obj) (b : Bool) : (l.incIf o b).nv = l.nv := by cases b <;> rfl
@[simp] theorem Lane.incIf_cs (l : Lane) (o : O.Obj) (b : Bool) : (l.incIf o b).cs = l.cs := by cases b <;> rfl
@[simp] theorem Lane.incIf_quote (l : Lane) (o : O.Obj) (b : Bool) : (l.incIf o b).quote = l.quote := by cases b <;> rfl
@[simp] theorem Lane.incIf_upd (l : Lane) (o : O.Obj) (b : Bool) : (l.incIf o b).upd = l.upd := by cases b <;> rfl
@[simp] theorem Lane.incIf_pwr (l : Lane) (o : O.Obj) (b : Bool) : (l.incIf o b).pwr = l.pwr := by cases b <;> rfl
@[simp] theorem Lane.incIf_out (l : Lane) (o : O.Obj) (b : Bool) : (l.incIf o b).out = l.out := by cases b <;> rfl
@[simp] theorem Lane.incIf_bus (l : Lane) (o : O.Obj) (b : Bool) : (l.incIf o b).bus = l.bus := by cases b <;> rfl

@[simp] theorem Lane.setOct_powered (l : Lane) (o : O.Obj) (v : List Byte) : (l.setOct o v).powered = l.powered := rfl
@[simp] theorem Lane.setOct_now (l : Lane) (o : O.Obj) (v : List Byte) : (l.setOct o v).now = l.now := rfl
@[simp] theorem Lane.setOct_objs (l : Lane) (o : O.Obj) (v : List Byte) : (l.setOct o v).objs = l.objs := rfl
@[simp] theorem Lane.setOct_regs (l : Lane) (o : O.Obj) (v : List Byte) : (l.setOct o v).regs = l.regs := rfl
@[simp] theorem Lane.setOct_slots (l : Lane) (o : O.Obj) (v : List Byte) : (l.setOct o v).slots = l.slots := rfl
@[simp] theorem Lane.setOct_coll (l : Lane) (o : O.Obj) (v : List Byte) : (l.setOct o v).coll = l.coll := rfl
@[simp] theorem Lane.setOct_gate (l : Lane) (o : O.Obj) (v : List Byte) : (l.setOct o v).gate = l.gate := rfl
@[simp] theorem Lane.setOct_steer (l : Lane) (o : O.Obj) (v : List Byte) : (l.setOct o v).steer = l.steer := rfl
@[simp] theorem Lane.setOct_brakes (l : Lane) (o : O.Obj) (v : List Byte) : (l.setOct o v).brakes = l.brakes := rfl
@[simp] theorem Lane.setOct_peerLo (l : Lane) (o : O.Obj) (v : List Byte) : (l.setOct o v).peerLo = l.peerLo := rfl
@[simp] theorem Lane.setOct_peerHi (l : Lane) (o : O.Obj) (v : List Byte) : (l.setOct o v).peerHi = l.peerHi := rfl
@[simp] theorem Lane.setOct_smp (l : Lane) (o : O.Obj) (v : List Byte) : (l.setOct o v).smp = l.smp := rfl
@[simp] theorem Lane.setOct_votes (l : Lane) (o : O.Obj) (v : List Byte) : (l.setOct o v).votes = l.votes := rfl
@[simp] theorem Lane.setOct_dem (l : Lane) (o : O.Obj) (v : List Byte) : (l.setOct o v).dem = l.dem := rfl
@[simp] theorem Lane.setOct_claim (l : Lane) (o : O.Obj) (v : List Byte) : (l.setOct o v).claim = l.claim := rfl
@[simp] theorem Lane.setOct_drive (l : Lane) (o : O.Obj) (v : List Byte) : (l.setOct o v).drive = l.drive := rfl
@[simp] theorem Lane.setOct_sio (l : Lane) (o : O.Obj) (v : List Byte) : (l.setOct o v).sio = l.sio := rfl
@[simp] theorem Lane.setOct_eng (l : Lane) (o : O.Obj) (v : List Byte) : (l.setOct o v).eng = l.eng := rfl
@[simp] theorem Lane.setOct_cap (l : Lane) (o : O.Obj) (v : List Byte) : (l.setOct o v).cap = l.cap := rfl
@[simp] theorem Lane.setOct_mx (l : Lane) (o : O.Obj) (v : List Byte) : (l.setOct o v).mx = l.mx := rfl
@[simp] theorem Lane.setOct_spv (l : Lane) (o : O.Obj) (v : List Byte) : (l.setOct o v).spv = l.spv := rfl
@[simp] theorem Lane.setOct_shape (l : Lane) (o : O.Obj) (v : List Byte) : (l.setOct o v).shape = l.shape := rfl
@[simp] theorem Lane.setOct_brk (l : Lane) (o : O.Obj) (v : List Byte) : (l.setOct o v).brk = l.brk := rfl
@[simp] theorem Lane.setOct_net (l : Lane) (o : O.Obj) (v : List Byte) : (l.setOct o v).net = l.net := rfl
@[simp] theorem Lane.setOct_sess (l : Lane) (o : O.Obj) (v : List Byte) : (l.setOct o v).sess = l.sess := rfl
@[simp] theorem Lane.setOct_txn (l : Lane) (o : O.Obj) (v : List Byte) : (l.setOct o v).txn = l.txn := rfl
@[simp] theorem Lane.setOct_ka (l : Lane) (o : O.Obj) (v : List Byte) : (l.setOct o v).ka = l.ka := rfl
@[simp] theorem Lane.setOct_writes (l : Lane) (o : O.Obj) (v : List Byte) : (l.setOct o v).writes = l.writes := rfl
@[simp] theorem Lane.setOct_com (l : Lane) (o : O.Obj) (v : List Byte) : (l.setOct o v).com = l.com := rfl
@[simp] theorem Lane.setOct_nv (l : Lane) (o : O.Obj) (v : List Byte) : (l.setOct o v).nv = l.nv := rfl
@[simp] theorem Lane.setOct_cs (l : Lane) (o : O.Obj) (v : List Byte) : (l.setOct o v).cs = l.cs := rfl
@[simp] theorem Lane.setOct_quote (l : Lane) (o : O.Obj) (v : List Byte) : (l.setOct o v).quote = l.quote := rfl
@[simp] theorem Lane.setOct_upd (l : Lane) (o : O.Obj) (v : List Byte) : (l.setOct o v).upd = l.upd := rfl
@[simp] theorem Lane.setOct_pwr (l : Lane) (o : O.Obj) (v : List Byte) : (l.setOct o v).pwr = l.pwr := rfl
@[simp] theorem Lane.setOct_out (l : Lane) (o : O.Obj) (v : List Byte) : (l.setOct o v).out = l.out := rfl
@[simp] theorem Lane.setOct_bus (l : Lane) (o : O.Obj) (v : List Byte) : (l.setOct o v).bus = l.bus := rfl

@[simp] theorem Lane.setArr16_powered (l : Lane) (o : O.Obj) (v : List Nat) : (l.setArr16 o v).powered = l.powered := rfl
@[simp] theorem Lane.setArr16_now (l : Lane) (o : O.Obj) (v : List Nat) : (l.setArr16 o v).now = l.now := rfl
@[simp] theorem Lane.setArr16_octs (l : Lane) (o : O.Obj) (v : List Nat) : (l.setArr16 o v).octs = l.octs := rfl
@[simp] theorem Lane.setArr16_regs (l : Lane) (o : O.Obj) (v : List Nat) : (l.setArr16 o v).regs = l.regs := rfl
@[simp] theorem Lane.setArr16_slots (l : Lane) (o : O.Obj) (v : List Nat) : (l.setArr16 o v).slots = l.slots := rfl
@[simp] theorem Lane.setArr16_coll (l : Lane) (o : O.Obj) (v : List Nat) : (l.setArr16 o v).coll = l.coll := rfl
@[simp] theorem Lane.setArr16_gate (l : Lane) (o : O.Obj) (v : List Nat) : (l.setArr16 o v).gate = l.gate := rfl
@[simp] theorem Lane.setArr16_steer (l : Lane) (o : O.Obj) (v : List Nat) : (l.setArr16 o v).steer = l.steer := rfl
@[simp] theorem Lane.setArr16_brakes (l : Lane) (o : O.Obj) (v : List Nat) : (l.setArr16 o v).brakes = l.brakes := rfl
@[simp] theorem Lane.setArr16_peerLo (l : Lane) (o : O.Obj) (v : List Nat) : (l.setArr16 o v).peerLo = l.peerLo := rfl
@[simp] theorem Lane.setArr16_peerHi (l : Lane) (o : O.Obj) (v : List Nat) : (l.setArr16 o v).peerHi = l.peerHi := rfl
@[simp] theorem Lane.setArr16_smp (l : Lane) (o : O.Obj) (v : List Nat) : (l.setArr16 o v).smp = l.smp := rfl
@[simp] theorem Lane.setArr16_votes (l : Lane) (o : O.Obj) (v : List Nat) : (l.setArr16 o v).votes = l.votes := rfl
@[simp] theorem Lane.setArr16_dem (l : Lane) (o : O.Obj) (v : List Nat) : (l.setArr16 o v).dem = l.dem := rfl
@[simp] theorem Lane.setArr16_claim (l : Lane) (o : O.Obj) (v : List Nat) : (l.setArr16 o v).claim = l.claim := rfl
@[simp] theorem Lane.setArr16_drive (l : Lane) (o : O.Obj) (v : List Nat) : (l.setArr16 o v).drive = l.drive := rfl
@[simp] theorem Lane.setArr16_sio (l : Lane) (o : O.Obj) (v : List Nat) : (l.setArr16 o v).sio = l.sio := rfl
@[simp] theorem Lane.setArr16_eng (l : Lane) (o : O.Obj) (v : List Nat) : (l.setArr16 o v).eng = l.eng := rfl
@[simp] theorem Lane.setArr16_cap (l : Lane) (o : O.Obj) (v : List Nat) : (l.setArr16 o v).cap = l.cap := rfl
@[simp] theorem Lane.setArr16_mx (l : Lane) (o : O.Obj) (v : List Nat) : (l.setArr16 o v).mx = l.mx := rfl
@[simp] theorem Lane.setArr16_spv (l : Lane) (o : O.Obj) (v : List Nat) : (l.setArr16 o v).spv = l.spv := rfl
@[simp] theorem Lane.setArr16_shape (l : Lane) (o : O.Obj) (v : List Nat) : (l.setArr16 o v).shape = l.shape := rfl
@[simp] theorem Lane.setArr16_brk (l : Lane) (o : O.Obj) (v : List Nat) : (l.setArr16 o v).brk = l.brk := rfl
@[simp] theorem Lane.setArr16_net (l : Lane) (o : O.Obj) (v : List Nat) : (l.setArr16 o v).net = l.net := rfl
@[simp] theorem Lane.setArr16_sess (l : Lane) (o : O.Obj) (v : List Nat) : (l.setArr16 o v).sess = l.sess := rfl
@[simp] theorem Lane.setArr16_txn (l : Lane) (o : O.Obj) (v : List Nat) : (l.setArr16 o v).txn = l.txn := rfl
@[simp] theorem Lane.setArr16_ka (l : Lane) (o : O.Obj) (v : List Nat) : (l.setArr16 o v).ka = l.ka := rfl
@[simp] theorem Lane.setArr16_writes (l : Lane) (o : O.Obj) (v : List Nat) : (l.setArr16 o v).writes = l.writes := rfl
@[simp] theorem Lane.setArr16_com (l : Lane) (o : O.Obj) (v : List Nat) : (l.setArr16 o v).com = l.com := rfl
@[simp] theorem Lane.setArr16_nv (l : Lane) (o : O.Obj) (v : List Nat) : (l.setArr16 o v).nv = l.nv := rfl
@[simp] theorem Lane.setArr16_cs (l : Lane) (o : O.Obj) (v : List Nat) : (l.setArr16 o v).cs = l.cs := rfl
@[simp] theorem Lane.setArr16_quote (l : Lane) (o : O.Obj) (v : List Nat) : (l.setArr16 o v).quote = l.quote := rfl
@[simp] theorem Lane.setArr16_upd (l : Lane) (o : O.Obj) (v : List Nat) : (l.setArr16 o v).upd = l.upd := rfl
@[simp] theorem Lane.setArr16_pwr (l : Lane) (o : O.Obj) (v : List Nat) : (l.setArr16 o v).pwr = l.pwr := rfl
@[simp] theorem Lane.setArr16_out (l : Lane) (o : O.Obj) (v : List Nat) : (l.setArr16 o v).out = l.out := rfl
@[simp] theorem Lane.setArr16_bus (l : Lane) (o : O.Obj) (v : List Nat) : (l.setArr16 o v).bus = l.bus := rfl

@[simp] theorem Lane.setReg_powered (l : Lane) (r : Rg.Reg) (v : Nat) : (l.setReg r v).powered = l.powered := rfl
@[simp] theorem Lane.setReg_now (l : Lane) (r : Rg.Reg) (v : Nat) : (l.setReg r v).now = l.now := rfl
@[simp] theorem Lane.setReg_objs (l : Lane) (r : Rg.Reg) (v : Nat) : (l.setReg r v).objs = l.objs := rfl
@[simp] theorem Lane.setReg_octs (l : Lane) (r : Rg.Reg) (v : Nat) : (l.setReg r v).octs = l.octs := rfl
@[simp] theorem Lane.setReg_slots (l : Lane) (r : Rg.Reg) (v : Nat) : (l.setReg r v).slots = l.slots := rfl
@[simp] theorem Lane.setReg_coll (l : Lane) (r : Rg.Reg) (v : Nat) : (l.setReg r v).coll = l.coll := rfl
@[simp] theorem Lane.setReg_gate (l : Lane) (r : Rg.Reg) (v : Nat) : (l.setReg r v).gate = l.gate := rfl
@[simp] theorem Lane.setReg_steer (l : Lane) (r : Rg.Reg) (v : Nat) : (l.setReg r v).steer = l.steer := rfl
@[simp] theorem Lane.setReg_brakes (l : Lane) (r : Rg.Reg) (v : Nat) : (l.setReg r v).brakes = l.brakes := rfl
@[simp] theorem Lane.setReg_peerLo (l : Lane) (r : Rg.Reg) (v : Nat) : (l.setReg r v).peerLo = l.peerLo := rfl
@[simp] theorem Lane.setReg_peerHi (l : Lane) (r : Rg.Reg) (v : Nat) : (l.setReg r v).peerHi = l.peerHi := rfl
@[simp] theorem Lane.setReg_smp (l : Lane) (r : Rg.Reg) (v : Nat) : (l.setReg r v).smp = l.smp := rfl
@[simp] theorem Lane.setReg_votes (l : Lane) (r : Rg.Reg) (v : Nat) : (l.setReg r v).votes = l.votes := rfl
@[simp] theorem Lane.setReg_dem (l : Lane) (r : Rg.Reg) (v : Nat) : (l.setReg r v).dem = l.dem := rfl
@[simp] theorem Lane.setReg_claim (l : Lane) (r : Rg.Reg) (v : Nat) : (l.setReg r v).claim = l.claim := rfl
@[simp] theorem Lane.setReg_drive (l : Lane) (r : Rg.Reg) (v : Nat) : (l.setReg r v).drive = l.drive := rfl
@[simp] theorem Lane.setReg_sio (l : Lane) (r : Rg.Reg) (v : Nat) : (l.setReg r v).sio = l.sio := rfl
@[simp] theorem Lane.setReg_eng (l : Lane) (r : Rg.Reg) (v : Nat) : (l.setReg r v).eng = l.eng := rfl
@[simp] theorem Lane.setReg_cap (l : Lane) (r : Rg.Reg) (v : Nat) : (l.setReg r v).cap = l.cap := rfl
@[simp] theorem Lane.setReg_mx (l : Lane) (r : Rg.Reg) (v : Nat) : (l.setReg r v).mx = l.mx := rfl
@[simp] theorem Lane.setReg_spv (l : Lane) (r : Rg.Reg) (v : Nat) : (l.setReg r v).spv = l.spv := rfl
@[simp] theorem Lane.setReg_shape (l : Lane) (r : Rg.Reg) (v : Nat) : (l.setReg r v).shape = l.shape := rfl
@[simp] theorem Lane.setReg_brk (l : Lane) (r : Rg.Reg) (v : Nat) : (l.setReg r v).brk = l.brk := rfl
@[simp] theorem Lane.setReg_net (l : Lane) (r : Rg.Reg) (v : Nat) : (l.setReg r v).net = l.net := rfl
@[simp] theorem Lane.setReg_sess (l : Lane) (r : Rg.Reg) (v : Nat) : (l.setReg r v).sess = l.sess := rfl
@[simp] theorem Lane.setReg_txn (l : Lane) (r : Rg.Reg) (v : Nat) : (l.setReg r v).txn = l.txn := rfl
@[simp] theorem Lane.setReg_ka (l : Lane) (r : Rg.Reg) (v : Nat) : (l.setReg r v).ka = l.ka := rfl
@[simp] theorem Lane.setReg_writes (l : Lane) (r : Rg.Reg) (v : Nat) : (l.setReg r v).writes = l.writes := rfl
@[simp] theorem Lane.setReg_com (l : Lane) (r : Rg.Reg) (v : Nat) : (l.setReg r v).com = l.com := rfl
@[simp] theorem Lane.setReg_nv (l : Lane) (r : Rg.Reg) (v : Nat) : (l.setReg r v).nv = l.nv := rfl
@[simp] theorem Lane.setReg_cs (l : Lane) (r : Rg.Reg) (v : Nat) : (l.setReg r v).cs = l.cs := rfl
@[simp] theorem Lane.setReg_quote (l : Lane) (r : Rg.Reg) (v : Nat) : (l.setReg r v).quote = l.quote := rfl
@[simp] theorem Lane.setReg_upd (l : Lane) (r : Rg.Reg) (v : Nat) : (l.setReg r v).upd = l.upd := rfl
@[simp] theorem Lane.setReg_pwr (l : Lane) (r : Rg.Reg) (v : Nat) : (l.setReg r v).pwr = l.pwr := rfl
@[simp] theorem Lane.setReg_out (l : Lane) (r : Rg.Reg) (v : Nat) : (l.setReg r v).out = l.out := rfl
@[simp] theorem Lane.setReg_bus (l : Lane) (r : Rg.Reg) (v : Nat) : (l.setReg r v).bus = l.bus := rfl

@[simp] theorem Lane.setFld_powered (l : Lane) (r : Rg.Reg) (lo w v : Nat) : (l.setFld r lo w v).powered = l.powered := rfl
@[simp] theorem Lane.setFld_now (l : Lane) (r : Rg.Reg) (lo w v : Nat) : (l.setFld r lo w v).now = l.now := rfl
@[simp] theorem Lane.setFld_objs (l : Lane) (r : Rg.Reg) (lo w v : Nat) : (l.setFld r lo w v).objs = l.objs := rfl
@[simp] theorem Lane.setFld_octs (l : Lane) (r : Rg.Reg) (lo w v : Nat) : (l.setFld r lo w v).octs = l.octs := rfl
@[simp] theorem Lane.setFld_slots (l : Lane) (r : Rg.Reg) (lo w v : Nat) : (l.setFld r lo w v).slots = l.slots := rfl
@[simp] theorem Lane.setFld_coll (l : Lane) (r : Rg.Reg) (lo w v : Nat) : (l.setFld r lo w v).coll = l.coll := rfl
@[simp] theorem Lane.setFld_gate (l : Lane) (r : Rg.Reg) (lo w v : Nat) : (l.setFld r lo w v).gate = l.gate := rfl
@[simp] theorem Lane.setFld_steer (l : Lane) (r : Rg.Reg) (lo w v : Nat) : (l.setFld r lo w v).steer = l.steer := rfl
@[simp] theorem Lane.setFld_brakes (l : Lane) (r : Rg.Reg) (lo w v : Nat) : (l.setFld r lo w v).brakes = l.brakes := rfl
@[simp] theorem Lane.setFld_peerLo (l : Lane) (r : Rg.Reg) (lo w v : Nat) : (l.setFld r lo w v).peerLo = l.peerLo := rfl
@[simp] theorem Lane.setFld_peerHi (l : Lane) (r : Rg.Reg) (lo w v : Nat) : (l.setFld r lo w v).peerHi = l.peerHi := rfl
@[simp] theorem Lane.setFld_smp (l : Lane) (r : Rg.Reg) (lo w v : Nat) : (l.setFld r lo w v).smp = l.smp := rfl
@[simp] theorem Lane.setFld_votes (l : Lane) (r : Rg.Reg) (lo w v : Nat) : (l.setFld r lo w v).votes = l.votes := rfl
@[simp] theorem Lane.setFld_dem (l : Lane) (r : Rg.Reg) (lo w v : Nat) : (l.setFld r lo w v).dem = l.dem := rfl
@[simp] theorem Lane.setFld_claim (l : Lane) (r : Rg.Reg) (lo w v : Nat) : (l.setFld r lo w v).claim = l.claim := rfl
@[simp] theorem Lane.setFld_drive (l : Lane) (r : Rg.Reg) (lo w v : Nat) : (l.setFld r lo w v).drive = l.drive := rfl
@[simp] theorem Lane.setFld_sio (l : Lane) (r : Rg.Reg) (lo w v : Nat) : (l.setFld r lo w v).sio = l.sio := rfl
@[simp] theorem Lane.setFld_eng (l : Lane) (r : Rg.Reg) (lo w v : Nat) : (l.setFld r lo w v).eng = l.eng := rfl
@[simp] theorem Lane.setFld_cap (l : Lane) (r : Rg.Reg) (lo w v : Nat) : (l.setFld r lo w v).cap = l.cap := rfl
@[simp] theorem Lane.setFld_mx (l : Lane) (r : Rg.Reg) (lo w v : Nat) : (l.setFld r lo w v).mx = l.mx := rfl
@[simp] theorem Lane.setFld_spv (l : Lane) (r : Rg.Reg) (lo w v : Nat) : (l.setFld r lo w v).spv = l.spv := rfl
@[simp] theorem Lane.setFld_shape (l : Lane) (r : Rg.Reg) (lo w v : Nat) : (l.setFld r lo w v).shape = l.shape := rfl
@[simp] theorem Lane.setFld_brk (l : Lane) (r : Rg.Reg) (lo w v : Nat) : (l.setFld r lo w v).brk = l.brk := rfl
@[simp] theorem Lane.setFld_net (l : Lane) (r : Rg.Reg) (lo w v : Nat) : (l.setFld r lo w v).net = l.net := rfl
@[simp] theorem Lane.setFld_sess (l : Lane) (r : Rg.Reg) (lo w v : Nat) : (l.setFld r lo w v).sess = l.sess := rfl
@[simp] theorem Lane.setFld_txn (l : Lane) (r : Rg.Reg) (lo w v : Nat) : (l.setFld r lo w v).txn = l.txn := rfl
@[simp] theorem Lane.setFld_ka (l : Lane) (r : Rg.Reg) (lo w v : Nat) : (l.setFld r lo w v).ka = l.ka := rfl
@[simp] theorem Lane.setFld_writes (l : Lane) (r : Rg.Reg) (lo w v : Nat) : (l.setFld r lo w v).writes = l.writes := rfl
@[simp] theorem Lane.setFld_com (l : Lane) (r : Rg.Reg) (lo w v : Nat) : (l.setFld r lo w v).com = l.com := rfl
@[simp] theorem Lane.setFld_nv (l : Lane) (r : Rg.Reg) (lo w v : Nat) : (l.setFld r lo w v).nv = l.nv := rfl
@[simp] theorem Lane.setFld_cs (l : Lane) (r : Rg.Reg) (lo w v : Nat) : (l.setFld r lo w v).cs = l.cs := rfl
@[simp] theorem Lane.setFld_quote (l : Lane) (r : Rg.Reg) (lo w v : Nat) : (l.setFld r lo w v).quote = l.quote := rfl
@[simp] theorem Lane.setFld_upd (l : Lane) (r : Rg.Reg) (lo w v : Nat) : (l.setFld r lo w v).upd = l.upd := rfl
@[simp] theorem Lane.setFld_pwr (l : Lane) (r : Rg.Reg) (lo w v : Nat) : (l.setFld r lo w v).pwr = l.pwr := rfl
@[simp] theorem Lane.setFld_out (l : Lane) (r : Rg.Reg) (lo w v : Nat) : (l.setFld r lo w v).out = l.out := rfl
@[simp] theorem Lane.setFld_bus (l : Lane) (r : Rg.Reg) (lo w v : Nat) : (l.setFld r lo w v).bus = l.bus := rfl

@[simp] theorem Lane.setRbit_powered (l : Lane) (r : Rg.Reg) (i : Nat) (b : Bool) : (l.setRbit r i b).powered = l.powered := rfl
@[simp] theorem Lane.setRbit_now (l : Lane) (r : Rg.Reg) (i : Nat) (b : Bool) : (l.setRbit r i b).now = l.now := rfl
@[simp] theorem Lane.setRbit_objs (l : Lane) (r : Rg.Reg) (i : Nat) (b : Bool) : (l.setRbit r i b).objs = l.objs := rfl
@[simp] theorem Lane.setRbit_octs (l : Lane) (r : Rg.Reg) (i : Nat) (b : Bool) : (l.setRbit r i b).octs = l.octs := rfl
@[simp] theorem Lane.setRbit_slots (l : Lane) (r : Rg.Reg) (i : Nat) (b : Bool) : (l.setRbit r i b).slots = l.slots := rfl
@[simp] theorem Lane.setRbit_coll (l : Lane) (r : Rg.Reg) (i : Nat) (b : Bool) : (l.setRbit r i b).coll = l.coll := rfl
@[simp] theorem Lane.setRbit_gate (l : Lane) (r : Rg.Reg) (i : Nat) (b : Bool) : (l.setRbit r i b).gate = l.gate := rfl
@[simp] theorem Lane.setRbit_steer (l : Lane) (r : Rg.Reg) (i : Nat) (b : Bool) : (l.setRbit r i b).steer = l.steer := rfl
@[simp] theorem Lane.setRbit_brakes (l : Lane) (r : Rg.Reg) (i : Nat) (b : Bool) : (l.setRbit r i b).brakes = l.brakes := rfl
@[simp] theorem Lane.setRbit_peerLo (l : Lane) (r : Rg.Reg) (i : Nat) (b : Bool) : (l.setRbit r i b).peerLo = l.peerLo := rfl
@[simp] theorem Lane.setRbit_peerHi (l : Lane) (r : Rg.Reg) (i : Nat) (b : Bool) : (l.setRbit r i b).peerHi = l.peerHi := rfl
@[simp] theorem Lane.setRbit_smp (l : Lane) (r : Rg.Reg) (i : Nat) (b : Bool) : (l.setRbit r i b).smp = l.smp := rfl
@[simp] theorem Lane.setRbit_votes (l : Lane) (r : Rg.Reg) (i : Nat) (b : Bool) : (l.setRbit r i b).votes = l.votes := rfl
@[simp] theorem Lane.setRbit_dem (l : Lane) (r : Rg.Reg) (i : Nat) (b : Bool) : (l.setRbit r i b).dem = l.dem := rfl
@[simp] theorem Lane.setRbit_claim (l : Lane) (r : Rg.Reg) (i : Nat) (b : Bool) : (l.setRbit r i b).claim = l.claim := rfl
@[simp] theorem Lane.setRbit_drive (l : Lane) (r : Rg.Reg) (i : Nat) (b : Bool) : (l.setRbit r i b).drive = l.drive := rfl
@[simp] theorem Lane.setRbit_sio (l : Lane) (r : Rg.Reg) (i : Nat) (b : Bool) : (l.setRbit r i b).sio = l.sio := rfl
@[simp] theorem Lane.setRbit_eng (l : Lane) (r : Rg.Reg) (i : Nat) (b : Bool) : (l.setRbit r i b).eng = l.eng := rfl
@[simp] theorem Lane.setRbit_cap (l : Lane) (r : Rg.Reg) (i : Nat) (b : Bool) : (l.setRbit r i b).cap = l.cap := rfl
@[simp] theorem Lane.setRbit_mx (l : Lane) (r : Rg.Reg) (i : Nat) (b : Bool) : (l.setRbit r i b).mx = l.mx := rfl
@[simp] theorem Lane.setRbit_spv (l : Lane) (r : Rg.Reg) (i : Nat) (b : Bool) : (l.setRbit r i b).spv = l.spv := rfl
@[simp] theorem Lane.setRbit_shape (l : Lane) (r : Rg.Reg) (i : Nat) (b : Bool) : (l.setRbit r i b).shape = l.shape := rfl
@[simp] theorem Lane.setRbit_brk (l : Lane) (r : Rg.Reg) (i : Nat) (b : Bool) : (l.setRbit r i b).brk = l.brk := rfl
@[simp] theorem Lane.setRbit_net (l : Lane) (r : Rg.Reg) (i : Nat) (b : Bool) : (l.setRbit r i b).net = l.net := rfl
@[simp] theorem Lane.setRbit_sess (l : Lane) (r : Rg.Reg) (i : Nat) (b : Bool) : (l.setRbit r i b).sess = l.sess := rfl
@[simp] theorem Lane.setRbit_txn (l : Lane) (r : Rg.Reg) (i : Nat) (b : Bool) : (l.setRbit r i b).txn = l.txn := rfl
@[simp] theorem Lane.setRbit_ka (l : Lane) (r : Rg.Reg) (i : Nat) (b : Bool) : (l.setRbit r i b).ka = l.ka := rfl
@[simp] theorem Lane.setRbit_writes (l : Lane) (r : Rg.Reg) (i : Nat) (b : Bool) : (l.setRbit r i b).writes = l.writes := rfl
@[simp] theorem Lane.setRbit_com (l : Lane) (r : Rg.Reg) (i : Nat) (b : Bool) : (l.setRbit r i b).com = l.com := rfl
@[simp] theorem Lane.setRbit_nv (l : Lane) (r : Rg.Reg) (i : Nat) (b : Bool) : (l.setRbit r i b).nv = l.nv := rfl
@[simp] theorem Lane.setRbit_cs (l : Lane) (r : Rg.Reg) (i : Nat) (b : Bool) : (l.setRbit r i b).cs = l.cs := rfl
@[simp] theorem Lane.setRbit_quote (l : Lane) (r : Rg.Reg) (i : Nat) (b : Bool) : (l.setRbit r i b).quote = l.quote := rfl
@[simp] theorem Lane.setRbit_upd (l : Lane) (r : Rg.Reg) (i : Nat) (b : Bool) : (l.setRbit r i b).upd = l.upd := rfl
@[simp] theorem Lane.setRbit_pwr (l : Lane) (r : Rg.Reg) (i : Nat) (b : Bool) : (l.setRbit r i b).pwr = l.pwr := rfl
@[simp] theorem Lane.setRbit_out (l : Lane) (r : Rg.Reg) (i : Nat) (b : Bool) : (l.setRbit r i b).out = l.out := rfl
@[simp] theorem Lane.setRbit_bus (l : Lane) (r : Rg.Reg) (i : Nat) (b : Bool) : (l.setRbit r i b).bus = l.bus := rfl

@[simp] theorem Lane.raiseBit_powered (l : Lane) (r : Rg.Reg) (i : Nat) (b : Bool) : (l.raiseBit r i b).powered = l.powered := by cases b <;> rfl
@[simp] theorem Lane.raiseBit_now (l : Lane) (r : Rg.Reg) (i : Nat) (b : Bool) : (l.raiseBit r i b).now = l.now := by cases b <;> rfl
@[simp] theorem Lane.raiseBit_objs (l : Lane) (r : Rg.Reg) (i : Nat) (b : Bool) : (l.raiseBit r i b).objs = l.objs := by cases b <;> rfl
@[simp] theorem Lane.raiseBit_octs (l : Lane) (r : Rg.Reg) (i : Nat) (b : Bool) : (l.raiseBit r i b).octs = l.octs := by cases b <;> rfl
@[simp] theorem Lane.raiseBit_slots (l : Lane) (r : Rg.Reg) (i : Nat) (b : Bool) : (l.raiseBit r i b).slots = l.slots := by cases b <;> rfl
@[simp] theorem Lane.raiseBit_coll (l : Lane) (r : Rg.Reg) (i : Nat) (b : Bool) : (l.raiseBit r i b).coll = l.coll := by cases b <;> rfl
@[simp] theorem Lane.raiseBit_gate (l : Lane) (r : Rg.Reg) (i : Nat) (b : Bool) : (l.raiseBit r i b).gate = l.gate := by cases b <;> rfl
@[simp] theorem Lane.raiseBit_steer (l : Lane) (r : Rg.Reg) (i : Nat) (b : Bool) : (l.raiseBit r i b).steer = l.steer := by cases b <;> rfl
@[simp] theorem Lane.raiseBit_brakes (l : Lane) (r : Rg.Reg) (i : Nat) (b : Bool) : (l.raiseBit r i b).brakes = l.brakes := by cases b <;> rfl
@[simp] theorem Lane.raiseBit_peerLo (l : Lane) (r : Rg.Reg) (i : Nat) (b : Bool) : (l.raiseBit r i b).peerLo = l.peerLo := by cases b <;> rfl
@[simp] theorem Lane.raiseBit_peerHi (l : Lane) (r : Rg.Reg) (i : Nat) (b : Bool) : (l.raiseBit r i b).peerHi = l.peerHi := by cases b <;> rfl
@[simp] theorem Lane.raiseBit_smp (l : Lane) (r : Rg.Reg) (i : Nat) (b : Bool) : (l.raiseBit r i b).smp = l.smp := by cases b <;> rfl
@[simp] theorem Lane.raiseBit_votes (l : Lane) (r : Rg.Reg) (i : Nat) (b : Bool) : (l.raiseBit r i b).votes = l.votes := by cases b <;> rfl
@[simp] theorem Lane.raiseBit_dem (l : Lane) (r : Rg.Reg) (i : Nat) (b : Bool) : (l.raiseBit r i b).dem = l.dem := by cases b <;> rfl
@[simp] theorem Lane.raiseBit_claim (l : Lane) (r : Rg.Reg) (i : Nat) (b : Bool) : (l.raiseBit r i b).claim = l.claim := by cases b <;> rfl
@[simp] theorem Lane.raiseBit_drive (l : Lane) (r : Rg.Reg) (i : Nat) (b : Bool) : (l.raiseBit r i b).drive = l.drive := by cases b <;> rfl
@[simp] theorem Lane.raiseBit_sio (l : Lane) (r : Rg.Reg) (i : Nat) (b : Bool) : (l.raiseBit r i b).sio = l.sio := by cases b <;> rfl
@[simp] theorem Lane.raiseBit_eng (l : Lane) (r : Rg.Reg) (i : Nat) (b : Bool) : (l.raiseBit r i b).eng = l.eng := by cases b <;> rfl
@[simp] theorem Lane.raiseBit_cap (l : Lane) (r : Rg.Reg) (i : Nat) (b : Bool) : (l.raiseBit r i b).cap = l.cap := by cases b <;> rfl
@[simp] theorem Lane.raiseBit_mx (l : Lane) (r : Rg.Reg) (i : Nat) (b : Bool) : (l.raiseBit r i b).mx = l.mx := by cases b <;> rfl
@[simp] theorem Lane.raiseBit_spv (l : Lane) (r : Rg.Reg) (i : Nat) (b : Bool) : (l.raiseBit r i b).spv = l.spv := by cases b <;> rfl
@[simp] theorem Lane.raiseBit_shape (l : Lane) (r : Rg.Reg) (i : Nat) (b : Bool) : (l.raiseBit r i b).shape = l.shape := by cases b <;> rfl
@[simp] theorem Lane.raiseBit_brk (l : Lane) (r : Rg.Reg) (i : Nat) (b : Bool) : (l.raiseBit r i b).brk = l.brk := by cases b <;> rfl
@[simp] theorem Lane.raiseBit_net (l : Lane) (r : Rg.Reg) (i : Nat) (b : Bool) : (l.raiseBit r i b).net = l.net := by cases b <;> rfl
@[simp] theorem Lane.raiseBit_sess (l : Lane) (r : Rg.Reg) (i : Nat) (b : Bool) : (l.raiseBit r i b).sess = l.sess := by cases b <;> rfl
@[simp] theorem Lane.raiseBit_txn (l : Lane) (r : Rg.Reg) (i : Nat) (b : Bool) : (l.raiseBit r i b).txn = l.txn := by cases b <;> rfl
@[simp] theorem Lane.raiseBit_ka (l : Lane) (r : Rg.Reg) (i : Nat) (b : Bool) : (l.raiseBit r i b).ka = l.ka := by cases b <;> rfl
@[simp] theorem Lane.raiseBit_writes (l : Lane) (r : Rg.Reg) (i : Nat) (b : Bool) : (l.raiseBit r i b).writes = l.writes := by cases b <;> rfl
@[simp] theorem Lane.raiseBit_com (l : Lane) (r : Rg.Reg) (i : Nat) (b : Bool) : (l.raiseBit r i b).com = l.com := by cases b <;> rfl
@[simp] theorem Lane.raiseBit_nv (l : Lane) (r : Rg.Reg) (i : Nat) (b : Bool) : (l.raiseBit r i b).nv = l.nv := by cases b <;> rfl
@[simp] theorem Lane.raiseBit_cs (l : Lane) (r : Rg.Reg) (i : Nat) (b : Bool) : (l.raiseBit r i b).cs = l.cs := by cases b <;> rfl
@[simp] theorem Lane.raiseBit_quote (l : Lane) (r : Rg.Reg) (i : Nat) (b : Bool) : (l.raiseBit r i b).quote = l.quote := by cases b <;> rfl
@[simp] theorem Lane.raiseBit_upd (l : Lane) (r : Rg.Reg) (i : Nat) (b : Bool) : (l.raiseBit r i b).upd = l.upd := by cases b <;> rfl
@[simp] theorem Lane.raiseBit_pwr (l : Lane) (r : Rg.Reg) (i : Nat) (b : Bool) : (l.raiseBit r i b).pwr = l.pwr := by cases b <;> rfl
@[simp] theorem Lane.raiseBit_out (l : Lane) (r : Rg.Reg) (i : Nat) (b : Bool) : (l.raiseBit r i b).out = l.out := by cases b <;> rfl
@[simp] theorem Lane.raiseBit_bus (l : Lane) (r : Rg.Reg) (i : Nat) (b : Bool) : (l.raiseBit r i b).bus = l.bus := by cases b <;> rfl

@[simp] theorem Lane.setSlot_powered (l : Lane) (i v : Nat) : (l.setSlot i v).powered = l.powered := rfl
@[simp] theorem Lane.setSlot_now (l : Lane) (i v : Nat) : (l.setSlot i v).now = l.now := rfl
@[simp] theorem Lane.setSlot_objs (l : Lane) (i v : Nat) : (l.setSlot i v).objs = l.objs := rfl
@[simp] theorem Lane.setSlot_octs (l : Lane) (i v : Nat) : (l.setSlot i v).octs = l.octs := rfl
@[simp] theorem Lane.setSlot_regs (l : Lane) (i v : Nat) : (l.setSlot i v).regs = l.regs := rfl
@[simp] theorem Lane.setSlot_coll (l : Lane) (i v : Nat) : (l.setSlot i v).coll = l.coll := rfl
@[simp] theorem Lane.setSlot_gate (l : Lane) (i v : Nat) : (l.setSlot i v).gate = l.gate := rfl
@[simp] theorem Lane.setSlot_steer (l : Lane) (i v : Nat) : (l.setSlot i v).steer = l.steer := rfl
@[simp] theorem Lane.setSlot_brakes (l : Lane) (i v : Nat) : (l.setSlot i v).brakes = l.brakes := rfl
@[simp] theorem Lane.setSlot_peerLo (l : Lane) (i v : Nat) : (l.setSlot i v).peerLo = l.peerLo := rfl
@[simp] theorem Lane.setSlot_peerHi (l : Lane) (i v : Nat) : (l.setSlot i v).peerHi = l.peerHi := rfl
@[simp] theorem Lane.setSlot_smp (l : Lane) (i v : Nat) : (l.setSlot i v).smp = l.smp := rfl
@[simp] theorem Lane.setSlot_votes (l : Lane) (i v : Nat) : (l.setSlot i v).votes = l.votes := rfl
@[simp] theorem Lane.setSlot_dem (l : Lane) (i v : Nat) : (l.setSlot i v).dem = l.dem := rfl
@[simp] theorem Lane.setSlot_claim (l : Lane) (i v : Nat) : (l.setSlot i v).claim = l.claim := rfl
@[simp] theorem Lane.setSlot_drive (l : Lane) (i v : Nat) : (l.setSlot i v).drive = l.drive := rfl
@[simp] theorem Lane.setSlot_sio (l : Lane) (i v : Nat) : (l.setSlot i v).sio = l.sio := rfl
@[simp] theorem Lane.setSlot_eng (l : Lane) (i v : Nat) : (l.setSlot i v).eng = l.eng := rfl
@[simp] theorem Lane.setSlot_cap (l : Lane) (i v : Nat) : (l.setSlot i v).cap = l.cap := rfl
@[simp] theorem Lane.setSlot_mx (l : Lane) (i v : Nat) : (l.setSlot i v).mx = l.mx := rfl
@[simp] theorem Lane.setSlot_spv (l : Lane) (i v : Nat) : (l.setSlot i v).spv = l.spv := rfl
@[simp] theorem Lane.setSlot_shape (l : Lane) (i v : Nat) : (l.setSlot i v).shape = l.shape := rfl
@[simp] theorem Lane.setSlot_brk (l : Lane) (i v : Nat) : (l.setSlot i v).brk = l.brk := rfl
@[simp] theorem Lane.setSlot_net (l : Lane) (i v : Nat) : (l.setSlot i v).net = l.net := rfl
@[simp] theorem Lane.setSlot_sess (l : Lane) (i v : Nat) : (l.setSlot i v).sess = l.sess := rfl
@[simp] theorem Lane.setSlot_txn (l : Lane) (i v : Nat) : (l.setSlot i v).txn = l.txn := rfl
@[simp] theorem Lane.setSlot_ka (l : Lane) (i v : Nat) : (l.setSlot i v).ka = l.ka := rfl
@[simp] theorem Lane.setSlot_writes (l : Lane) (i v : Nat) : (l.setSlot i v).writes = l.writes := rfl
@[simp] theorem Lane.setSlot_com (l : Lane) (i v : Nat) : (l.setSlot i v).com = l.com := rfl
@[simp] theorem Lane.setSlot_nv (l : Lane) (i v : Nat) : (l.setSlot i v).nv = l.nv := rfl
@[simp] theorem Lane.setSlot_cs (l : Lane) (i v : Nat) : (l.setSlot i v).cs = l.cs := rfl
@[simp] theorem Lane.setSlot_quote (l : Lane) (i v : Nat) : (l.setSlot i v).quote = l.quote := rfl
@[simp] theorem Lane.setSlot_upd (l : Lane) (i v : Nat) : (l.setSlot i v).upd = l.upd := rfl
@[simp] theorem Lane.setSlot_pwr (l : Lane) (i v : Nat) : (l.setSlot i v).pwr = l.pwr := rfl
@[simp] theorem Lane.setSlot_out (l : Lane) (i v : Nat) : (l.setSlot i v).out = l.out := rfl
@[simp] theorem Lane.setSlot_bus (l : Lane) (i v : Nat) : (l.setSlot i v).bus = l.bus := rfl

@[simp] theorem Lane.setStg_powered (l : Lane) (st : Stage) (v : StageSt) : (l.setStg st v).powered = l.powered := by cases st <;> rfl
@[simp] theorem Lane.setStg_now (l : Lane) (st : Stage) (v : StageSt) : (l.setStg st v).now = l.now := by cases st <;> rfl
@[simp] theorem Lane.setStg_objs (l : Lane) (st : Stage) (v : StageSt) : (l.setStg st v).objs = l.objs := by cases st <;> rfl
@[simp] theorem Lane.setStg_octs (l : Lane) (st : Stage) (v : StageSt) : (l.setStg st v).octs = l.octs := by cases st <;> rfl
@[simp] theorem Lane.setStg_regs (l : Lane) (st : Stage) (v : StageSt) : (l.setStg st v).regs = l.regs := by cases st <;> rfl
@[simp] theorem Lane.setStg_slots (l : Lane) (st : Stage) (v : StageSt) : (l.setStg st v).slots = l.slots := by cases st <;> rfl
@[simp] theorem Lane.setStg_coll (l : Lane) (st : Stage) (v : StageSt) : (l.setStg st v).coll = l.coll := by cases st <;> rfl
@[simp] theorem Lane.setStg_gate (l : Lane) (st : Stage) (v : StageSt) : (l.setStg st v).gate = l.gate := by cases st <;> rfl
@[simp] theorem Lane.setStg_peerLo (l : Lane) (st : Stage) (v : StageSt) : (l.setStg st v).peerLo = l.peerLo := by cases st <;> rfl
@[simp] theorem Lane.setStg_peerHi (l : Lane) (st : Stage) (v : StageSt) : (l.setStg st v).peerHi = l.peerHi := by cases st <;> rfl
@[simp] theorem Lane.setStg_smp (l : Lane) (st : Stage) (v : StageSt) : (l.setStg st v).smp = l.smp := by cases st <;> rfl
@[simp] theorem Lane.setStg_votes (l : Lane) (st : Stage) (v : StageSt) : (l.setStg st v).votes = l.votes := by cases st <;> rfl
@[simp] theorem Lane.setStg_dem (l : Lane) (st : Stage) (v : StageSt) : (l.setStg st v).dem = l.dem := by cases st <;> rfl
@[simp] theorem Lane.setStg_claim (l : Lane) (st : Stage) (v : StageSt) : (l.setStg st v).claim = l.claim := by cases st <;> rfl
@[simp] theorem Lane.setStg_drive (l : Lane) (st : Stage) (v : StageSt) : (l.setStg st v).drive = l.drive := by cases st <;> rfl
@[simp] theorem Lane.setStg_sio (l : Lane) (st : Stage) (v : StageSt) : (l.setStg st v).sio = l.sio := by cases st <;> rfl
@[simp] theorem Lane.setStg_eng (l : Lane) (st : Stage) (v : StageSt) : (l.setStg st v).eng = l.eng := by cases st <;> rfl
@[simp] theorem Lane.setStg_cap (l : Lane) (st : Stage) (v : StageSt) : (l.setStg st v).cap = l.cap := by cases st <;> rfl
@[simp] theorem Lane.setStg_mx (l : Lane) (st : Stage) (v : StageSt) : (l.setStg st v).mx = l.mx := by cases st <;> rfl
@[simp] theorem Lane.setStg_spv (l : Lane) (st : Stage) (v : StageSt) : (l.setStg st v).spv = l.spv := by cases st <;> rfl
@[simp] theorem Lane.setStg_shape (l : Lane) (st : Stage) (v : StageSt) : (l.setStg st v).shape = l.shape := by cases st <;> rfl
@[simp] theorem Lane.setStg_brk (l : Lane) (st : Stage) (v : StageSt) : (l.setStg st v).brk = l.brk := by cases st <;> rfl
@[simp] theorem Lane.setStg_net (l : Lane) (st : Stage) (v : StageSt) : (l.setStg st v).net = l.net := by cases st <;> rfl
@[simp] theorem Lane.setStg_sess (l : Lane) (st : Stage) (v : StageSt) : (l.setStg st v).sess = l.sess := by cases st <;> rfl
@[simp] theorem Lane.setStg_txn (l : Lane) (st : Stage) (v : StageSt) : (l.setStg st v).txn = l.txn := by cases st <;> rfl
@[simp] theorem Lane.setStg_ka (l : Lane) (st : Stage) (v : StageSt) : (l.setStg st v).ka = l.ka := by cases st <;> rfl
@[simp] theorem Lane.setStg_writes (l : Lane) (st : Stage) (v : StageSt) : (l.setStg st v).writes = l.writes := by cases st <;> rfl
@[simp] theorem Lane.setStg_com (l : Lane) (st : Stage) (v : StageSt) : (l.setStg st v).com = l.com := by cases st <;> rfl
@[simp] theorem Lane.setStg_nv (l : Lane) (st : Stage) (v : StageSt) : (l.setStg st v).nv = l.nv := by cases st <;> rfl
@[simp] theorem Lane.setStg_cs (l : Lane) (st : Stage) (v : StageSt) : (l.setStg st v).cs = l.cs := by cases st <;> rfl
@[simp] theorem Lane.setStg_quote (l : Lane) (st : Stage) (v : StageSt) : (l.setStg st v).quote = l.quote := by cases st <;> rfl
@[simp] theorem Lane.setStg_upd (l : Lane) (st : Stage) (v : StageSt) : (l.setStg st v).upd = l.upd := by cases st <;> rfl
@[simp] theorem Lane.setStg_pwr (l : Lane) (st : Stage) (v : StageSt) : (l.setStg st v).pwr = l.pwr := by cases st <;> rfl
@[simp] theorem Lane.setStg_out (l : Lane) (st : Stage) (v : StageSt) : (l.setStg st v).out = l.out := by cases st <;> rfl
@[simp] theorem Lane.setStg_bus (l : Lane) (st : Stage) (v : StageSt) : (l.setStg st v).bus = l.bus := by cases st <;> rfl

@[simp] theorem Lane.updStg_powered (l : Lane) (st : Stage) (f : StageSt → StageSt) : (l.updStg st f).powered = l.powered := by cases st <;> rfl
@[simp] theorem Lane.updStg_now (l : Lane) (st : Stage) (f : StageSt → StageSt) : (l.updStg st f).now = l.now := by cases st <;> rfl
@[simp] theorem Lane.updStg_objs (l : Lane) (st : Stage) (f : StageSt → StageSt) : (l.updStg st f).objs = l.objs := by cases st <;> rfl
@[simp] theorem Lane.updStg_octs (l : Lane) (st : Stage) (f : StageSt → StageSt) : (l.updStg st f).octs = l.octs := by cases st <;> rfl
@[simp] theorem Lane.updStg_regs (l : Lane) (st : Stage) (f : StageSt → StageSt) : (l.updStg st f).regs = l.regs := by cases st <;> rfl
@[simp] theorem Lane.updStg_slots (l : Lane) (st : Stage) (f : StageSt → StageSt) : (l.updStg st f).slots = l.slots := by cases st <;> rfl
@[simp] theorem Lane.updStg_coll (l : Lane) (st : Stage) (f : StageSt → StageSt) : (l.updStg st f).coll = l.coll := by cases st <;> rfl
@[simp] theorem Lane.updStg_gate (l : Lane) (st : Stage) (f : StageSt → StageSt) : (l.updStg st f).gate = l.gate := by cases st <;> rfl
@[simp] theorem Lane.updStg_peerLo (l : Lane) (st : Stage) (f : StageSt → StageSt) : (l.updStg st f).peerLo = l.peerLo := by cases st <;> rfl
@[simp] theorem Lane.updStg_peerHi (l : Lane) (st : Stage) (f : StageSt → StageSt) : (l.updStg st f).peerHi = l.peerHi := by cases st <;> rfl
@[simp] theorem Lane.updStg_smp (l : Lane) (st : Stage) (f : StageSt → StageSt) : (l.updStg st f).smp = l.smp := by cases st <;> rfl
@[simp] theorem Lane.updStg_votes (l : Lane) (st : Stage) (f : StageSt → StageSt) : (l.updStg st f).votes = l.votes := by cases st <;> rfl
@[simp] theorem Lane.updStg_dem (l : Lane) (st : Stage) (f : StageSt → StageSt) : (l.updStg st f).dem = l.dem := by cases st <;> rfl
@[simp] theorem Lane.updStg_claim (l : Lane) (st : Stage) (f : StageSt → StageSt) : (l.updStg st f).claim = l.claim := by cases st <;> rfl
@[simp] theorem Lane.updStg_drive (l : Lane) (st : Stage) (f : StageSt → StageSt) : (l.updStg st f).drive = l.drive := by cases st <;> rfl
@[simp] theorem Lane.updStg_sio (l : Lane) (st : Stage) (f : StageSt → StageSt) : (l.updStg st f).sio = l.sio := by cases st <;> rfl
@[simp] theorem Lane.updStg_eng (l : Lane) (st : Stage) (f : StageSt → StageSt) : (l.updStg st f).eng = l.eng := by cases st <;> rfl
@[simp] theorem Lane.updStg_cap (l : Lane) (st : Stage) (f : StageSt → StageSt) : (l.updStg st f).cap = l.cap := by cases st <;> rfl
@[simp] theorem Lane.updStg_mx (l : Lane) (st : Stage) (f : StageSt → StageSt) : (l.updStg st f).mx = l.mx := by cases st <;> rfl
@[simp] theorem Lane.updStg_spv (l : Lane) (st : Stage) (f : StageSt → StageSt) : (l.updStg st f).spv = l.spv := by cases st <;> rfl
@[simp] theorem Lane.updStg_shape (l : Lane) (st : Stage) (f : StageSt → StageSt) : (l.updStg st f).shape = l.shape := by cases st <;> rfl
@[simp] theorem Lane.updStg_brk (l : Lane) (st : Stage) (f : StageSt → StageSt) : (l.updStg st f).brk = l.brk := by cases st <;> rfl
@[simp] theorem Lane.updStg_net (l : Lane) (st : Stage) (f : StageSt → StageSt) : (l.updStg st f).net = l.net := by cases st <;> rfl
@[simp] theorem Lane.updStg_sess (l : Lane) (st : Stage) (f : StageSt → StageSt) : (l.updStg st f).sess = l.sess := by cases st <;> rfl
@[simp] theorem Lane.updStg_txn (l : Lane) (st : Stage) (f : StageSt → StageSt) : (l.updStg st f).txn = l.txn := by cases st <;> rfl
@[simp] theorem Lane.updStg_ka (l : Lane) (st : Stage) (f : StageSt → StageSt) : (l.updStg st f).ka = l.ka := by cases st <;> rfl
@[simp] theorem Lane.updStg_writes (l : Lane) (st : Stage) (f : StageSt → StageSt) : (l.updStg st f).writes = l.writes := by cases st <;> rfl
@[simp] theorem Lane.updStg_com (l : Lane) (st : Stage) (f : StageSt → StageSt) : (l.updStg st f).com = l.com := by cases st <;> rfl
@[simp] theorem Lane.updStg_nv (l : Lane) (st : Stage) (f : StageSt → StageSt) : (l.updStg st f).nv = l.nv := by cases st <;> rfl
@[simp] theorem Lane.updStg_cs (l : Lane) (st : Stage) (f : StageSt → StageSt) : (l.updStg st f).cs = l.cs := by cases st <;> rfl
@[simp] theorem Lane.updStg_quote (l : Lane) (st : Stage) (f : StageSt → StageSt) : (l.updStg st f).quote = l.quote := by cases st <;> rfl
@[simp] theorem Lane.updStg_upd (l : Lane) (st : Stage) (f : StageSt → StageSt) : (l.updStg st f).upd = l.upd := by cases st <;> rfl
@[simp] theorem Lane.updStg_pwr (l : Lane) (st : Stage) (f : StageSt → StageSt) : (l.updStg st f).pwr = l.pwr := by cases st <;> rfl
@[simp] theorem Lane.updStg_out (l : Lane) (st : Stage) (f : StageSt → StageSt) : (l.updStg st f).out = l.out := by cases st <;> rfl
@[simp] theorem Lane.updStg_bus (l : Lane) (st : Stage) (f : StageSt → StageSt) : (l.updStg st f).bus = l.bus := by cases st <;> rfl

@[simp] theorem Lane.setPeer_powered (l : Lane) (p : Peer) (v : PeerSt) : (l.setPeer p v).powered = l.powered := by cases p <;> rfl
@[simp] theorem Lane.setPeer_now (l : Lane) (p : Peer) (v : PeerSt) : (l.setPeer p v).now = l.now := by cases p <;> rfl
@[simp] theorem Lane.setPeer_objs (l : Lane) (p : Peer) (v : PeerSt) : (l.setPeer p v).objs = l.objs := by cases p <;> rfl
@[simp] theorem Lane.setPeer_octs (l : Lane) (p : Peer) (v : PeerSt) : (l.setPeer p v).octs = l.octs := by cases p <;> rfl
@[simp] theorem Lane.setPeer_regs (l : Lane) (p : Peer) (v : PeerSt) : (l.setPeer p v).regs = l.regs := by cases p <;> rfl
@[simp] theorem Lane.setPeer_slots (l : Lane) (p : Peer) (v : PeerSt) : (l.setPeer p v).slots = l.slots := by cases p <;> rfl
@[simp] theorem Lane.setPeer_coll (l : Lane) (p : Peer) (v : PeerSt) : (l.setPeer p v).coll = l.coll := by cases p <;> rfl
@[simp] theorem Lane.setPeer_gate (l : Lane) (p : Peer) (v : PeerSt) : (l.setPeer p v).gate = l.gate := by cases p <;> rfl
@[simp] theorem Lane.setPeer_steer (l : Lane) (p : Peer) (v : PeerSt) : (l.setPeer p v).steer = l.steer := by cases p <;> rfl
@[simp] theorem Lane.setPeer_brakes (l : Lane) (p : Peer) (v : PeerSt) : (l.setPeer p v).brakes = l.brakes := by cases p <;> rfl
@[simp] theorem Lane.setPeer_smp (l : Lane) (p : Peer) (v : PeerSt) : (l.setPeer p v).smp = l.smp := by cases p <;> rfl
@[simp] theorem Lane.setPeer_votes (l : Lane) (p : Peer) (v : PeerSt) : (l.setPeer p v).votes = l.votes := by cases p <;> rfl
@[simp] theorem Lane.setPeer_dem (l : Lane) (p : Peer) (v : PeerSt) : (l.setPeer p v).dem = l.dem := by cases p <;> rfl
@[simp] theorem Lane.setPeer_claim (l : Lane) (p : Peer) (v : PeerSt) : (l.setPeer p v).claim = l.claim := by cases p <;> rfl
@[simp] theorem Lane.setPeer_drive (l : Lane) (p : Peer) (v : PeerSt) : (l.setPeer p v).drive = l.drive := by cases p <;> rfl
@[simp] theorem Lane.setPeer_sio (l : Lane) (p : Peer) (v : PeerSt) : (l.setPeer p v).sio = l.sio := by cases p <;> rfl
@[simp] theorem Lane.setPeer_eng (l : Lane) (p : Peer) (v : PeerSt) : (l.setPeer p v).eng = l.eng := by cases p <;> rfl
@[simp] theorem Lane.setPeer_cap (l : Lane) (p : Peer) (v : PeerSt) : (l.setPeer p v).cap = l.cap := by cases p <;> rfl
@[simp] theorem Lane.setPeer_mx (l : Lane) (p : Peer) (v : PeerSt) : (l.setPeer p v).mx = l.mx := by cases p <;> rfl
@[simp] theorem Lane.setPeer_spv (l : Lane) (p : Peer) (v : PeerSt) : (l.setPeer p v).spv = l.spv := by cases p <;> rfl
@[simp] theorem Lane.setPeer_shape (l : Lane) (p : Peer) (v : PeerSt) : (l.setPeer p v).shape = l.shape := by cases p <;> rfl
@[simp] theorem Lane.setPeer_brk (l : Lane) (p : Peer) (v : PeerSt) : (l.setPeer p v).brk = l.brk := by cases p <;> rfl
@[simp] theorem Lane.setPeer_net (l : Lane) (p : Peer) (v : PeerSt) : (l.setPeer p v).net = l.net := by cases p <;> rfl
@[simp] theorem Lane.setPeer_sess (l : Lane) (p : Peer) (v : PeerSt) : (l.setPeer p v).sess = l.sess := by cases p <;> rfl
@[simp] theorem Lane.setPeer_txn (l : Lane) (p : Peer) (v : PeerSt) : (l.setPeer p v).txn = l.txn := by cases p <;> rfl
@[simp] theorem Lane.setPeer_ka (l : Lane) (p : Peer) (v : PeerSt) : (l.setPeer p v).ka = l.ka := by cases p <;> rfl
@[simp] theorem Lane.setPeer_writes (l : Lane) (p : Peer) (v : PeerSt) : (l.setPeer p v).writes = l.writes := by cases p <;> rfl
@[simp] theorem Lane.setPeer_com (l : Lane) (p : Peer) (v : PeerSt) : (l.setPeer p v).com = l.com := by cases p <;> rfl
@[simp] theorem Lane.setPeer_nv (l : Lane) (p : Peer) (v : PeerSt) : (l.setPeer p v).nv = l.nv := by cases p <;> rfl
@[simp] theorem Lane.setPeer_cs (l : Lane) (p : Peer) (v : PeerSt) : (l.setPeer p v).cs = l.cs := by cases p <;> rfl
@[simp] theorem Lane.setPeer_quote (l : Lane) (p : Peer) (v : PeerSt) : (l.setPeer p v).quote = l.quote := by cases p <;> rfl
@[simp] theorem Lane.setPeer_upd (l : Lane) (p : Peer) (v : PeerSt) : (l.setPeer p v).upd = l.upd := by cases p <;> rfl
@[simp] theorem Lane.setPeer_pwr (l : Lane) (p : Peer) (v : PeerSt) : (l.setPeer p v).pwr = l.pwr := by cases p <;> rfl
@[simp] theorem Lane.setPeer_out (l : Lane) (p : Peer) (v : PeerSt) : (l.setPeer p v).out = l.out := by cases p <;> rfl
@[simp] theorem Lane.setPeer_bus (l : Lane) (p : Peer) (v : PeerSt) : (l.setPeer p v).bus = l.bus := by cases p <;> rfl

@[simp] theorem Lane.updPeer_powered (l : Lane) (p : Peer) (f : PeerSt → PeerSt) : (l.updPeer p f).powered = l.powered := by cases p <;> rfl
@[simp] theorem Lane.updPeer_now (l : Lane) (p : Peer) (f : PeerSt → PeerSt) : (l.updPeer p f).now = l.now := by cases p <;> rfl
@[simp] theorem Lane.updPeer_objs (l : Lane) (p : Peer) (f : PeerSt → PeerSt) : (l.updPeer p f).objs = l.objs := by cases p <;> rfl
@[simp] theorem Lane.updPeer_octs (l : Lane) (p : Peer) (f : PeerSt → PeerSt) : (l.updPeer p f).octs = l.octs := by cases p <;> rfl
@[simp] theorem Lane.updPeer_regs (l : Lane) (p : Peer) (f : PeerSt → PeerSt) : (l.updPeer p f).regs = l.regs := by cases p <;> rfl
@[simp] theorem Lane.updPeer_slots (l : Lane) (p : Peer) (f : PeerSt → PeerSt) : (l.updPeer p f).slots = l.slots := by cases p <;> rfl
@[simp] theorem Lane.updPeer_coll (l : Lane) (p : Peer) (f : PeerSt → PeerSt) : (l.updPeer p f).coll = l.coll := by cases p <;> rfl
@[simp] theorem Lane.updPeer_gate (l : Lane) (p : Peer) (f : PeerSt → PeerSt) : (l.updPeer p f).gate = l.gate := by cases p <;> rfl
@[simp] theorem Lane.updPeer_steer (l : Lane) (p : Peer) (f : PeerSt → PeerSt) : (l.updPeer p f).steer = l.steer := by cases p <;> rfl
@[simp] theorem Lane.updPeer_brakes (l : Lane) (p : Peer) (f : PeerSt → PeerSt) : (l.updPeer p f).brakes = l.brakes := by cases p <;> rfl
@[simp] theorem Lane.updPeer_smp (l : Lane) (p : Peer) (f : PeerSt → PeerSt) : (l.updPeer p f).smp = l.smp := by cases p <;> rfl
@[simp] theorem Lane.updPeer_votes (l : Lane) (p : Peer) (f : PeerSt → PeerSt) : (l.updPeer p f).votes = l.votes := by cases p <;> rfl
@[simp] theorem Lane.updPeer_dem (l : Lane) (p : Peer) (f : PeerSt → PeerSt) : (l.updPeer p f).dem = l.dem := by cases p <;> rfl
@[simp] theorem Lane.updPeer_claim (l : Lane) (p : Peer) (f : PeerSt → PeerSt) : (l.updPeer p f).claim = l.claim := by cases p <;> rfl
@[simp] theorem Lane.updPeer_drive (l : Lane) (p : Peer) (f : PeerSt → PeerSt) : (l.updPeer p f).drive = l.drive := by cases p <;> rfl
@[simp] theorem Lane.updPeer_sio (l : Lane) (p : Peer) (f : PeerSt → PeerSt) : (l.updPeer p f).sio = l.sio := by cases p <;> rfl
@[simp] theorem Lane.updPeer_eng (l : Lane) (p : Peer) (f : PeerSt → PeerSt) : (l.updPeer p f).eng = l.eng := by cases p <;> rfl
@[simp] theorem Lane.updPeer_cap (l : Lane) (p : Peer) (f : PeerSt → PeerSt) : (l.updPeer p f).cap = l.cap := by cases p <;> rfl
@[simp] theorem Lane.updPeer_mx (l : Lane) (p : Peer) (f : PeerSt → PeerSt) : (l.updPeer p f).mx = l.mx := by cases p <;> rfl
@[simp] theorem Lane.updPeer_spv (l : Lane) (p : Peer) (f : PeerSt → PeerSt) : (l.updPeer p f).spv = l.spv := by cases p <;> rfl
@[simp] theorem Lane.updPeer_shape (l : Lane) (p : Peer) (f : PeerSt → PeerSt) : (l.updPeer p f).shape = l.shape := by cases p <;> rfl
@[simp] theorem Lane.updPeer_brk (l : Lane) (p : Peer) (f : PeerSt → PeerSt) : (l.updPeer p f).brk = l.brk := by cases p <;> rfl
@[simp] theorem Lane.updPeer_net (l : Lane) (p : Peer) (f : PeerSt → PeerSt) : (l.updPeer p f).net = l.net := by cases p <;> rfl
@[simp] theorem Lane.updPeer_sess (l : Lane) (p : Peer) (f : PeerSt → PeerSt) : (l.updPeer p f).sess = l.sess := by cases p <;> rfl
@[simp] theorem Lane.updPeer_txn (l : Lane) (p : Peer) (f : PeerSt → PeerSt) : (l.updPeer p f).txn = l.txn := by cases p <;> rfl
@[simp] theorem Lane.updPeer_ka (l : Lane) (p : Peer) (f : PeerSt → PeerSt) : (l.updPeer p f).ka = l.ka := by cases p <;> rfl
@[simp] theorem Lane.updPeer_writes (l : Lane) (p : Peer) (f : PeerSt → PeerSt) : (l.updPeer p f).writes = l.writes := by cases p <;> rfl
@[simp] theorem Lane.updPeer_com (l : Lane) (p : Peer) (f : PeerSt → PeerSt) : (l.updPeer p f).com = l.com := by cases p <;> rfl
@[simp] theorem Lane.updPeer_nv (l : Lane) (p : Peer) (f : PeerSt → PeerSt) : (l.updPeer p f).nv = l.nv := by cases p <;> rfl
@[simp] theorem Lane.updPeer_cs (l : Lane) (p : Peer) (f : PeerSt → PeerSt) : (l.updPeer p f).cs = l.cs := by cases p <;> rfl
@[simp] theorem Lane.updPeer_quote (l : Lane) (p : Peer) (f : PeerSt → PeerSt) : (l.updPeer p f).quote = l.quote := by cases p <;> rfl
@[simp] theorem Lane.updPeer_upd (l : Lane) (p : Peer) (f : PeerSt → PeerSt) : (l.updPeer p f).upd = l.upd := by cases p <;> rfl
@[simp] theorem Lane.updPeer_pwr (l : Lane) (p : Peer) (f : PeerSt → PeerSt) : (l.updPeer p f).pwr = l.pwr := by cases p <;> rfl
@[simp] theorem Lane.updPeer_out (l : Lane) (p : Peer) (f : PeerSt → PeerSt) : (l.updPeer p f).out = l.out := by cases p <;> rfl
@[simp] theorem Lane.updPeer_bus (l : Lane) (p : Peer) (f : PeerSt → PeerSt) : (l.updPeer p f).bus = l.bus := by cases p <;> rfl

@[simp] theorem Lane.stg_updStg (l : Lane) (st : Stage) (f : StageSt → StageSt) : (l.updStg st f).stg st = f (l.stg st) := by
  cases st <;> simp [Lane.updStg, Lane.setStg, Lane.stg]

theorem Lane.stg_updStg_of_ne (l : Lane) (st q : Stage) (f : StageSt → StageSt) (h : q ≠ st) :
    (l.updStg st f).stg q = l.stg q := by
  cases st with
  | steer => cases q with
    | steer => exact absurd rfl h
    | brake n => rfl
  | brake n => cases q with
    | steer => rfl
    | brake m =>
      have hne : n.val ≠ m.val := fun e => h (congrArg Stage.brake (Fin.ext e).symm)
      simp [Lane.updStg, Lane.setStg, Lane.stg, Vector.getElem_set_ne, hne]

@[simp] theorem Lane.peer_updPeer (l : Lane) (p : Peer) (f : PeerSt → PeerSt) : (l.updPeer p f).peer p = f (l.peer p) := by
  cases p <;> rfl

theorem Lane.peer_updPeer_of_ne (l : Lane) (p q : Peer) (f : PeerSt → PeerSt) (h : q ≠ p) :
    (l.updPeer p f).peer q = l.peer q := by
  cases p <;> cases q <;> first | rfl | exact absurd rfl h

end Sys2Proof.Machine
end

