-- ==== Sys2Proof/Laws/Ops.lean ====
section
/-!
SUPPORT. What the named operations can do, each said once: keyed lists and byte memories with their canonical form, objects,
registers and their fields, and the three ways in which a command acts (in a lane, in a lane at an instant, in the arbiter).
-/
namespace Sys2Proof.Machine

variable {α : Type}

theorem kvGet_kvDel_same (d : α) (m : List (Nat × α)) (k : Nat) : kvGet d (kvDel k m) k = d := by
  induction m with
  | nil => rfl
  | cons c r ih =>
    obtain ⟨a, w⟩ := c
    by_cases h : a = k <;> simp [kvDel, kvGet, h, ih]

theorem kvGet_kvDel_of_ne (d : α) (m : List (Nat × α)) {k j : Nat} (h : j ≠ k) : kvGet d (kvDel k m) j = kvGet d m j := by
  induction m with
  | nil => rfl
  | cons c r ih =>
    obtain ⟨a, w⟩ := c
    by_cases ha : a = k
    · subst ha
      simp [kvDel, kvGet, ih, Ne.symm h]
    · by_cases hj : a = j
      · subst hj
        simp [kvDel, kvGet, ha]
      · simp [kvDel, kvGet, ha, hj, ih]

theorem kvGet_kvPut_same (d : α) (m : List (Nat × α)) (k : Nat) (v : α) : kvGet d (kvPut k v m) k = v := by
  induction m with
  | nil => simp [kvPut, kvGet]
  | cons c r ih =>
    obtain ⟨a, w⟩ := c
    by_cases h1 : k < a
    · simp [kvPut, kvGet, h1]
    · by_cases h2 : a = k <;> simp [kvPut, kvGet, h1, h2, ih]

theorem kvGet_kvPut_of_ne (d : α) (m : List (Nat × α)) {k j : Nat} (v : α) (h : j ≠ k) :
    kvGet d (kvPut k v m) j = kvGet d m j := by
  induction m with
  | nil => simp [kvPut, kvGet, Ne.symm h]
  | cons c r ih =>
    obtain ⟨a, w⟩ := c
    by_cases h1 : k < a
    · simp [kvPut, kvGet, h1, Ne.symm h]
    · by_cases h2 : a = k
      · subst h2
        simp [kvPut, kvGet, Ne.symm h]
      · by_cases hj : a = j
        · subst hj
          simp [kvPut, kvGet, h1, h2]
        · simp [kvPut, kvGet, h1, h2, hj, ih]

/-- Read after write: the key written. -/
theorem kvGet_kvSet_same [DecidableEq α] (d : α) (m : List (Nat × α)) (k : Nat) (v : α) :
    kvGet d (kvSet d m k v) k = v := by
  by_cases h : v = d
  · simp [kvSet, h, kvGet_kvDel_same]
  · simp [kvSet, h, kvGet_kvPut_same]

/-- Read after write: every other key, whatever an unlisted key reads as. -/
theorem kvGet_kvSet_of_ne [DecidableEq α] (d e : α) (m : List (Nat × α)) {k j : Nat} (v : α) (h : j ≠ k) :
    kvGet e (kvSet d m k v) j = kvGet e m j := by
  by_cases hv : v = d
  · simp [kvSet, hv, kvGet_kvDel_of_ne e m h]
  · simp [kvSet, hv, kvGet_kvPut_of_ne e m v h]

theorem kvAscending_tail {a : Nat × α} {r : List (Nat × α)} (h : kvAscending (a :: r) = true) : kvAscending r = true := by
  cases r with
  | nil => rfl
  | cons b r => simp [kvAscending] at h; exact h.2

/-- In an ascending list the first key lies below every other one. -/
theorem kvAscending_cons (k : Nat) (v : α) (m : List (Nat × α)) :
    kvAscending ((k, v) :: m) = true ↔ (∀ c ∈ m, k < c.1) ∧ kvAscending m = true := by
  induction m generalizing k v with
  | nil => simp [kvAscending]
  | cons b r ih =>
    obtain ⟨b, w⟩ := b
    constructor
    · intro h
      simp only [kvAscending, Bool.and_eq_true, decide_eq_true_eq] at h
      have hb := (ih b w).mp h.2
      refine ⟨?_, h.2⟩
      intro c hc
      rcases List.mem_cons.mp hc with rfl | hc
      · exact h.1
      · exact lt_trans h.1 (hb.1 c hc)
    · intro h
      simp only [kvAscending, Bool.and_eq_true, decide_eq_true_eq]
      exact ⟨h.1 _ (List.mem_cons_self ..), h.2⟩

theorem mem_kvPut {k : Nat} {v : α} {m : List (Nat × α)} {c : Nat × α} (h : c ∈ kvPut k v m) : c = (k, v) ∨ c ∈ m := by
  induction m with
  | nil => simpa [kvPut] using h
  | cons b r ih =>
    obtain ⟨b, w⟩ := b
    by_cases h1 : k < b
    · simpa [kvPut, h1] using h
    · by_cases h2 : b = k
      · rw [kvPut, if_neg h1, if_pos h2] at h
        rcases List.mem_cons.mp h with h | h
        · exact Or.inl h
        · exact Or.inr (List.mem_cons_of_mem _ h)
      · simp only [kvPut, h1, h2, if_false] at h
        rcases List.mem_cons.mp h with h | h
        · exact Or.inr (h ▸ List.mem_cons_self ..)
        · exact (ih h).imp id (List.mem_cons_of_mem _)

theorem mem_kvDel {k : Nat} {m : List (Nat × α)} {c : Nat × α} (h : c ∈ kvDel k m) : c ∈ m := by
  induction m with
  | nil => simp [kvDel] at h
  | cons b r ih =>
    obtain ⟨b, w⟩ := b
    by_cases h1 : b = k
    · simp only [kvDel, h1, if_true] at h
      exact List.mem_cons_of_mem _ (ih h)
    · simp only [kvDel, h1, if_false] at h
      rcases List.mem_cons.mp h with h | h
      · exact h ▸ List.mem_cons_self ..
      · exact List.mem_cons_of_mem _ (ih h)

theorem kvAscending_kvPut (k : Nat) (v : α) (m : List (Nat × α)) (h : kvAscending m = true) :
    kvAscending (kvPut k v m) = true := by
  induction m with
  | nil => rfl
  | cons b r ih =>
    obtain ⟨b, w⟩ := b
    have hb := (kvAscending_cons b w r).mp h
    by_cases h1 : k < b
    · simp only [kvPut, h1, if_true]
      exact (kvAscending_cons ..).mpr ⟨fun c hc => (List.mem_cons.mp hc).elim (fun e => e ▸ h1)
        (fun hc => lt_trans h1 (hb.1 c hc)), h⟩
    · by_cases h2 : b = k
      · subst h2
        simp only [kvPut, lt_irrefl, if_true, if_false]
        exact (kvAscending_cons ..).mpr hb
      · simp only [kvPut, h1, h2, if_false]
        refine (kvAscending_cons ..).mpr ⟨fun c hc => ?_, ih hb.2⟩
        rcases mem_kvPut hc with rfl | hc
        · exact lt_of_le_of_ne (Nat.le_of_not_lt h1) h2
        · exact hb.1 c hc

theorem kvAscending_kvDel (k : Nat) (m : List (Nat × α)) (h : kvAscending m = true) : kvAscending (kvDel k m) = true := by
  induction m with
  | nil => rfl
  | cons b r ih =>
    obtain ⟨b, w⟩ := b
    have hb := (kvAscending_cons b w r).mp h
    by_cases h1 : b = k
    · simp only [kvDel, h1, if_true]
      exact ih hb.2
    · simp only [kvDel, h1, if_false]
      exact (kvAscending_cons ..).mpr ⟨fun c hc => hb.1 c (mem_kvDel hc), ih hb.2⟩

/-- A write keeps the keys ascending. -/
theorem kvAscending_kvSet [DecidableEq α] (d : α) (m : List (Nat × α)) (k : Nat) (v : α) (h : kvAscending m = true) :
    kvAscending (kvSet d m k v) = true := by
  by_cases hv : v = d
  · simp [kvSet, hv, kvAscending_kvDel k m h]
  · simp [kvSet, hv, kvAscending_kvPut k v m h]

theorem memRead_memWrite_same (m : List (Nat × Byte)) (a : Nat) (b : Byte) : memRead (memWrite m a b) a = b :=
  kvGet_kvSet_same 0 m a b

theorem memRead_memWrite_of_ne (m : List (Nat × Byte)) {a c : Nat} (b : Byte) (h : c ≠ a) :
    memRead (memWrite m a b) c = memRead m c := kvGet_kvSet_of_ne 0 0 m b h

/-- A write of bytes leaves every address outside them. -/
theorem memRead_memWriteAll_outside (bs : List Byte) (m : List (Nat × Byte)) (a c : Nat) (h : c < a ∨ a + bs.length ≤ c) :
    memRead (memWriteAll m a bs) c = memRead m c := by
  induction bs generalizing m a with
  | nil => rfl
  | cons b bs ih =>
    simp only [List.length_cons] at h
    rw [memWriteAll, ih _ _ (by omega), memRead_memWrite_of_ne m b (by omega)]

/-- A write of bytes puts each at its address. -/
theorem memRead_memWriteAll_inside (bs : List Byte) (m : List (Nat × Byte)) (a i : Nat) (h : i < bs.length) :
    memRead (memWriteAll m a bs) (a + i) = bs[i] := by
  induction bs generalizing m a i with
  | nil => simp at h
  | cons b bs ih =>
    cases i with
    | zero =>
      rw [memWriteAll, memRead_memWriteAll_outside bs _ _ _ (by omega)]
      exact memRead_memWrite_same m a b
    | succ i =>
      have hi : i < bs.length := by simpa using h
      have := ih (memWrite m a b) (a + 1) i hi
      rw [memWriteAll, show a + (i + 1) = a + 1 + i by omega, this]
      rfl

/-- A write keeps a memory in canonical form. -/
theorem memWf_memWrite (m : List (Nat × Byte)) (a : Nat) (b : Byte) (h : memWf m = true) : memWf (memWrite m a b) = true := by
  simp only [memWf, Bool.and_eq_true, List.all_eq_true, decide_eq_true_eq, ne_eq] at h ⊢
  refine ⟨kvAscending_kvSet 0 m a b h.1, fun c hc => ?_⟩
  by_cases hb : b = 0
  · simp only [memWrite, kvSet, hb, if_true] at hc
    exact h.2 c (mem_kvDel hc)
  · simp only [memWrite, kvSet, hb, if_false] at hc
    rcases mem_kvPut hc with rfl | hc
    · exact hb
    · exact h.2 c hc

/-- A write of bytes keeps a memory in canonical form. -/
theorem memWf_memWriteAll (bs : List Byte) (m : List (Nat × Byte)) (a : Nat) (h : memWf m = true) :
    memWf (memWriteAll m a bs) = true := by
  induction bs generalizing m a with
  | nil => exact h
  | cons b bs ih => exact ih _ _ (memWf_memWrite m a b h)

theorem memWf_nil : memWf [] = true := rfl

@[simp] theorem length_memReadAll (m : List (Nat × Byte)) (a n : Nat) : (memReadAll m a n).length = n := by
  induction n generalizing a with
  | zero => rfl
  | succ n ih => simp [memReadAll, ih]

/-- An object reads as written. -/
@[simp] theorem Lane.obj_setObj (l : Lane) (o : O.Obj) (v : Nat) : (l.setObj o v).obj o = v :=
  kvGet_kvSet_same _ _ _ _

/-- A write of an object leaves every object of another key. -/
theorem Lane.obj_setObj_of_ne (l : Lane) {o p : O.Obj} (v : Nat) (h : p.key ≠ o.key) : (l.setObj o v).obj p = l.obj p :=
  kvGet_kvSet_of_ne _ _ _ _ h

theorem Lane.obj_inc (l : Lane) (o : O.Obj) : (l.inc o).obj o = countUp 32 o.key l.now (l.obj o) := Lane.obj_setObj _ _ _

theorem Lane.obj_inc_of_ne (l : Lane) {o p : O.Obj} (h : p.key ≠ o.key) : (l.inc o).obj p = l.obj p :=
  Lane.obj_setObj_of_ne _ _ h

/-- Below its last code a counter counts one. -/
theorem countUp_of_lt {w key now v : Nat} (h : v + 1 < 2 ^ w) : countUp w key now v = v + 1 := by simp [countUp, h]

/-- A counter keeps its width. -/
theorem countUp_lt (w key now v : Nat) : countUp w key now v < 2 ^ w := by
  by_cases h : v + 1 < 2 ^ w
  · simp [countUp, h]
  · simp only [countUp, h, if_false]
    exact Nat.mod_lt _ (Nat.two_pow_pos w)

@[simp] theorem Lane.oct_setOct (l : Lane) (o : O.Obj) (v : List Byte) : (l.setOct o v).oct o = v :=
  kvGet_kvSet_same _ _ _ _

theorem Lane.oct_setOct_of_ne (l : Lane) {o p : O.Obj} (v : List Byte) (h : p.key ≠ o.key) :
    (l.setOct o v).oct p = l.oct p := kvGet_kvSet_of_ne _ _ _ _ h

/-- A register reads as the 32 bits written. -/
@[simp] theorem Lane.reg_setReg (l : Lane) (r : Rg.Reg) (v : Nat) : (l.setReg r v).reg r = v % 2 ^ 32 :=
  kvGet_kvSet_same _ _ _ _

/-- A write of a register leaves every register at another address. -/
theorem Lane.reg_setReg_of_ne (l : Lane) {r q : Rg.Reg} (v : Nat) (h : q.addr ≠ r.addr) : (l.setReg r v).reg q = l.reg q :=
  kvGet_kvSet_of_ne _ _ _ _ h

/-- A field reads as put. -/
theorem bits_putBits (v lo w x : Nat) : bits (putBits v lo w x) lo w = x % 2 ^ w := by
  unfold bits putBits
  have h1 : v % 2 ^ lo < 2 ^ lo := Nat.mod_lt _ (Nat.two_pow_pos lo)
  rw [show v % 2 ^ lo + x % 2 ^ w * 2 ^ lo + v / 2 ^ (lo + w) * 2 ^ (lo + w)
      = 2 ^ lo * (x % 2 ^ w + 2 ^ w * (v / 2 ^ (lo + w))) + v % 2 ^ lo by rw [pow_add]; ring]
  rw [Nat.mul_add_div (Nat.two_pow_pos lo), Nat.div_eq_of_lt h1, Nat.add_zero, Nat.add_mul_mod_self_left, Nat.mod_mod]

/-- A put leaves the fields above it. -/
theorem bits_putBits_above (v lo w x lo' w' : Nat) (h : lo + w ≤ lo') : bits (putBits v lo w x) lo' w' = bits v lo' w' := by
  unfold bits putBits
  obtain ⟨k, rfl⟩ := Nat.exists_eq_add_of_le h
  have h1 : v % 2 ^ lo + x % 2 ^ w * 2 ^ lo < 2 ^ (lo + w) := by
    have a1 : v % 2 ^ lo < 2 ^ lo := Nat.mod_lt _ (Nat.two_pow_pos lo)
    have a2 : x % 2 ^ w + 1 ≤ 2 ^ w := Nat.mod_lt _ (Nat.two_pow_pos w)
    calc v % 2 ^ lo + x % 2 ^ w * 2 ^ lo < (x % 2 ^ w + 1) * 2 ^ lo := by rw [Nat.add_mul]; omega
      _ ≤ 2 ^ w * 2 ^ lo := Nat.mul_le_mul_right _ a2
      _ = 2 ^ (lo + w) := by rw [pow_add, Nat.mul_comm]
  have h2 : (v % 2 ^ lo + x % 2 ^ w * 2 ^ lo + v / 2 ^ (lo + w) * 2 ^ (lo + w)) / 2 ^ (lo + w) = v / 2 ^ (lo + w) := by
    rw [Nat.add_mul_div_right _ _ (Nat.two_pow_pos _), Nat.div_eq_of_lt h1, Nat.zero_add]
  rw [pow_add 2 (lo + w) k, ← Nat.div_div_eq_div_mul, h2, Nat.div_div_eq_div_mul]

/-- A put leaves the fields below it. -/
theorem bits_putBits_below (v lo w x lo' w' : Nat) (h : lo' + w' ≤ lo) : bits (putBits v lo w x) lo' w' = bits v lo' w' := by
  unfold bits putBits
  obtain ⟨k, rfl⟩ := Nat.exists_eq_add_of_le h
  have e : (v % 2 ^ (lo' + w' + k) + x % 2 ^ w * 2 ^ (lo' + w' + k) + v / 2 ^ (lo' + w' + k + w) * 2 ^ (lo' + w' + k + w))
      % 2 ^ (lo' + w') = v % 2 ^ (lo' + w') := by
    rw [show 2 ^ (lo' + w' + k + w) = 2 ^ (lo' + w') * (2 ^ k * 2 ^ w) by rw [pow_add, pow_add]; ring,
      show 2 ^ (lo' + w' + k) = 2 ^ (lo' + w') * 2 ^ k by rw [pow_add]]
    rw [show v % (2 ^ (lo' + w') * 2 ^ k) + x % 2 ^ w * (2 ^ (lo' + w') * 2 ^ k)
        + v / (2 ^ (lo' + w') * (2 ^ k * 2 ^ w)) * (2 ^ (lo' + w') * (2 ^ k * 2 ^ w))
        = v % (2 ^ (lo' + w') * 2 ^ k) + 2 ^ (lo' + w') * (x % 2 ^ w * 2 ^ k
          + v / (2 ^ (lo' + w') * (2 ^ k * 2 ^ w)) * (2 ^ k * 2 ^ w)) by ring]
    rw [Nat.add_mul_mod_self_left, Nat.mod_mul_right_mod]
  have f : ∀ z : Nat, z / 2 ^ lo' % 2 ^ w' = z % 2 ^ (lo' + w') / 2 ^ lo' := fun z => by
    rw [pow_add, Nat.mod_mul_right_div_self]
  rw [f, e, ← f]

/-- A field of a register reads as written. -/
theorem Lane.fld_setFld (l : Lane) (r : Rg.Reg) {lo w : Nat} (x : Nat) (h : lo + w ≤ 32) :
    (l.setFld r lo w x).fld r lo w = x % 2 ^ w := by
  have e : bits (putBits (l.reg r) lo w x % 2 ^ 32) lo w = bits (putBits (l.reg r) lo w x) lo w := by
    obtain ⟨k, hk⟩ := Nat.exists_eq_add_of_le h
    have f : ∀ z : Nat, z / 2 ^ lo % 2 ^ w = z % 2 ^ (lo + w) / 2 ^ lo := fun z => by
      rw [pow_add, Nat.mod_mul_right_div_self]
    unfold bits
    rw [f, f, hk, pow_add 2 (lo + w) k, Nat.mod_mul_right_mod]
  rw [Lane.setFld, Lane.fld, Lane.reg_setReg, e, bits_putBits]

/-- A bit of a register reads as written. -/
theorem Lane.rbit_setRbit (l : Lane) (r : Rg.Reg) {i : Nat} (b : Bool) (h : i < 32) : (l.setRbit r i b).rbit r i = b := by
  have := Lane.fld_setFld l r (lo := i) (w := 1) (b2n b) (by omega)
  rw [Lane.rbit, bitOf, Lane.setRbit]
  rw [Lane.fld] at this
  rw [this]
  cases b <;> rfl

theorem Lane.reg_setFld_of_ne (l : Lane) {r q : Rg.Reg} (lo w x : Nat) (h : q.addr ≠ r.addr) :
    (l.setFld r lo w x).reg q = l.reg q := Lane.reg_setReg_of_ne _ _ h

theorem Lane.reg_setRbit_of_ne (l : Lane) {r q : Rg.Reg} (i : Nat) (b : Bool) (h : q.addr ≠ r.addr) :
    (l.setRbit r i b).reg q = l.reg q := Lane.reg_setReg_of_ne _ _ h

/-- A lane's command in a lane with its supply. -/
theorem onLane_of_has {s : State} {l : LaneId} {x : Lane} (h : Has s l x) (f : Lane → Lane) :
    onLane l s f = .next (s.setLane l (f x)) := by
  obtain ⟨hp, rfl⟩ := h
  simp [onLane, hp]

/-- A lane's command at an instant, in a lane with its supply. -/
theorem onLaneAt_of_sees {s : State} {l : LaneId} {t : Nat} {x : Lane} (h : Sees s l t x) (f : Lane → Lane) :
    onLaneAt l t s f = .next (s.setLane l (f x)) := by
  obtain ⟨hp, rfl⟩ := h
  simp [onLaneAt, onLane, hp, State.laneAt]

/-- A lane's command in a lane without its supply does nothing. -/
theorem onLaneAt_of_off {s : State} {l : LaneId} (h : (s.lane l).powered = false) (t : Nat) (f : Lane → Lane) :
    onLaneAt l t s f = .next s := by
  simp [onLaneAt, onLane, h]

/-- A command of the arbiter while it has its supply. -/
theorem onArb_of_powered {s : State} (h : s.arb.powered = true) (f : Arbiter → Arbiter) :
    onArb s f = .next { s with arb := f s.arb } := by
  simp [onArb, h]

end Sys2Proof.Machine
end

