-- ==== Sys2Proof/Laws/Matrix.lean ====
section
/-!
SUPPORT. The matrix engine's data window read after written (R128), counts of several, and the loops of a lane.
-/
namespace Sys2Proof.Machine

theorem find_kvPut_same (m : List (Nat × Nat)) (a v : Nat) : (kvPut a v m).find? (fun w => w.1 = a) = some (a, v) := by
  induction m with
  | nil => simp [kvPut]
  | cons c r ih =>
    obtain ⟨b, w⟩ := c
    by_cases h1 : a < b
    · simp [kvPut, h1]
    · by_cases h2 : b = a
      · simp [kvPut, h2]
      · simp [kvPut, h1, h2, ih]
theorem find_kvPut_of_ne (m : List (Nat × Nat)) (a b v : Nat) (h : b ≠ a) :
    (kvPut a v m).find? (fun w => w.1 = b) = m.find? (fun w => w.1 = b) := by
  induction m with
  | nil => simp [kvPut, Ne.symm h]
  | cons c r ih =>
    obtain ⟨d, w⟩ := c
    by_cases h1 : a < d
    · simp [kvPut, h1, Ne.symm h]
    · by_cases h2 : d = a
      · subst h2; simp [kvPut, Ne.symm h]
      · by_cases h3 : d = b
        · subst h3; simp [kvPut, h1, h2]
        · simp [kvPut, h1, h2, h3, ih]
/-- A data word reads as the 32 bits written, where it can be written. -/
theorem LoopSt.rd_wr_same (p : LoopSt) (a v : Nat) : (p.wr a v).rd a = if a < 0xE0 then v % 2 ^ 32 else p.rd a := by
  unfold LoopSt.wr LoopSt.rd LoopSt.shadowAt bankedWord
  by_cases h1 : a < 0x40
  · have : a < 0xE0 := by omega
    simp [h1, this, find_kvPut_same]
  · by_cases h2 : a < 0xE0
    · simp [h1, h2, kvGet_kvSet_same]
    · simp [h1, h2]
/-- A write leaves every other data word. -/
theorem LoopSt.rd_wr_of_ne (p : LoopSt) (a b v : Nat) (h : b ≠ a) : (p.wr a v).rd b = p.rd b := by
  unfold LoopSt.wr LoopSt.rd LoopSt.shadowAt bankedWord
  by_cases h1 : a < 0x40
  · simp [h1, find_kvPut_of_ne _ _ _ _ h]
  · by_cases h2 : a < 0xE0
    · simp only [h1, h2, kvGet_kvSet_of_ne 0 0 p.win (v % 2 ^ 32) h, if_true, if_false, decide_false, Bool.false_eq_true]
    · simp [h1, h2]
theorem LoopSt.rd_wrAll_outside (vs : List Nat) (p : LoopSt) (a b : Nat) (h : b < a ∨ a + vs.length ≤ b) : (p.wrAll a vs).rd b = p.rd b := by
  induction vs generalizing p a with
  | nil => rfl
  | cons v vs ih =>
    simp only [List.length_cons] at h
    rw [LoopSt.wrAll, ih _ _ (by omega), LoopSt.rd_wr_of_ne _ _ _ _ (by omega)]
theorem LoopSt.rd_wrAll_inside (vs : List Nat) (p : LoopSt) (a i : Nat) (h : i < vs.length) :
    (p.wrAll a vs).rd (a + i) = if a + i < 0xE0 then vs[i] % 2 ^ 32 else p.rd (a + i) := by
  induction vs generalizing p a i with
  | nil => simp at h
  | cons v vs ih =>
    cases i with
    | zero =>
      rw [LoopSt.wrAll, LoopSt.rd_wrAll_outside _ _ _ _ (by omega)]
      simpa using LoopSt.rd_wr_same p a v
    | succ i =>
      have hi : i < vs.length := by simpa using h
      rw [LoopSt.wrAll, show a + (i + 1) = a + 1 + i by omega, ih _ _ _ hi, LoopSt.rd_wr_of_ne _ _ _ _ (by omega)]
      simp
/-- Writes from an address up, as WroteWords says. -/
theorem wroteWords_wrAll (p : LoopSt) (a n : Nat) (f : Nat → Nat) (vs : List Nat) (hl : vs.length = n)
    (hf : ∀ i (h : i < vs.length), vs[i] % 2 ^ 32 = f i) : WroteWords p (p.wrAll a vs) a n f := by
  subst hl
  exact ⟨fun i h => by rw [LoopSt.rd_wrAll_inside _ _ _ _ h, hf], fun b h => LoopSt.rd_wrAll_outside _ _ _ _ h⟩
theorem ofI_mod (z : Int) : ofI 32 z % 2 ^ 32 = ofI 32 z := by
  apply Nat.mod_eq_of_lt
  unfold ofI
  omega
theorem Lane.incBy_now (l : Lane) (o) (n) : (l.incBy o n).now = l.now := by
  induction n generalizing l with
  | zero => rfl
  | succ n ih => simp [Lane.incBy, ih]
theorem Lane.incBy_only (l : Lane) (o n) : l.incBy o n = { l with objs := (l.incBy o n).objs } := by
  induction n generalizing l with
  | zero => rfl
  | succ n ih => rw [Lane.incBy, ih]; rfl
theorem Lane.incBy_obj_ne (l : Lane) (o p n) (h : p.key ≠ o.key) : (l.incBy o n).obj p = l.obj p := by
  induction n generalizing l with
  | zero => rfl
  | succ n ih => rw [Lane.incBy, ih, Lane.obj_inc_of_ne _ h]
theorem Lane.incBy_obj (l : Lane) (o n) (h : l.obj o + n < 2 ^ 32) : (l.incBy o n).obj o = l.obj o + n := by
  induction n generalizing l with
  | zero => rfl
  | succ n ih =>
    have e : (l.inc o).obj o = l.obj o + 1 := by rw [Lane.obj_inc, countUp_of_lt (by omega)]
    rw [Lane.incBy, ih _ (by omega), e]; omega
@[simp] theorem Lane.loop_updLoop (x : Lane) (k f) : (x.updLoop k f).loop k = f (x.loop k) := by
  simp [Lane.updLoop, Lane.setLoop, Lane.loop]
theorem Lane.loop_updLoop_of_ne (x : Lane) (k j f) (h : j ≠ k) : (x.updLoop k f).loop j = x.loop j := by
  have : k.val ≠ j.val := fun e => h (Fin.ext e.symm)
  simp [Lane.updLoop, Lane.setLoop, Lane.loop, Vector.getElem_set_ne, this]

@[simp] theorem Lane.incBy_mx (l : Lane) (o : O.Obj) (n : Nat) : (l.incBy o n).mx = l.mx := by rw [Lane.incBy_only]

@[simp] theorem Lane.incBy_regs (l : Lane) (o : O.Obj) (n : Nat) : (l.incBy o n).regs = l.regs := by rw [Lane.incBy_only]

@[simp] theorem Lane.incBy_slots (l : Lane) (o : O.Obj) (n : Nat) : (l.incBy o n).slots = l.slots := by rw [Lane.incBy_only]

@[simp] theorem Lane.incBy_coll (l : Lane) (o : O.Obj) (n : Nat) : (l.incBy o n).coll = l.coll := by rw [Lane.incBy_only]

end Sys2Proof.Machine
end

