-- ==== Sys2Proof/Laws/Reaction.lean ====
section
/-!
SUPPORT. The uniform reaction of R306 and the Spall records of R302: what an occurrence does to a lane, said once. An error
can reach the collector, the registers, the stages, the claim and the fault classes, and no other field.
-/
namespace Sys2Proof.Machine

@[simp] theorem Lane.chooseSafe_powered (l : Lane) : l.chooseSafe.powered = l.powered := by simp [Lane.chooseSafe]
@[simp] theorem Lane.chooseSafe_now (l : Lane) : l.chooseSafe.now = l.now := by simp [Lane.chooseSafe]
@[simp] theorem Lane.chooseSafe_objs (l : Lane) : l.chooseSafe.objs = l.objs := by simp [Lane.chooseSafe]
@[simp] theorem Lane.chooseSafe_octs (l : Lane) : l.chooseSafe.octs = l.octs := by simp [Lane.chooseSafe]
@[simp] theorem Lane.chooseSafe_slots (l : Lane) : l.chooseSafe.slots = l.slots := by simp [Lane.chooseSafe]
@[simp] theorem Lane.chooseSafe_coll (l : Lane) : l.chooseSafe.coll = l.coll := by simp [Lane.chooseSafe]
@[simp] theorem Lane.chooseSafe_gate (l : Lane) : l.chooseSafe.gate = l.gate := by simp [Lane.chooseSafe]
@[simp] theorem Lane.chooseSafe_steer (l : Lane) : l.chooseSafe.steer = l.steer := by simp [Lane.chooseSafe]
@[simp] theorem Lane.chooseSafe_brakes (l : Lane) : l.chooseSafe.brakes = l.brakes := by simp [Lane.chooseSafe]
@[simp] theorem Lane.chooseSafe_peerLo (l : Lane) : l.chooseSafe.peerLo = l.peerLo := by simp [Lane.chooseSafe]
@[simp] theorem Lane.chooseSafe_peerHi (l : Lane) : l.chooseSafe.peerHi = l.peerHi := by simp [Lane.chooseSafe]
@[simp] theorem Lane.chooseSafe_smp (l : Lane) : l.chooseSafe.smp = l.smp := by simp [Lane.chooseSafe]
@[simp] theorem Lane.chooseSafe_votes (l : Lane) : l.chooseSafe.votes = l.votes := by simp [Lane.chooseSafe]
@[simp] theorem Lane.chooseSafe_dem (l : Lane) : l.chooseSafe.dem = l.dem := by simp [Lane.chooseSafe]
@[simp] theorem Lane.chooseSafe_claim (l : Lane) : l.chooseSafe.claim = l.claim := by simp [Lane.chooseSafe]
@[simp] theorem Lane.chooseSafe_drive (l : Lane) : l.chooseSafe.drive = l.drive := by simp [Lane.chooseSafe]
@[simp] theorem Lane.chooseSafe_sio (l : Lane) : l.chooseSafe.sio = l.sio := by simp [Lane.chooseSafe]
@[simp] theorem Lane.chooseSafe_eng (l : Lane) : l.chooseSafe.eng = l.eng := by simp [Lane.chooseSafe]
@[simp] theorem Lane.chooseSafe_cap (l : Lane) : l.chooseSafe.cap = l.cap := by simp [Lane.chooseSafe]
@[simp] theorem Lane.chooseSafe_mx (l : Lane) : l.chooseSafe.mx = l.mx := by simp [Lane.chooseSafe]
@[simp] theorem Lane.chooseSafe_spv (l : Lane) : l.chooseSafe.spv = l.spv := by simp [Lane.chooseSafe]
@[simp] theorem Lane.chooseSafe_shape (l : Lane) : l.chooseSafe.shape = l.shape := by simp [Lane.chooseSafe]
@[simp] theorem Lane.chooseSafe_brk (l : Lane) : l.chooseSafe.brk = l.brk := by simp [Lane.chooseSafe]
@[simp] theorem Lane.chooseSafe_net (l : Lane) : l.chooseSafe.net = l.net := by simp [Lane.chooseSafe]
@[simp] theorem Lane.chooseSafe_sess (l : Lane) : l.chooseSafe.sess = l.sess := by simp [Lane.chooseSafe]
@[simp] theorem Lane.chooseSafe_txn (l : Lane) : l.chooseSafe.txn = l.txn := by simp [Lane.chooseSafe]
@[simp] theorem Lane.chooseSafe_ka (l : Lane) : l.chooseSafe.ka = l.ka := by simp [Lane.chooseSafe]
@[simp] theorem Lane.chooseSafe_writes (l : Lane) : l.chooseSafe.writes = l.writes := by simp [Lane.chooseSafe]
@[simp] theorem Lane.chooseSafe_com (l : Lane) : l.chooseSafe.com = l.com := by simp [Lane.chooseSafe]
@[simp] theorem Lane.chooseSafe_nv (l : Lane) : l.chooseSafe.nv = l.nv := by simp [Lane.chooseSafe]
@[simp] theorem Lane.chooseSafe_cs (l : Lane) : l.chooseSafe.cs = l.cs := by simp [Lane.chooseSafe]
@[simp] theorem Lane.chooseSafe_quote (l : Lane) : l.chooseSafe.quote = l.quote := by simp [Lane.chooseSafe]
@[simp] theorem Lane.chooseSafe_upd (l : Lane) : l.chooseSafe.upd = l.upd := by simp [Lane.chooseSafe]
@[simp] theorem Lane.chooseSafe_pwr (l : Lane) : l.chooseSafe.pwr = l.pwr := by simp [Lane.chooseSafe]
@[simp] theorem Lane.chooseSafe_out (l : Lane) : l.chooseSafe.out = l.out := by simp [Lane.chooseSafe]
@[simp] theorem Lane.chooseSafe_bus (l : Lane) : l.chooseSafe.bus = l.bus := by simp [Lane.chooseSafe]

@[simp] theorem Lane.ceaseSteer_powered (l : Lane) : l.ceaseSteer.powered = l.powered := by simp [Lane.ceaseSteer]
@[simp] theorem Lane.ceaseSteer_now (l : Lane) : l.ceaseSteer.now = l.now := by simp [Lane.ceaseSteer]
@[simp] theorem Lane.ceaseSteer_objs (l : Lane) : l.ceaseSteer.objs = l.objs := by simp [Lane.ceaseSteer]
@[simp] theorem Lane.ceaseSteer_octs (l : Lane) : l.ceaseSteer.octs = l.octs := by simp [Lane.ceaseSteer]
@[simp] theorem Lane.ceaseSteer_slots (l : Lane) : l.ceaseSteer.slots = l.slots := by simp [Lane.ceaseSteer]
@[simp] theorem Lane.ceaseSteer_coll (l : Lane) : l.ceaseSteer.coll = l.coll := by simp [Lane.ceaseSteer]
@[simp] theorem Lane.ceaseSteer_gate (l : Lane) : l.ceaseSteer.gate = l.gate := by simp [Lane.ceaseSteer]
@[simp] theorem Lane.ceaseSteer_brakes (l : Lane) : l.ceaseSteer.brakes = l.brakes := by simp [Lane.ceaseSteer]
@[simp] theorem Lane.ceaseSteer_peerLo (l : Lane) : l.ceaseSteer.peerLo = l.peerLo := by simp [Lane.ceaseSteer]
@[simp] theorem Lane.ceaseSteer_peerHi (l : Lane) : l.ceaseSteer.peerHi = l.peerHi := by simp [Lane.ceaseSteer]
@[simp] theorem Lane.ceaseSteer_smp (l : Lane) : l.ceaseSteer.smp = l.smp := by simp [Lane.ceaseSteer]
@[simp] theorem Lane.ceaseSteer_votes (l : Lane) : l.ceaseSteer.votes = l.votes := by simp [Lane.ceaseSteer]
@[simp] theorem Lane.ceaseSteer_dem (l : Lane) : l.ceaseSteer.dem = l.dem := by simp [Lane.ceaseSteer]
@[simp] theorem Lane.ceaseSteer_claim (l : Lane) : l.ceaseSteer.claim = l.claim := by simp [Lane.ceaseSteer]
@[simp] theorem Lane.ceaseSteer_drive (l : Lane) : l.ceaseSteer.drive = l.drive := by simp [Lane.ceaseSteer]
@[simp] theorem Lane.ceaseSteer_sio (l : Lane) : l.ceaseSteer.sio = l.sio := by simp [Lane.ceaseSteer]
@[simp] theorem Lane.ceaseSteer_eng (l : Lane) : l.ceaseSteer.eng = l.eng := by simp [Lane.ceaseSteer]
@[simp] theorem Lane.ceaseSteer_cap (l : Lane) : l.ceaseSteer.cap = l.cap := by simp [Lane.ceaseSteer]
@[simp] theorem Lane.ceaseSteer_mx (l : Lane) : l.ceaseSteer.mx = l.mx := by simp [Lane.ceaseSteer]
@[simp] theorem Lane.ceaseSteer_spv (l : Lane) : l.ceaseSteer.spv = l.spv := by simp [Lane.ceaseSteer]
@[simp] theorem Lane.ceaseSteer_shape (l : Lane) : l.ceaseSteer.shape = l.shape := by simp [Lane.ceaseSteer]
@[simp] theorem Lane.ceaseSteer_brk (l : Lane) : l.ceaseSteer.brk = l.brk := by simp [Lane.ceaseSteer]
@[simp] theorem Lane.ceaseSteer_net (l : Lane) : l.ceaseSteer.net = l.net := by simp [Lane.ceaseSteer]
@[simp] theorem Lane.ceaseSteer_sess (l : Lane) : l.ceaseSteer.sess = l.sess := by simp [Lane.ceaseSteer]
@[simp] theorem Lane.ceaseSteer_txn (l : Lane) : l.ceaseSteer.txn = l.txn := by simp [Lane.ceaseSteer]
@[simp] theorem Lane.ceaseSteer_ka (l : Lane) : l.ceaseSteer.ka = l.ka := by simp [Lane.ceaseSteer]
@[simp] theorem Lane.ceaseSteer_writes (l : Lane) : l.ceaseSteer.writes = l.writes := by simp [Lane.ceaseSteer]
@[simp] theorem Lane.ceaseSteer_com (l : Lane) : l.ceaseSteer.com = l.com := by simp [Lane.ceaseSteer]
@[simp] theorem Lane.ceaseSteer_nv (l : Lane) : l.ceaseSteer.nv = l.nv := by simp [Lane.ceaseSteer]
@[simp] theorem Lane.ceaseSteer_cs (l : Lane) : l.ceaseSteer.cs = l.cs := by simp [Lane.ceaseSteer]
@[simp] theorem Lane.ceaseSteer_quote (l : Lane) : l.ceaseSteer.quote = l.quote := by simp [Lane.ceaseSteer]
@[simp] theorem Lane.ceaseSteer_upd (l : Lane) : l.ceaseSteer.upd = l.upd := by simp [Lane.ceaseSteer]
@[simp] theorem Lane.ceaseSteer_pwr (l : Lane) : l.ceaseSteer.pwr = l.pwr := by simp [Lane.ceaseSteer]
@[simp] theorem Lane.ceaseSteer_out (l : Lane) : l.ceaseSteer.out = l.out := by simp [Lane.ceaseSteer]
@[simp] theorem Lane.ceaseSteer_bus (l : Lane) : l.ceaseSteer.bus = l.bus := by simp [Lane.ceaseSteer]

@[simp] theorem StageSt.stop_driving (s : StageSt) (t : Nat) : (s.stop t).driving = false := rfl

@[simp] theorem Lane.ceaseSteer_steer (l : Lane) : l.ceaseSteer.steer = l.steer.stop l.now := by
  simp [Lane.ceaseSteer]

/-- Opening brake stages reaches the brake stages alone. -/
theorem foldl_openBrake_reach (ns : List (Fin 8)) (l : Lane) :
    ns.foldl Lane.openBrake l = { l with brakes := (ns.foldl Lane.openBrake l).brakes } := by
  induction ns generalizing l with
  | nil => rfl
  | cons n ns ih => rw [List.foldl_cons, ih]; rfl

theorem foldl_openBrake_driving (ns : List (Fin 8)) (l : Lane) (m : Fin 8)
    (h : m ∈ ns ∨ l.brakes[m].driving = false) : (ns.foldl Lane.openBrake l).brakes[m].driving = false := by
  induction ns generalizing l with
  | nil => simpa using h
  | cons n ns ih =>
    rw [List.foldl_cons]
    refine ih _ ?_
    by_cases hn : n = m
    · subst hn
      right
      simp [Lane.openBrake]
    · have hv : n.val ≠ m.val := fun e => hn (Fin.ext e)
      rcases h with h | h
      · rcases List.mem_cons.mp h with h | h
        · exact absurd h.symm hn
        · exact Or.inl h
      · right
        simpa [Lane.openBrake, Vector.getElem_set_ne, hv] using h

theorem Lane.openBrakes_reach (l : Lane) : l.openBrakes = { l with brakes := l.openBrakes.brakes } :=
  foldl_openBrake_reach _ l

/-- Every brake stage is off after it. -/
@[simp] theorem Lane.openBrakes_driving (l : Lane) (m : Fin 8) : l.openBrakes.brakes[m].driving = false :=
  foldl_openBrake_driving _ l m (Or.inl (List.mem_finRange m))

@[simp] theorem Lane.openBrakes_powered (l : Lane) : l.openBrakes.powered = l.powered := by rw [Lane.openBrakes_reach]
@[simp] theorem Lane.openBrakes_now (l : Lane) : l.openBrakes.now = l.now := by rw [Lane.openBrakes_reach]
@[simp] theorem Lane.openBrakes_objs (l : Lane) : l.openBrakes.objs = l.objs := by rw [Lane.openBrakes_reach]
@[simp] theorem Lane.openBrakes_octs (l : Lane) : l.openBrakes.octs = l.octs := by rw [Lane.openBrakes_reach]
@[simp] theorem Lane.openBrakes_regs (l : Lane) : l.openBrakes.regs = l.regs := by rw [Lane.openBrakes_reach]
@[simp] theorem Lane.openBrakes_slots (l : Lane) : l.openBrakes.slots = l.slots := by rw [Lane.openBrakes_reach]
@[simp] theorem Lane.openBrakes_coll (l : Lane) : l.openBrakes.coll = l.coll := by rw [Lane.openBrakes_reach]
@[simp] theorem Lane.openBrakes_gate (l : Lane) : l.openBrakes.gate = l.gate := by rw [Lane.openBrakes_reach]
@[simp] theorem Lane.openBrakes_steer (l : Lane) : l.openBrakes.steer = l.steer := by rw [Lane.openBrakes_reach]
@[simp] theorem Lane.openBrakes_peerLo (l : Lane) : l.openBrakes.peerLo = l.peerLo := by rw [Lane.openBrakes_reach]
@[simp] theorem Lane.openBrakes_peerHi (l : Lane) : l.openBrakes.peerHi = l.peerHi := by rw [Lane.openBrakes_reach]
@[simp] theorem Lane.openBrakes_smp (l : Lane) : l.openBrakes.smp = l.smp := by rw [Lane.openBrakes_reach]
@[simp] theorem Lane.openBrakes_votes (l : Lane) : l.openBrakes.votes = l.votes := by rw [Lane.openBrakes_reach]
@[simp] theorem Lane.openBrakes_dem (l : Lane) : l.openBrakes.dem = l.dem := by rw [Lane.openBrakes_reach]
@[simp] theorem Lane.openBrakes_claim (l : Lane) : l.openBrakes.claim = l.claim := by rw [Lane.openBrakes_reach]
@[simp] theorem Lane.openBrakes_drive (l : Lane) : l.openBrakes.drive = l.drive := by rw [Lane.openBrakes_reach]
@[simp] theorem Lane.openBrakes_sio (l : Lane) : l.openBrakes.sio = l.sio := by rw [Lane.openBrakes_reach]
@[simp] theorem Lane.openBrakes_eng (l : Lane) : l.openBrakes.eng = l.eng := by rw [Lane.openBrakes_reach]
@[simp] theorem Lane.openBrakes_cap (l : Lane) : l.openBrakes.cap = l.cap := by rw [Lane.openBrakes_reach]
@[simp] theorem Lane.openBrakes_mx (l : Lane) : l.openBrakes.mx = l.mx := by rw [Lane.openBrakes_reach]
@[simp] theorem Lane.openBrakes_spv (l : Lane) : l.openBrakes.spv = l.spv := by rw [Lane.openBrakes_reach]
@[simp] theorem Lane.openBrakes_shape (l : Lane) : l.openBrakes.shape = l.shape := by rw [Lane.openBrakes_reach]
@[simp] theorem Lane.openBrakes_brk (l : Lane) : l.openBrakes.brk = l.brk := by rw [Lane.openBrakes_reach]
@[simp] theorem Lane.openBrakes_net (l : Lane) : l.openBrakes.net = l.net := by rw [Lane.openBrakes_reach]
@[simp] theorem Lane.openBrakes_sess (l : Lane) : l.openBrakes.sess = l.sess := by rw [Lane.openBrakes_reach]
@[simp] theorem Lane.openBrakes_txn (l : Lane) : l.openBrakes.txn = l.txn := by rw [Lane.openBrakes_reach]
@[simp] theorem Lane.openBrakes_ka (l : Lane) : l.openBrakes.ka = l.ka := by rw [Lane.openBrakes_reach]
@[simp] theorem Lane.openBrakes_writes (l : Lane) : l.openBrakes.writes = l.writes := by rw [Lane.openBrakes_reach]
@[simp] theorem Lane.openBrakes_com (l : Lane) : l.openBrakes.com = l.com := by rw [Lane.openBrakes_reach]
@[simp] theorem Lane.openBrakes_nv (l : Lane) : l.openBrakes.nv = l.nv := by rw [Lane.openBrakes_reach]
@[simp] theorem Lane.openBrakes_cs (l : Lane) : l.openBrakes.cs = l.cs := by rw [Lane.openBrakes_reach]
@[simp] theorem Lane.openBrakes_quote (l : Lane) : l.openBrakes.quote = l.quote := by rw [Lane.openBrakes_reach]
@[simp] theorem Lane.openBrakes_upd (l : Lane) : l.openBrakes.upd = l.upd := by rw [Lane.openBrakes_reach]
@[simp] theorem Lane.openBrakes_pwr (l : Lane) : l.openBrakes.pwr = l.pwr := by rw [Lane.openBrakes_reach]
@[simp] theorem Lane.openBrakes_out (l : Lane) : l.openBrakes.out = l.out := by rw [Lane.openBrakes_reach]
@[simp] theorem Lane.openBrakes_bus (l : Lane) : l.openBrakes.bus = l.bus := by rw [Lane.openBrakes_reach]

@[simp] theorem Lane.dropClaim_powered (l : Lane) : l.dropClaim.powered = l.powered := rfl
@[simp] theorem Lane.dropClaim_now (l : Lane) : l.dropClaim.now = l.now := rfl
@[simp] theorem Lane.dropClaim_objs (l : Lane) : l.dropClaim.objs = l.objs := rfl
@[simp] theorem Lane.dropClaim_octs (l : Lane) : l.dropClaim.octs = l.octs := rfl
@[simp] theorem Lane.dropClaim_regs (l : Lane) : l.dropClaim.regs = l.regs := rfl
@[simp] theorem Lane.dropClaim_slots (l : Lane) : l.dropClaim.slots = l.slots := rfl
@[simp] theorem Lane.dropClaim_coll (l : Lane) : l.dropClaim.coll = l.coll := rfl
@[simp] theorem Lane.dropClaim_gate (l : Lane) : l.dropClaim.gate = l.gate := rfl
@[simp] theorem Lane.dropClaim_steer (l : Lane) : l.dropClaim.steer = l.steer := rfl
@[simp] theorem Lane.dropClaim_brakes (l : Lane) : l.dropClaim.brakes = l.brakes := rfl
@[simp] theorem Lane.dropClaim_peerLo (l : Lane) : l.dropClaim.peerLo = l.peerLo := rfl
@[simp] theorem Lane.dropClaim_peerHi (l : Lane) : l.dropClaim.peerHi = l.peerHi := rfl
@[simp] theorem Lane.dropClaim_smp (l : Lane) : l.dropClaim.smp = l.smp := rfl
@[simp] theorem Lane.dropClaim_votes (l : Lane) : l.dropClaim.votes = l.votes := rfl
@[simp] theorem Lane.dropClaim_dem (l : Lane) : l.dropClaim.dem = l.dem := rfl
@[simp] theorem Lane.dropClaim_drive (l : Lane) : l.dropClaim.drive = l.drive := rfl
@[simp] theorem Lane.dropClaim_sio (l : Lane) : l.dropClaim.sio = l.sio := rfl
@[simp] theorem Lane.dropClaim_eng (l : Lane) : l.dropClaim.eng = l.eng := rfl
@[simp] theorem Lane.dropClaim_cap (l : Lane) : l.dropClaim.cap = l.cap := rfl
@[simp] theorem Lane.dropClaim_mx (l : Lane) : l.dropClaim.mx = l.mx := rfl
@[simp] theorem Lane.dropClaim_spv (l : Lane) : l.dropClaim.spv = l.spv := rfl
@[simp] theorem Lane.dropClaim_shape (l : Lane) : l.dropClaim.shape = l.shape := rfl
@[simp] theorem Lane.dropClaim_brk (l : Lane) : l.dropClaim.brk = l.brk := rfl
@[simp] theorem Lane.dropClaim_net (l : Lane) : l.dropClaim.net = l.net := rfl
@[simp] theorem Lane.dropClaim_sess (l : Lane) : l.dropClaim.sess = l.sess := rfl
@[simp] theorem Lane.dropClaim_txn (l : Lane) : l.dropClaim.txn = l.txn := rfl
@[simp] theorem Lane.dropClaim_ka (l : Lane) : l.dropClaim.ka = l.ka := rfl
@[simp] theorem Lane.dropClaim_writes (l : Lane) : l.dropClaim.writes = l.writes := rfl
@[simp] theorem Lane.dropClaim_com (l : Lane) : l.dropClaim.com = l.com := rfl
@[simp] theorem Lane.dropClaim_nv (l : Lane) : l.dropClaim.nv = l.nv := rfl
@[simp] theorem Lane.dropClaim_cs (l : Lane) : l.dropClaim.cs = l.cs := rfl
@[simp] theorem Lane.dropClaim_quote (l : Lane) : l.dropClaim.quote = l.quote := rfl
@[simp] theorem Lane.dropClaim_upd (l : Lane) : l.dropClaim.upd = l.upd := rfl
@[simp] theorem Lane.dropClaim_pwr (l : Lane) : l.dropClaim.pwr = l.pwr := rfl
@[simp] theorem Lane.dropClaim_out (l : Lane) : l.dropClaim.out = l.out := rfl
@[simp] theorem Lane.dropClaim_bus (l : Lane) : l.dropClaim.bus = l.bus := rfl

@[simp] theorem Lane.react_powered (l : Lane) : l.react.powered = l.powered := by simp [Lane.react]
@[simp] theorem Lane.react_now (l : Lane) : l.react.now = l.now := by simp [Lane.react]
@[simp] theorem Lane.react_objs (l : Lane) : l.react.objs = l.objs := by simp [Lane.react]
@[simp] theorem Lane.react_octs (l : Lane) : l.react.octs = l.octs := by simp [Lane.react]
@[simp] theorem Lane.react_slots (l : Lane) : l.react.slots = l.slots := by simp [Lane.react]
@[simp] theorem Lane.react_coll (l : Lane) : l.react.coll = l.coll := by simp [Lane.react]
@[simp] theorem Lane.react_gate (l : Lane) : l.react.gate = l.gate := by simp [Lane.react]
@[simp] theorem Lane.react_peerLo (l : Lane) : l.react.peerLo = l.peerLo := by simp [Lane.react]
@[simp] theorem Lane.react_peerHi (l : Lane) : l.react.peerHi = l.peerHi := by simp [Lane.react]
@[simp] theorem Lane.react_smp (l : Lane) : l.react.smp = l.smp := by simp [Lane.react]
@[simp] theorem Lane.react_votes (l : Lane) : l.react.votes = l.votes := by simp [Lane.react]
@[simp] theorem Lane.react_dem (l : Lane) : l.react.dem = l.dem := by simp [Lane.react]
@[simp] theorem Lane.react_drive (l : Lane) : l.react.drive = l.drive := by simp [Lane.react]
@[simp] theorem Lane.react_sio (l : Lane) : l.react.sio = l.sio := by simp [Lane.react]
@[simp] theorem Lane.react_eng (l : Lane) : l.react.eng = l.eng := by simp [Lane.react]
@[simp] theorem Lane.react_cap (l : Lane) : l.react.cap = l.cap := by simp [Lane.react]
@[simp] theorem Lane.react_mx (l : Lane) : l.react.mx = l.mx := by simp [Lane.react]
@[simp] theorem Lane.react_spv (l : Lane) : l.react.spv = l.spv := by simp [Lane.react]
@[simp] theorem Lane.react_shape (l : Lane) : l.react.shape = l.shape := by simp [Lane.react]
@[simp] theorem Lane.react_brk (l : Lane) : l.react.brk = l.brk := by simp [Lane.react]
@[simp] theorem Lane.react_net (l : Lane) : l.react.net = l.net := by simp [Lane.react]
@[simp] theorem Lane.react_sess (l : Lane) : l.react.sess = l.sess := by simp [Lane.react]
@[simp] theorem Lane.react_txn (l : Lane) : l.react.txn = l.txn := by simp [Lane.react]
@[simp] theorem Lane.react_ka (l : Lane) : l.react.ka = l.ka := by simp [Lane.react]
@[simp] theorem Lane.react_writes (l : Lane) : l.react.writes = l.writes := by simp [Lane.react]
@[simp] theorem Lane.react_com (l : Lane) : l.react.com = l.com := by simp [Lane.react]
@[simp] theorem Lane.react_nv (l : Lane) : l.react.nv = l.nv := by simp [Lane.react]
@[simp] theorem Lane.react_cs (l : Lane) : l.react.cs = l.cs := by simp [Lane.react]
@[simp] theorem Lane.react_quote (l : Lane) : l.react.quote = l.quote := by simp [Lane.react]
@[simp] theorem Lane.react_upd (l : Lane) : l.react.upd = l.upd := by simp [Lane.react]
@[simp] theorem Lane.react_pwr (l : Lane) : l.react.pwr = l.pwr := by simp [Lane.react]
@[simp] theorem Lane.react_out (l : Lane) : l.react.out = l.out := by simp [Lane.react]
@[simp] theorem Lane.react_bus (l : Lane) : l.react.bus = l.bus := by simp [Lane.react]

@[simp] theorem Lane.react_steer (l : Lane) : l.react.steer = l.steer.stop l.now := by simp [Lane.react]

@[simp] theorem Lane.react_claim (l : Lane) :
    l.react.claim = { l.claim with claiming := false, tenure := 0, winHealthy := false } := by
  simp [Lane.react, Lane.dropClaim]

theorem Lane.react_driving (l : Lane) (m : Fin 8) : l.react.brakes[m].driving = false :=
  Lane.openBrakes_driving l.ceaseSteer m

@[simp] theorem Lane.latchAs_powered (l : Lane) (src data : Nat) (d : Bool) : (l.latchAs src data d).powered = l.powered := by simp [Lane.latchAs]
@[simp] theorem Lane.latchAs_now (l : Lane) (src data : Nat) (d : Bool) : (l.latchAs src data d).now = l.now := by simp [Lane.latchAs]
@[simp] theorem Lane.latchAs_objs (l : Lane) (src data : Nat) (d : Bool) : (l.latchAs src data d).objs = l.objs := by simp [Lane.latchAs]
@[simp] theorem Lane.latchAs_octs (l : Lane) (src data : Nat) (d : Bool) : (l.latchAs src data d).octs = l.octs := by simp [Lane.latchAs]
@[simp] theorem Lane.latchAs_slots (l : Lane) (src data : Nat) (d : Bool) : (l.latchAs src data d).slots = l.slots := by simp [Lane.latchAs]
@[simp] theorem Lane.latchAs_gate (l : Lane) (src data : Nat) (d : Bool) : (l.latchAs src data d).gate = l.gate := by simp [Lane.latchAs]
@[simp] theorem Lane.latchAs_peerLo (l : Lane) (src data : Nat) (d : Bool) : (l.latchAs src data d).peerLo = l.peerLo := by simp [Lane.latchAs]
@[simp] theorem Lane.latchAs_peerHi (l : Lane) (src data : Nat) (d : Bool) : (l.latchAs src data d).peerHi = l.peerHi := by simp [Lane.latchAs]
@[simp] theorem Lane.latchAs_smp (l : Lane) (src data : Nat) (d : Bool) : (l.latchAs src data d).smp = l.smp := by simp [Lane.latchAs]
@[simp] theorem Lane.latchAs_votes (l : Lane) (src data : Nat) (d : Bool) : (l.latchAs src data d).votes = l.votes := by simp [Lane.latchAs]
@[simp] theorem Lane.latchAs_dem (l : Lane) (src data : Nat) (d : Bool) : (l.latchAs src data d).dem = l.dem := by simp [Lane.latchAs]
@[simp] theorem Lane.latchAs_drive (l : Lane) (src data : Nat) (d : Bool) : (l.latchAs src data d).drive = l.drive := by simp [Lane.latchAs]
@[simp] theorem Lane.latchAs_sio (l : Lane) (src data : Nat) (d : Bool) : (l.latchAs src data d).sio = l.sio := by simp [Lane.latchAs]
@[simp] theorem Lane.latchAs_eng (l : Lane) (src data : Nat) (d : Bool) : (l.latchAs src data d).eng = l.eng := by simp [Lane.latchAs]
@[simp] theorem Lane.latchAs_cap (l : Lane) (src data : Nat) (d : Bool) : (l.latchAs src data d).cap = l.cap := by simp [Lane.latchAs]
@[simp] theorem Lane.latchAs_mx (l : Lane) (src data : Nat) (d : Bool) : (l.latchAs src data d).mx = l.mx := by simp [Lane.latchAs]
@[simp] theorem Lane.latchAs_spv (l : Lane) (src data : Nat) (d : Bool) : (l.latchAs src data d).spv = l.spv := by simp [Lane.latchAs]
@[simp] theorem Lane.latchAs_shape (l : Lane) (src data : Nat) (d : Bool) : (l.latchAs src data d).shape = l.shape := by simp [Lane.latchAs]
@[simp] theorem Lane.latchAs_brk (l : Lane) (src data : Nat) (d : Bool) : (l.latchAs src data d).brk = l.brk := by simp [Lane.latchAs]
@[simp] theorem Lane.latchAs_net (l : Lane) (src data : Nat) (d : Bool) : (l.latchAs src data d).net = l.net := by simp [Lane.latchAs]
@[simp] theorem Lane.latchAs_sess (l : Lane) (src data : Nat) (d : Bool) : (l.latchAs src data d).sess = l.sess := by simp [Lane.latchAs]
@[simp] theorem Lane.latchAs_txn (l : Lane) (src data : Nat) (d : Bool) : (l.latchAs src data d).txn = l.txn := by simp [Lane.latchAs]
@[simp] theorem Lane.latchAs_ka (l : Lane) (src data : Nat) (d : Bool) : (l.latchAs src data d).ka = l.ka := by simp [Lane.latchAs]
@[simp] theorem Lane.latchAs_writes (l : Lane) (src data : Nat) (d : Bool) : (l.latchAs src data d).writes = l.writes := by simp [Lane.latchAs]
@[simp] theorem Lane.latchAs_com (l : Lane) (src data : Nat) (d : Bool) : (l.latchAs src data d).com = l.com := by simp [Lane.latchAs]
@[simp] theorem Lane.latchAs_nv (l : Lane) (src data : Nat) (d : Bool) : (l.latchAs src data d).nv = l.nv := by simp [Lane.latchAs]
@[simp] theorem Lane.latchAs_cs (l : Lane) (src data : Nat) (d : Bool) : (l.latchAs src data d).cs = l.cs := by simp [Lane.latchAs]
@[simp] theorem Lane.latchAs_quote (l : Lane) (src data : Nat) (d : Bool) : (l.latchAs src data d).quote = l.quote := by simp [Lane.latchAs]
@[simp] theorem Lane.latchAs_upd (l : Lane) (src data : Nat) (d : Bool) : (l.latchAs src data d).upd = l.upd := by simp [Lane.latchAs]
@[simp] theorem Lane.latchAs_pwr (l : Lane) (src data : Nat) (d : Bool) : (l.latchAs src data d).pwr = l.pwr := by simp [Lane.latchAs]
@[simp] theorem Lane.latchAs_out (l : Lane) (src data : Nat) (d : Bool) : (l.latchAs src data d).out = l.out := by simp [Lane.latchAs]
@[simp] theorem Lane.latchAs_bus (l : Lane) (src data : Nat) (d : Bool) : (l.latchAs src data d).bus = l.bus := by simp [Lane.latchAs]

@[simp] theorem Lane.latchAs_coll (l : Lane) (src data : Nat) (d : Bool) :
    (l.latchAs src data d).coll = l.coll.occurAs src data l.now d := by simp [Lane.latchAs]

@[simp] theorem Lane.latch_powered (l : Lane) (src data : Nat) : (l.latch src data).powered = l.powered := by simp [Lane.latch]
@[simp] theorem Lane.latch_now (l : Lane) (src data : Nat) : (l.latch src data).now = l.now := by simp [Lane.latch]
@[simp] theorem Lane.latch_objs (l : Lane) (src data : Nat) : (l.latch src data).objs = l.objs := by simp [Lane.latch]
@[simp] theorem Lane.latch_octs (l : Lane) (src data : Nat) : (l.latch src data).octs = l.octs := by simp [Lane.latch]
@[simp] theorem Lane.latch_slots (l : Lane) (src data : Nat) : (l.latch src data).slots = l.slots := by simp [Lane.latch]
@[simp] theorem Lane.latch_gate (l : Lane) (src data : Nat) : (l.latch src data).gate = l.gate := by simp [Lane.latch]
@[simp] theorem Lane.latch_peerLo (l : Lane) (src data : Nat) : (l.latch src data).peerLo = l.peerLo := by simp [Lane.latch]
@[simp] theorem Lane.latch_peerHi (l : Lane) (src data : Nat) : (l.latch src data).peerHi = l.peerHi := by simp [Lane.latch]
@[simp] theorem Lane.latch_smp (l : Lane) (src data : Nat) : (l.latch src data).smp = l.smp := by simp [Lane.latch]
@[simp] theorem Lane.latch_votes (l : Lane) (src data : Nat) : (l.latch src data).votes = l.votes := by simp [Lane.latch]
@[simp] theorem Lane.latch_dem (l : Lane) (src data : Nat) : (l.latch src data).dem = l.dem := by simp [Lane.latch]
@[simp] theorem Lane.latch_drive (l : Lane) (src data : Nat) : (l.latch src data).drive = l.drive := by simp [Lane.latch]
@[simp] theorem Lane.latch_sio (l : Lane) (src data : Nat) : (l.latch src data).sio = l.sio := by simp [Lane.latch]
@[simp] theorem Lane.latch_eng (l : Lane) (src data : Nat) : (l.latch src data).eng = l.eng := by simp [Lane.latch]
@[simp] theorem Lane.latch_cap (l : Lane) (src data : Nat) : (l.latch src data).cap = l.cap := by simp [Lane.latch]
@[simp] theorem Lane.latch_mx (l : Lane) (src data : Nat) : (l.latch src data).mx = l.mx := by simp [Lane.latch]
@[simp] theorem Lane.latch_spv (l : Lane) (src data : Nat) : (l.latch src data).spv = l.spv := by simp [Lane.latch]
@[simp] theorem Lane.latch_shape (l : Lane) (src data : Nat) : (l.latch src data).shape = l.shape := by simp [Lane.latch]
@[simp] theorem Lane.latch_brk (l : Lane) (src data : Nat) : (l.latch src data).brk = l.brk := by simp [Lane.latch]
@[simp] theorem Lane.latch_net (l : Lane) (src data : Nat) : (l.latch src data).net = l.net := by simp [Lane.latch]
@[simp] theorem Lane.latch_sess (l : Lane) (src data : Nat) : (l.latch src data).sess = l.sess := by simp [Lane.latch]
@[simp] theorem Lane.latch_txn (l : Lane) (src data : Nat) : (l.latch src data).txn = l.txn := by simp [Lane.latch]
@[simp] theorem Lane.latch_ka (l : Lane) (src data : Nat) : (l.latch src data).ka = l.ka := by simp [Lane.latch]
@[simp] theorem Lane.latch_writes (l : Lane) (src data : Nat) : (l.latch src data).writes = l.writes := by simp [Lane.latch]
@[simp] theorem Lane.latch_com (l : Lane) (src data : Nat) : (l.latch src data).com = l.com := by simp [Lane.latch]
@[simp] theorem Lane.latch_nv (l : Lane) (src data : Nat) : (l.latch src data).nv = l.nv := by simp [Lane.latch]
@[simp] theorem Lane.latch_cs (l : Lane) (src data : Nat) : (l.latch src data).cs = l.cs := by simp [Lane.latch]
@[simp] theorem Lane.latch_quote (l : Lane) (src data : Nat) : (l.latch src data).quote = l.quote := by simp [Lane.latch]
@[simp] theorem Lane.latch_upd (l : Lane) (src data : Nat) : (l.latch src data).upd = l.upd := by simp [Lane.latch]
@[simp] theorem Lane.latch_pwr (l : Lane) (src data : Nat) : (l.latch src data).pwr = l.pwr := by simp [Lane.latch]
@[simp] theorem Lane.latch_out (l : Lane) (src data : Nat) : (l.latch src data).out = l.out := by simp [Lane.latch]
@[simp] theorem Lane.latch_bus (l : Lane) (src data : Nat) : (l.latch src data).bus = l.bus := by simp [Lane.latch]

@[simp] theorem Lane.latch_coll (l : Lane) (src data : Nat) : (l.latch src data).coll = l.coll.occurReal src data l.now :=
  Lane.latchAs_coll l src data _

@[simp] theorem Lane.strike_powered (l : Lane) (cls : Nat) : (l.strike cls).powered = l.powered := by
  unfold Lane.strike; split <;> [rfl; split] <;> simp [Lane.latchAfter]
@[simp] theorem Lane.strike_now (l : Lane) (cls : Nat) : (l.strike cls).now = l.now := by
  unfold Lane.strike; split <;> [rfl; split] <;> simp [Lane.latchAfter]
@[simp] theorem Lane.strike_objs (l : Lane) (cls : Nat) : (l.strike cls).objs = l.objs := by
  unfold Lane.strike; split <;> [rfl; split] <;> simp [Lane.latchAfter]
@[simp] theorem Lane.strike_octs (l : Lane) (cls : Nat) : (l.strike cls).octs = l.octs := by
  unfold Lane.strike; split <;> [rfl; split] <;> simp [Lane.latchAfter]
@[simp] theorem Lane.strike_slots (l : Lane) (cls : Nat) : (l.strike cls).slots = l.slots := by
  unfold Lane.strike; split <;> [rfl; split] <;> simp [Lane.latchAfter]
@[simp] theorem Lane.strike_gate (l : Lane) (cls : Nat) : (l.strike cls).gate = l.gate := by
  unfold Lane.strike; split <;> [rfl; split] <;> simp [Lane.latchAfter]
@[simp] theorem Lane.strike_peerLo (l : Lane) (cls : Nat) : (l.strike cls).peerLo = l.peerLo := by
  unfold Lane.strike; split <;> [rfl; split] <;> simp [Lane.latchAfter]
@[simp] theorem Lane.strike_peerHi (l : Lane) (cls : Nat) : (l.strike cls).peerHi = l.peerHi := by
  unfold Lane.strike; split <;> [rfl; split] <;> simp [Lane.latchAfter]
@[simp] theorem Lane.strike_smp (l : Lane) (cls : Nat) : (l.strike cls).smp = l.smp := by
  unfold Lane.strike; split <;> [rfl; split] <;> simp [Lane.latchAfter]
@[simp] theorem Lane.strike_votes (l : Lane) (cls : Nat) : (l.strike cls).votes = l.votes := by
  unfold Lane.strike; split <;> [rfl; split] <;> simp [Lane.latchAfter]
@[simp] theorem Lane.strike_dem (l : Lane) (cls : Nat) : (l.strike cls).dem = l.dem := by
  unfold Lane.strike; split <;> [rfl; split] <;> simp [Lane.latchAfter]
@[simp] theorem Lane.strike_sio (l : Lane) (cls : Nat) : (l.strike cls).sio = l.sio := by
  unfold Lane.strike; split <;> [rfl; split] <;> simp [Lane.latchAfter]
@[simp] theorem Lane.strike_eng (l : Lane) (cls : Nat) : (l.strike cls).eng = l.eng := by
  unfold Lane.strike; split <;> [rfl; split] <;> simp [Lane.latchAfter]
@[simp] theorem Lane.strike_cap (l : Lane) (cls : Nat) : (l.strike cls).cap = l.cap := by
  unfold Lane.strike; split <;> [rfl; split] <;> simp [Lane.latchAfter]
@[simp] theorem Lane.strike_mx (l : Lane) (cls : Nat) : (l.strike cls).mx = l.mx := by
  unfold Lane.strike; split <;> [rfl; split] <;> simp [Lane.latchAfter]
@[simp] theorem Lane.strike_spv (l : Lane) (cls : Nat) : (l.strike cls).spv = l.spv := by
  unfold Lane.strike; split <;> [rfl; split] <;> simp [Lane.latchAfter]
@[simp] theorem Lane.strike_shape (l : Lane) (cls : Nat) : (l.strike cls).shape = l.shape := by
  unfold Lane.strike; split <;> [rfl; split] <;> simp [Lane.latchAfter]
@[simp] theorem Lane.strike_brk (l : Lane) (cls : Nat) : (l.strike cls).brk = l.brk := by
  unfold Lane.strike; split <;> [rfl; split] <;> simp [Lane.latchAfter]
@[simp] theorem Lane.strike_net (l : Lane) (cls : Nat) : (l.strike cls).net = l.net := by
  unfold Lane.strike; split <;> [rfl; split] <;> simp [Lane.latchAfter]
@[simp] theorem Lane.strike_sess (l : Lane) (cls : Nat) : (l.strike cls).sess = l.sess := by
  unfold Lane.strike; split <;> [rfl; split] <;> simp [Lane.latchAfter]
@[simp] theorem Lane.strike_txn (l : Lane) (cls : Nat) : (l.strike cls).txn = l.txn := by
  unfold Lane.strike; split <;> [rfl; split] <;> simp [Lane.latchAfter]
@[simp] theorem Lane.strike_ka (l : Lane) (cls : Nat) : (l.strike cls).ka = l.ka := by
  unfold Lane.strike; split <;> [rfl; split] <;> simp [Lane.latchAfter]
@[simp] theorem Lane.strike_writes (l : Lane) (cls : Nat) : (l.strike cls).writes = l.writes := by
  unfold Lane.strike; split <;> [rfl; split] <;> simp [Lane.latchAfter]
@[simp] theorem Lane.strike_com (l : Lane) (cls : Nat) : (l.strike cls).com = l.com := by
  unfold Lane.strike; split <;> [rfl; split] <;> simp [Lane.latchAfter]
@[simp] theorem Lane.strike_nv (l : Lane) (cls : Nat) : (l.strike cls).nv = l.nv := by
  unfold Lane.strike; split <;> [rfl; split] <;> simp [Lane.latchAfter]
@[simp] theorem Lane.strike_cs (l : Lane) (cls : Nat) : (l.strike cls).cs = l.cs := by
  unfold Lane.strike; split <;> [rfl; split] <;> simp [Lane.latchAfter]
@[simp] theorem Lane.strike_quote (l : Lane) (cls : Nat) : (l.strike cls).quote = l.quote := by
  unfold Lane.strike; split <;> [rfl; split] <;> simp [Lane.latchAfter]
@[simp] theorem Lane.strike_upd (l : Lane) (cls : Nat) : (l.strike cls).upd = l.upd := by
  unfold Lane.strike; split <;> [rfl; split] <;> simp [Lane.latchAfter]
@[simp] theorem Lane.strike_pwr (l : Lane) (cls : Nat) : (l.strike cls).pwr = l.pwr := by
  unfold Lane.strike; split <;> [rfl; split] <;> simp [Lane.latchAfter]
@[simp] theorem Lane.strike_out (l : Lane) (cls : Nat) : (l.strike cls).out = l.out := by
  unfold Lane.strike; split <;> [rfl; split] <;> simp [Lane.latchAfter]
@[simp] theorem Lane.strike_bus (l : Lane) (cls : Nat) : (l.strike cls).bus = l.bus := by
  unfold Lane.strike; split <;> [rfl; split] <;> simp [Lane.latchAfter]

@[simp] theorem Lane.raise_powered (l : Lane) (src data : Nat) : (l.raise src data).powered = l.powered := by simp [Lane.raise]
@[simp] theorem Lane.raise_now (l : Lane) (src data : Nat) : (l.raise src data).now = l.now := by simp [Lane.raise]
@[simp] theorem Lane.raise_objs (l : Lane) (src data : Nat) : (l.raise src data).objs = l.objs := by simp [Lane.raise]
@[simp] theorem Lane.raise_octs (l : Lane) (src data : Nat) : (l.raise src data).octs = l.octs := by simp [Lane.raise]
@[simp] theorem Lane.raise_slots (l : Lane) (src data : Nat) : (l.raise src data).slots = l.slots := by simp [Lane.raise]
@[simp] theorem Lane.raise_gate (l : Lane) (src data : Nat) : (l.raise src data).gate = l.gate := by simp [Lane.raise]
@[simp] theorem Lane.raise_peerLo (l : Lane) (src data : Nat) : (l.raise src data).peerLo = l.peerLo := by simp [Lane.raise]
@[simp] theorem Lane.raise_peerHi (l : Lane) (src data : Nat) : (l.raise src data).peerHi = l.peerHi := by simp [Lane.raise]
@[simp] theorem Lane.raise_smp (l : Lane) (src data : Nat) : (l.raise src data).smp = l.smp := by simp [Lane.raise]
@[simp] theorem Lane.raise_votes (l : Lane) (src data : Nat) : (l.raise src data).votes = l.votes := by simp [Lane.raise]
@[simp] theorem Lane.raise_dem (l : Lane) (src data : Nat) : (l.raise src data).dem = l.dem := by simp [Lane.raise]
@[simp] theorem Lane.raise_sio (l : Lane) (src data : Nat) : (l.raise src data).sio = l.sio := by simp [Lane.raise]
@[simp] theorem Lane.raise_eng (l : Lane) (src data : Nat) : (l.raise src data).eng = l.eng := by simp [Lane.raise]
@[simp] theorem Lane.raise_cap (l : Lane) (src data : Nat) : (l.raise src data).cap = l.cap := by simp [Lane.raise]
@[simp] theorem Lane.raise_mx (l : Lane) (src data : Nat) : (l.raise src data).mx = l.mx := by simp [Lane.raise]
@[simp] theorem Lane.raise_spv (l : Lane) (src data : Nat) : (l.raise src data).spv = l.spv := by simp [Lane.raise]
@[simp] theorem Lane.raise_shape (l : Lane) (src data : Nat) : (l.raise src data).shape = l.shape := by simp [Lane.raise]
@[simp] theorem Lane.raise_brk (l : Lane) (src data : Nat) : (l.raise src data).brk = l.brk := by simp [Lane.raise]
@[simp] theorem Lane.raise_net (l : Lane) (src data : Nat) : (l.raise src data).net = l.net := by simp [Lane.raise]
@[simp] theorem Lane.raise_sess (l : Lane) (src data : Nat) : (l.raise src data).sess = l.sess := by simp [Lane.raise]
@[simp] theorem Lane.raise_txn (l : Lane) (src data : Nat) : (l.raise src data).txn = l.txn := by simp [Lane.raise]
@[simp] theorem Lane.raise_ka (l : Lane) (src data : Nat) : (l.raise src data).ka = l.ka := by simp [Lane.raise]
@[simp] theorem Lane.raise_writes (l : Lane) (src data : Nat) : (l.raise src data).writes = l.writes := by simp [Lane.raise]
@[simp] theorem Lane.raise_com (l : Lane) (src data : Nat) : (l.raise src data).com = l.com := by simp [Lane.raise]
@[simp] theorem Lane.raise_nv (l : Lane) (src data : Nat) : (l.raise src data).nv = l.nv := by simp [Lane.raise]
@[simp] theorem Lane.raise_cs (l : Lane) (src data : Nat) : (l.raise src data).cs = l.cs := by simp [Lane.raise]
@[simp] theorem Lane.raise_quote (l : Lane) (src data : Nat) : (l.raise src data).quote = l.quote := by simp [Lane.raise]
@[simp] theorem Lane.raise_upd (l : Lane) (src data : Nat) : (l.raise src data).upd = l.upd := by simp [Lane.raise]
@[simp] theorem Lane.raise_pwr (l : Lane) (src data : Nat) : (l.raise src data).pwr = l.pwr := by simp [Lane.raise]
@[simp] theorem Lane.raise_out (l : Lane) (src data : Nat) : (l.raise src data).out = l.out := by simp [Lane.raise]
@[simp] theorem Lane.raise_bus (l : Lane) (src data : Nat) : (l.raise src data).bus = l.bus := by simp [Lane.raise]

theorem Lane.latchAs_stopped (l : Lane) (src data : Nat) (d : Bool) : (l.latchAs src data d).Stopped :=
  ⟨by simp [Coll.occurAs], by simp [Lane.latchAs], Lane.react_driving _, by simp [Lane.latchAs], by simp [Lane.latchAs],
    by simp [Lane.latchAs]⟩

theorem Lane.strike_stopped {l : Lane} (cls : Nat) (h : l.Stopped) : (l.strike cls).Stopped := by
  unfold Lane.strike
  split
  · exact ⟨h.error, h.steer, h.brakes, h.claiming, h.tenure, h.windows⟩
  · split
    · exact h
    · exact Lane.latchAs_stopped l _ _ _

/-- An error source that asserts stops the lane (R306). -/
theorem Lane.raise_stopped (l : Lane) (src data : Nat) : (l.raise src data).Stopped :=
  Lane.strike_stopped 1 (Lane.latchAs_stopped l src data _)

theorem find_putSpall_same (r : SpallRec) (qs : List SpallRec) :
    (putSpall r qs).find? (fun q => q.src = r.src) = some r := by
  induction qs with
  | nil => simp [putSpall]
  | cons q qs ih =>
    by_cases h1 : r.src < q.src
    · simp [putSpall, h1]
    · by_cases h2 : r.src = q.src
      · simp [putSpall, h2]
      · simp [putSpall, h1, h2, Ne.symm h2, ih]

theorem find_putSpall_of_ne (r : SpallRec) (qs : List SpallRec) (src : Nat) (h : src ≠ r.src) :
    (putSpall r qs).find? (fun q => q.src = src) = qs.find? (fun q => q.src = src) := by
  induction qs with
  | nil => simp [putSpall, Ne.symm h]
  | cons q qs ih =>
    by_cases h1 : r.src < q.src
    · simp [putSpall, h1, Ne.symm h]
    · by_cases h2 : r.src = q.src
      · have h3 : q.src ≠ src := fun e => h (e ▸ h2.symm ▸ rfl)
        rw [putSpall, if_neg h1, if_pos h2]
        simp [Ne.symm h, h3]
      · rw [putSpall, if_neg h1, if_neg h2, List.find?_cons, List.find?_cons, ih]

/-- The record of a source has its number. -/
theorem Coll.spall_src (c : Coll) (src : Nat) : (c.spall src).src = src := by
  unfold Coll.spall
  cases h : c.recs.find? fun r => r.src = src with
  | none => rfl
  | some r => simpa using List.find?_some h

/-- The record of a source that is not the first cause's, where every record of the collector is taken from it. -/
theorem spall_map_notFirst (recs : List SpallRec) (j : Nat) :
    ((recs.map SpallRec.notFirst).find? fun r => r.src = j).getD { src := j }
      = ((recs.find? fun r => r.src = j).getD { src := j }).notFirst := by
  rw [List.find?_map]
  change Option.getD ((recs.find? fun r => r.src = j).map SpallRec.notFirst) { src := j } = _
  cases recs.find? fun r => r.src = j with
  | none => simp [SpallRec.notFirst, putBits]
  | some r => rfl

/-- The record of a source after its own real occurrence, and that of every other source (R301, R302, R304). -/
theorem Coll.spall_occurAs (c : Coll) (src data t j : Nat) (d : Bool) : (c.occurAs src data t d).spall j =
    if j = src then (c.spall src).occur data t false (!c.anyLatched || d)
    else if d then (c.spall j).notFirst else c.spall j := by
  have e : ((c.spall src).occur data t false (!c.anyLatched || d)).src = src := Coll.spall_src c src
  by_cases h : j = src
  · subst h
    have f := find_putSpall_same ((c.spall j).occur data t false (!c.anyLatched || d))
      (if d then c.recs.map SpallRec.notFirst else c.recs)
    rw [e] at f
    rw [if_pos rfl, Coll.spall, Coll.occurAs]
    dsimp only
    rw [f]
    rfl
  · have f := find_putSpall_of_ne ((c.spall src).occur data t false (!c.anyLatched || d))
      (if d then c.recs.map SpallRec.notFirst else c.recs) j (by rw [e]; exact h)
    rw [if_neg h, Coll.spall, Coll.occurAs]
    dsimp only
    rw [f]
    split
    · exact spall_map_notFirst _ _
    · rfl

/-- LATCHED stays in a record that is no longer the first cause's. -/
theorem SpallRec.notFirst_latched (r : SpallRec) : bitOf r.notFirst.flags 0 = bitOf r.flags 0 := by
  have h := bits_putBits_below r.flags 2 1 0 0 1 (by omega)
  unfold bitOf SpallRec.notFirst
  dsimp only
  rw [h]

/-- A real occurrence sets LATCHED (R302). -/
theorem SpallRec.occur_latched (r : SpallRec) (data t : Nat) (b : Bool) : bitOf (r.occur data t false b).flags 0 = true := by
  have h := bits_putBits (putBits (if b then putBits r.flags 2 1 1 else r.flags) 1 1 0) 0 1 1
  simpa [SpallRec.occur, bitOf] using h

/-- A real occurrence leaves LATCHED set in the record of its source, and clears it nowhere (R302). -/
theorem Coll.occurAs_latched (c : Coll) (src data t j : Nat) (d : Bool) (h : j = src ∨ bitOf (c.spall j).flags 0 = true) :
    bitOf ((c.occurAs src data t d).spall j).flags 0 = true := by
  rw [Coll.spall_occurAs]
  by_cases hj : j = src
  · rw [if_pos hj]
    exact SpallRec.occur_latched _ _ _ _
  · rw [if_neg hj]
    split
    · rw [SpallRec.notFirst_latched]
      exact h.resolve_left hj
    · exact h.resolve_left hj

/-- The collector after a fault class strikes: as before, or after the occurrence of source 0x08 (R65). -/
theorem Lane.strike_coll (l : Lane) (cls : Nat) : (l.strike cls).coll = l.coll ∨
    (l.strike cls).coll = l.coll.occurAs 8 (l.drive.firstClass + 16 * cls) l.now false := by
  unfold Lane.strike
  by_cases h0 : l.drive.firstClass = 0
  · rw [if_pos h0]
    exact Or.inl rfl
  · rw [if_neg h0]
    by_cases h1 : l.drive.firstClass = cls
    · rw [if_pos h1]
      exact Or.inl rfl
    · rw [if_neg h1]
      exact Or.inr (Lane.latchAs_coll l _ _ _)

/-- The collector after an error source asserts: its occurrence, and source 0x08's after it where R65 asks for it. -/
theorem Lane.raise_coll (l : Lane) (src data : Nat) : (l.raise src data).coll = (l.latch src data).coll ∨
    (l.raise src data).coll = (l.latch src data).coll.occurAs 8 ((l.latch src data).drive.firstClass + 16 * 1)
      (l.latch src data).now false :=
  Lane.strike_coll (l.latch src data) 1

/-- An error source that asserts is latched in its Spall record (R302). -/
theorem Lane.raise_latched (l : Lane) (src data : Nat) : bitOf ((l.raise src data).coll.spall src).flags 0 = true := by
  have h1 : bitOf ((l.latch src data).coll.spall src).flags 0 = true := by
    rw [Lane.latch_coll]
    exact Coll.occurAs_latched _ _ _ _ _ _ (Or.inl rfl)
  obtain e | e := Lane.raise_coll l src data
  · rw [e]
    exact h1
  · rw [e]
    exact Coll.occurAs_latched _ _ _ _ _ _ (Or.inr h1)

/-- What an error can reach. -/
theorem Lane.raise_reach (l : Lane) (src data : Nat) : ErrorReach l (l.raise src data) := by
  have e : ∀ x y : Lane, (x.powered = y.powered ∧ x.now = y.now ∧ x.objs = y.objs ∧ x.octs = y.octs ∧ x.slots = y.slots
      ∧ x.gate = y.gate ∧ x.peerLo = y.peerLo ∧ x.peerHi = y.peerHi ∧ x.smp = y.smp ∧ x.votes = y.votes ∧ x.dem = y.dem
      ∧ x.sio = y.sio ∧ x.eng = y.eng ∧ x.cap = y.cap ∧ x.mx = y.mx ∧ x.spv = y.spv ∧ x.shape = y.shape ∧ x.brk = y.brk
      ∧ x.net = y.net ∧ x.sess = y.sess ∧ x.txn = y.txn ∧ x.ka = y.ka ∧ x.writes = y.writes ∧ x.com = y.com ∧ x.nv = y.nv
      ∧ x.cs = y.cs ∧ x.quote = y.quote ∧ x.upd = y.upd ∧ x.pwr = y.pwr ∧ x.out = y.out ∧ x.bus = y.bus) →
      ErrorReach y x := by
    intro x y h
    cases x
    cases y
    simp only at h
    obtain ⟨rfl, rfl, rfl, rfl, rfl, rfl, rfl, rfl, rfl, rfl, rfl, rfl, rfl, rfl, rfl, rfl, rfl, rfl, rfl, rfl, rfl, rfl, rfl,
      rfl, rfl, rfl, rfl, rfl, rfl, rfl, rfl⟩ := h
    rfl
  exact e _ _ (by simp)

/-- The registers that the reaction may change: GD_STAT alone (R95, R306). -/
theorem Lane.latchAs_regs (l : Lane) (src data : Nat) (d : Bool) : RegsKept [Rg.gdStat.addr] l (l.latchAs src data d) := by
  intro r hr
  have hr' : r.addr ≠ Rg.gdStat.addr := by simpa using hr
  have e : ∀ x : Lane, x.react.reg r = x.reg r := by
    intro x
    have h1 : x.react.regs = x.ceaseSteer.regs := by simp [Lane.react]
    have h2 : x.ceaseSteer.reg r = x.reg r := by
      unfold Lane.ceaseSteer Lane.chooseSafe Lane.raiseBit
      split
      · exact Lane.reg_setRbit_of_ne _ _ _ hr'
      · rfl
    exact (congrArg (fun m => kvGet r.reset m r.addr) h1).trans h2
  exact e _

/-- The same of a fault class that strikes (R65). -/
theorem Lane.strike_regs (l : Lane) (c : Nat) : RegsKept [Rg.gdStat.addr] l (l.strike c) := by
  unfold Lane.strike
  by_cases h0 : l.drive.firstClass = 0
  · rw [if_pos h0]
    exact fun _ _ => rfl
  · rw [if_neg h0]
    by_cases h1 : l.drive.firstClass = c
    · rw [if_pos h1]
      exact fun _ _ => rfl
    · rw [if_neg h1]
      exact Lane.latchAs_regs l _ _ _

/-- Everything that an asserting error source does, said once (R301 to R306). -/
theorem Lane.raise_errorOf (l : Lane) (src data : Nat) : ErrorOf l src data (l.raise src data) := by
  have l1 : (l.latch src data).coll = l.coll.occurReal src data l.now := Lane.latch_coll l src data
  have any : (l.latch src data).coll.anyLatched = true := by
    rw [l1, Coll.anyLatched, List.any_eq_true]
    have h := find_putSpall_same ((l.coll.spall src).occur data l.now false (l.coll.takesFirst src l.now))
      (if l.coll.displaces src l.now then l.coll.recs.map SpallRec.notFirst else l.coll.recs)
    exact ⟨_, List.mem_of_find?_eq_some h, SpallRec.occur_latched _ _ _ _⟩
  refine ⟨Lane.raise_stopped l src data, Lane.raise_reach l src data, Lane.raise_latched l src data, ?_, ?_, ?_, ?_⟩
  · intro h8
    have h : (l.latch src data).coll.spall src = (l.coll.spall src).occur data l.now false (l.coll.takesFirst src l.now) := by
      rw [l1, Coll.occurReal, Coll.spall_occurAs, if_pos rfl, Coll.takesFirst]
    obtain e | e := Lane.raise_coll l src data
    · rw [e]
      exact h
    · rw [e, Coll.spall_occurAs, if_neg h8]
      exact h
  · have h : (l.latch src data).coll.firstSrc = if l.coll.takesFirst src l.now = true then src else l.coll.firstSrc := by
      rw [l1]
      rfl
    obtain e | e := Lane.raise_coll l src data
    · rw [e]
      exact h
    · rw [e, Coll.occurAs]
      dsimp only
      rw [any, h]
      rfl
  · obtain e | e := Lane.raise_coll l src data
    · rw [e, l1]
      simp [Coll.occurReal, Coll.occurAs]
    · rw [e, l1]
      simp [Coll.occurReal, Coll.occurAs]
  · intro r hr
    exact (Lane.strike_regs (l.latch src data) 1 r hr).trans (Lane.latchAs_regs l src data _ r hr)

end Sys2Proof.Machine
end

