-- ==== Sys2Proof/WellFormed.lean ====
section
/-!
DEFINITION. Well-formed commands: lists that stand for fields of a fixed number of elements have that number, and payloads have
the lengths that their layouts fix (R39, R78, R81, R275, R277, R349, R375, R420, R435, R461).
-/
namespace Sys2Proof

/-- Every array of an exchange frame has its number of elements (R39). -/
def ExchFrame.wf (f : ExchFrame) : Bool :=
  decide (f.demandMotion.length = 40) && decide (f.uCmd.length = 3) && decide (f.uMeas.length = 3)
  && decide (f.iDq.length = 2) && decide (f.sentVal.length = 4) && decide (f.anaVal.length = 6)
  && decide (f.brakeForce.length = 8) && decide (f.brakeState.length = 8) && decide (f.peerOffset.length = 2)
  && decide (f.appValues.length = 32)

/-- A claim frame commands eight outputs (R78). -/
def ClaimFrame.wf (f : ClaimFrame) : Bool := decide (f.outCmd.length = 8)

/-- A status frame reports eight outputs (R81). -/
def StatusFrame.wf (f : StatusFrame) : Bool := decide (f.outState.length = 8)

/-- Monitors, ratiometric inputs: one value each (R275, R461). -/
def Captures.wf (c : Captures) : Bool :=
  decide (c.temps.length = 14) && decide (c.volts.length = 20) && decide (c.ana.length = 6)

/-- The entries of a commit frame fit it, and a digest is 32 bytes (R375, R376). -/
def CommitFrame.wf (f : CommitFrame) : Bool :=
  decide (f.setDigest.length = 32) && decide (f.nEntries.toNat = f.entries.length)
  && f.entries.all fun e => decide (e.value.length ≤ 0xFFFF)

/-- The body of an Update frame fits it (R420). -/
def UpdateFrame.wf (f : UpdateFrame) : Bool := decide (f.body.length ≤ 988)

/-- The payload of a Demand (R348, R349). -/
def DemandPayload.wf (d : DemandPayload) : Bool := decide (d.reserved.length = 6) && decide (d.motion.length = 40)

/-- A SENT frame carries one to sixteen data nibbles (R277). -/
def SentRx.wf (f : SentRx) : Bool := decide (1 ≤ f.nibbles.length) && decide (f.nibbles.length ≤ 16)

/-- A well-formed command. -/
def Instr.wf : Instr → Bool
  | .steeringReload _ _ c => c.wf
  | .exchangeFrame _ _ f => f.wf
  | .propose _ _ f | .accept _ _ f | .refuse _ _ f | .apply _ _ f | .abort _ _ f | .digest _ _ f | .syncReq _ _ f
  | .syncData _ _ f => f.wf
  | .announce _ _ f | .shaperSeed _ _ f | .csForward _ _ f | .csConfirm _ _ f => f.wf
  | .claimFrame _ _ _ f _ => f.wf
  | .arbiterStatusFrame _ _ f _ => f.wf
  | .testPulseSlot _ _ sup ana => decide (sup.length = 4) && decide (ana.length = 6)
  | .railCheckDone _ _ _ nodes _ => decide (nodes.length = 3)
  | .offStateDiagnostics _ _ _ nodes _ => decide (nodes.length = 9)
  | .sentFrame _ _ f => f.wf
  | .demand _ _ d => d.wf
  | .processReading _ counts _ => decide (counts.length = 6)
  | .rollbackAdvance _ v _ => decide (v.length = 4)
  | _ => true

end Sys2Proof
end

