-- ==== Sys2Proof/Tests/Slice0.lean ====
section
/-!
SUPPORT. Small tests: ill-formed commands, instruction words of E1 and values of the specification's worked examples, and for
every obligation with premises states that meet them.
-/
namespace Sys2Proof.Tests
open Sys2Proof Sys2Proof.Machine
set_option maxRecDepth 4000

/-- The module at reset, but for lane 1. -/
def on (x : Lane) : State := { State.reset with lane1 := x }

/-- The module at reset, but for the arbiter tile. -/
def withArb (a : Arbiter) : State := { State.reset with arb := a }

theorem sees_on (x : Lane) (h : x.powered = true) : Sees (on x) .l1 0 x := by
  refine ⟨h, ?_⟩
  simp [State.laneAt, State.lane, on]

/-- Lane `x` is seen by a command of lane 1 and meets `P`. -/
structure Meets (x : Lane) (P : Lane → Prop) : Prop where
  sees : Sees (on x) .l1 0 x
  has_ : Has (on x) .l1 x
  holds : P x

theorem meets {x : Lane} {P : Lane → Prop} (h : x.powered = true) (p : P x) : Meets x P := ⟨sees_on x h, ⟨h, rfl⟩, p⟩

theorem e1Turns_stands (x : Lane) (t n : Nat) (h : x.e1Turn t = none) : x.e1Turns t n = x := by
  cases n with
  | zero => rfl
  | succ n => simp only [Lane.e1Turns, h]

/-- Lane `x`, whose E1 stands at its instant, is found by a command of lane 1 that acts on E1, and meets `P`. -/
structure MeetsE1 (x : Lane) (P : Lane → Prop) : Prop where
  finds : FindsE1 (on x) .l1 0 x
  holds : P x

theorem meetsE1 {x : Lane} {P : Lane → Prop} (h : x.powered = true ∧ x.e1Turn x.now = none) (p : P x) : MeetsE1 x P := by
  refine ⟨⟨h.1, ?_⟩, p⟩
  rw [← (sees_on x h.1).2]
  exact (e1Turns_stands x x.now _ h.2).symm

/-- An arbiter with its supply and its invariant, seen at instant 0, meets `P`. -/
structure MeetsArb (a : Arbiter) (P : Arbiter → Prop) : Prop where
  powered : (withArb a).arb.powered = true
  inv : (withArb a).arb.Inv
  holds : P ((withArb a).arb.at_ 0)

/-- A lane whose samples run. -/
def running : Lane := ({ pwr := { selftest := .passed } } : Lane).setFld Rg.pwrStat 0 3 0

/-- A frame received from the lower peer, 7.5 µs after the reload, with CRC `c`. -/
def rxOf (c : BitVec 32) : BirixRx := ⟨.lo, 100, some 7500, c⟩

theorem witness_VectorSumsSaturateOrWrap :
    Meets { mx := { cur := some 8 } } (fun x => x.mx.cur = some 8 ∧ ∀ a, (x.loop 8).rd a < 2 ^ 32) := by
  refine meets rfl ⟨rfl, fun a => ?_⟩
  have e : (({ mx := { cur := some 8 } } : Lane).loop 8) = {} := rfl
  rw [e]
  unfold LoopSt.rd
  have h : ({} : LoopSt).shadowAt a = none := by cases h : bankedWord a <;> rfl
  simp [h, kvGet, nth]

theorem witness_MatrixProductFillsRows :
    Meets { mx := { cur := some 0 } } (fun x => x.mx.cur = some 0) := by exact meets rfl (by decide)

/-- A lane on which E1 runs the entry `e` of loop `k`. -/
def e1On (k : Fin 9) (p : LoopSt) : Lane := { mx := { cur := some k, loops := (Vector.replicate 9 {}).set k p } }

theorem witness_LimitsAndSelection_and_LoadsStoresAndPosts :
    Meets (e1On 0 {}) (fun x => x.mx.cur = some 0 ∧ (2 : Fin 8) ≠ 1 ∧ x.mbxFull 1 2 = false ∧ x.islandStopped 2 = false ∧
      x.eng.held = [] ∧ (x.loop 0).postInTime x.smp.reloadAt = true ∧ postSlotOk 0 0 = true) ∧
    Meets { e1On 0 { startAt := 7000 } with eng := { held := [(1, 2, 5)] } } (fun x => x.mx.cur = some 0 ∧
      (x.loop 0).postInTime x.smp.reloadAt = false ∧ ∃ w ∈ x.eng.held, w.1 = 1 ∧ w.2.1 = (2 : Fin 8).val) ∧
    Meets ((e1On 0 {}).setFld Rg.pwrStat 0 3 2) (fun x => x.mx.cur = some 0 ∧ x.mbxFull 1 2 = false ∧ x.islandStopped 2 = true) ∧
    Meets ((e1On 0 {}).setRbit (Rg.mbxStat 1 2) 0 true) (fun x => x.mx.cur = some 0 ∧ x.mbxFull 1 2 = true) := by
  and_intros <;> exact meets rfl (by decide)

theorem witness_TubeChecksPrepareAndCommitARun :
    Meets (e1On 3 { entry := .corr }) (fun x => x.mx.cur = some 3 ∧ (x.loop 3).entry = .corr ∧
      ∀ i ≤ 31, tubeWord x.activeBank 3 (0 + i) = 0) ∧
    Meets { e1On 3 { entry := .corr, win := [(0x10, 6)] } with
      mx := { (e1On 3 { entry := .corr, win := [(0x10, 6)] }).mx with bank0 := [(0x1900 + 96 * 3, 5)] } }
      (fun x => x.mx.cur = some 3 ∧ (x.loop 3).entry = .corr ∧ tubeWord x.activeBank 3 0 ≠ 0 ∧
        tubeWord x.activeBank 3 0 < ((x.loop 3).rdI 0x10).natAbs) ∧
    Meets (e1On 3 { entry := .full }) (fun x => x.mx.cur = some 3 ∧ (x.loop 3).entry ≠ .corr) ∧
    Meets ((e1On 3 { entry := .corr }).setRbit Rg.mxCtl 1 true) (fun x => x.mx.cur = some 3 ∧ (3 : Fin 9) ≠ 0 ∧
      (x.loop 3).entry ≠ .spec ∧ x.specOn = true) ∧
    Meets ((e1On 3 { entry := .spec }).setRbit Rg.mxCtl 1 true) (fun x => x.mx.cur = some 3 ∧ (x.loop 3).entry = .spec ∧
      x.mx.waiting = [] ∧ (x.stg (loopStage 3)).coming = none ∧
      x.now < (2 * (x.loop 3).startAt + 5 * ((x.loop 3).cyc + 10) + 50 + 1) / 2) ∧
    Meets { e1On 3 {} with now := 10000 } (fun x => x.mx.cur = some 3 ∧ (x.stg (loopStage 3)).coming = none ∧
      (2 * (x.loop 3).startAt + 5 * ((x.loop 3).cyc + 10) + 50 + 1) / 2 ≤ x.now ∧ x.mx.pc = none) := by
  and_intros <;> exact meets rfl (by decide)

/-- A lane whose samples run and on which E1 runs. -/
def due (p : LoopSt) : Lane :=
  (({ running with mx := { loops := Vector.replicate 9 p } } : Lane).setRbit Rg.mxStat 0 true).setObj O.variantCode 1

/-- Such a lane with the entry of loop `k` open. -/
def busy (k : Fin 9) (p : LoopSt) : Lane := { due p with mx := { (due p).mx with cur := some k } }

theorem witness_RunsOpenAndOverburdensCount :
    MeetsE1 (due {}) (fun x => x.e1Due = true ∧ x.specOn = true ∧ (x.mx.cur = none ∧ x.mx.waiting = [] ∧ x.e1Free ≤ x.now) ∧ loopPresent x.activeBank 0 = false) ∧
    MeetsE1 (busy 2 {}) (fun x => x.e1Due = true ∧ x.specOn = true ∧ x.mx.cur.isSome = true ∧ x.e1Turn x.now = none ∧
      x.mx.cur = some 2 ∧ x.loopExists 8 = true ∧ x.slotDue 8 = true) ∧
    MeetsE1 {} (fun x => x.e1Due = false ∧ x.loopExists 8 = false) ∧
    MeetsE1 (({} : Lane).setObj O.variantCode 1) (fun x => x.e1Due = false ∧ x.loopExists 8 = true ∧ x.slotDue 8 = true) ∧
    MeetsE1 (due { committed := true }) (fun x => x.e1Due = true ∧ x.loopExists 8 = true ∧ x.slotDue 8 = true ∧ (x.mx.cur = none ∧ x.mx.waiting = [] ∧ x.e1Free ≤ x.now) ∧
      loopPresent x.activeBank 8 = false ∧ (x.loop 8).cause = 0 ∧ (x.loop 8).entry = .none ∧ (x.loop 8).committed = true) ∧
    MeetsE1 (due { cause := 4 }) (fun x => (x.mx.cur = none ∧ x.mx.waiting = [] ∧ x.e1Free ≤ x.now) ∧ x.specOn = true ∧ firstCause (x.loop 8).cause ≠ 0) ∧
    MeetsE1 (due { owes := true, obRun := 1 }) (fun x => x.loopExists 8 = true ∧ (x.loop 8).owes = true ∧ (x.loop 8).inTime = false ∧
      (x.loop 8).specValid = false ∧ (x.loop 8).obRun + 1 ≠ 3) ∧
    MeetsE1 (due { owes := true, obRun := 2 }) (fun x => x.loopExists 0 = true ∧ (x.loop 0).owes = true ∧ (x.loop 0).inTime = false ∧
      (x.loop 0).obRun = 2) ∧
    MeetsE1 (due { inTime := true }) (fun x => x.e1Due = true ∧ (x.loop 0).inTime = true ∧ (x.loop 0).owes = false) := by
  and_intros <;> exact meetsE1 (by decide) (by decide)

theorem witness_EngineControlActsOnEveryLoop :
    Meets (({} : Lane).setObj O.lcStateObj 4) (fun x => (x.obj O.lcStateObj = 1 ∨ x.obj O.lcStateObj = 4) ∧
      ((63 : BitVec 8).toNat < 64 ∨ (63 : BitVec 8).toNat = 255) ∧ x.loopExists 0 = true ∧ x.loopExists 1 = false) ∧
    Meets {} (fun x => (x.obj O.lcStateObj ≠ 1 ∧ x.obj O.lcStateObj ≠ 4) ∨ 64 ≤ (64 : BitVec 8).toNat) ∧
    MeetsE1 (({} : Lane).setRbit Rg.mxCtl 0 true) (fun x => x.rbit Rg.mxCtl 0 = true ∧ x.started = false) ∧
    MeetsE1 (running.setObj (O.benchForce 0) 5) (fun x => x.started = true ∧ x.obj (O.benchForce 0) ≠ 255) := by
  refine ⟨?_, ?_, ?_, ?_⟩
  · exact meets rfl (by decide)
  · exact meets rfl (by decide)
  · exact meetsE1 (by decide) (by decide)
  · exact meetsE1 (by decide) (by decide)

theorem witness_StandbyBankIsWrittenCheckedAndSwapped :
    Meets { smp := { no := 100 } } (fun x =>
      (bankSize - 1) + [(7 : Byte)].length ≤ bankSize ∧
      (16 ≤ ((116 : BitVec 32).toNat + (2 ^ 32 - x.smp.no)) % 2 ^ 32 ∧
        ((116 : BitVec 32).toNat + (2 ^ 32 - x.smp.no)) % 2 ^ 32 < 2 ^ 31) ∧
      ((115 : BitVec 32).toNat + (2 ^ 32 - x.smp.no)) % 2 ^ 32 < 16 ∧ (2 : BitVec 8) ≠ 1) ∧
    Meets { mx := { checking := true, modified := true } } (fun x => x.mx.checking = true ∧ x.mx.modified = true) ∧
    Meets { mx := { checking := true } } (fun x => x.mx.checking = true ∧ x.mx.modified = false) := by
  and_intros <;> exact meets rfl (by decide)

/-- An exchange frame with nothing in it. -/
def exch0 : ExchFrame := ⟨5, 0, 0, 0, 0, 0, 0, 0, 0, 0, 0, List.replicate 40 0, 0, 0, 0, [0, 0, 0], [0, 0, 0], [0, 0], 0, 0, 0, 0,
  [0, 0, 0, 0], List.replicate 6 0, 0, 0, 0, 0, List.replicate 8 0, List.replicate 8 0, 0, 0, 0, 0, 0, 0, 0, 0, [0, 0],
  List.replicate 32 0⟩

theorem witness_SamplesStartAndExchangeTheirFrames :
    Meets {} (fun x => x.up = false) ∧ Meets running (fun x => x.up = true) ∧
    MeetsE1 { running with smp := { listening := false } } (fun x => x.up = true ∧ x.smp.listening = false ∧ x.smp.sent = false) ∧
    MeetsE1 { running with smp := { listening := false }, steer := { driving := true } } (fun x => x.steer.driving = true ∧ x.claim.claiming = false) ∧
    MeetsE1 {} (fun x => x.up = false) ∧
    Meets {} (fun x => x.smp.listening = true ∧ x.smp.listenUntil ≤ x.now ∧ x.smp.timeSet = false ∧
      (x.peer .lo).claims = false ∧ (x.peer .hi).claims = false) ∧
    Meets { smp := { timeSet := true } } (fun x => x.smp.listening = true ∧ x.smp.listenUntil ≤ x.now ∧ x.smp.timeSet = true) ∧
    Meets { smp := { listening := false } } (fun x => x.smp.listening = false) ∧
    Meets {} (fun x => ((6 : BitVec 8).toNat = 0 ∨ 5 < (6 : BitVec 8).toNat) ∧ (x.peer .lo).unknownTypes + 1 < 2 ^ 32) ∧
    Sees (on {}) .l1 ((rxOf 0).fin.getD 0) { ({} : Lane) with now := 7500 } := by
  refine ⟨?_, ?_, meetsE1 (by decide) (by decide), meetsE1 (by decide) (by decide), meetsE1 (by decide) (by decide), ?_, ?_, ?_, ?_, rfl,
    rfl⟩ <;> exact meets rfl (by decide)

theorem witness_ExchangeCheckActsInOrder :
    Meets {} (fun x => x.up = false) ∧ Meets running (fun x => x.up = true) := by
  and_intros <;> exact meets rfl (by decide)

theorem own_frame_passes (f : ExchFrame) : (checkFrame 0 f.sampleNo.toNat (some (f, rxOf (crc32 (exchBytes f))))).ok = true := by
  simp [checkFrame, rxOf, FrameChecks.ok]

theorem witness_PeerFramesAreJudgedAndTimeFramesTaken :
    (checkFrame 0 exch0.sampleNo.toNat (some (exch0, rxOf (crc32 (exchBytes exch0))))).ok = true ∧
    (checkFrame 0 0 none).ok = false ∧
    (∀ f, f = TimeFrame.mk 2 900 1000 0 → Meets { running with peerLo := { lastTimeTx := 1000 } } (fun x => x.up = true ∧
      bits f.source.toNat 0 2 = laneNo (peerId .l1 (rxOf (crc32 (timeBytes f))).peer) ∧ ((x.peer .lo).lastTimeTx : Int) ≠ 0 ∧
      (f.lastRx.toNat : Int) ≠ 0 ∧ (rxOf (crc32 (timeBytes f))).fin.isSome = true ∧ x.smp.timeSet = false ∧ (x.peer .lo).claims = false)) ∧
    Meets { running with peerLo := { lastTimeTx := 1000, last := some { exch0 with status := 1 } } } (fun x => x.up = true ∧
      x.smp.timeSet = false ∧ (x.peer .lo).claims = true) := by
  refine ⟨own_frame_passes _, by decide, ?_, meets rfl (by decide)⟩
  rintro f rfl
  exact meets rfl (by decide)

theorem commitOk_own (f : CommitFrame) (n : Nat) (h : f.phase.toNat = n) (h2 : bits f.source.toNat 0 2 = 2) :
    commitOk .l1 (rxOf (crc32 (commitBytes f))) f n = true := by
  simp [commitOk, rxOf, peerId, laneNo, h, h2]

theorem updateOk_own (f : UpdateFrame) (h : bits f.source.toNat 0 2 = 2) :
    updateOk .l1 (rxOf (crc32 (updateBytes f))) f = true := by
  simp [updateOk, rxOf, peerId, laneNo, h]

theorem captureOk_own (f : CaptureFrame) (h : bits f.source.toNat 0 2 = 2) :
    captureOk .l1 (rxOf (crc32 (captureBytes f))) f = true := by
  simp [captureOk, rxOf, peerId, laneNo, h]

/-- A commit frame of lane 2 for commit `id`. -/
def comm (phase part : BitVec 8) (id : BitVec 32) : CommitFrame := ⟨2, phase, 0, id, 0, 0, List.replicate 32 0, 0, part, []⟩

theorem witness_CommitFramesMoveAProposal :
    (∀ (ph pt : BitVec 8) (id : BitVec 32), commitOk .l1 (rxOf (crc32 (commitBytes (comm ph pt id)))) (comm ph pt id) ph.toNat = true) ∧
    Meets {} (fun x => bits (comm 1 0x80 0x80000000).commitId.toNat 30 2 = laneNo (peerId .l1 .lo) ∧
      bits (comm 1 0x80 0x80000000).part.toNat 0 7 = 0 ∧ bits (comm 1 0x81 0x80000000).part.toNat 0 7 ≠ 0 ∧ x.inProp .lo = none) ∧
    Meets { com := { inLo := some ⟨0x80000000, 1, 0, [], none⟩ } } (fun x => x.inProp .lo = some ⟨0x80000000, 1, 0, [], none⟩ ∧
      (comm 1 0x81 0x80000000).commitId.toNat = 0x80000000 ∧ bits (comm 1 0x81 0x80000000).part.toNat 0 7 = 1) ∧
    Meets { com := { own := some ⟨0x40000000, .change, [], 0, 0, false, false, false⟩ } } (fun x =>
      x.com.own = some ⟨0x40000000, .change, [], 0, 0, false, false, false⟩ ∧ (comm 2 0 0x40000000).commitId.toNat = 0x40000000 ∧
      samplesFrom 0 x.smp.no ≤ 4 ∧ 4 < samplesFrom 0 5) ∧
    Meets { com := { held := some ⟨.lo, 0x80000000, 0, [], false, false⟩ } } (fun x =>
      x.com.held = some ⟨.lo, 0x80000000, 0, [], false, false⟩ ∧ (comm 5 0 0x80000000).commitId.toNat = 0x80000000 ∧ x.inProp .lo = none) := by
  refine ⟨fun ph pt id => commitOk_own _ _ rfl (show bits (2 : BitVec 8).toNat 0 2 = 2 by decide), ?_, ?_, ?_, ?_⟩ <;> exact meets rfl (by decide)

theorem witness_DigestsAndSetsTravelBetweenLanes :
    Meets running (fun x => x.up = true ∧ x.com.judged = false) ∧
    (commitOk .l1 (rxOf (crc32 (commitBytes (comm 6 0 0)))) (comm 6 0 0) 6 = true ∧
      commitOk .l1 (rxOf (crc32 (commitBytes (comm 7 0 0)))) (comm 7 0 0) 7 = true ∧
      commitOk .l1 (rxOf (crc32 (commitBytes (comm 8 0x83 0)))) (comm 8 0x83 0) 8 = true) ∧
    Meets { com := { syncPeer := some .lo, syncNext := 3 } } (fun x => x.com.syncPeer = some .lo ∧ x.com.syncDone = none ∧
      bits (comm 8 0x83 0).part.toNat 0 7 = x.com.syncNext) := by
  refine ⟨?_, ⟨commitOk_own _ _ rfl (by decide), commitOk_own _ _ rfl (by decide), commitOk_own _ _ rfl (by decide)⟩, ?_⟩ <;> exact meets rfl (by decide)

theorem witness_AnnouncementsSeedsAndTriggersAreTaken :
    (∀ (k : BitVec 8) (n : Nat), updateOk .l1 (rxOf (crc32 (updateBytes ⟨2, k, 0, 0, 0, 0, 0, List.replicate n 0⟩)))
      ⟨2, k, 0, 0, 0, 0, 0, List.replicate n 0⟩ = true) ∧
    (List.replicate 16 (0 : Byte)).length = 16 ∧ (List.replicate 64 (0 : Byte)).length = 64 ∧
    captureOk .l1 (rxOf (crc32 (captureBytes ⟨2, 2, 0, 0, 0, 0⟩))) ⟨2, 2, 0, 0, 0, 0⟩ = true ∧
    Meets (({ cap := { active := true, mode := 2 } } : Lane).setObj O.capTrig 8) (fun x => x.cap.active = true ∧ x.cap.mode = 2 ∧
      bitOf (x.obj O.capTrig) 3 = true ∧ x.cap.trig = none) ∧
    Meets running (fun x => x.netUp = true ∧ x.claim.claiming = false) ∧ Meets {} (fun x => x.netUp = false) := by
  refine ⟨fun k n => updateOk_own _ (show bits (2 : BitVec 8).toNat 0 2 = 2 by decide), by decide, by decide, captureOk_own _ (by decide), ?_⟩
  and_intros <;> exact meets rfl (by decide)

theorem witness_AssertingSourcesStopTheLane :
    Meets running (fun x => listedSource 0x40 = true ∧ listedSource 0x41 = false ∧ firmwareSource 6 = true ∧ (6 : Nat) ∉ x.coll.driven ∧
      (firmwareSource 5 = false ∧ listedSource 5 = true) ∧ x.up = true ∧ nth x.pwr.aborts 9 ≠ 7 ∧
      5 ∉ x.takeReading.coll.asserted ∧ (∀ p ∈ x.takeReading.coll.broken, p.1 ≠ 6) ∧ x.coll.undo = none ∧ x.coll.resetUndo = none ∧
      x.injecting 6 = false ∧ x.mx.cur = none ∧ x.coll.refusedAt ≠ some x.now) ∧
    MeetsE1 { e1On 3 { entry := .full } with coll := { asserted := [5], broken := [(6, true)], refusedAt := some 0 } } (fun x => x.mx.cur = some 3 ∧
      5 ∈ x.takeReading.coll.asserted ∧ (6, true) ∈ x.takeReading.coll.broken ∧ x.coll.refusedAt = some x.now) ∧
    Meets { coll := { asserted := [0x40], heals := [(0x40, 0), (0x41, 1)] } } (fun x => (0x40, 0) ∈ x.coll.heals ∧ 0 ≤ x.now ∧ x.now < 1 ∧
      (∀ h ∈ x.coll.heals, h.1 = 0x41 → x.now < h.2)) ∧
    Meets { running with coll := { driven := [6] }, pwr := { selftest := .passed, aborts := List.replicate 10 7 } } (fun x =>
      6 ∈ x.coll.driven ∧ x.up = true ∧ nth x.pwr.aborts 9 = 7) := by
  and_intros <;> first | exact meets rfl (by decide) | exact meetsE1 (by decide) (by decide)

theorem witness_InjectionTouchesNoErrorState :
    Meets {} (fun x => x.obj O.lcStateObj ≠ 1 ∧ x.obj O.lcStateObj ≠ 4) ∧
    Meets (({} : Lane).setObj O.lcStateObj 1) (fun x => (x.obj O.lcStateObj = 1 ∨ x.obj O.lcStateObj = 4) ∧
      (255 : BitVec 16).toNat < 256 ∧ 512 ≤ (512 : BitVec 16).toNat ∧ (0x1FF : BitVec 16).toNat = 256 + 255 ∧
      x.injecting 255 = false ∧ 255 ∉ x.coll.asserted ∧ (255, false) ∉ x.coll.broken ∧
      x.rbit Rg.collInj 8 = false) ∧
    Meets { coll := { asserted := [7], broken := [(6, false)] } } (fun x => 7 ∈ (x.coll.settle x.now).asserted ∧
      6 ∉ (x.coll.settle x.now).asserted ∧ (6, false) ∈ (x.coll.settle x.now).broken ∧ x.rbit Rg.collInj 8 = false) ∧
    Meets (({ coll := { broken := [(6, true)] } } : Lane).setRbit Rg.collInj 8 true) (fun x => (6, true) ∈ (x.coll.settle x.now).broken ∧
      x.rbit Rg.collInj 8 = true) := by
  and_intros <;> exact meets rfl (by decide)

/-- A lane whose fault records hold a latched record. -/
def latched (c : Coll) : Lane := { now := 10 ^ 11, coll := { c with recs := [{ src := 0x17, count := 1, flags := 1 }] } }

theorem witness_ClearRequestsAreJudgedInOrder :
    Meets {} (fun x => x.coll.anyLatched = false) ∧
    Meets (latched { asserted := [6] }) (fun x => (x.coll.still [6]).anyLatched = true ∧ (x.coll.still [6]).asserted ≠ []) ∧
    Meets (latched { broken := [(7, false)] }) (fun x => (x.coll.still [7]).asserted = [] ∧ (x.coll.still [7]).broken ≠ []) ∧
    Meets ((latched {}).setRbit Rg.collInj 8 true) (fun x => (x.coll.still []).anyLatched = true ∧ x.rbit Rg.collInj 8 = true) ∧
    Meets (latched { clears := [10 ^ 11, 9 * 10 ^ 10, 4 * 10 ^ 10 + 1] }) (fun x => x.rbit Rg.collInj 8 = false ∧
      3 ≤ (x.coll.clears.filter fun c => decide (x.now < c + 60000000000)).length) ∧
    Meets (latched { clears := [10 ^ 11, 9 * 10 ^ 10, 4 * 10 ^ 10], asserted := [6] }) (fun x => (x.coll.still []).asserted = [] ∧
      (x.coll.still []).anyLatched = true ∧ (x.coll.clears.filter fun c => decide (x.now < c + 60000000000)).length < 3) ∧
    Meets ({ latched { asserted := [0x17], undo := some ⟨10 ^ 11, [], 0, 0, 0, [], [], 0, false⟩ } with shape := { l1Below := some 0 } }.setObj O.bermAutoClear 1)
      (fun x => x.coll.undo = some ⟨10 ^ 11, [], 0, 0, 0, [], [], 0, false⟩ ∧ x.now = 10 ^ 11 ∧
      removeAsc 0x17 x.coll.asserted = [] ∧ x.flag O.bermAutoClear = true ∧ x.shape.l1Below = some 0 ∧
      0 + 1000000 * x.obj O.bermClearWait ≤ x.now ∧ bitOf (x.coll.spall 0x17).flags 0 = true) := by
  and_intros <;> exact meets rfl (by decide +kernel)

theorem witness_ClearsAndResetsOfTheFaultRecords :
    Meets { coll := { recs := [{ src := 6, count := 1, flags := 1 }] } } (fun x =>
      ({ x with coll := x.coll.still [] } : Lane).judgeClear = 1 ∧ x.coll.anyLatched = true) ∧
    Meets { coll := { recs := [{ src := 6, count := 1, flags := 1 }], asserted := [6] } } (fun x =>
      ({ x with coll := x.coll.still [6] } : Lane).judgeClear ≠ 1) ∧
    Meets {} (fun x => x.coll.anyLatched = false ∧ x.coll.requal = false ∧ x.coll.logDue = []) ∧
    Meets { coll := { requal := true } } (fun x => x.coll.requal = true ∧ x.coll.requalSlice = false) ∧
    Meets { coll := { requal := true, requalSlice := true, logDue := [6] } } (fun x => x.coll.requalSlice = true ∧
      x.coll.logDue = [6]) ∧
    Meets { coll := { logDue := [6, 7] } } (fun x => x.coll.logDue = 6 :: [7]) := by
  and_intros <;> exact meets rfl (by decide)

/-- A lane whose steering stage is in a trip. -/
def tripped (st : StageSt) : Lane := ({ steer := st } : Lane).setRbit (Rg.gdTrip .steer) 16 true

theorem witness_DetectorsTripTheirStage :
    Meets {} (fun x => x.tripped .steer = false ∧ x.tripped (.brake 7) = false ∧ (5 : Fin 7).val < 6 ∧ (6 : Fin 7).val = 6 ∧
      x.pwr.supplyOk = true ∧ x.drive.bsClass = false ∧ (∀ n : Fin 8, (x.brakes[n]).tries x.now < 3) ∧ (x.stg .steer).held .u = false) ∧
    Meets { steer := { ilHold := [some 0, none, none] } } (fun x => (x.stg .steer).held .u = true ∧ legIx .u < (x.stg .steer).ilHold.length) ∧
    Meets { pwr := { supplyOk := false }, drive := { bsClass := true } } (fun x => x.pwr.supplyOk = false ∧ x.drive.bsClass = true) ∧
    Meets { tripped { softFrom := some 0 } with now := 2000 } (fun x => x.tripped .steer = true ∧ (x.stg .steer).softFrom = some 0 ∧
      x.now ≤ 0 + 2000) ∧
    Meets (tripped {}) (fun x => x.tripped .steer = true ∧ (x.stg .steer).softFrom = none ∧ x.pwr.supplyOk = true) ∧
    Meets { tripped { softFrom := some 0 } with now := 2001 } (fun x => x.tripped .steer = true ∧ (x.stg .steer).softFrom = some 0 ∧
      0 + 2000 < x.now) ∧
    Meets { steer := { truncRun := 31 } } (fun x => x.tripped .steer = false ∧ 32 ≤ (x.stg .steer).truncRun + (if (x.stg .steer).truncNow then 0 else 1)) ∧
    Meets { steer := { truncRun := 31, truncNow := true } } (fun x =>
      (x.stg .steer).truncRun + (if (x.stg .steer).truncNow then 0 else 1) < 32) := by
  and_intros <;> exact meets rfl (by decide)

theorem witness_SoftTurnOffEndsDriving_and_interlock :
    Meets {} (fun x => (x.stg .steer).softFrom = none ∧ nth (x.stg .steer).ilRun (legIx .u) = 0) ∧
    Meets { steer := { softFrom := some 0 } } (fun x => (x.stg .steer).softFrom ≠ none) ∧
    Meets { steer := { ilRun := [2, 0, 0], ilLast := [6, 0, 0] } } (fun x => nth (x.stg .steer).ilRun (legIx .u) ≠ 0 ∧
      nth (x.stg .steer).ilLast (legIx .u) = 6 ∧ nth (x.stg .steer).ilLast (legIx .u) + 1 = 7 ∧
      nth (x.stg .steer).ilRun (legIx .u) + 1 = 3) := by
  and_intros <;> exact meets rfl (by decide)

theorem witness_TripsClearByRetryOrExhaust :
    Meets { tripped { railOk := true } with now := 10000000 } (fun x => x.tripped .steer = true ∧ (x.stg .steer).railOk = true ∧
      (x.stg .steer).causeHeld = false ∧ (x.stg .steer).exhausted = false ∧ (x.stg .steer).causeAt + 10000000 ≤ x.now) ∧
    Meets {} (fun x => x.tripped .steer = false) ∧
    Meets { (tripped {}).setCtState 4 with now := 8000000 } (fun x => x.tripped .steer = true ∧ (x.stg .steer).causeHeld = false ∧ (x.stg .steer).causeAt + 8000000 ≤ x.now ∧ (x.stg .steer).exhausted = false ∧
      x.diagReady .steer 1000 = true ∧ (∃ n ∈ [0, 701, 0].take 3, 1000 < n + (railMargins .steer).1) ∧
      (∀ n ∈ [20, 20, 700].take 3, n + (railMargins .steer).1 ≤ 1000) ∧ (railMargins .steer).2 ≤ nth [20, 20, 700] 0 ∧
      x.now < (x.stg .steer).causeAt + 10000000) ∧
    Meets { tripped { causeHeld := true } with now := 1000000000 } (fun x => x.tripped .steer = true ∧
      (x.stg .steer).causeHeld = true ∧ (x.stg .steer).exhausted = false ∧ (x.stg .steer).tripAt + 1000000000 ≤ x.now) ∧
    ((5 : Fin 31).val < 6 ∧ (6 : Fin 31).val = 6 ∧ (30 : Fin 31).val = 7 + 3 * (7 : Fin 8).val + (2 : Fin 3).val) := by
  refine ⟨?_, ?_, ?_, ?_, by decide⟩ <;> exact meets rfl (by decide)

theorem witness_OffStateDiagnosticsAndShort :
    Meets { steer := { driving := true } } (fun x => (x.stg .steer).driving = true) ∧
    Meets {} (fun x => (x.stg .steer).driving = false ∧ (x.stg .steer).diag ≠ .failed ∧ x.diagReady .steer 6000 = false ∧
      x.obj O.lcStateObj ≠ 4 ∧ x.steer.diagRun = false ∧ x.hasStage .steer = true ∧ x.hasStage (.brake 0) = false ∧
      x.steer.softRuns x.now = false ∧ x = ({} : Lane)) ∧
    Meets { steer := { diagRun := true }, now := 2000000 } (fun x => x.steer.diagRun = true ∧ x.steer.diagFrom + 2000000 ≤ x.now) ∧
    Meets (({} : Lane).setCtState 4) (fun x => (x.stg .steer).driving = false ∧ (x.stg .steer).diag ≠ .failed ∧
      x.diagReady .steer 11000 = true ∧ (∀ i < 3, classifyLeg .steer (List.replicate 9 0) 11000 i ≠ 0)) ∧
    Meets (({ steer := { diagRun := true } } : Lane).setObj O.lcStateObj 4) (fun x => x.obj O.lcStateObj = 4 ∧
      x.steer.diagRun = true ∧ x.now < x.steer.diagFrom + 2000000) := by
  and_intros <;> exact meets rfl (by decide)

theorem witness_SensorSuppliesTripAndComeBack :
    Meets { sio := { sups := List.replicate 4 { tripped := true } }, now := 10000000 } (fun x => (x.sup 3).tripped = true ∧
      (x.sup 3).causeAt + 10000000 ≤ x.now ∧ (x.sup 3).exhausted = false) ∧
    Meets { sio := { sups := List.replicate 4 { tripped := true, exhausted := true } }, coll := { error := true } } (fun x =>
      (x.sup 3).exhausted = true ∧ x.coll.error = true ∧ x.now < (x.sup 3).causeAt + 10000000) ∧
    Meets {} (fun x => x.started = false) ∧
    Meets running (fun x => x.started = true ∧ (x.sup 3).tripped = false ∧ ((x.sup 3).clears.filter fun c => x.now < c + 1000000000).length < 3) ∧
    Meets { running with sio := { sups := List.replicate 4 { clears := [0, 0, 0] } } } (fun x => x.started = true ∧ (x.sup 0).tripped = false ∧
      3 ≤ ((x.sup 0).clears.filter fun c => x.now < c + 1000000000).length) := by
  and_intros <;> exact meets rfl (by decide)

theorem witness_TestPulsesAreCheckedByFrame :
    Meets {} (fun x => x.sio.supPts[3]? = some { unexpected := none } ∧ [SlotReading.mk 0 0, ⟨0, 0⟩, ⟨0, 0⟩, ⟨0, 0⟩][3]? = some ⟨0, 0⟩ ∧
      (x.sup 3).tripped = false ∧ x.sio.anaPts[5]? = some { unexpected := none } ∧ (x.sup (x.obj (O.anaSupply 5))).tripped = false ∧ x.sio.nextImg = none ∧
      (∀ n < 4, (x.sio.supPts.getD n {}).unclean x.sio.frameWhole = false) ∧ x.obj (O.sentSupply 3) < 4) ∧
    Meets { sio := { sups := List.replicate 4 { tripped := true } } } (fun x => x.sio.supPts[3]? = some { unexpected := none } ∧
      (x.sup 3).tripped = true ∧ x.sio.anaPts[5]? = some { unexpected := none } ∧ (x.sup (x.obj (O.anaSupply 5))).tripped = true) ∧
    Meets { sio := { supPts := List.replicate 4 { missed := true, badRun := 1 }, frameWhole := true, nextImg := some [] } } (fun x =>
      (x.sio.supPts.getD 3 {}).unclean x.sio.frameWhole = true ∧ 2 ≤ ((x.sio.supPts.getD 3 {}).judge x.sio.frameWhole).badRun ∧
      x.sio.nextImg = some [] ∧ imgOk (x.obj O.lcStateObj) [] = false) := by
  and_intros <;> exact meets rfl (by decide)

theorem witness_SensorFramesAreTakenOrCounted :
    Meets {} (fun x => (x.syncOk 4 168000 && decide ((List.replicate (x.sentNibbles 4) (0 : BitVec 4)).length = x.sentNibbles 4)) = true ∧
      x.syncOk 4 167999 = false ∧ (x.sio.sent.getD 4 {}).valid = false) ∧
    Meets { sio := { sent := List.replicate 5 { sync := 168000, valid := true } } } (fun x => x.syncOk 4 170625 = true ∧
      x.syncOk 4 170626 = false ∧ (x.sio.sent.getD 4 {}).valid = true) := by
  and_intros <;> exact meets rfl (by decide)

theorem witness_SafeStopInputsAreTested :
    Meets {} (fun x => bitOf x.sio.tsEn (b2n true) = true ∧ inPulse 1 false 350000 = false ∧ inPulse 1 true 0 = false ∧
      inPulse 1 false 349999 = true ∧ x.sio.ss0.closed = x.sio.ss1.closed ∧
      (inPulse 1 false 1000000 = false ∧ pulseStart 1 false 1000000 < 1000000 - 400000)) ∧
    Meets { sio := { tsEn := 0 } } (fun x => bitOf x.sio.tsEn (b2n false) = false ∧ bitOf x.sio.tsEn (b2n true) = false) ∧
    Meets { sio := { ss0 := { closed := true }, discrepAt := some 1 }, now := 500000001 } (fun x =>
      x.sio.ss0.closed ≠ x.sio.ss1.closed ∧ x.sio.discrepAt = some 1 ∧ 1 + 500000000 ≤ x.now ∧
      x.sio.discrepSeen = false) := by
  and_intros <;> exact meets rfl (by decide)

theorem witness_ContactorsSwitchInSequenceAndAreTested :
    Meets running (fun x => x.started = true ∧ x.sio.enable = true ∧ x.ctState = 0 ∧ x.steer.driving = false ∧ (x.ct .kn).on = false) ∧
    Meets {} (fun x => x.started = false) ∧
    Meets { (running.setCtState 6) with now := 10000000000 } (fun x => x.started = true ∧ x.ctState = 6 ∧ x.sio.seqAt + 10000000000 ≤ x.now) ∧
    Meets { sio := { enable := false }, steer := { driving := true } } (fun x => x.sio.enable = false ∧ x.steer.driving = true) ∧
    Meets (({} : Lane).setCtState 1) (fun x => x.ctState = 1 ∧ x.ctState ≠ 0 ∧ x.ctState ≠ 6) ∧
    Meets { (({} : Lane).setObj O.fbRole 0x02010000).setCtState 1 with now := 10 ^ 12 } (fun x => x.ctState = 1 ∧ x.coll.error = false ∧
      x.fbRole 0 = ctIx .kn + 1 ∧ x.fbRole 1 = ctIx .kp + 1 ∧
      (∀ k < 4, x.fbRole k = ctIx .kn + 1 → (bitOf (0b0011 : BitVec 4).toNat k != bitOf (x.obj O.fbInvert) k) = true) ∧
      (∀ k < 4, x.fbRole k = ctIx .kp + 1 → (bitOf (0b0011 : BitVec 4).toNat k != bitOf (x.obj O.fbInvert) k) = true) ∧
      (bitOf (0b0011 : BitVec 4).toNat 0 != bitOf (x.obj O.fbInvert) 0) ≠ (x.ct .kn).on ∧ x.ctWaited .kn = true ∧
      (x.ct .kn).abandoned = false) ∧
    Meets (({} : Lane).setCtState 2) (fun x => x.ctState = 2 ∧ x.coll.error = false) ∧
    Meets { (({} : Lane).setCtState 5) with now := 20000000 } (fun x => x.ctState = 5 ∧ x.sio.seqAt + 20000000 ≤ x.now) ∧
    Meets (({} : Lane).setCtState 3) (fun x => x.ctState = 3) ∧
    Meets { (({} : Lane).setCtState 2) with now := 10 ^ 13 } (fun x => x.ctState = 2 ∧ x.obj O.preMinV < 65535 ∧
      x.sio.preAt + 1000000 * x.obj O.preTimeout ≤ x.now ∧ x.ctWaited .pre = true) ∧
    Meets { sio := { kp := { on := true, failRun := 1, discardRun := 7, retestAt := some 0, cmdAt := 1 } } } (fun x =>
      (x.ct .kp).on = true ∧ x.inOffp .kp 100000000 = true ∧ x.inOffp .kp 99999999 = false ∧ (x.ct .kp).abandoned = false ∧ (x.ct .kp).failRun = 1 ∧ (x.ct .kp).discardRun = 7 ∧ (x.ct .kp).retestAt = some 0 ∧ x.ctWaited .kp = false) ∧
    Meets { sio := { kp := { on := true, retestAt := some 1 } } } (fun x => (x.ct .kp).retestAt = some 1 ∧ x.now < 1 ∧
      (x.ct .kp).failRun ≠ 1 ∧ (x.ct .kp).discardRun ≠ 7) := by
  and_intros <;> exact meets rfl (by decide)

/-- A claim frame of lane 1 with claim and counter `n`, every output on. -/
def claimOf (claim n : BitVec 16) : ClaimFrame := ⟨1, claim, n, 0, 0, List.replicate 8 255, 0, 0, 0⟩

/-- A half that holds claim frame `f` of lane 1 since instant 0. -/
def halfWith (f : ClaimFrame) : HalfSt := { links := ⟨{ frame := some f, endAt := some 0, ref := some (f.counter.toNat, 0) }, {}, {}⟩ }

theorem frameIds_own (f : ClaimFrame) (h : bits f.source.toNat 0 2 = 1) (h2 : f.claim = 0 ∨ bits f.claim.toNat 0 2 = 1) :
    frameIds (laneNo .l1) f (crc16 (claimBytes f)) = true := by
  rcases h2 with h2 | h2 <;> simp [frameIds, laneNo, h, h2]

theorem arbInv_witness (a : Arbiter) (h1 : a.outState.length = 8) (h2 : a.ramp.length = 8) (h3 : a.chanFault = List.replicate 8 false)
    (h4 : a.chanCause = List.replicate 8 0) (h5 : a.allSafe = true → a.stopCmd = false ∧ a.winner = 0 ∧ a.outState = List.replicate 8 0)
    (h6 : (a.halfA.fault || a.halfB.fault) = true → a.degraded = true) : a.Inv := by
  have z : ∀ n < 8, nth (List.replicate 8 0) n = 0 ∧ nthB (List.replicate 8 false) n = false := by decide
  refine ⟨h1, h2, by simp [h3], by simp [h4], ?_, ?_, ?_, h6⟩
  · intro h
    obtain ⟨p, q, r⟩ := h5 h
    exact ⟨p, q, fun n hn => .inl (r ▸ (z n hn).1)⟩
  · intro n hn h
    rw [h3, (z n hn).2] at h
    cases h
  · intro n hn _
    rw [h4, (z n hn).1]

theorem witness_ArbiterTakesFramesAndWatchesTimers :
    frameIds (laneNo .l1) (claimOf 1 15) (crc16 (claimBytes (claimOf 1 15))) = true ∧ claimOf 1 15 ≠ claimOf 0 15 ∧
    MeetsArb {} (fun a => (a.half .halfA).fault = false ∧ (a.half .halfA).safe = true ∧ ((a.half .halfA).links.of .l1).ref = none) ∧
    MeetsArb { halfA := halfWith (claimOf 1 0), allSafe := false } (fun a => (a.half .halfA).fault = false ∧
      ((a.half .halfA).links.of .l1).ref = some (0, 0) ∧ ((claimOf 1 15).counter.toNat + 65536 - 0) % 65536 = 15 ∧
      ((claimOf 1 16).counter.toNat + 65536 - 0) % 65536 = 16) ∧
    MeetsArb { halfA := { safe := false }, allSafe := false, now := 500000 } (fun a => (a.half .halfA).fault = false ∧
      (a.half .halfA).safe = false ∧ (a.half .halfA).timer + 500000 ≤ a.now) ∧
    MeetsArb { halfA := { fault := true }, degraded := true } (fun a => (a.half .halfA).fault = true ∧ (a.half .halfB).fault = false) := by
  refine ⟨frameIds_own _ (by decide) (.inr (by decide)), by decide, ⟨rfl, ?_, by decide⟩, ⟨rfl, ?_, by decide⟩, ⟨rfl, ?_, by decide⟩,
    ⟨rfl, ?_, by decide⟩⟩ <;> exact arbInv_witness _ (by decide) (by decide) rfl rfl (by decide) (by decide)

theorem witness_ArbiterEvaluationAppliesTheAgreedClaim :
    MeetsArb { halfA := halfWith (claimOf 1 0), halfB := halfWith (claimOf 1 0), claimed := [true, false, false], degraded := true } (fun a =>
      a.halfA.fault = false ∧ a.halfB.fault = false ∧ (a.halfA.judgeDisregard 0).candidate 0 = some (claimOf 1 0) ∧
      agree (some (claimOf 1 0)) ((a.halfB.judgeDisregard 0).candidate 0) = true ∧
      nthB a.claimed (bits (claimOf 1 0).claim.toNat 0 2 - 1) = true ∧ a.allSafe = true) ∧
    MeetsArb { halfA := halfWith (claimOf 1 0), halfB := {}, disagreeRun := 2 } (fun a => a.halfA.fault = false ∧ a.halfB.fault = false ∧
      agree ((a.halfA.judgeDisregard 0).candidate 0) ((a.halfB.judgeDisregard 0).candidate 0) = false) ∧
    MeetsArb {} (fun a => (a.halfA.judgeDisregard 0).candidate 0 = none ∧ (a.halfB.judgeDisregard 0).candidate 0 = none) ∧
    MeetsArb { halfA := { fault := true }, degraded := true } (fun a => a.halfA.fault ≠ a.halfB.fault) ∧
    MeetsArb { halfA := { fault := true }, halfB := { fault := true }, degraded := true } (fun a => a.halfA.fault = true ∧
      a.halfB.fault = true) := by
  refine ⟨⟨rfl, ?_, by decide⟩, ⟨rfl, ?_, by decide⟩, ⟨rfl, ?_, by decide⟩, ⟨rfl, ?_, by decide⟩, ⟨rfl, ?_, by decide⟩⟩ <;>
    exact arbInv_witness _ (by decide) (by decide) rfl rfl (by decide) (by decide)

theorem witness_ArbiterOutputChecksHoldTheirChannel :
    MeetsArb { allSafe := false, outState := List.replicate 8 255 } (fun a => nth a.outState 7 = 255 ∧ nth a.outState 7 ≠ 0 ∧
      (a.now % 500000000 / 31250000 = 0 ∧ a.now % 500000000 / 31250000 ≠ 15 ∧ a.offPulse.getD 15 none ≠ some (a.now / 31250000) ∧
        a.now % 500000000 / 31250000 = 0) ∧ (29 < 30 ∧ 10 ≤ 10) ∧ (4500 < 4501 ∧ 20 ≤ 20) ∧ (250 : BitVec 8).toNat + 4 < nth a.outState 7 ∧
      nth a.outState 7 ≤ (251 : BitVec 8).toNat + 4) ∧
    MeetsArb {} (fun a => nth a.outState 0 ≠ 255 ∧ nth a.outState 0 = 0 ∧ nth a.outState 0 + 4 < (5 : BitVec 8).toNat) := by
  refine ⟨⟨rfl, ?_, by decide⟩, ⟨rfl, ?_, by decide⟩⟩ <;>
    exact arbInv_witness _ (by decide) (by decide) rfl rfl (by decide) (by decide)

theorem witness_LanesClaimAndEvictionLinesCutPower :
    Meets running (fun x => x.up = true ∧ x.upd.answerDue = false ∧ x.claim.claiming = false ∧ x.gateCut = false ∧
      x.lineCounts .lo = false ∧ x.gate.porSince = false ∧ 300000000 % 100000000 = 0 ∧ 300000001 % 100000000 ≠ 0 ∧
      (x.drive.firstClass = 0 ∨ x.drive.firstClass = 1)) ∧
    Meets {} (fun x => x.up = false) ∧
    Meets { running with claim := { claiming := true, winHealthy := true, winner := true }, now := 10 ^ 12 } (fun x =>
      x.claim.claiming = true ∧ x.claim.winHealthy = true ∧ x.claim.winner = true ∧ x.fbWaited 7 = true ∧
      x.claim.fbRun.length = 24 ∧ x.claim.fbOut.length = 24) ∧
    Meets { ((running.setObj O.fbRole 0x04000000).setObj (O.outFbInput 7) 0) with
        claim := { claiming := true, winHealthy := true }, now := 10 ^ 12,
        peerLo := { last := some { exch0 with status := 1, feedback := 1 } }, peerHi := { last := some { exch0 with status := 1 } } } (fun x =>
      x.claim.claiming = true ∧ x.claim.winHealthy = true ∧ x.claim.winner = false ∧ x.fbWaited 7 = true ∧
      x.fbReadings .l1 7 = [(1, false), (2, true), (3, false)] ∧ 3 ≤ (x.fbReadings .l1 7).length ∧ x.claim.fbRun.length = 24 ∧ x.claim.fbOut.length = 24) ∧
    Meets { peerLo := { lineIn := true }, peerHi := { lineIn := true } } (fun x => x.lineCounts .lo = true ∧
      x.lineCounts .hi = true ∧ x.gateCut = false) ∧
    Meets { gate := { emfLowSince := some 0, porSince := true }, now := 10000000 } (fun x => x.gate.emfLowSince = some 0 ∧
      0 + 10000000 ≤ x.now ∧ x.gateCut = false ∧ x.gate.porSince = true ∧ x.peerLo.lineIn = false ∧ x.peerHi.lineIn = false) := by
  and_intros <;> exact meets rfl (by decide)

theorem witness_LoadGroupsCommitAndTransfer :
    Meets ((({} : Lane).setRbit (Rg.pwmCtl .steer) 2 true).setFld (Rg.pwmLgctl .steer) 2 4 7) (fun x =>
      x.rbit (Rg.pwmCtl .steer) 2 = true ∧ x.fld (Rg.pwmLgctl .steer) 2 4 ≠ 0 ∧ x.fld (Rg.pwmLgctl .steer) 2 4 ≠ 15) ∧
    Meets (({} : Lane).setFld (Rg.pwmPerSh .steer) 0 16 0) (fun x => x.fld (Rg.pwmLgctl .steer) 2 4 = 0 ∧
      periodOk .steer (x.fld (Rg.pwmPerSh .steer) 0 16) = false) ∧
    Meets ((({} : Lane).setFld (Rg.pwmPerSh .steer) 0 16 10000).setRbit (Rg.pwmCtl .steer) 1 false) (fun x =>
      x.fld (Rg.pwmLgctl .steer) 2 4 = 0 ∧ x.rbit (Rg.pwmCtl .steer) 1 = false ∧
      periodOk .steer (x.fld (Rg.pwmPerSh .steer) 0 16) = true ∧ x.fld (Rg.pwmPerSh .steer) 0 16 = x.per .steer ∧
      9992 + 8 ≤ x.per .steer ∧ x.per .steer < 9993 + 8 ∧ x.rbit (Rg.pwmCtl .steer) 0 = false ∧ x.started = false ∧
      x.settle .steer 0 = x ∧ (x.stg .steer).coming = none ∧ x.e1Turn 0 = none) ∧
    Meets { running.setFld (Rg.pwmPerSh .steer) 0 16 12500 with steer := { driving := true } } (fun x => x.started = true ∧
      x.rbit (Rg.pwmCtl .steer) 0 = false ∧ periodOk .steer (x.shadow .steer).per = true ∧ (x.shadow .steer).per ≠ x.per .steer ∧
      x.steer.driving = true) ∧
    Meets { ({} : Lane) with steer := { coming := some (100, ⟨10000, [1, 2, 3]⟩) } } (fun x =>
      (x.stg .steer).coming = some (100, ⟨10000, [1, 2, 3]⟩) ∧ x.countAt .steer 100 = 25) ∧
    Meets { (({} : Lane).setFld (Rg.pwmCtl (.brake 7)) 0 2 3) with
        brakes := (Vector.replicate 8 {}).set 7 { pendNow := some ⟨12500, [1, 2, 3]⟩ } } (fun x =>
      x.rbit (Rg.pwmCtl (.brake 7)) 0 = true ∧ x.rbit (Rg.pwmCtl (.brake 7)) 1 = true ∧
      (x.stg (.brake 7)).pendNow = some ⟨12500, [1, 2, 3]⟩ ∧ 12500 = x.per (.brake 7) ∧ x.brakes[7].perReq = none ∧
      [1, 2, 3][2]? = some 3 ∧ (x.stg (.brake 7)).softFrom = none ∧ (x.stg (.brake 7)).atPoint = none) ∧
    Meets (({} : Lane).setFld (Rg.pwmCtl .steer) 0 2 3) (fun x => x.rbit (Rg.pwmCtl .steer) 0 = true ∧
      x.rbit (Rg.pwmCtl .steer) 1 = true ∧ (x.stg .steer).pendNow = none ∧ (x.stg .steer).atPoint = none) ∧
    Meets { tripped { softFrom := some 0 } with now := 2000 } (fun x => (x.stg .steer).softFrom.isSome = true ∧
      x.tripped .steer = true) ∧
    MeetsE1 { (({} : Lane).setFld (Rg.pwmCtl (.brake 7)) 0 2 3) with
        brakes := (Vector.replicate 8 {}).set 7 { pendNow := some ⟨12501, [1, 2, 3]⟩ } } (fun x =>
      x.rbit (Rg.pwmCtl (.brake 7)) 0 = true ∧ x.rbit (Rg.pwmCtl (.brake 7)) 1 = true ∧ x.settle (.brake 7) x.now = x ∧
      (x.stg (.brake 7)).atPoint = none ∧ (x.stg (.brake 7)).pendNow = some ⟨12501, [1, 2, 3]⟩ ∧ 12501 ≠ x.per (.brake 7)) ∧
    MeetsE1 { (({} : Lane).setFld (Rg.pwmCtl (.brake 7)) 0 2 3) with brakes := (Vector.replicate 8 {}).set 7 { perReq := some 12501 } } (fun x =>
      x.rbit (Rg.pwmCtl (.brake 7)) 0 = true ∧ x.settle (.brake 7) x.now = x ∧ x.brakes[7].atPoint = none ∧
      x.brakes[7].pendNow = none ∧ x.brakes[7].perReq = some 12501) ∧
    MeetsE1 { (({} : Lane).setFld (Rg.pwmCtl (.brake 7)) 0 2 3) with brakes := (Vector.replicate 8 {}).set 7 { atPoint := some none } } (fun x =>
      x.rbit (Rg.pwmCtl (.brake 7)) 0 = true ∧ x.rbit (Rg.pwmCtl (.brake 7)) 1 = true ∧ x.settle (.brake 7) x.now = x ∧
      x.brakes[7].atPoint = some none) ∧
    MeetsE1 { (({} : Lane).setFld (Rg.pwmCtl (.brake 7)) 0 2 3) with brakes := (Vector.replicate 8 {}).set 7 { atPoint := some (some [1, 2, 3]) } }
      (fun x => x.rbit (Rg.pwmCtl (.brake 7)) 0 = true ∧ x.rbit (Rg.pwmCtl (.brake 7)) 1 = true ∧ x.settle (.brake 7) x.now = x ∧
      x.brakes[7].atPoint = some (some [1, 2, 3]) ∧ x.brakes[7].perReq = none) ∧
    MeetsE1 {} (fun x => x.rbit (Rg.pwmCtl (.brake 7)) 0 = false) := by
  and_intros <;> (first | refine meetsE1 ?_ ?_ | refine meets rfl ?_) <;> decide

theorem witness_EdgesAreRecordedAndReservesSpent :
    Meets (({} : Lane).setRbit Rg.etCtl 0 false) (fun x => x.rbit Rg.etCtl 0 = false) ∧
    Meets (({} : Lane).setRbit Rg.etCtl 0 true) (fun x => x.rbit Rg.etCtl 0 = true ∧
      (x.stg .steer).openRecs.length < bufferSize .steer) ∧
    Meets { (({} : Lane).setRbit Rg.etCtl 0 true) with
        steer := { openRecs := List.replicate (bufferSize .steer) ⟨0, 0, false, false, false, false, false, false, false, 0, 0, 0⟩ } }
      (fun x => x.rbit Rg.etCtl 0 = true ∧ bufferSize .steer ≤ (x.stg .steer).openRecs.length) ∧
    Meets (((({} : Lane).setRbit Rg.etCtl 0 true).setRbit Rg.etCtl 2 true).setFld Rg.gdProbe1 0 8 1) (fun x =>
      x.rbit Rg.etCtl 0 = true ∧ x.rbit Rg.etCtl 2 = true ∧ x.probeRef (switchIx ⟨.w, true⟩) ≠ 0 ∧ x.steer.openRecs.length < bufferSize .steer) ∧
    Meets { (((({} : Lane).setRbit Rg.etCtl 0 true).setRbit Rg.etCtl 2 true).setFld Rg.gdProbe1 0 8 1) with
        steer := { openRecs := List.replicate (bufferSize .steer) ⟨0, 0, false, false, false, false, false, false, false, 0, 0, 0⟩ } } (fun x =>
      x.rbit Rg.etCtl 0 = true ∧ x.rbit Rg.etCtl 2 = true ∧ x.probeRef (switchIx ⟨.w, true⟩) ≠ 0 ∧ bufferSize .steer ≤ x.steer.openRecs.length) ∧
    Meets (({} : Lane).setObj O.variantCode 1) (fun x => (7 : Fin 8).val < x.nDrives) ∧ Meets {} (fun x => x.nDrives ≤ (0 : Fin 8).val) := by
  and_intros <;> exact meets rfl (by decide)

theorem witness_SupervisionFindsTheLossOfTheRotor :
    MeetsE1 {} (fun x => (x.loop 0).fresh = false ∧ x.spv.state ≠ 1 ∧ x.spv.last = none) ∧
    Meets { spv := { state := 1 } } (fun x => x.spv.state = 1 ∧ x.now < x.spv.lossAt + 1000000) ∧
    MeetsE1 { (({} : Lane).setObj O.supChAngle 0) with mx := { loops := (Vector.replicate 9 {}).set 0 { fresh := true } } } (fun x =>
      (x.loop 0).fresh = true ∧ x.usableAngles .l1 = [] ∧ x.obj O.supChAngle < 24 ∧
      (x.innov (x.obj O.supChAngle)).natAbs ≤ 0x0AAAAAAB ∧ x.spv.state = 0) ∧
    MeetsE1 { (({} : Lane).setObj O.supChAngle 0) with spv := { state := 1, relockRun := 7, carried := true }, now := 1000000, mx := { loops := (Vector.replicate 9 {}).set 0 { fresh := true } } } (fun x =>
      (x.loop 0).fresh = true ∧ x.usableAngles .l1 = [] ∧ (x.innov (x.obj O.supChAngle)).natAbs ≤ 0x038E38E4 ∧ x.spv.state = 1 ∧
      x.spv.relockRun = 7 ∧ x.spv.carried = true ∧ x.spv.lossAt + 1000000 ≤ x.now) ∧
    MeetsE1 { (({} : Lane).setObj O.supChAngle 0) with spv := { state := 1 }, mx := { loops := (Vector.replicate 9 {}).set 0 { fresh := true } } } (fun x =>
      (x.loop 0).fresh = true ∧ x.usableAngles .l1 = [] ∧ x.spv.state = 1 ∧ x.spv.carried = false) ∧
    MeetsE1 { (({} : Lane).setObj O.supChAngle 0) with spv := { lossRun := 2 }, mx := { loops := (Vector.replicate 9 {}).set 0 { fresh := true, yCopy := [0x0AAAAAAC] } } } (fun x =>
      x.usableAngles .l1 = [] ∧ 0x0AAAAAAB < (x.innov (x.obj O.supChAngle)).natAbs ∧ x.spv.lossRun = 2 ∧ x.spv.state = 0) ∧
    MeetsE1 { (((({} : Lane).setObj O.supChAngle 0).setObj (O.supInnovLim 23) 1).setObj O.supInnovN 1) with
        mx := { loops := (Vector.replicate 9 {}).set 0 { fresh := true, yCopy := List.replicate 23 0 ++ [2] } } } (fun x =>
      x.usableAngles .l1 = [] ∧ x.checkedCh 23 = true ∧ x.obj (O.supInnovLim 23) < (x.innov 23).natAbs ∧
      nth x.spv.innRun 23 + 1 = x.obj O.supInnovN) ∧
    MeetsE1 (({} : Lane).setObj O.supChAngle 24) (fun x => 24 ≤ x.obj O.supChAngle ∧ x.usableAngles .l1 = []) ∧
    MeetsE1 { ((({} : Lane).setObj O.supChAngle 24).setObj O.steerSetDisp 0) with
        mx := { loops := (Vector.replicate 9 {}).set 0 { fresh := true, commitNos := [exch0.sampleNo.toNat] } }, smp := { own := some exch0 },
        spv := { minorRun := 7 },
        peerLo := { now := some { exch0 with status := 1, angleStatus := 1, rotorAngle := 0x4000 } },
        peerHi := { now := some { exch0 with status := 1, angleStatus := 1, rotorAngle := 0x4000 } } } (fun x =>
      x.spv.minorRun = 7 ∧ x.spv.state ≠ 1 ∧ exch0.sampleNo.toNat ∈ (x.loop 0).commitNos ∧ x.spv.agreeNo ≠ some exch0.sampleNo.toNat ∧
      x.anglesDue .l1 = true ∧ (x.usableAngles .l1).length = 2 ∧ x.ownFrameOf exch0.sampleNo = some exch0 ∧
      (x.usableAngles .l1).map (fun u => u.2.1) = [0x4000 * 36000, 0x4000 * 36000] ∧ x.anglesDiffer 0 (0x4000 * 36000) = true ∧
      x.anglesDiffer (0x4000 * 36000) (0x4000 * 36000) = false ∧ 24 ≤ x.obj O.supChAngle ∧ (x.angleAgreement .l1).spv.state = 1) ∧
    MeetsE1 {} (fun x => x.anglesDue .l1 = false ∧ x.usableAngles .l1 = []) := by
  and_intros <;> (first | refine meetsE1 ?_ ?_ | refine meets rfl ?_) <;> decide

theorem witness_StopsAndBrakeEnergyActAtTheirTimes :
    Meets { (({} : Lane).setObj O.hostState 1) with now := 10 ^ 12 } (fun x => x.obj O.hostState = 1 ∧
      x.shape.lostAt + 1000000 * x.obj O.hostLossHold ≤ x.now) ∧
    Meets { claim := { stopFrom := some 0 } } (fun x => x.claim.stopFrom = some 0 ∧ x.obj O.hostState ≠ 1 ∧ x.obj O.stopState ≠ 1 ∧
      x.shape.l1Below = none ∧ 0 < x.obj O.bermL3 ∧ bitOf (x.coll.spall 0x17).flags 0 = false) ∧
    Meets { (({} : Lane).setObj O.stopState 1) with shape := { l1Below := some 0, l2Below := some 0 }, now := 10 ^ 13 } (fun x =>
      x.obj O.stopState = 1 ∧ x.shape.trimAt + 100000000 ≤ x.now ∧ x.shape.prevSpeed = none ∧ x.shape.l1Below = some 0 ∧
      0 + 1000000 * x.obj O.bermExitTime ≤ x.now ∧ x.shape.l2Below = some 0 ∧ x.obj O.bermL3 ≤ 100000 ∧ x.claim.stopFrom = none ∧
      x.standstill = true ∧ x.speedInput = none) ∧
    Meets { (((({} : Lane).setObj O.stopState 1).setObj O.stopSpeedInput 0).setObj (O.voteEnable 0) 1) with
        shape := { prevSpeed := some 1, trimAt := 1 }, now := 100000001, votes := Vector.replicate 10 { now := true } } (fun x =>
      x.obj O.stopState = 1 ∧ x.speedInput.isSome = true ∧ x.shape.prevSpeed = some 1 ∧ x.shape.trimAt + 100000000 ≤ x.now) ∧
    Meets { (((({} : Lane).setObj O.stopState 1).setObj O.stopSpeedInput 0).setObj (O.voteEnable 0) 1) with
        shape := { trimAt := 1 }, now := 100000000, votes := Vector.replicate 10 { now := true } } (fun x =>
      x.obj O.stopState = 1 ∧ x.speedInput.isSome = true ∧ x.shape.prevSpeed = none ∧ x.now < x.shape.trimAt + 100000000) ∧
    Meets { ((({} : Lane).setObj O.bermAutoClear 1)) with shape := { l1Below := some 0 }, now := 10 ^ 13, coll := { recs := [{ src := 0x17, count := 1, flags := 1 }], asserted := [0x17] } } (fun x =>
      x.flag O.bermAutoClear = true ∧ x.shape.l1Below = some 0 ∧ 0 + 1000000 * x.obj O.bermClearWait ≤ x.now ∧
      bitOf (x.coll.spall 0x17).flags 0 = true ∧
      ({ x with coll := { x.coll with asserted := removeAsc 0x17 x.coll.asserted } } : Lane).judgeClear = 1) := by
  and_intros <;> exact meets rfl (by decide)

/-- A lane with brake drive 7 as given. -/
def drv (d : BrakeDrv) : Lane := ({ brk := { drv := (Vector.replicate 8 {}).set 7 d } } : Lane).setObj O.variantCode 1

theorem witness_HallCodesMoveADriveOrFaultIt :
    Meets {} (fun x => x.nDrives ≤ (7 : Fin 8).val) ∧
    Meets (drv { code := 5, lastValid := some 5, inService := true, faults := [true, true, true] }) (fun x =>
      (7 : Fin 8).val < x.nDrives ∧ (2 : BitVec 3).toNat ≠ (x.bd 7).code ∧ (x.bd 7).lastValid = some 5 ∧
      (∃ a < 6, ∃ b < 6, sectorOf (x.flag (O.bdDir 7)) 5 = some a ∧ sectorOf (x.flag (O.bdDir 7)) (2 : BitVec 3).toNat = some b ∧
        2 ≤ (b + 6 - a) % 6 ∧ (b + 6 - a) % 6 ≤ 4) ∧ (x.bd 7).inService = true ∧
      4 ≤ (((true :: (x.bd 7).faults).take 64).filter id).length) ∧
    Meets (drv { code := 5, lastValid := some 5 }) (fun x => (7 : Fin 8).val < x.nDrives ∧ (5 : BitVec 3).toNat = (x.bd 7).code ∧ (1 : BitVec 3).toNat ≠ (x.bd 7).code ∧
      (x.bd 7).lastValid = some 5 ∧ (∃ a < 6, ∃ b < 6, sectorOf (x.flag (O.bdDir 7)) 5 = some a ∧
        sectorOf (x.flag (O.bdDir 7)) (1 : BitVec 3).toNat = some b ∧ (b = (a + 1) % 6 ∨ a = (b + 1) % 6)) ∧
      sectorOf (x.flag (O.bdDir 7)) (7 : BitVec 3).toNat = none ∧ (((x.bd 7).faults.take 63).filter id).length < 4) ∧
    Meets (drv {}) (fun x => (7 : Fin 8).val < x.nDrives ∧ (5 : BitVec 3).toNat ≠ (x.bd 7).code ∧ (x.bd 7).lastValid = none ∧
      (sectorOf (x.flag (O.bdDir 7)) (5 : BitVec 3).toNat).isSome = true ∧ (x.bd 7).mode ≠ 6) ∧
    Meets { drv {} with now := 2000000 } (fun x => (7 : Fin 8).val < x.nDrives ∧ (x.bd 7).code = 0 ∧ (x.bd 7).changeAt + 2000000 ≤ x.now ∧ (x.bd 7).inService = true) ∧
    Meets { drv { code := 6, mode := 6 } with now := 100000000 } (fun x => 1 ≤ (x.bd 7).code ∧ (x.bd 7).code ≤ 6 ∧
      (x.bd 7).changeAt + 100000000 ≤ x.now ∧ (x.bd 7).mode = 6 ∧
      (7 : Fin 8).val < x.nDrives ∧ (x.bd 7).changeAt + 50000000 ≤ x.now) := by
  and_intros <;> exact meets rfl (by decide)

theorem witness_DrivesParkLockAndRetract :
    Meets { drv { mode := 3, nearSince := some 0 } with now := 100000000 } (fun x => (x.bd 7).mode = 3 ∧ (x.bd 7).nearSince = some 0 ∧
      0 + 100000000 ≤ x.now) ∧
    Meets (drv { mode := 4 }) (fun x => (x.bd 7).mode = 4 ∧ (x.bd 7).zeroAt = none ∧ (x.bd 7).parkLock = false) ∧
    Meets { drv { mode := 4, zeroAt := some 0 } with now := 200000000 } (fun x => (x.bd 7).mode = 4 ∧ (x.bd 7).zeroAt = some 0 ∧
      0 + 200000000 ≤ x.now ∧ (x.bd 7).parkLock = false ∧ (x.bd 7).lockPos ≤ (x.bd 7).lockLow + x.countsOf (wheelOf .l1 7) (x.obj O.bwParkSlip)) ∧
    Meets { (drv { mode := 4, zeroAt := some 0, lockPos := 60000, lockTry := 1 }).setObj (O.weTravel 11) 1000 with now := 200000000 } (fun x => (x.bd 7).mode = 4 ∧
      (x.bd 7).zeroAt = some 0 ∧ (x.bd 7).parkLock = false ∧ (x.bd 7).lockTry ≠ 0 ∧
      (x.bd 7).lockLow + x.countsOf (wheelOf .l1 7) (x.obj O.bwParkSlip) < (x.bd 7).lockPos) ∧
    Meets (drv { mode := 4, parkLock := true }) (fun x => (x.bd 7).mode = 4 ∧ (x.bd 7).parkLock = true ∧ (x.bd 7).nearSince = none ∧
      (x.bd 7).zeroSince = none ∧ laneNo .l3 = (partnerOf .l1 7).1) ∧
    Meets { drv { mode := 5, since := [some 0, none, some 0] } with now := 500000000 } (fun x => (x.bd 7).mode = 5 ∧
      (x.bd 7).unlockAt + 500000000 ≤ x.now ∧ (x.bd 7).since.getD 2 none = some 0 ∧ (x.bd 7).since.getD 0 none = some 0 ∧
      0 + 50000000 ≤ x.now) ∧
    Meets { (((drv { zeroSince := some 0, originOk := true }).setObj O.variantCode 1).setObj (O.weFitted 11) 1) with now := 10 ^ 13 } (fun x => (x.bd 7).zeroSince = some 0 ∧
      0 + 1000000 * x.obj O.bwRetractDelay ≤ x.now ∧ ((x.bd 7).mode = 0 ∨ (x.bd 7).mode = 2) ∧ (x.bd 7).wantHome = false ∧
      x.fittedD .l1 7 = true ∧ x.brk.parkOn = false) ∧
    Meets ((drv { originOk := true }).setObj O.lcStateObj 4) (fun x => x.obj O.lcStateObj = 4 ∧ (12 : BitVec 8).toNat ≤ 12 ∧
      x.brk.releasing = false ∧ (x.bd 7).originOk = true ∧ (7 : Fin 8).val < x.nDrives) := by
  and_intros <;> exact meets rfl (by decide +kernel)

theorem witness_EnginesKickAndExchangeWords :
    MeetsE1 {} (fun x => x.e1Late = false ∧ x.kickLate 7 = false ∧ x.islandStopped 6 = false ∧ x.mbxFull 7 6 = false) ∧
    Meets {} (fun x => ownedEngine 2 = true ∧ ownedEngine 7 = false ∧ x.eng.kickAt.getD 7 none = none ∧ x.e1Late = false ∧
      x.kickLate 7 = false ∧ (7 : Fin 8) ≠ 6 ∧ x.mbxFull 7 6 = false ∧ x.flag (O.dbFull 3) = false ∧ x.started = false ∧
      x.islandStopped 6 = false ∧ x.islandStopped 7 = false) ∧
    Meets running (fun x => x.started = true) ∧
    Meets ((({} : Lane).setFld Rg.pwrStat 0 3 2).setObj (O.dbFull 3) 1) (fun x => x.islandStopped 0 = false ∧ x.islandStopped 6 = true ∧ x.mbxFull 0 6 = false ∧
      x.flag (O.dbFull 3) = true ∧ x.eng.dbTo.getD 3 none = none ∧ x.eng.held = []) ∧
    Meets { eng := { kickAt := List.replicate 8 (some 0) }, now := 100000 } (fun x => x.eng.kickAt.getD 7 none = some 0 ∧
      0 + 100000 ≤ x.now ∧ x.now ≤ 0 + 2000000) ∧
    Meets { (({} : Lane).setRbit Rg.engStat 7 true) with eng := { kickAt := List.replicate 8 (some 0) }, now := 2000001 } (fun x =>
      x.eng.kickAt.getD 7 none = some 0 ∧ 0 + 2000000 < x.now ∧ x.kickLate 7 = true) ∧
    MeetsE1 (({} : Lane).setRbit (Rg.mbxStat 0 6) 0 true) (fun x => x.mbxFull 0 6 = true ∧ x.islandStopped 6 = false) ∧
    Meets { ((({} : Lane).setRbit (Rg.mbxStat 0 6) 0 true).setObj (O.dbFull 3) 1) with
        eng := { dbTo := List.replicate 4 (some 6) } } (fun x => x.mbxFull 0 6 = true ∧ x.eng.dbTo.getD 3 none = some 6 ∧
      x.flag (O.dbFull 3) = true ∧ (0 : Fin 8) ≠ 6) ∧
    Meets (({} : Lane).setObj (O.dbFull 3) 1) (fun x => x.flag (O.dbFull 3) = true ∧ x.eng.dbTo.getD 3 none = none ∧
      x.mbxFull 0 (x.obj (O.dbRoute 3)) = false ∧ x.eng.held = [] ∧ x.obj (O.dbRoute 3) < 8 ∧ x.islandStopped (x.obj (O.dbRoute 3)) = false) := by
  and_intros <;> (first | refine meetsE1 ?_ ?_ | refine meets rfl ?_) <;> decide

theorem witness_ScrubbingMonitorsAndRegisters :
    MeetsE1 { mx := { cur := some 3, pc := none }, now := 0 } (fun x => x.mx.cur = some 3 ∧ x.bank1Active = false ∧ isMemory 3 = true ∧
      x.wordOfLoop 3 3 0xC00 = true ∧ x.wordOfLoop 3 3 0x800 = false) ∧
    Meets {} (fun x => regAt Rg.gdCtl.addr = some Rg.gdCtl ∧ regAt Rg.collInj.addr = some Rg.collInj ∧ bits 0x106 0 8 = 6 ∧ bitOf 0x106 8 = true ∧
      x.gateCut = false) ∧
    Meets {} (fun x => x.gateCut = false ∧ ownRowMask (Rg.pwmPerSh .steer).addr = 0 ∧ (Rg.pwmPerSh .steer).addr ≠ Rg.pwrCtl.addr ∧
      regAt (Rg.pwmPerSh .steer).addr = some (Rg.pwmPerSh .steer) ∧ x.eng.ageDue = false ∧ x.inActive 0x50000000 = true ∧ x.inActive 0x50400000 = false) ∧
    Meets { eng := { ageDue := true } } (fun x => x.eng.ageDue = true) ∧
    Meets {} (fun x => isMemory 1 = true ∧ isMemory 13 = true ∧ isMemory 0 = false ∧ isMemory 14 = false ∧
      bits (x.obj O.memCorrected) (32 * (15 - 13)) 32 + 1 < 2 ^ 32 ∧ kvGet 0 x.eng.scrub 0 ≠ 2 ∧
      (0 ∈ writers 0x1017FFFC ∧ 0x1017FFFC / 4 * 4 + 4 ≤ memTop 0x1017FFFC) ∧
      (0 ∈ writers 0x10FFFFFC ∧ memTop 0x10FFFFFC < 0x10FFFFFC / 4 * 4 + 4) ∧ 5 ∉ writers 0x40050000 ∧
      (0 ∈ writers Rg.pwrCtl.addr ∧ regAt Rg.pwrCtl.addr = some Rg.pwrCtl ∧ 0x18000000 ≤ Rg.pwrCtl.addr ∧ Rg.pwrCtl.addr < 0x50000000) ∧
      regAt 0x60000000 = none) ∧
    Meets { eng := { scrub := [(13 * 2 ^ 32, 2)] } } (fun x => kvGet 0 x.eng.scrub (13 * 2 ^ 32) = 2) ∧
    Meets (({} : Lane).setFld Rg.pwrStat 0 3 2) (fun x => 2 ≤ x.fld Rg.pwrStat 0 3) ∧
    Meets (({} : Lane).setFld Rg.pwrStat 0 3 1) (fun x => x.fld Rg.pwrStat 0 3 < 2 ∧ x.memStopped 3 = false ∧ x.memStopped 13 = false) ∧
    Meets (({} : Lane).setFld Rg.pwrStat 0 3 2) (fun x => x.memStopped 3 = true ∧ isMemory 3 = true) := by
  and_intros <;> (first | refine meetsE1 ?_ ?_ | refine meets rfl ?_) <;> decide

theorem witness_NetworkTimeAndGatesFollowTheirPort :
    Meets {} (fun x => (x.net.port .netA).timeValid 0 = false ∧ (x.net.port .netA).linkUp = true ∧ x.obj O.netTimeSource = 0) ∧
    Meets (({ net := { seen := some (1, 0, 7), slewAt := 5 } } : Lane).setObj O.netTimeSource 3) (fun x => x.net.seen = some (1, 0, 7) ∧
      x.obj O.netTimeSource = 3 ∧ x.net.slewAt ≠ 0 ∧ 0 < 1) ∧
    Meets (({ net := { seen := some (1, 0, 7), a := { tx := some (⟨0, 0, 0, 4, 0, 0, 0, 0, 0, true, 0, false, 0, [], [], 0, []⟩, 2000) } } } : Lane).setObj
      O.netTimeSource 1) (fun x => (∀ e, x.net.seen = some e → e.1 = 1) ∧ x.net.slewAt = 0 ∧ max 10 ((x.net.port .netA).txAt + 576) + 608 ≤ 2000) ∧
    Meets { net := { a := { timeOk := true, syncEvery := 5 } } } (fun x => (x.net.port .netA).timeValid 15 = true ∧
      (x.net.port .netA).timeValid 16 = false) ∧
    Meets ((({ net := { slewAt := 5, a := { tx := some (⟨0, 0, 0, 4, 0, 0, 0, 0, 0, true, 0, false, 0, [], [], 0, []⟩, 20) } } } : Lane).setObj O.netTimeSource 1).setObj O.netGateEn 1)
      (fun x => x.obj O.netTimeSource = 1 ∧ x.net.slewAt ≠ 0 ∧ x.windowAt 10 = 0 ∧ classOpen (x.windowAt 10) 4 = false ∧
        (x.net.port .netA).tx = some (⟨0, 0, 0, 4, 0, 0, 0, 0, 0, true, 0, false, 0, [], [], 0, []⟩, 20) ∧ 20 < max 10 ((x.net.port .netA).txAt + 576) + 608 ∧ (x.net.port .netA).queue = []) ∧
    Meets { net := { a := { linkUp := false } } } (fun x => (x.net.port .netA).linkUp = false ∧ (x.net.port .netA).tx = none ∧
      (x.net.port .netA).cut = none ∧ (x.net.port .netA).queue = []) := by
  and_intros <;> exact meets rfl (by decide +kernel)

/-- A frame of class `cls` for lane 1 of a module that is not enrolled, on network A, in one segment. -/
def rxFor (cls pcp : Nat) : Ingress :=
  { net := .netA, stamp := 0, fcsOk := true, tpid := 0x8100, dei := false, vid := some (BitVec.ofNat 12 (({} : Lane).obj O.netVidA)),
    pcp := BitVec.ofNat 3 pcp, sectag := false, tci := 0, an := 0, sl := 0, pn := 0, sci := 0, icvOk := false, etherType := 0x88B5, version := 0x10, msgType := 0,
    seg := BitVec.ofNat 8 (32 * pcp + 16), source := 0, stream := BitVec.ofNat 16 (cls * 4096 + 1024), rseq := 32768, unit := 0x3FFFF,
    length := 56, frameRoom := 1408, reserved := 0, srcMac := 1, dstMac := 0 }

/-- A running lane with a session under number 1 of the station with MAC address 1, and a history `h` of its class-1 stream. -/
def hosted (h : List (Nat × Hist)) : Lane := { running with sess := { num := some 1, mac := 1, pair := some (0, 0) }, net := { hist := h } }

theorem witness_ReceivedFramesPassTheStepsInOrder :
    Meets {} (fun x => x.netUp = false) ∧
    Meets (hosted []) (fun x => x.netUp = true ∧ (rxFor 1 6).vid.map (fun w => w.toNat) = some (x.obj O.netVidA) ∧
      (x.police (rxFor 1 6)).1 = true ∧ (x.macsec (rxFor 1 6)).1 = true ∧ x.headerOk .l1 (rxFor 1 6) 1 false = true ∧
      kvFind x.net.hist (streamKey (rxFor 1 6).srcMac.toNat (rxFor 1 6).stream.toNat) = none ∧
      x.headerOk .l1 (rxFor 1 6) 3 false = false ∧ (x.macsec { rxFor 1 6 with sectag := true }).1 = false ∧
      ((x.updPort .netA fun p => { p with expressTill := 1 }).police (rxFor 3 4)).1 = false ∧ ¬ 1522 < (rxFor 1 6).frameRoom + 38 ∧
      1522 < ({ rxFor 1 6 with frameRoom := 1485 } : Ingress).frameRoom + 38 ∧
      ({ rxFor 1 6 with vid := none } : Ingress).vid.map (fun w => w.toNat) ≠ some (x.obj O.netVidA)) ∧
    Meets (hosted [(streamKey 1 0x1400, ⟨32768, 1, 0, false⟩)]) (fun x =>
      x.net.hist = [(streamKey (rxFor 1 6).srcMac.toNat (rxFor 1 6).stream.toNat, ⟨32768, 1, 0, false⟩)] ∧
      (rxFor 1 6).stamp < 0 + 100000000 ∧ (rxFor 1 6).rseq.toNat = 32768) ∧
    Meets (hosted [(streamKey 1 0x1400, ⟨0, 1, 0, false⟩)]) (fun x =>
      x.net.hist = [(streamKey (rxFor 1 6).srcMac.toNat (rxFor 1 6).stream.toNat, ⟨0, 1, 0, false⟩)] ∧
      32767 < ((rxFor 1 6).rseq.toNat + 65536 - 0) % 65536 ∧ ((rxFor 1 6).rseq.toNat + 65536 - 0) % 65536 ≤ 65504) ∧
    Meets (hosted [(streamKey 1 0x1400, ⟨32800, 0x80000001, 0, false⟩)]) (fun x =>
      kvFind x.net.hist (streamKey (rxFor 1 6).srcMac.toNat (rxFor 1 6).stream.toNat) = some ⟨32800, 0x80000001, 0, false⟩ ∧
      ((rxFor 1 6).rseq.toNat + 65536 - 32800) % 65536 = 65504 ∧ ((32769 : Nat) + 65536 - 32800) % 65536 = 65505 ∧
      65504 < 65505 ∧ bitOf 0x80000001 (65536 - 65505) = true ∧ bitOf 0x80000001 (65536 - 65506) = false) ∧
    Meets (hosted [(streamKey 1 0x1400, ⟨32767, 1, 0, false⟩)]) (fun x =>
      kvFind x.net.hist (streamKey (rxFor 1 6).srcMac.toNat (rxFor 1 6).stream.toNat) = some ⟨32767, 1, 0, false⟩ ∧
      ((rxFor 1 6).rseq.toNat + 65536 - 32767) % 65536 = 1 ∧ (rxFor 1 6).stamp < 0 + 100000000 ∧
      0 + 100000000 ≤ ({ rxFor 1 6 with stamp := 100000000 } : Ingress).stamp) := by
  and_intros <;> exact meets rfl (by decide +kernel)

theorem witness_KeyAgreementRunsOneExchange :
    Meets running (fun x => (x.ingress .l1 (rxFor 6 3) 6 false).1 = true ∧ (x.ingress .l1 (rxFor 6 3) 6 false).2.ka.due = none ∧
      (x.ingress .l1 (rxFor 6 3) 6 false).2.sess.num = none ∧ x.ka.hellos.length < 4 ∧ x.ka.phase = .idle ∧ x.ka.phase.busy = false ∧
      (x.ingress .l1 (rxFor 6 3) 6 true).1 = (x.ingress .l1 (rxFor 6 3) 6 false).1 ∧
      x.helloReason (rxFor 6 3) ⟨0, 1, 0⟩ [] [] ≠ 0 ∧ (x.ingress .l1 (rxFor 1 6) 6 false).1 = false ∧ x.kaLate 0 = false) ∧
    Meets ((running.setOct (O.hostKey 3) [1]).setOct O.idCert [1]) (fun x =>
      x.helloReason (rxFor 6 3) ⟨3, 1, 0⟩ (List.replicate 32 0) (List.replicate 1184 0) = 0) ∧
    Meets { running with ka := { phase := .reply, hellos := [0, 0, 0, 0], xid := 7 } } (fun x => (x.ingress .l1 (rxFor 6 3) 6 false).1 = true ∧
      (x.ingress .l1 (rxFor 6 3) 6 false).2.ka.phase = .reply ∧ x.kaLate 1000000000 = false ∧ x.kaLate 1000000001 = true ∧
      4 ≤ x.ka.hellos.length ∧ x.ka.phase.busy = true ∧ x.ka.xid ≠ (⟨0, 1, 8⟩ : KaPrefix).xid.toNat) ∧
    Meets { running with ka := { phase := .late, due := some (4, 1), xid := 7, session := 1, mac := 1 } } (fun x =>
      (x.ingress .l1 (rxFor 6 3) 6 true).1 = true ∧
      (x.ingress .l1 (rxFor 6 3) 6 true).2.ka.due = some (4, (rxFor 6 3).srcMac.toNat) ∧ x.ka.phase = .late ∧ x.ka.phase.busy = false ∧
      (rxFor 6 3).stamp ≤ x.ka.replyAt + 1000000000 ∧ x.ka.replyAt + 1000000000 < 1000000001) ∧
    Meets (hosted []) (fun x => x.sess.num = some 1 ∧ newerSession 1 1 = false ∧ (rxFor 6 3).srcMac.toNat = x.sess.mac ∧ 0 = x.sess.key ∧
      newerSession 2 1 = true) ∧
    Meets { running with ka := { phase := .reply, xid := 7, session := 1, mac := 1, conf := [(0, List.replicate 1396 0)] } } (fun x =>
      ({ rxFor 6 3 with seg := 113 } : Ingress).seg.toNat = 113 ∧ (x.ingress .l1 { rxFor 6 3 with seg := 113 } 6 false).1 = true ∧
      bits 113 0 4 = 1 ∧ bitOf 113 4 = true ∧
      x.ka.phase = .reply ∧ x.ka.xid = (⟨0, 1, 7⟩ : KaPrefix).xid.toNat ∧ x.ka.session = 1 ∧ x.ka.key = 0 ∧ x.ka.mac = (rxFor 6 3).srcMac.toNat ∧
      (∀ j ≤ 1, ∃ e ∈ kvPut 1 (List.replicate 1024 (0 : Byte) ++ List.replicate 32 0) x.ka.conf, e.1 = j) ∧
      ((List.range 2).flatMap fun j => kvGet [] (kvPut 1 (List.replicate 1024 (0 : Byte) ++ List.replicate 32 0) x.ka.conf) j).length = 2452 ∧
      ((List.range 2).flatMap fun j => kvGet [] (kvPut 1 [(0 : Byte)] x.ka.conf) j).length ≠ 2452) ∧
    Meets { ka := { phase := .hello } } (fun x => x.ka.phase = .hello ∧ x.ka.phase ≠ .confirmed) ∧
    Meets { ka := { phase := .confirmed } } (fun x => x.ka.phase = .confirmed ∧ x.ka.phase ≠ .hello) := by
  and_intros <;> exact meets rfl (by decide +kernel)

/-- A Demand of session 1. -/
def demandOf (epoch : BitVec 16) (seq : BitVec 32) : DemandPayload := ⟨1, epoch, seq, 0, List.replicate 6 0, List.replicate 40 0⟩

/-- What a Demand meets: it is delivered to `x`'s open session, whole and in time. -/
def Delivered (x : Lane) : Prop :=
  ((x.sessionAt 0).ingress .l1 (rxFor 1 6) 1 false).1 = true ∧
    ((x.sessionAt 0).ingress .l1 (rxFor 1 6) 1 false).2.bound (rxFor 1 6) 1 = true ∧
    ((x.sessionAt 0).ingress .l1 (rxFor 1 6) 1 false).2.sess.pair = x.sess.pair ∧ (rxFor 1 6).length.toNat = 56

theorem witness_DemandPairsAreJudgedSerially :
    Meets (hosted []) (fun x => Delivered x ∧ x.sess.pair = some (0, 0) ∧ demandZero (demandOf 0 0) = true ∧
      ((demandOf 0 0).epoch.toNat + 65536 - 0) % 65536 = 0 ∧ ((demandOf 0 0).seq.toNat + 2 ^ 32 - 0) % 2 ^ 32 = 0 ∧
      ((demandOf 0 0x7FFFFFFF).seq.toNat + 2 ^ 32 - 0) % 2 ^ 32 = 2 ^ 31 - 1 ∧
      ((demandOf 0 1).seq.toNat + 2 ^ 32 - 0) % 2 ^ 32 = 1 ∧ ((demandOf 1 0).epoch.toNat + 65536 - 0) % 65536 = 1 ∧
      ((demandOf 32767 0).epoch.toNat + 65536 - 0) % 65536 = 32767 ∧
      32767 < ((demandOf 32768 0).epoch.toNat + 65536 - 0) % 65536 ∧
      2 ^ 31 ≤ ((demandOf 0 0x80000000).seq.toNat + 2 ^ 32 - 0) % 2 ^ 32) ∧
    Meets { hosted [] with sess := { (hosted []).sess with pair := none } } (fun x => Delivered x ∧ x.sess.pair = none) := by
  and_intros <;> exact meets rfl (by unfold Delivered; decide +kernel)

theorem witness_DemandsAreDiscardedAndReported :
    Meets (hosted []) (fun x => Delivered x ∧ x.txn.reportDue = [] ∧
      demandZero ⟨1, 0, 0, 2, [], []⟩ = false ∧ x.bound (rxFor 1 6) 2 = false) ∧
    Meets { running with txn := { reportDue := [⟨1, 10 ^ 9, 5, 10 ^ 9, false, false⟩, ⟨1, 0, 4, 0, false, true⟩] }, now := 10 ^ 9 } (fun x =>
      x.txn.reportDue = [⟨1, 10 ^ 9, 5, 10 ^ 9, false, false⟩] ++ ⟨1, 0, 4, 0, false, true⟩ :: [] ∧ x.now < 10 ^ 9 + 5000 ∧
      0 + 1000 * (x.obj O.netDemandWin + x.obj O.netReportWin) ≤ x.now ∧
      x.netUp = true ∧ x.mute = false ∧ 0 + 1000 * x.obj O.netDemandWin ≤ x.now ∧ 0 + 5000 ≤ x.now) ∧
    Meets (running.setObj O.lcStateObj 3) (fun x => x.mute = true) := by
  and_intros <;> exact meets rfl (by first | decide +kernel | (unfold Delivered; decide +kernel))

/-- The head of a request with OP `op` and tag `tag` of session 1. -/
def headOf (op : BitVec 8) (tag : BitVec 16) : TxnHead := ⟨1, tag, op, 0x1000, 1, 4, 0, 0⟩

theorem witness_RequestsRunWhenTheirTagLetsThem :
    Meets (hosted []) (fun x => x.flag O.quietActive = false ∧ kvFind (x.tagTable false) ((headOf 1 0x18).tag.toNat / 16) = none ∧
      x.txn.opened.length < 16 ∧ (x.takeSegment .l1 (rxFor 3 4) (headOf 1 0x18) []).1 = some (headOf 1 0x18, []) ∧
      ((x.takeSegment .l1 (rxFor 3 4) (headOf 1 0x18) []).2.letIn false (headOf 1 0x18) 0).1 = true ∧
      (x.sessionAt 0).ingress .l1 (rxFor 3 4) 3 false = (true, ((x.sessionAt 0).ingress .l1 (rxFor 3 4) 3 false).2) ∧
      (rxFor 3 4).seg.toNat % 32 = 16 ∧ x.bound (rxFor 3 4) 1 = true ∧ x.expired 0 0 = false ∧
      (x.takeSegment .l1 (rxFor 1 6) (headOf 1 0x18) []).1 = none ∧ x.pwr.selftest ≠ .failed ∧ x.obj O.lcStateObj ≤ 1 ∧
      (headOf 5 0).session ≠ 0 ∧ 1 ≤ (headOf 3 0).dataLen.toNat ∧ (headOf 3 0).dataLen.toNat ≤ 11240 ∧ x.sessionOver 0 = false) ∧
    Meets ((hosted []).setObj O.quietActive 1) (fun x => x.flag O.quietActive = true) ∧
    Meets { pwr := { selftest := .failed } } (fun x => x.pwr.selftest = .failed) ∧
    Meets running (fun x => x.sess.num = none ∧ (headOf 5 0x18).session ≠ 0 ∧ x.obj O.lcStateObj ≤ 1 ∧ x.flag O.quietActive = false ∧
      x.txn.opened.length < 16 ∧ (x.takeSegment .l1 (rxFor 3 4) (headOf 5 0x18) []).1 = some (headOf 5 0x18, []) ∧
      (x.takeSegment .l1 (rxFor 3 4) (headOf 5 0x18) []).2.sess.num = none ∧
      (x.takeSegment .l1 (rxFor 3 4) { headOf 5 0x18 with session := 0 } []).1 = some ({ headOf 5 0x18 with session := 0 }, []) ∧
      x.txn.old = none) ∧
    Meets (running.setObj O.quietActive 1) (fun x => x.flag O.quietActive = true ∧ x.sess.num = none ∧
      (x.takeSegment .l1 (rxFor 3 4) (headOf 5 0x18) []).1 = some (headOf 5 0x18, [])) ∧
    Meets { running with txn := { old := some ⟨{}, [], [], [], [], [], 5⟩ } } (fun x => x.sess.num = none ∧
      x.txn.old = some ⟨{}, [], [], [], [], [], 5⟩ ∧ 5 < 6 ∧ 4 ≤ 5) ∧
    Meets { running with txn := { tags := [(1, (8, .open_))] } } (fun x => (headOf 1 0x18).tag.toNat % 16 = 8 ∧
      kvFind (x.tagTable false) ((headOf 1 0x18).tag.toNat / 16) = some (8, .open_)) ∧
    Meets { running with txn := { opened := List.replicate 16 ⟨⟨false, 0, 0⟩, headOf 1 0, .t5⟩ } } (fun x => 16 ≤ x.txn.opened.length) ∧
    Meets { running with txn := { tags := [(1, (8, .open_))] } } (fun x =>
      kvFind (x.tagTable false) ((headOf 1 0x18).tag.toNat / 16) = some ((headOf 1 0x18).tag.toNat % 16, .open_) ∧
      ((headOf 1 0x19).tag.toNat % 16 + 16 - 8) % 16 ≠ 0) ∧
    Meets { running with txn := { tags := [(1, (8, .closed 5 4 []))] }, sess := { num := some 1 }, now := 10 ^ 12 } (fun x =>
      kvFind (x.tagTable false) ((headOf 1 0x18).tag.toNat / 16) = some (8, .closed 5 4 []) ∧ 4 < 5 ∧
      ((headOf 1 0x18).tag.toNat % 16 + 16 - 8) % 16 = 0 ∧ ((headOf 1 0x10).tag.toNat % 16 + 16 - 8) % 16 = 8 ∧
      8 < ((headOf 1 0x11).tag.toNat % 16 + 16 - 8) % 16 ∧ x.sessionOver (10 ^ 12) = true ∧ x.txn.opened.length < 16) := by
  and_intros <;> exact meets rfl (by decide +kernel)

/-- A CAN XL frame of priority `p` for a module that is not enrolled. -/
def canRx (p : Nat) : CanRx := ⟨0, 0, BitVec.ofNat 11 p, true, BitVec.ofNat 8 (({} : Lane).obj O.canxlSdt), false, 0, 0x3FFFF, 0⟩

/-- The first six bytes of a stop frame of a module that is not enrolled. -/
def stopBytes : List Byte := [0, 3, 0xFF, 0xFF, 1, 0]

theorem witness_CanFramesStopAndTransact :
    Meets (running.setObj O.canxlStopEn 1) (fun x => x.netUp = true ∧ x.canHeader (canRx 0x010) 0x010 true = true ∧
      (stopBytes ++ bytesBE 2 (crc16 stopBytes).toNat).length = 8 ∧
      be (stopBytes ++ bytesBE 2 (crc16 stopBytes).toNat) 0 4 % 2 ^ 18 = (canRx 0x010).acceptance.toNat % 2 ^ 18 ∧
      x.flag O.canxlStopEn = true ∧ be (stopBytes ++ bytesBE 2 (crc16 stopBytes).toNat) 6 2 = (crc16 stopBytes).toNat ∧
      x.canHeader (canRx 0x011) 0x010 true = false ∧ x.canStop 0 = false) ∧
    Meets { net := { stopUntil := some 1 } } (fun x => x.canStop x.now = true ∧ x.netUp = false) ∧
    Meets running (fun x => x.canHeader (canRx 0x401) (0x400 + laneNo .l1) false = true ∧ x.canHeader (canRx 0x402) (0x400 + laneNo .l1) false = false ∧
      (canRx 0x401).busState ≠ 2 ∧ x.pwr.selftest ≠ .failed ∧
      x.canBusy = false ∧ x.flag O.canxlSkd2En = false) ∧
    Meets ((running.setObj O.canxlSkd2En 1)) (fun x => x.netUp = true ∧ x.flag O.canxlSkd2En = true ∧ x.canBusy = false ∧ x.obj O.lcStateObj ≠ 3 ∧
      be ([3, 0, 0, 4, 0, 0, 0, 0] : List Byte) 0 1 ≠ 1 ∧ be ([3, 0, 0, 4, 0, 0, 0, 0] : List Byte) 0 1 ≠ 2 ∧
      1 ≤ (skdHead [2, 0, 0, 4, 0, 0, 0, 0]).dataLen.toNat ∧ x.e1Turn x.now = none) ∧
    Meets { running.setObj O.canxlSkd2En 1 with txn := { opened := List.replicate 16 ⟨⟨false, 1, 0⟩, headOf 1 0x10, .t5⟩ } } (fun x =>
      x.canBusy = false ∧ 16 ≤ x.txn.opened.length ∧ x.netUp = true ∧ x.flag O.canxlSkd2En = true) ∧
    Meets running (fun x => (x.canTake .l1 (canRx 0x401) (headOf 1 0x10) 488).1 = true ∧
      ((x.canTake .l1 (canRx 0x401) (headOf 1 0x10) 488).2.letIn true (headOf 1 0x10) 0).1 = true ∧
      (x.canTake .l1 (canRx 0x401) (headOf 1 0x10) 489).1 = false ∧ 5 < (headOf 6 0).op.toNat ∧ x.obj O.lcStateObj ≠ 3) ∧
    Meets { running with txn := { opened := [⟨⟨true, 1, 0⟩, headOf 1 0x10, .t5⟩] } } (fun x => x.canBusy = true) ∧
    Meets ((running.setObj O.canxlSkd2En 1).setObj O.lcStateObj 3) (fun x => x.netUp = true ∧ x.flag O.canxlSkd2En = true ∧
      ([1, 0, 0, 4, 0, 0, 0, 0] : List Byte).length = 8 ∧ x.canBusy = false ∧ x.txn.opened.length < 16 ∧ x.obj O.lcStateObj = 3 ∧
      be ([1, 0, 0, 4, 0, 0, 0, 0] : List Byte) 0 1 = 1 ∧ be ([2, 0, 0, 4, 0, 0, 0, 0] : List Byte) 0 1 = 2 ∧
      (skdHead [2, 0, 0, 5, 0, 0, 0, 0]).dataLen.toNat = 5 ∧ ((⟨0, 0x5A1, true, 0⟩ : SkdRx).priority.toNat = 0x5A0 + laneNo .l1 ∧
        (⟨0, 0x5A1, true, 0⟩ : SkdRx).busState ≠ 2) ∧ (skdHead [2, 0, 0, 4, 0, 0, 0, 0]).dataLen.toNat = 4) := by
  and_intros <;> exact meets rfl (by decide)

theorem mem_insertAsc (a b : Nat) (xs : List Nat) : a ∈ insertAsc b xs ↔ a = b ∨ a ∈ xs := by
  induction xs with
  | nil => simp [insertAsc]
  | cons y ys ih =>
    unfold insertAsc
    split
    · simp
    · split
      · subst_vars; simp
      · simp [ih]; tauto

theorem mem_keys (x : Lane) (k : Nat) : k ∈ x.keys ↔ k ∈ (objRows.flatMap rowKeys).filter x.present := by
  unfold Lane.keys
  generalize (objRows.flatMap rowKeys).filter x.present = ks
  induction ks with
  | nil => simp
  | cons y ys ih => simp [mem_insertAsc, ih]

/-- A lane whose ageing log was stored as it stands. -/
def roStored : Lane := { nv := { roBase := [(0xC00101, memReadAll [] 0 32768)] } }

theorem roDue_some : 0x100108 ∈ (({} : Lane).setObj ⟨0x100108, 0⟩ 7).roDue .l1 := by
  unfold Lane.roDue
  rw [List.mem_filter, mem_keys, List.mem_filter]
  refine ⟨⟨?_, by decide⟩, by decide⟩
  rw [List.mem_flatMap]
  exact ⟨⟨0x100108, 1, 1, 1, .u32, 1, .ro, .n, false, [0], [], 4⟩, by decide +kernel, by decide⟩

/-- Is an object due for a store of its read-only value? -/
def roJ (x : Lane) (k : Nat) : Bool := match rowOf k with
    | some r => r.access = .ro && r.store = .n
        && decide (x.valueOf .l1 r k ≠ (kvFind x.nv.roBase k).getD (defaultOf r k))
    | none => false


theorem rowPos_mem (r : ObjRow) (k : Nat) (h : (rowPos r k).isSome = true) : k ∈ rowKeys r := by
  unfold rowPos at h
  split at h
  · cases h
  · simp only at h
    split at h
    · rename_i hb hij
      simp only [rowKeys, List.mem_flatMap, List.mem_range, List.mem_map]
      refine ⟨_, hij.1, _, hij.2, ?_⟩
      have := Nat.div_add_mod (k - r.base) (256 * r.step)
      omega
    · cases h

theorem objRowsOf_mem (n : Nat) (r : ObjRow) (h : r ∈ objRowsOf n) : r ∈ objRows := by
  unfold objRows
  simp only [List.mem_append]
  unfold objRowsOf at h
  split at h <;> first | (cases h; done) | (simp only [objRowsOf, List.mem_append] at h ⊢; tauto)

theorem ro_checked : (objRows.all fun r => !(decide (r.access = .ro) && decide (r.store = .n)) ||
    (rowKeys r).all fun k => k == 0xC00101 || !roJ roStored k) = true := by decide +kernel

theorem roDue_none : roStored.roDue .l1 = [] := by
  unfold Lane.roDue
  rw [List.filter_eq_nil_iff]
  intro k _ h
  cases hr : rowOf k with
  | none => simp [hr] at h
  | some r =>
    have hm := objRowsOf_mem _ r (List.mem_of_find?_eq_some hr)
    have hk := rowPos_mem r k (List.find?_some (p := fun q : ObjRow => (rowPos q k).isSome) hr)
    have hc := List.all_eq_true.1 ro_checked r hm
    simp only [hr, Bool.and_eq_true] at h
    rw [Bool.or_eq_true] at hc
    rcases hc with hc | hc
    · simp [show r.access = .ro by simpa using h.1.1, show r.store = .n by simpa using h.1.2] at hc
    · have hj := List.all_eq_true.1 hc k hk
      by_cases e : k = 0xC00101
      · subst e
        have ev : roStored.valueOf .l1 r 0xC00101 = memReadAll [] 0 32768 := by
          have : r = ⟨0xC00101, 1, 1, 1, .domain, 1, .ro, .n, false, [0], [], 32768⟩ := by
            have e2 : rowOf 0xC00101 = some ⟨0xC00101, 1, 1, 1, .domain, 1, .ro, .n, false, [0], [], 32768⟩ := by decide +kernel
            rw [e2] at hr
            exact (Option.some.inj hr).symm
          rw [this]
          rfl
        have en : kvFind roStored.nv.roBase 0xC00101 = some (memReadAll [] 0 32768) := rfl
        rw [ev, en] at h
        simp at h
      · simp only [roJ, hr, h.1.1, h.1.2, h.2, Bool.and_true, Bool.not_true, Bool.or_false, beq_iff_eq] at hj
        exact e hj
theorem witness_StoresAndStagedImages_readOnly :
    Meets roStored (fun x => x.roDue .l1 = []) ∧ Meets (({} : Lane).setObj ⟨0x100108, 0⟩ 7) (fun x => x.roDue .l1 ≠ []) :=
  ⟨meets rfl roDue_none, meets rfl (List.ne_nil_of_mem roDue_some)⟩

theorem witness_StoresAndStagedImagesActByTheirRules :
    Meets {} (fun x => x.nv.due = [] ∧ x.obj O.nvStageState ≠ 1 ∧ (262144 - 1) + [(1 : Byte)].length ≤ 262144 ∧
      (∀ o ∈ x.txn.opened, o.wait ≠ .store) ∧ x.judgeWrite false 0 0 [] ≠ 0) ∧
    Meets { nv := { due := [O.netVidA.key] } } (fun x => x.nv.due ≠ []) ∧
    Meets (({} : Lane).setObj O.nvStageState 1) (fun x => x.obj O.nvStageState = 1 ∧ x.nv.checkSpoilt = false ∧
      be (memReadAll x.nv.stage 0 0x40) 0 4 ≠ 0x534B4E56) ∧
    Meets (({} : Lane).setObj O.nvStageState 2) (fun x => x.obj O.nvStageState = 2 ∧
      memReadAll x.nv.stage 0x20 32 = List.replicate 32 0 ∧ x.nv.stagedEntries = some []) ∧
    Meets (({} : Lane).setObj O.lcStateObj 1) (fun x => x.judgeWrite false O.vLinkPeak.key 0 [0, 0] = 0 ∧ ofBytesBE [0, 0] = 0 ∧
      zeroOnly O.vLinkPeak.key = true ∧ ofBytesBE [0, 1] ≠ 0) ∧
    Meets (({ nv := { checkSpoilt := true } } : Lane).setObj O.nvStageState 1) (fun x => x.obj O.nvStageState = 1 ∧ x.nv.checkSpoilt = true) := by
  and_intros <;> exact meets rfl (by decide +kernel)

theorem witness_ImagesAreTakenCheckedAndActivated :
    Meets {} (fun x => x.claim.aside = false ∧ x.obj O.fwInstallState ≠ 1 ∧ x.obj O.progState ≠ 1 ∧ x.obj O.fwTrial ≠ 1) ∧
    Meets (({ claim := { aside := true } } : Lane).setObj O.fwInstallState 2) (fun x => x.claim.aside = true ∧
      x.obj O.fwInstallState = 2 ∧ x.ctState = 0) ∧
    Meets (({} : Lane).setObj O.fwInstallState 1) (fun x => x.obj O.fwInstallState = 1) ∧
    Meets (({ claim := { aside := true }, upd := { progStaged := { eligible := true } } } : Lane).setCtState 4) (fun x =>
      x.claim.aside = true ∧ x.upd.progStaged.eligible = true ∧ x.obj O.fwInstallState ≠ 2 ∧ x.ctState ≠ 0 ∧ x.ctState ≠ 6) ∧
    Meets (({} : Lane).setObj O.progState 1) (fun x => x.obj O.fwInstallState ≠ 1 ∧ x.obj O.progState = 1) ∧
    Meets { (({ upd := { trialFw := true, trialProg := true } } : Lane).setObj O.fwTrial 1) with now := 10 ^ 14 } (fun x => x.obj O.fwTrial = 1 ∧
      x.upd.trialAt + 1000000 * x.obj O.fwTrialTime ≤ x.now ∧ x.upd.trialFw = true ∧ x.upd.trialProg = true) ∧
    Meets ({ ({} : Lane) with claim := { aside := true } }.setObj O.updState 1) (fun x => x.claim.aside = true ∧ x.obj O.updState = 1 ∧
      x.obj O.progState ≠ 2 ∧ 0 ≤ x.upd.filled) ∧
    Meets { (({} : Lane).setObj O.fwTrial 1) with now := 10 ^ 14 } (fun x => x.obj O.fwTrial = 1 ∧
      x.upd.trialAt + 1000000 * x.obj O.fwTrialTime ≤ x.now) := by
  and_intros <;> exact meets rfl (by decide)

theorem witness_StandingAsideWithdrawsTheLane :
    Meets {} (fun x => (x.obj O.lcStateObj = 0 ∨ x.obj O.lcStateObj = 5) ∧ x.judgeAside .l1 ((on x).peersOf .l1) ≠ 0 ∧
      (∀ o ∈ x.txn.opened, o.wait ≠ .aside) ∧ x.claim.aside = false) ∧
    Meets (({} : Lane).setObj O.lcStateObj 3) (fun x => x.obj O.lcStateObj ≠ 0 ∧ x.obj O.lcStateObj ≠ 5 ∧ x.claim.claiming = false ∧
      x.judgeAside .l1 ((on x).peersOf .l1) = 0) ∧
    Meets (({ claim := { claiming := true } } : Lane).setObj O.lcStateObj 3) (fun x => x.claim.claiming = true ∧
      (x.peer .lo).claims = false) ∧
    Meets { claim := { aside := true }, upd := { removal := true } } (fun x => x.claim.aside = true ∧ x.upd.removal = true ∧
      x.coll.error = false) ∧
    Meets { claim := { aside := true }, coll := { error := true } } (fun x => x.claim.aside = true ∧ x.coll.error = true) ∧
    Meets { ((({} : Lane).setObj O.lcStateObj 3).setCtState 1) with steer := { softFrom := some 0 }, now := 1999 } (fun x => x.ctState = 1 ∧
      x.steer.softRuns x.now = true ∧ x.judgeAside .l1 ((on x).peersOf .l1) = 0) ∧
    Meets ((({} : Lane).setObj O.lcStateObj 3).setCtState 4) (fun x => x.ctState ≠ 0 ∧ x.ctState ≠ 6 ∧ x.steer.softRuns x.now = false ∧
      x.judgeAside .l1 ((on x).peersOf .l1) = 0) := by
  and_intros <;> exact meets rfl (by decide)

/-- A change set of one entry that names every lane, for a module that is not enrolled. -/
def setBytes : List Byte :=
  bytesBE 4 0x534B4353 ++ [0, 1, 7, 0] ++ bytesBE 4 0x3FFFF ++ bytesBE 4 76 ++ [0, 1] ++ List.replicate 46 0
    ++ [0x91, 0x00, 1, 4, 0, 4, 0, 0, 0, 0, 0, 1]

/-- A peer that the lane hears. -/
def heardPeer : PeerSt := { heard := true }

/-- The 64 bytes before the signature of an authorisation for a set whose digest is 32 bytes of 0. -/
def authHead : List Byte := bytesBE 4 0x534B4155 ++ [0, 1, 1, 0] ++ List.replicate 56 0

theorem witness_ChangeSetsNeedTheirAuthorisations :
    Meets (({} : Lane).setObj O.lcStateObj 3) (fun x => x.lcAllows O.csImage.key = true ∧ x.cs.nonceOpen = false ∧ x.csLoads setBytes = true ∧
      x.csLoads (setBytes ++ [0]) = false ∧ x.cs.run = none ∧ x.obj O.lcStateObj ≠ 1 ∧ x.authOk [] [] = false ∧ x.cs.eng = none) ∧
    Meets (({ cs := { loaded := some setBytes } } : Lane).setObj O.lcStateObj 1) (fun x => x.obj O.lcStateObj = 1 ∧
      x.cs.loaded = some setBytes ∧ x.cs.run = none ∧ x.hears .lo = false ∧ x.hears .hi = false ∧ x.lcAllows O.csAuth.key = true) ∧
    Meets running (fun x => x.netUp = true ∧ x.cs.run = none) ∧ Meets {} (fun x => x.netUp = false) ∧
    Meets { peerLo := heardPeer, cs := { nonceOpen := true } } (fun x => x.hears .lo = true ∧ laneNo .l1 < laneNo (peerId .l1 .lo) ∧
      x.cs.nonceOpen = true) ∧
    Meets { cs := { run := some ⟨[], 5, none, some 0, false, none⟩, eng := some ⟨[], 0⟩, fs := some ⟨[], 1⟩ } } (fun x =>
      x.cs.run = some ⟨[], 5, none, some 0, false, none⟩ ∧ x.cs.eng = some ⟨[], 0⟩ ∧ x.cs.fs = some ⟨[], 1⟩ ∧
      0 + 86400000000000 < 86400000000001 ∧ ¬ 1 + 86400000000000 < 86400000000001) ∧
    (∀ f : UpdateFrame, bits f.source.toNat 0 2 = 2 → updateOk .l1 (rxOf (crc32 (updateBytes f))) f = true) ∧
    (sigOk [1] (authHead.take 0x40) "SKT3-AUTH" (List.replicate 2420 0) = true →
      (({} : Lane).setOct (O.roleEngKey 0) [1]).authOk (List.replicate 32 0) (authHead ++ List.replicate 2420 0) = true) := by
  refine ⟨meets rfl (by decide +kernel), meets rfl (by decide), meets rfl (by decide), meets rfl (by decide), meets rfl (by decide), meets rfl (by decide),
    fun f h => updateOk_own f h, ?_⟩
  generalize hb : authHead ++ List.replicate 2420 0 = b
  have e : be b 6 1 = 1 ∧ be b 7 1 = 0 ∧ b.length = 2484 ∧ be b 0 4 = 0x534B4155 ∧ be b 4 2 = 1 ∧ slice b 8 32 = List.replicate 32 0 ∧
      zeros b 0x28 24 = true ∧ b.take 0x40 = authHead.take 0x40 ∧ slice b 0x40 2420 = List.replicate 2420 0 := by
    subst hb; decide +kernel
  generalize hsg : List.replicate 2420 (0 : Byte) = sg at *
  obtain ⟨e1, e2, e3, e4, e5, e6, e7, e8, e9⟩ := e
  intro h
  simpa [Lane.authOk, e1, e2, e3, e4, e5, e6, e7, e8, e9] using h

theorem witness_QuotesCertificatesAndCountersAreKept :
    Meets {} (fun x => (List.replicate 32 (0 : Byte)).length = 32 ∧ x.quote.making = none ∧ x.enrolOk .l1 [] = false ∧
      x.rollbackOk [0, 0, 0, 0] = true ∧ x.rollbackOk [0, 0, 0, 1] = false) ∧
    Meets (({ quote := { making := some [] } } : Lane).setObj O.lcStateObj 2) (fun x => x.quote.making = some [] ∧
      (∀ o ∈ x.txn.opened, o.wait ≠ .quote) ∧ x.lcAllows O.enrolCert.key = true) := by
  and_intros <;> exact meets rfl (by decide)

theorem witness_PowerRequestsRunTheSequence :
    Meets { (({} : Lane).setObj O.pwrIdlePark 1) with pwr := { idleFrom := some 0 }, now := 1000000000 } (fun x =>
      x.pwr.idleFrom = some 0 ∧ 0 < x.obj O.pwrIdlePark ∧ 0 + 1000000000 * x.obj O.pwrIdlePark ≤ x.now ∧ x.pend = none ∧
      x.pwr.target = none ∧ x.pwr.retryAt = none) ∧
    Meets (({ pwr := { target := some 2 } } : Lane).setPend (some 4)) (fun x => x.pend = some 4 ∧ x.pwr.target = some 2 ∧ 2 < 4 ∧ 4 < 8) ∧
    Meets (({ pwr := { target := some 2 } } : Lane).setPend (some 0)) (fun x => x.pend = some 0 ∧ x.takeLower.pwr.target = some 2 ∧
      ∀ b, b < 6 → x.takeLower.blockBusy (b + 1) = false ∧ [Answer.agree, .agree, .agree, .agree, .agree, .agree].getD b .silent = .agree) ∧
    Meets { pwr := { target := some 3, asking := some 6, refusedFrom := some 0, retryAt := some 0 }, now := 1000000000 } (fun x =>
      x.takeLower.pwr.target = some 3 ∧ x.pwr.asking = some ((5 : Fin 6).val + 1) ∧ x.pwr.retryAt = some 0 ∧
      x.pwr.refusedFrom = some 0 ∧ 0 + 1000000000 ≤ x.now ∧ x.sio.enable = true ∧ x.ctState = 0 ∧
      x.takeLower.blockBusy 1 = false ∧ [Answer.refuse].getD 0 .silent = .refuse ∧ ([] : List Answer).getD 0 .silent = .silent) ∧
    Meets { mx := { checking := true }, pwr := { target := some 1 } } (fun x => x.takeLower.blockBusy 1 = true) ∧
    Meets { pwr := { target := some 3, asking := some 6, stopped := [1, 2, 3, 4, 5] }, now := 20000 } (fun x =>
      x.pwr.asking = some ((5 : Fin 6).val + 1) ∧ x.pwr.askedAt + 20000 ≤ x.now ∧ 3 ∈ x.pwr.stopped ∧ x.eng.held = []) ∧
    Meets { pwr := { target := some 1, asking := some 1, retryAt := some 1 }, now := 0 } (fun x =>
      x.pwr.asking = some ((0 : Fin 6).val + 1) ∧ x.now < x.pwr.askedAt + 20000 ∧ 3 ∉ x.pwr.stopped ∧ x.pwr.retryAt = some 1 ∧ x.now < 1 ∧
      x.pwr.refusedFrom = none) ∧
    Meets (({ pwr := { target := some 1 } } : Lane).setPend (some 0)) (fun x => x.takeLower.pwr.target = some 1 ∧ x.takeLower.pend = some 0) ∧
    Meets (({ pwr := { target := some 3 } } : Lane).setPend (some 1)) (fun x => x.takeLower.pwr.target = some 3 ∧ x.takeLower.pend = some 1) ∧
    Meets { pwr := { target := some 4, refusedFrom := some 0, selftest := .passed }, coll := { error := true }, now := 1000000000 } (fun x =>
      x.pwr.target = some 4 ∧ x.pwr.selftest = .passed ∧ x.coll.error = true ∧ x.pwr.refusedFrom = some 0) := by
  and_intros <;> exact meets rfl (by decide)

/-- A lane without its logic supply, in Park. -/
def parked : Lane := { (({ powered := false } : Lane).setFld Rg.pwrStat 0 3 3).setFld Rg.sumpWakeEn 0 3 7 with now := 0 }

theorem witness_Wakes_words : (20000 ≤ 20000 ∧ (List.replicate 32 (150000, true, 400)).length = 32 ∧
    ∀ p ∈ List.replicate 32 (150000, true, 400), 400 ≤ p.1 ∧ p.1 ≤ 150000 ∧ 400 ≤ p.2.2) ∧ 19999 < 20000 ∧ (List.replicate 33 (400, true, 400)).length ≠ 32 ∧
    wakeWord (⟨.both, 20000⟩ :: (List.replicate 32 (150000, true, 400)).flatMap
      fun p => [⟨.spacer, p.1⟩, ⟨if p.2.1 then .one else .zero, p.2.2⟩]) = some 0xFFFFFFFF := by
  refine ⟨by decide, by decide, by decide, ?_⟩
  have h : 150000 ≤ spacerMax := by unfold spacerMax; omega
  simp [wakeWord, wakeBits, h, List.replicate, List.flatMap, b2n]

theorem witness_WakesStartsAndSuppliesActOnTheLane :
    ((on parked).laneAt .l1 0 = parked ∧ parked.powered = false ∧ parked.pwr.sumpOk = true ∧ parked.fld Rg.pwrStat 0 3 = 3 ∧
      parked.rbit Rg.sumpWakeEn 1 = true ∧ parked.rbit Rg.sumpWakeEn 2 = true ∧
      (crc8 (bytesBE 3 ((0xFFFFF100 + (crc8 (bytesBE 3 0xFFFFF1)).toNat) / 256))).toNat
        = (0xFFFFF100 + (crc8 (bytesBE 3 0xFFFFF1)).toNat) % 256 ∧
      bits 0xFFFFF100 8 3 = 1 ∧ bits 0xFFFFF100 14 18 = 0x3FFFF ∧ bitOf (bits 0xFFFFF900 11 3) (laneNo .l1 - 1) = true ∧
      (bits 0xFFFFF800 8 3 = 0 ∧ bits 0xFFFFF800 14 18 = 0x3FFFF ∧ bitOf (bits 0xFFFFF800 11 3) (laneNo .l1 - 1) = true) ∧
      bits 0x7900 14 18 = 1 ∧ 1 ≠ parked.reg Rg.sumpUnit ∧ bitOf (bits 0xFFFFF100 11 3) (laneNo .l1 - 1) = false ∧
      parked.rbit Rg.sumpWakeEn 0 = true) ∧
    Meets (({} : Lane).setFld Rg.pwrStat 0 3 2) (fun x => x.fld Rg.pwrStat 0 3 = 2 ∧ (x.macOf .l1 .netA : Nat) < 2 ^ 48 ∧
      (BitVec.ofNat 48 (x.macOf .l1 .netA)).toNat = x.macOf .l1 .netA) ∧
    Meets { pwr := { selftest := .running } } (fun x => x.pwr.selftest = .running ∧ x.nv.factoryOk = true ∧ x.nDrives = 0 ∧
      readingPasses (.march 0 0 0 0) = true ∧ [SelfReading.edge 0 17].filter (fun r => readingPasses r = false) ≠ [] ∧
      readingPasses (.edge 0 16) = true) ∧
    Meets { nv := { factoryOk := false }, pwr := { selftest := .running } } (fun x => x.nv.factoryOk = false) ∧
    Meets { drive := { firstClass := 4 } } (fun x => x.drive.bsClass = false ∧ x.drive.firstClass = 4 ∧ x.drive.linkOnce = false) ∧
    Meets { ({} : Lane).setCtState 4 with drive := { firstClass := 2, linkOnce := true } } (fun x => x.ctState = 4 ∧ x.drive.firstClass ≠ 0 ∧
      x.drive.firstClass ≠ 3 ∧ x.drive.hvClass = false ∧ x.steer.softRuns x.now = false) ∧
    Meets (({ drive := { brakePresent := false, brakeOver := true, linkOnce := true } } : Lane).setObj O.variantCode 1) (fun x =>
      x.nDrives ≠ 0 ∧ x.drive.brakePresent = false ∧ x.drive.brakeOver = true ∧ x.drive.linkOnce = true ∧ x.drive.hvClass = false ∧
      x.drive.firstClass = 0 ∧ x.pwr.selftest = .notRun) ∧
    Meets { drive := { firstClass := 1, linkOnce := true }, pwr := { selftest := .passed } } (fun x => x.drive.firstClass ≠ 0 ∧
      x.drive.firstClass ≠ 3 ∧ x.drive.firstClass ≠ 4 ∧ x.pwr.selftest ≠ .notRun ∧ x.pwr.restart = false) ∧
    Meets (({ upd := { trialFw := true, slotB := { made := true } } } : Lane).setObj O.fwTrial 1) (fun x => x.obj O.fwTrial = 1 ∧
      x.upd.trialFw = true ∧ x.obj O.fwSlot ≤ 1 ∧ x.upd.progStaged.eligible = false ∧
      ((x.failTrial .l1).fresh.setObj O.selftestState 1).verifySlot .l1 (1 - x.obj O.fwSlot) = 0) ∧
    Meets ({ upd := { slotA := {} } } : Lane) (fun x => x.obj O.fwTrial ≠ 1 ∧
      (x.fresh.setObj O.selftestState 1).verifySlot .l1 (x.obj O.fwBootSlot) ≠ 0 ∧
      (x.fresh.setObj O.selftestState 1).verifySlot .l1 (1 - x.obj O.fwBootSlot) ≠ 0) ∧
    Meets {} (fun x => x.pwr.selftest = .notRun ∧ x.obj O.fwTrial ≠ 1 ∧
      (x.fresh.setObj O.selftestState 1).verifySlot .l1 (x.obj O.fwBootSlot) = 0) ∧
    Meets ({ upd := { slotA := {}, slotB := { made := true } } } : Lane) (fun x => x.obj O.fwTrial ≠ 1 ∧
      (x.fresh.setObj O.selftestState 1).verifySlot .l1 (x.obj O.fwBootSlot) ≠ 0 ∧
      (x.fresh.setObj O.selftestState 1).verifySlot .l1 (1 - x.obj O.fwBootSlot) = 0) ∧
    Meets ({ pwr := { restart := true, selftest := .passed }, sio := { kn := { on := true } } } : Lane) (fun x => x.restartDue = true ∧ x.obj O.updState ≠ 3) := by
  refine ⟨by decide, ?_⟩
  and_intros <;> exact meets rfl (by decide +kernel)

/-! Ill-formed commands: one for every check. -/

theorem test_wf_reload : (Instr.steeringReload .l1 0 ⟨0, 0, 0, 0, 0, [], [], [], 0, false⟩).wf = false := by decide
theorem test_wf_exchangeFrame : (Instr.exchangeFrame .l1 (rxOf 0) { exch0 with uCmd := [0, 0] }).wf = false ∧
    (Instr.exchangeFrame .l1 (rxOf 0) exch0).wf = true := by decide
theorem test_wf_propose : (Instr.propose .l1 (rxOf 0) { comm 1 0 0 with nEntries := 1 }).wf = false ∧
    (Instr.propose .l1 (rxOf 0) (comm 1 0 0)).wf = true := by decide
theorem test_wf_announce : (Instr.announce .l1 (rxOf 0) ⟨2, 1, 0, 0, 0, 0, 0, List.replicate 989 0⟩).wf = false := by decide
theorem test_wf_claimFrame : (Instr.claimFrame .halfA .l1 0 { claimOf 1 0 with outCmd := List.replicate 7 0 } 0).wf = false ∧
    (Instr.claimFrame .halfA .l1 0 (claimOf 1 0) 0).wf = true := by decide
theorem test_wf_statusFrame : (Instr.arbiterStatusFrame .l1 0 ⟨0, 0, 0, 0, 0, List.replicate 9 0, 0, 0, 0, 0⟩ 0).wf = false := by decide
theorem test_wf_testPulseSlot : (Instr.testPulseSlot .l1 0 [] []).wf = false := by decide
theorem test_wf_railCheckDone : (Instr.railCheckDone .l1 .steer 0 [0, 0] 0).wf = false := by decide
theorem test_wf_offStateDiagnostics : (Instr.offStateDiagnostics .l1 .steer 0 [0, 0, 0] 0).wf = false := by decide
theorem test_wf_sentFrame : (Instr.sentFrame .l1 0 ⟨0, 168000, true, 0, [], 0⟩).wf = false := by decide
theorem test_wf_demand : (Instr.demand .l1 (rxFor 1 6) ⟨1, 0, 0, 0, [], []⟩).wf = false ∧
    (Instr.demand .l1 (rxFor 1 6) (demandOf 0 0)).wf = true := by decide
theorem test_wf_processReading : (Instr.processReading .l1 [] 0).wf = false := by decide
theorem test_wf_rollbackAdvance : (Instr.rollbackAdvance .l1 [0, 0, 0] 0).wf = false := by decide
theorem test_wf_e1 : (E1Ins.lim 1 2 0 0).wf = false ∧ (E1Ins.lim 3 1 0 0).wf = false ∧ (E1Ins.ld 2 1 0 0).wf = false := by decide

/-! Instruction words of E1, bit by bit from the table of R131. -/

theorem test_word_end : decodeE1 0 = some .endI ∧ decodeE1 1 = none := by decide
theorem test_word_mvm : decodeE1 0b000001_1_0_00000101_00010000_00100000 = some (.mvm true false 5 0x10 0x20) := by decide
theorem test_word_vadd : decodeE1 0b000010_0_1_000_00011_00010000_00100000 = some (.vadd false true 3 0x10 0x20) ∧
    decodeE1 0b000010_0_1_001_00011_00010000_00100000 = none := by decide
theorem test_word_vsub : decodeE1 0b000011_1_0000_11111_00010000_00100000 = some (.vsub true 31 0x10 0x20) := by decide
theorem test_word_sat : decodeE1 0b000100_00000_00010_0000_1111_00100000 = some (.sat 2 15 0x20) := by decide
theorem test_word_lim : decodeE1 0b000101_10_000_00001_00010000_00100000 = some (.lim 2 1 0x10 0x20) ∧
    decodeE1 0b000101_10_000_00010_00010000_00100000 = none := by decide
theorem test_word_sel : decodeE1 0b000110_1010_1_00000_00010000_00100000 = some (.sel 10 true 0 0x10 0x20) := by decide
theorem test_word_ld : decodeE1 0b000111_10_000_00010_00000011_00100000 = some (.ld 2 2 3 0x20) ∧
    decodeE1 0b000111_11_000_00010_00000011_00100000 = none := by decide
theorem test_word_st : decodeE1 0b001000_00000_00001_00010000_00000100 = some (.st 1 0x10 4) := by decide
theorem test_word_ldc : decodeE1 0b001001_1_0_00000000_00000000_00010001 = some (.ldc true false 0x11) := by decide
theorem test_word_tube : decodeE1 0b001010_00000_00111_00000001_00010000 = some (.tube 7 1 0x10) := by decide
theorem test_word_prep_commit : decodeE1 0b001011_0_1_00000000_00010000_00000000 = some (.prep true 0x10) ∧
    decodeE1 0b001100_0_0_00000000_00010000_00000000 = some (.commit false 0x10) := by decide
theorem test_word_post : decodeE1 0b001101_0000000_101_00010000_00000000 = some (.post 5 0x10) ∧
    decodeE1 0b001110_0000000_101_00010000_00000000 = none := by decide

/-! Worked examples of the specification. -/

/-- Scope, number formats: -55 A on 280 A is 0xE6DB. -/
theorem test_example_q15 : q15 (-55 / 280) = 0xE6DB := by decide +kernel
/-- PWM generation: code -1,283 at V_LINK 21,845 and P 10,000 is 70,603, INT 4,412 and FRAC 11. -/
theorem test_example_duty : duty16 10000 21845 (ofI 16 (-1283)) = (70603, false) ∧ 70603 / 16 = 4412 ∧ 70603 % 16 = 11 := by decide +kernel
/-- The extra tick falls in the phases whose reversed value is below 11. -/
theorem test_example_scree : dEff true 1 70603 = 4413 ∧ dEff true 3 70603 = 4412 := by decide
/-- Networks: Unit Number 0x2A51C, L2, Net B is the address 02-53-4B-A9-47-28. -/
theorem test_example_mac :
    (((({} : Lane).setObj O.enrolState 1).setObj O.unitNumber 0x2A51C).macOf .l2 .netB) = 0x02534BA94728 := by decide
/-- Power: the wake frame of L2 of unit 0x2A51C to Run ends in the CRC 0xE1, by 0xAA and 0xB2. -/
theorem test_example_wake_crc : crc8 [0xA9] = 0xAA ∧ crc8 [0xA9, 0x47] = 0xB2 ∧ crc8 [0xA9, 0x47, 0x11] = 0xE1 := by decide
/-- That frame wakes L2 of the parked unit, and L2 alone. -/
theorem test_example_wake :
    bits 0xA94711E1 14 18 = 0x2A51C ∧ bits 0xA94711E1 11 3 = 0b010 ∧ bits 0xA94711E1 8 3 = 1 := by decide
/-- Claim arbitration: of the claims 0xFFFD, 0xFFFA and 0xFFFB a half takes 0xFFFD. -/
theorem test_example_claim :
    ((HalfSt.mk ⟨(halfWith (claimOf 0xFFFD 0)).links.at1, { frame := some (claimOf 0xFFFA 0), endAt := some 0 },
      { frame := some (claimOf 0xFFFB 0), endAt := some 0 }⟩ [false, false, false] 0 true false false).candidate 0)
      = some (claimOf 0xFFFD 0) ∧ 256 * 0xFF + 4 * 63 + 1 = 0xFFFD := by decide
/-- Host protocol: tag 0x2A7, generation 5, is TAG 0x2A75. -/
theorem test_example_tag : ({} : Lane).headId false (headOf 1 0x2A75) = ⟨false, 0x2A7, 0⟩ ∧ (headOf 1 0x2A75).tag.toNat % 16 = 5 := by decide
/-- Setpoint shaping: with e = -22° v_des is the rate limit, -20 °/s. -/
theorem test_example_vdes : vDes ⟨20, 60, 600⟩ (-22) = -20 := by decide +kernel
/-- The check value of CRC-32 over the ASCII digits 1 to 9. -/
theorem test_crc32 : crc32 (ascii "123456789") = 0xCBF43926 := by decide +kernel

/-! Steps. -/

theorem test_step_idle : step State.reset = .next State.reset := by rfl
theorem test_step_front (c : Instr) (s : State) : step { s with pending := [c] } = exec c { s with pending := [] } := by rfl
/-- A lane that has lost its supply does nothing at a lane command. -/
theorem test_unpowered : exec (.diagGo .l1 0) (on { powered := false }) = .next (on { powered := false }) := by rfl

/-- COUNT of source 6 lies at offset 0x10 of its Spall record, at 0x1000 + 32 × 6 of the collector block (R302, R314). -/
theorem test_spall_word : ({ coll := { recs := [{ src := 6, count := 3 }] } } : Lane).wordAt 0x400510D0 = 3 := by decide

/-! States for the statements about the module as a whole and its memories. -/

theorem witness_StepRunsTheFirstWaitingCommand : State.reset.pending = [] := rfl
theorem witness_E1WordsAndInstructionsCorrespond : (E1Ins.lim 2 1 255 255).wf = true ∧ decodeE1 0xFFFFFFFF = none ∧ decodeE1 0x34070000 = some (.post 7 0) := by decide
theorem witness_ArbiterInvariantKeptByEveryStep : State.reset.arb.Inv ∧ step State.reset = .next State.reset :=
  ⟨arbInv_witness _ (by decide) (by decide) rfl rfl (by decide) (by decide), rfl⟩
theorem witness_CommandsActWhereTheyBelong : homeLane (.diagGo .l3 0) = some .l3 ∧ homeLane (.halfFault .halfA 0) = none ∧
    (∀ g t, Instr.halfFault .halfA 0 ≠ .pwrModuleRequest g t) := ⟨rfl, rfl, by intro g t h; cases h⟩
theorem witness_StoredValuesReadAsWritten_names : O.netVidA.key ≠ O.netVidB.key ∧ Rg.pwrCtl.addr ≠ Rg.pwrStat.addr ∧ (0 + 31 ≤ 32 ∧ 31 + 1 ≤ 32 ∧ 0 + 31 ≤ 31) := by
  decide
theorem witness_StoredValuesReadAsWritten_memories : memWf [(0, 1), (5, 255)] = true ∧ memWf [(0, 0)] = false ∧ memWf [(5, 1), (0, 1)] = false := by decide

end Sys2Proof.Tests
end

section
/-!
SUPPORT. Fields and bits of a register after a write, the frames of a write (which registers and which objects it keeps), and
what a fold of updates establishes.
-/
namespace Sys2Proof.Machine

/-- A field within the low `n` bits reads the same of a word cut to `n` bits. -/
theorem bits_mod_two_pow (v : Nat) {lo w n : Nat} (h : lo + w ≤ n) : bits (v % 2 ^ n) lo w = bits v lo w := by
  have field : ∀ z : Nat, z / 2 ^ lo % 2 ^ w = z % 2 ^ (lo + w) / 2 ^ lo := fun z => by
    rw [pow_add, Nat.mod_mul_right_div_self]
  unfold bits
  rw [field, field, Nat.mod_mod_of_dvd _ (pow_dvd_pow 2 h)]

/-- A put leaves the fields beside it. -/
theorem bits_putBits_beside (v x : Nat) {lo w lo' w' : Nat} (h : lo + w ≤ lo' ∨ lo' + w' ≤ lo) :
    bits (putBits v lo w x) lo' w' = bits v lo' w' :=
  h.elim (bits_putBits_above v lo w x lo' w') (bits_putBits_below v lo w x lo' w')

/-- A write of a field leaves the fields beside it in its register. -/
theorem Lane.fld_setFld_beside (l : Lane) (r : Rg.Reg) (x : Nat) {lo w lo' w' : Nat} (hw : lo' + w' ≤ 32)
    (h : lo + w ≤ lo' ∨ lo' + w' ≤ lo) : (l.setFld r lo w x).fld r lo' w' = l.fld r lo' w' := by
  rw [Lane.fld, Lane.setFld, Lane.reg_setReg, bits_mod_two_pow _ hw, bits_putBits_beside _ _ h, Lane.fld]

/-- A write of a bit leaves the other bits of its register. -/
theorem Lane.rbit_setRbit_beside (l : Lane) (r : Rg.Reg) {i j : Nat} (b : Bool) (hj : j < 32) (h : j ≠ i) :
    (l.setRbit r i b).rbit r j = l.rbit r j :=
  congrArg (fun v => decide (v = 1)) (l.fld_setFld_beside r (b2n b) (by omega) (by omega))

/-- A bit that is set stays set while other bits of its register are set. -/
theorem Lane.rbit_setRbit_true (l : Lane) (r : Rg.Reg) {i j : Nat} (hj : j < 32) (h : l.rbit r j = true) :
    (l.setRbit r i true).rbit r j = true := by
  by_cases e : j = i
  · subst e
    exact l.rbit_setRbit r true hj
  · rw [l.rbit_setRbit_beside r true hj e, h]

/-- A bit follows the word of its register. -/
theorem Lane.rbit_of_reg_eq {x y : Lane} {r : Rg.Reg} (h : y.reg r = x.reg r) (i : Nat) : y.rbit r i = x.rbit r i :=
  congrArg (bitOf · i) h

/-- A write of a bit leaves the bits of registers at other addresses. -/
theorem Lane.rbit_setRbit_of_ne (l : Lane) {r q : Rg.Reg} (i j : Nat) (b : Bool) (h : q.addr ≠ r.addr) :
    (l.setRbit r i b).rbit q j = l.rbit q j :=
  Lane.rbit_of_reg_eq (l.reg_setRbit_of_ne i b h) j

theorem RegsKept.refl (as : List Nat) (x : Lane) : RegsKept as x x := fun _ _ => rfl

theorem RegsKept.trans {as : List Nat} {x y z : Lane} (h : RegsKept as x y) (k : RegsKept as y z) : RegsKept as x z :=
  fun r hr => (k r hr).trans (h r hr)

theorem regsKept_setReg {as : List Nat} {r : Rg.Reg} (h : r.addr ∈ as) (x : Lane) (v : Nat) : RegsKept as x (x.setReg r v) :=
  fun _ hq => x.reg_setReg_of_ne v fun e => hq (e ▸ h)

theorem regsKept_setFld {as : List Nat} {r : Rg.Reg} (h : r.addr ∈ as) (x : Lane) (lo w v : Nat) :
    RegsKept as x (x.setFld r lo w v) :=
  regsKept_setReg h x _

theorem regsKept_setRbit {as : List Nat} {r : Rg.Reg} (h : r.addr ∈ as) (x : Lane) (i : Nat) (b : Bool) :
    RegsKept as x (x.setRbit r i b) :=
  regsKept_setReg h x _

theorem ObjsKept.refl (ks : List Nat) (x : Lane) : ObjsKept ks x x := fun _ _ => rfl

theorem ObjsKept.trans {ks : List Nat} {x y z : Lane} (h : ObjsKept ks x y) (k : ObjsKept ks y z) : ObjsKept ks x z :=
  fun o ho => (k o ho).trans (h o ho)

theorem objsKept_setObj {ks : List Nat} {o : O.Obj} (h : o.key ∈ ks) (x : Lane) (v : Nat) : ObjsKept ks x (x.setObj o v) :=
  fun _ hp => x.obj_setObj_of_ne v fun e => hp (e ▸ h)

theorem objsKept_inc {ks : List Nat} {o : O.Obj} (h : o.key ∈ ks) (x : Lane) : ObjsKept ks x (x.inc o) :=
  objsKept_setObj h x _

theorem objsKept_incIf {ks : List Nat} {o : O.Obj} (h : o.key ∈ ks) (x : Lane) (b : Bool) : ObjsKept ks x (x.incIf o b) := by
  cases b
  · exact ObjsKept.refl ks x
  · exact objsKept_inc h x

/-- A fold of updates establishes what one of them makes of a premise, where every update keeps the premise and the result. -/
theorem foldl_establishes {α β : Type} {f : β → α → β} {cs : List α} {a : α} (Q P : β → Prop)
    (keepQ : ∀ b c, c ∈ cs → Q b → Q (f b c)) (keepP : ∀ b c, c ∈ cs → P b → P (f b c)) (makes : ∀ b, Q b → P (f b a))
    (ha : a ∈ cs) {b : β} (hb : Q b) : P (cs.foldl f b) := by
  obtain ⟨us, vs, rfl⟩ := List.append_of_mem ha
  rw [List.foldl_append, List.foldl_cons]
  have before : Q (us.foldl f b) := List.foldlRecOn us f hb fun b hb c hc => keepQ b c (by simp [hc]) hb
  exact List.foldlRecOn vs f (makes _ before) fun b hb c hc => keepP b c (by simp [hc]) hb

end Sys2Proof.Machine
end

section
/-!
SUPPORT. The reset state and the named operations on objects, registers and byte memories.
-/
namespace Sys2Proof.Machine

/-- Settles O2: every part of the reset state is its type's default, and an empty list reads as the defaults. -/
theorem resetHoldsTheDefaults : Obligations.ResetHoldsTheDefaults := by
  unfold Obligations.ResetHoldsTheDefaults
  have lanes : ∀ l, State.reset.lane l = {} := fun l => by cases l <;> rfl
  refine ⟨rfl, fun l => ?_, rfl, rfl, rfl, rfl⟩
  rw [lanes l]
  exact ⟨fun _ => rfl, fun _ => rfl, rfl, fun _ => rfl, fun _ => rfl⟩

/-- Settles O7: read after write and frame of the keyed lists, of the fields of a word, and of the byte memories. -/
theorem storedValuesReadAsWritten : Obligations.StoredValuesReadAsWritten := by
  unfold Obligations.StoredValuesReadAsWritten
  refine ⟨Lane.obj_setObj, fun x _ _ v h => x.obj_setObj_of_ne v h, Lane.reg_setReg, fun x _ _ v h => x.reg_setReg_of_ne v h,
    fun x r _ _ v _ _ hw hw' h => ⟨x.fld_setFld r v hw, x.fld_setFld_beside r v hw' h⟩, fun m a bs => ?_⟩
  exact ⟨memRead_memWriteAll_inside bs m a, memRead_memWriteAll_outside bs m a, memWf_memWriteAll bs m a, memWf_nil, rfl⟩

end Sys2Proof.Machine
end

section
/-!
SUPPORT. Mailboxes and doorbells (R361, R456, R457): what a word put, refused, held, taken or aborted does to the mailbox registers,
and which registers it leaves.
-/
namespace Sys2Proof.Machine

theorem mbxStat_addr_ne_mbxData (s d s' d' : Nat) : (Rg.mbxStat s d).addr ≠ (Rg.mbxData s' d').addr := by
  simp only [Rg.mbxStat, Rg.mbxData]
  omega

theorem mbxInbox_addr_ne_mbxData {s d : Nat} (hs : s < 8) (hd : d < 8) (e : Nat) :
    (Rg.mbxInbox e).addr ≠ (Rg.mbxData s d).addr := by
  simp only [Rg.mbxInbox, Rg.mbxData]
  omega

theorem mbxInbox_addr_ne_mbxStat {s d : Nat} (hs : s < 8) (hd : d < 8) (e : Nat) :
    (Rg.mbxInbox e).addr ≠ (Rg.mbxStat s d).addr := by
  simp only [Rg.mbxInbox, Rg.mbxStat]
  omega

theorem mbxNote_addr_ne_mbxStat {s d : Nat} (hs : s < 8) (hd : d < 8) (e : Nat) :
    (Rg.mbxNote e).addr ≠ (Rg.mbxStat s d).addr := by
  simp only [Rg.mbxNote, Rg.mbxStat]
  omega

theorem mbxIe_addr_ne_mbxStat {s d : Nat} (hs : s < 8) (hd : d < 8) (e : Nat) :
    (Rg.mbxIe e).addr ≠ (Rg.mbxStat s d).addr := by
  simp only [Rg.mbxIe, Rg.mbxStat]
  omega

theorem mbxNote_addr_ne_mbxInbox {d : Nat} (hd : d < 8) (e : Nat) : (Rg.mbxNote e).addr ≠ (Rg.mbxInbox d).addr := by
  simp only [Rg.mbxNote, Rg.mbxInbox]
  omega

theorem mbxIe_addr_ne_mbxNote {s : Nat} (hs : s < 8) (e : Nat) : (Rg.mbxIe e).addr ≠ (Rg.mbxNote s).addr := by
  simp only [Rg.mbxIe, Rg.mbxNote]
  omega

theorem mbxNote_addr_ne {s s' : Nat} (h : s ≠ s') : (Rg.mbxNote s).addr ≠ (Rg.mbxNote s').addr := by
  simp only [Rg.mbxNote]
  omega

theorem mbxStat_addr_ne {s s' : Nat} (d : Nat) (h : s ≠ s') : (Rg.mbxStat s d).addr ≠ (Rg.mbxStat s' d).addr := by
  simp only [Rg.mbxStat]
  omega

/-- A mailbox is as full as its status register says. -/
theorem Lane.mbxFull_of_reg_eq {x y : Lane} {s d : Nat} (h : y.reg (Rg.mbxStat s d) = x.reg (Rg.mbxStat s d)) :
    y.mbxFull s d = x.mbxFull s d :=
  Lane.rbit_of_reg_eq h 0

theorem Lane.reg_data_mbxPut (l : Lane) {s d : Nat} (hs : s < 8) (hd : d < 8) (w : Nat) :
    (l.mbxPut s d w).reg (Rg.mbxData s d) = w % 2 ^ 32 := by
  rw [Lane.mbxPut, Lane.reg_setRbit_of_ne _ _ _ (mbxInbox_addr_ne_mbxData hs hd d).symm,
    Lane.reg_setRbit_of_ne _ _ _ (mbxStat_addr_ne_mbxData s d s d).symm, Lane.reg_setReg]

theorem Lane.mbxFull_mbxPut (l : Lane) {s d : Nat} (hs : s < 8) (hd : d < 8) (w : Nat) :
    (l.mbxPut s d w).mbxFull s d = true := by
  rw [Lane.mbxFull, Lane.mbxPut, Lane.rbit_setRbit_of_ne _ _ _ _ (mbxInbox_addr_ne_mbxStat hs hd d).symm,
    Lane.rbit_setRbit _ _ _ (by omega)]

theorem Lane.inbox_mbxPut (l : Lane) {s : Nat} (hs : s < 8) (d w : Nat) : (l.mbxPut s d w).rbit (Rg.mbxInbox d) s = true :=
  Lane.rbit_setRbit _ _ _ (by omega)

theorem Lane.mbxPut_regsKept (l : Lane) (s d w : Nat) :
    RegsKept [(Rg.mbxData s d).addr, (Rg.mbxStat s d).addr, (Rg.mbxInbox d).addr] l (l.mbxPut s d w) :=
  ((regsKept_setReg (by simp) l w).trans (regsKept_setRbit (by simp) _ 0 true)).trans (regsKept_setRbit (by simp) _ s true)

/-- A word arrives at a full mailbox: REFUSED, which stays full, and the sender's counter (R457). -/
theorem Lane.mbxArrive_of_full {l : Lane} {s d : Nat} (h : l.mbxFull s d = true) (w : Nat) :
    ∃ n, l.mbxArrive s d w
      = { l.setRbit (Rg.mbxStat s d) 1 true with eng := { l.eng with refusals := n } } := by
  rw [Lane.mbxArrive, if_pos h]
  exact ⟨_, rfl⟩

/-- A word arrives at an empty mailbox and is put there. -/
theorem Lane.mbxArrive_of_empty {l : Lane} {s d : Nat} (h : l.mbxFull s d = false) (w : Nat) :
    l.mbxArrive s d w = l.mbxPut s d w := by
  rw [Lane.mbxArrive, if_neg (by simp [h])]

/-- A word for a stopped island waits in its crossing (R26). -/
theorem Lane.mbxSend_of_stopped {l : Lane} {d : Nat} (h : l.islandStopped d = true) (s w : Nat) :
    l.mbxSend s d w = { l with eng := { l.eng with held := l.eng.held ++ [(s, d, w)] } } := by
  rw [Lane.mbxSend, if_pos h]

theorem Lane.mbxSend_of_running {l : Lane} {d : Nat} (h : l.islandStopped d = false) (s w : Nat) :
    l.mbxSend s d w = l.mbxArrive s d w := by
  rw [Lane.mbxSend, if_neg (by simp [h])]

/-- What `Lane.dbDone` does with one doorbell. -/
def Lane.dbDoneOne (d : Nat) (abort : Bool) (l : Lane) (i : Nat) : Lane :=
  if l.eng.dbTo.getD i none = some d then
    (({ l with eng := { l.eng with dbTo := l.eng.dbTo.set i none } }).setObj (O.dbFull i) 0).incIf (O.dbAborts i) abort
  else l

theorem Lane.dbDone_eq_foldl (l : Lane) (d : Nat) (abort : Bool) :
    l.dbDone d abort = (List.range 4).foldl (Lane.dbDoneOne d abort) l := rfl

/-- From `x`, nothing but registers, objects and the engines with which doorbells' words lie has changed. -/
def DoorbellReach (x y : Lane) : Prop :=
  ∃ rs os ts, y = { x with regs := rs, objs := os, eng := { x.eng with dbTo := ts } }

theorem DoorbellReach.refl (x : Lane) : DoorbellReach x x := ⟨_, _, _, rfl⟩

theorem DoorbellReach.trans {x y z : Lane} : DoorbellReach x y → DoorbellReach y z → DoorbellReach x z := by
  rintro ⟨_, _, _, rfl⟩ ⟨_, _, _, rfl⟩
  exact ⟨_, _, _, rfl⟩

theorem Lane.dbDoneOne_reach (d : Nat) (abort : Bool) (l : Lane) (i : Nat) : DoorbellReach l (l.dbDoneOne d abort i) := by
  unfold Lane.dbDoneOne
  split
  · cases abort <;> exact ⟨_, _, _, rfl⟩
  · exact DoorbellReach.refl l

theorem Lane.dbDone_reach (l : Lane) (d : Nat) (abort : Bool) : DoorbellReach l (l.dbDone d abort) :=
  List.foldlRecOn _ (Lane.dbDoneOne d abort) (DoorbellReach.refl l) fun b hb i _ => hb.trans (b.dbDoneOne_reach d abort i)

theorem Lane.regs_dbDone (l : Lane) (d : Nat) (abort : Bool) : (l.dbDone d abort).regs = l.regs := by
  rw [Lane.dbDone_eq_foldl]
  refine List.foldlRecOn (motive := fun b => b.regs = l.regs) _ (Lane.dbDoneOne d abort) rfl fun b hb i _ => ?_
  unfold Lane.dbDoneOne
  split
  · cases abort <;> exact hb
  · exact hb

@[simp] theorem Lane.reg_dbDone (l : Lane) (d : Nat) (abort : Bool) (r : Rg.Reg) : (l.dbDone d abort).reg r = l.reg r :=
  congrArg (kvGet r.reset · r.addr) (l.regs_dbDone d abort)

/-- A doorbell has no word in a mailbox, and DB_FULL is clear. -/
def Lane.DbIdle (i : Nat) (l : Lane) : Prop := l.obj (O.dbFull i) = 0 ∧ l.eng.dbTo.getD i none = none

/-- The doorbell whose word lay there is idle. -/
theorem Lane.dbIdle_dbDoneOne {d : Nat} {abort : Bool} {l : Lane} {i : Nat}
    (h : l.eng.dbTo.getD i none = some d) : (l.dbDoneOne d abort i).DbIdle i := by
  have key : (O.dbFull i).key ≠ (O.dbAborts i).key := by
    simp only [O.dbFull, O.dbAborts]
    omega
  have idle : (l.eng.dbTo.set i none).getD i none = none := by
    simp only [List.getD_eq_getElem?_getD, List.getElem?_set]
    split
    · split <;> rfl
    · contradiction
  rw [Lane.dbDoneOne, if_pos h]
  cases abort
  · exact ⟨Lane.obj_setObj _ _ _, idle⟩
  · exact ⟨(Lane.obj_inc_of_ne _ key).trans (Lane.obj_setObj _ _ _), idle⟩

/-- A doorbell stays idle, and one whose word lies with an engine is idle or has it there still, whatever other doorbell is done with. -/
theorem Lane.dbDoneOne_of_ne {d : Nat} {abort : Bool} (l : Lane) {i j : Nat} (hi : i < 4) (hj : j < 4) (h : i ≠ j) :
    (l.dbDoneOne d abort j).obj (O.dbFull i) = l.obj (O.dbFull i) ∧
      (l.dbDoneOne d abort j).eng.dbTo.getD i none = l.eng.dbTo.getD i none := by
  have full : (O.dbFull i).key ≠ (O.dbFull j).key := by
    simp only [O.dbFull]
    omega
  have aborts : (O.dbFull i).key ≠ (O.dbAborts j).key := by
    simp only [O.dbFull, O.dbAborts]
    omega
  have other : (l.eng.dbTo.set j none).getD i none = l.eng.dbTo.getD i none := by
    simp [List.getD_eq_getElem?_getD, Ne.symm h]
  unfold Lane.dbDoneOne
  split
  · cases abort
    · exact ⟨Lane.obj_setObj_of_ne _ _ full, other⟩
    · exact ⟨(Lane.obj_inc_of_ne _ aborts).trans (Lane.obj_setObj_of_ne _ _ full), other⟩
  · exact ⟨rfl, rfl⟩

theorem Lane.dbIdle_dbDoneOne_of_dbIdle {d : Nat} {abort : Bool} {l : Lane} {i j : Nat} (hi : i < 4) (hj : j < 4)
    (h : l.DbIdle i) : (l.dbDoneOne d abort j).DbIdle i := by
  by_cases e : i = j
  · subst e
    rw [Lane.dbDoneOne, h.2, if_neg (by simp)]
    exact h
  · obtain ⟨o, t⟩ := l.dbDoneOne_of_ne (d := d) (abort := abort) hi hj e
    exact ⟨o.trans h.1, t.trans h.2⟩

/-- Every doorbell whose word lies with the engine is idle afterwards (R361). -/
theorem Lane.dbIdle_dbDone {l : Lane} {d i : Nat} (abort : Bool) (hi : i < 4) (h : l.eng.dbTo.getD i none = some d) :
    (l.dbDone d abort).DbIdle i := by
  rw [Lane.dbDone_eq_foldl]
  refine foldl_establishes (fun b => b.DbIdle i ∨ b.eng.dbTo.getD i none = some d) (Lane.DbIdle i)
    (fun b j hj hb => ?_) (fun b j hj hb => Lane.dbIdle_dbDoneOne_of_dbIdle hi (List.mem_range.mp hj) hb)
    (fun b hb => ?_) (List.mem_range.mpr hi) (Or.inr h)
  · have hj := List.mem_range.mp hj
    by_cases e : i = j
    · subst e
      exact Or.inl (hb.elim (Lane.dbIdle_dbDoneOne_of_dbIdle hi hi) Lane.dbIdle_dbDoneOne)
    · exact hb.imp (Lane.dbIdle_dbDoneOne_of_dbIdle hi hj) (b.dbDoneOne_of_ne hi hj e).2.trans
  · exact hb.elim (Lane.dbIdle_dbDoneOne_of_dbIdle hi hi) Lane.dbIdle_dbDoneOne

/-- The notice that a sender has of a mailbox that has been emptied: TAKEN or ABORTED of its receiver (R457). -/
def noteBit (d : Nat) (abort : Bool) : Nat := d + (if abort then 8 else 0)

/-- The registers of a lane whose mailbox has been emptied: FULL and the inbox bit clear, the notice set. -/
def Lane.mbxCleared (l : Lane) (s d : Nat) (abort : Bool) : Lane :=
  ((l.setRbit (Rg.mbxStat s d) 0 false).setRbit (Rg.mbxInbox d) s false).setRbit (Rg.mbxNote s) (noteBit d abort) true

/-- Only E0's words are a doorbell's. -/
theorem Lane.mbxEmpty_eq (l : Lane) (s d : Nat) (abort : Bool) : l.mbxEmpty s d abort
    = if s = 0 then (l.mbxCleared s d abort).dbDone d abort else l.mbxCleared s d abort := rfl

theorem Lane.mbxEmpty_reach (l : Lane) (s d : Nat) (abort : Bool) : DoorbellReach l (l.mbxEmpty s d abort) := by
  rw [Lane.mbxEmpty_eq]
  split
  · exact DoorbellReach.trans ⟨_, _, _, rfl⟩ (Lane.dbDone_reach _ d abort)
  · exact ⟨_, _, _, rfl⟩

@[simp] theorem Lane.reg_mbxEmpty (l : Lane) (s d : Nat) (abort : Bool) (r : Rg.Reg) :
    (l.mbxEmpty s d abort).reg r = (l.mbxCleared s d abort).reg r := by
  rw [Lane.mbxEmpty_eq]
  split
  · exact Lane.reg_dbDone _ _ _ _
  · rfl

theorem Lane.mbxEmpty_regsKept (l : Lane) (s d : Nat) (abort : Bool) :
    RegsKept [(Rg.mbxStat s d).addr, (Rg.mbxInbox d).addr, (Rg.mbxNote s).addr] l (l.mbxEmpty s d abort) := fun r hr =>
  (l.reg_mbxEmpty s d abort r).trans
    (((regsKept_setRbit (by simp) l 0 false).trans (regsKept_setRbit (by simp) _ s false)).trans
      (regsKept_setRbit (by simp) _ (noteBit d abort) true) r hr)

theorem Lane.mbxFull_mbxEmpty (l : Lane) {s d : Nat} (hs : s < 8) (hd : d < 8) (abort : Bool) :
    (l.mbxEmpty s d abort).mbxFull s d = false := by
  rw [Lane.mbxFull_of_reg_eq (l.reg_mbxEmpty s d abort _), Lane.mbxFull, Lane.mbxCleared,
    Lane.rbit_setRbit_of_ne _ _ _ _ (mbxNote_addr_ne_mbxStat hs hd s).symm,
    Lane.rbit_setRbit_of_ne _ _ _ _ (mbxInbox_addr_ne_mbxStat hs hd d).symm, Lane.rbit_setRbit _ _ _ (by omega)]

theorem Lane.inbox_mbxEmpty (l : Lane) {s d : Nat} (hs : s < 8) (hd : d < 8) (abort : Bool) :
    (l.mbxEmpty s d abort).rbit (Rg.mbxInbox d) s = false := by
  rw [Lane.rbit_of_reg_eq (l.reg_mbxEmpty s d abort _), Lane.mbxCleared,
    Lane.rbit_setRbit_of_ne _ _ _ _ (mbxNote_addr_ne_mbxInbox hd s).symm, Lane.rbit_setRbit _ _ _ (by omega)]

theorem Lane.note_mbxEmpty (l : Lane) (s : Nat) {d : Nat} (hd : d < 8) (abort : Bool) :
    (l.mbxEmpty s d abort).rbit (Rg.mbxNote s) (noteBit d abort) = true := by
  have hn : noteBit d abort < 32 := by
    unfold noteBit
    split <;> omega
  rw [Lane.rbit_of_reg_eq (l.reg_mbxEmpty s d abort _), Lane.mbxCleared, Lane.rbit_setRbit _ _ _ hn]

/-- What `Lane.mbxAbortAll` does with the mailbox of one sender; `cut` are the words that it has discarded in their crossing. -/
def Lane.mbxAbortOne (d : Nat) (cut : List (Nat × Nat × Nat)) (l : Lane) (s : Nat) : Lane :=
  if l.mbxFull s d then l.mbxEmpty s d true
  else if cut.any fun x => x.1 = s then
    let l := l.setRbit (Rg.mbxNote s) (d + 8) true
    if s = 0 then l.dbDone d true else l
  else l

theorem Lane.mbxAbortAll_eq_foldl (l : Lane) (d : Nat) : l.mbxAbortAll d
    = (List.range 8).foldl (Lane.mbxAbortOne d (l.eng.held.filter fun x => x.2.1 = d))
      { l with eng := { l.eng with held := l.eng.held.filter fun x => x.2.1 ≠ d } } := rfl

/-- The three ways of one sender's mailbox: emptied, only noted, or left. -/
theorem Lane.mbxAbortOne_cases (d : Nat) (cut : List (Nat × Nat × Nat)) (l : Lane) (s : Nat) :
    l.mbxFull s d = true ∧ l.mbxAbortOne d cut s = l.mbxEmpty s d true ∨
    l.mbxFull s d = false ∧ (∃ w, (s, w) ∈ cut) ∧
      (∀ r, (l.mbxAbortOne d cut s).reg r = (l.setRbit (Rg.mbxNote s) (d + 8) true).reg r) ∨
    l.mbxFull s d = false ∧ (¬ ∃ w, (s, w) ∈ cut) ∧ l.mbxAbortOne d cut s = l := by
  unfold Lane.mbxAbortOne
  cases full : l.mbxFull s d with
  | true => exact Or.inl ⟨rfl, if_pos rfl⟩
  | false =>
    have any : (cut.any fun x => x.1 = s) = true ↔ ∃ w, (s, w) ∈ cut := by
      simp only [List.any_eq_true, decide_eq_true_eq]
      exact ⟨fun ⟨⟨_, w⟩, hm, e⟩ => ⟨w, e ▸ hm⟩, fun ⟨w, hm⟩ => ⟨_, hm, rfl⟩⟩
    by_cases held : ∃ w, (s, w) ∈ cut
    · refine Or.inr (Or.inl ⟨rfl, held, fun r => ?_⟩)
      rw [if_neg (by simp), if_pos (any.mpr held)]
      dsimp only
      split
      · exact Lane.reg_dbDone _ _ _ _
      · rfl
    · exact Or.inr (Or.inr ⟨rfl, held, by rw [if_neg (by simp), if_neg (any.not.mpr held)]⟩)

theorem Lane.mbxAbortOne_regsKept (d : Nat) (cut : List (Nat × Nat × Nat)) (l : Lane) (s : Nat) :
    RegsKept [(Rg.mbxStat s d).addr, (Rg.mbxInbox d).addr, (Rg.mbxNote s).addr] l (l.mbxAbortOne d cut s) := by
  obtain ⟨_, e⟩ | ⟨_, _, e⟩ | ⟨_, _, e⟩ := Lane.mbxAbortOne_cases d cut l s
  · rw [e]
    exact l.mbxEmpty_regsKept s d true
  · exact fun r hr => (e r).trans (regsKept_setRbit (by simp) l (d + 8) true r hr)
  · rw [e]
    exact RegsKept.refl _ _

theorem Lane.mbxFull_mbxAbortOne {d : Nat} (hd : d < 8) (cut : List (Nat × Nat × Nat)) (l : Lane) {s : Nat} (hs : s < 8) :
    (l.mbxAbortOne d cut s).mbxFull s d = false := by
  obtain ⟨_, e⟩ | ⟨h, _, e⟩ | ⟨h, _, e⟩ := Lane.mbxAbortOne_cases d cut l s
  · rw [e, l.mbxFull_mbxEmpty hs hd]
  · rw [Lane.mbxFull_of_reg_eq ((e _).trans (l.reg_setRbit_of_ne _ _ (mbxNote_addr_ne_mbxStat hs hd s).symm)), h]
  · rw [e, h]

theorem Lane.mbxFull_mbxAbortOne_of_ne {d : Nat} (hd : d < 8) (cut : List (Nat × Nat × Nat)) (l : Lane) {s k : Nat}
    (hk : k < 8) (h : k ≠ s) : (l.mbxAbortOne d cut s).mbxFull k d = l.mbxFull k d := by
  refine Lane.mbxFull_of_reg_eq (l.mbxAbortOne_regsKept d cut s _ ?_)
  simp [mbxStat_addr_ne d h, (mbxInbox_addr_ne_mbxStat hk hd d).symm, (mbxNote_addr_ne_mbxStat hk hd s).symm]

/-- ABORTED of a sender whose mailbox is full or whose word is cut, and of one that has it already. -/
theorem Lane.note_mbxAbortOne {d : Nat} (hd : d < 8) {cut : List (Nat × Nat × Nat)} {l : Lane} {s : Nat}
    (h : l.rbit (Rg.mbxNote s) (d + 8) = true ∨ l.mbxFull s d = true ∨ ∃ w, (s, w) ∈ cut) :
    (l.mbxAbortOne d cut s).rbit (Rg.mbxNote s) (d + 8) = true := by
  obtain ⟨_, e⟩ | ⟨_, _, e⟩ | ⟨h1, h2, e⟩ := Lane.mbxAbortOne_cases d cut l s
  · rw [e]
    exact l.note_mbxEmpty s hd true
  · rw [Lane.rbit_of_reg_eq (e _), Lane.rbit_setRbit _ _ _ (by omega)]
  · rw [e]
    exact h.resolve_right (by simp [h1, h2])

theorem Lane.note_mbxAbortOne_of_ne {d : Nat} (hd : d < 8) (cut : List (Nat × Nat × Nat)) (l : Lane) {s k : Nat}
    (hs : s < 8) (h : k ≠ s) (i : Nat) :
    (l.mbxAbortOne d cut s).rbit (Rg.mbxNote k) i = l.rbit (Rg.mbxNote k) i := by
  refine Lane.rbit_of_reg_eq (l.mbxAbortOne_regsKept d cut s _ ?_) i
  simp [mbxNote_addr_ne h, mbxNote_addr_ne_mbxStat hs hd k, mbxNote_addr_ne_mbxInbox hd k]

theorem Lane.mbxAbortOne_reach (d : Nat) (cut : List (Nat × Nat × Nat)) (l : Lane) (s : Nat) :
    DoorbellReach l (l.mbxAbortOne d cut s) := by
  unfold Lane.mbxAbortOne
  split
  · exact l.mbxEmpty_reach s d true
  · split
    · dsimp only
      split
      · exact DoorbellReach.trans ⟨_, _, _, rfl⟩ (Lane.dbDone_reach _ d true)
      · exact ⟨_, _, _, rfl⟩
    · exact DoorbellReach.refl l

/-- A reset of an engine discards the words for it and touches nothing else but registers, objects and doorbells (R457). -/
theorem Lane.mbxAbortAll_reach (l : Lane) (d : Nat) :
    DoorbellReach { l with eng := { l.eng with held := l.eng.held.filter fun x => x.2.1 ≠ d } } (l.mbxAbortAll d) :=
  List.foldlRecOn _ (Lane.mbxAbortOne d (l.eng.held.filter fun x => x.2.1 = d)) (DoorbellReach.refl _)
    fun b hb s _ => hb.trans (b.mbxAbortOne_reach d _ s)

/-- Every inbound mailbox of a reset engine is empty. -/
theorem Lane.mbxFull_mbxAbortAll (l : Lane) {d k : Nat} (hd : d < 8) (hk : k < 8) : (l.mbxAbortAll d).mbxFull k d = false := by
  rw [Lane.mbxAbortAll_eq_foldl]
  refine foldl_establishes (fun _ => True) (fun b : Lane => b.mbxFull k d = false) (fun _ _ _ _ => trivial) (fun b s hs hb => ?_)
    (fun b _ => b.mbxFull_mbxAbortOne hd _ hk) (List.mem_range.mpr hk) trivial
  by_cases e : k = s
  · subst e
    exact b.mbxFull_mbxAbortOne hd _ hk
  · rw [b.mbxFull_mbxAbortOne_of_ne hd _ hk e, hb]

/-- Every sender whose word a reset has discarded has its notice. -/
theorem Lane.note_mbxAbortAll {l : Lane} {d k : Nat} (hd : d < 8) (hk : k < 8)
    (h : l.mbxFull k d = true ∨ ∃ w, (k, d, w) ∈ l.eng.held) : (l.mbxAbortAll d).rbit (Rg.mbxNote k) (d + 8) = true := by
  rw [Lane.mbxAbortAll_eq_foldl]
  have cut : (∃ w, (k, d, w) ∈ l.eng.held) → ∃ w, (k, w) ∈ l.eng.held.filter fun x => x.2.1 = d :=
    fun ⟨w, hw⟩ => ⟨(d, w), by simp [hw]⟩
  refine foldl_establishes
    (fun b : Lane => b.rbit (Rg.mbxNote k) (d + 8) = true ∨ b.mbxFull k d = true ∨ ∃ w, (k, w) ∈ l.eng.held.filter fun x => x.2.1 = d)
    (fun b : Lane => b.rbit (Rg.mbxNote k) (d + 8) = true) (fun b s hs hb => ?_) (fun b s hs hb => ?_)
    (fun b hb => Lane.note_mbxAbortOne hd hb) (List.mem_range.mpr hk) (Or.inr (h.imp_right cut))
  · by_cases e : k = s
    · subst e
      exact Or.inl (Lane.note_mbxAbortOne hd hb)
    · rwa [b.note_mbxAbortOne_of_ne hd _ (List.mem_range.mp hs) e, b.mbxFull_mbxAbortOne_of_ne hd _ hk e]
  · by_cases e : k = s
    · subst e
      exact Lane.note_mbxAbortOne hd (Or.inl hb)
    · rwa [b.note_mbxAbortOne_of_ne hd _ (List.mem_range.mp hs) e]

end Sys2Proof.Machine
end

section
/-!
SUPPORT. The commands of the engines, mailboxes and doorbells (R361, R454 to R457, R470), each with the lane that it reaches.
-/
namespace Sys2Proof.Machine

/-- A command that E1 has run up to, in a lane with its supply. -/
theorem onE1_of_findsE1 {s : State} {l : LaneId} {t : Nat} {x : Lane} (h : FindsE1 s l t x) (f : Lane → Lane) :
    onE1 l t s f = .next (s.setLane l (f x)) := by
  obtain ⟨powered, rfl⟩ := h
  rw [onE1, onLaneAt_of_sees ⟨powered, rfl⟩]

section
variable {s : State} {l : LaneId} {t : Nat} {x : Lane}

theorem exec_engRun_of_owned (h : Sees s l t x) {e : Fin 8} {run : Bool} (he : ownedEngine e = true)
    (hs : x.started = true ∨ run = false) : ∃ y, exec (.engRun l e run t) s = .next (s.setLane l y) ∧
      y.rbit Rg.engCtl e = run ∧ y.rbit Rg.engStat e = run ∧
      y.eng = (if run = true ∧ x.rbit Rg.engCtl e = false then
        { x.eng with kickAt := x.eng.kickAt.set e none, relAt := x.eng.relAt.set e x.now } else x.eng) ∧
      RegsKept [Rg.engCtl.addr, Rg.engStat.addr] x y ∧ y = { x with regs := y.regs, eng := y.eng } := by
  have ok : (ownedEngine e && (x.started || !run)) = true := by
    obtain hs | hs := hs <;> simp [he, hs]
  have ctl : ((x.setRbit Rg.engCtl e run).setRbit Rg.engStat e run).rbit Rg.engCtl e = run := by
    rw [Lane.rbit_setRbit_of_ne _ _ _ _ (by decide), Lane.rbit_setRbit _ _ _ (by omega)]
  have stat : ((x.setRbit Rg.engCtl e run).setRbit Rg.engStat e run).rbit Rg.engStat e = run :=
    Lane.rbit_setRbit _ _ _ (by omega)
  have kept : RegsKept [Rg.engCtl.addr, Rg.engStat.addr] x ((x.setRbit Rg.engCtl e run).setRbit Rg.engStat e run) :=
    (regsKept_setRbit (by simp) x e run).trans (regsKept_setRbit (by simp) _ e run)
  have arm : exec (.engRun l e run t) s = execEngRun l e run t s := rfl
  rw [arm, execEngRun, onLaneAt_of_sees h, if_pos ok]
  dsimp only
  by_cases fresh : run = true ∧ x.rbit Rg.engCtl e = false
  · rw [if_pos (by simp [fresh]), if_pos fresh]
    exact ⟨_, rfl, ctl, stat, rfl, kept, rfl⟩
  · rw [if_neg (by simpa using fresh), if_neg fresh]
    exact ⟨_, rfl, ctl, stat, rfl, kept, rfl⟩

theorem exec_engRun_of_not_owned (h : Sees s l t x) {e : Fin 8} {run : Bool}
    (hs : ownedEngine e = false ∨ x.started = false ∧ run = true) :
    exec (.engRun l e run t) s = .next (s.setLane l x) := by
  have no : ¬ (ownedEngine e && (x.started || !run)) = true := by
    obtain hs | ⟨hs, hr⟩ := hs
    · simp [hs]
    · simp [hs, hr]
  have arm : exec (.engRun l e run t) s = execEngRun l e run t s := rfl
  rw [arm, execEngRun, onLaneAt_of_sees h, if_neg no]

/-- E1 has no kick register. -/
theorem exec_engKick_one (h : Sees s l t x) : exec (.engKick l 1 t) s = .next (s.setLane l x) := by
  have arm : exec (.engKick l 1 t) s = execEngKick l 1 t s := rfl
  rw [arm, execEngKick, onLaneAt_of_sees h, if_pos rfl]

/-- A kick comes less than 100 µs or more than 2 ms after the last one (R455). -/
def Lane.kickBad (x : Lane) (e : Nat) : Bool :=
  match x.eng.kickAt.getD e none with
  | some p => decide (x.now < p + 100000) || decide (p + 2000000 < x.now)
  | none => false

theorem Lane.kickBad_of_none {x : Lane} {e : Nat} (h : x.eng.kickAt.getD e none = none) : x.kickBad e = false := by
  rw [Lane.kickBad, h]

theorem Lane.kickBad_of_some {x : Lane} {e p : Nat} (h : x.eng.kickAt.getD e none = some p) :
    x.kickBad e = true ↔ x.now < p + 100000 ∨ p + 2000000 < x.now := by
  rw [Lane.kickBad, h]
  simp

theorem exec_engKick_of_ne (h : Sees s l t x) {e : Fin 8} (he : e ≠ 1) : exec (.engKick l e t) s = .next (s.setLane l
    (if x.kickBad e = true then x.wdogTrip e else { x with eng := { x.eng with kickAt := x.eng.kickAt.set e (some x.now) } })) := by
  have arm : exec (.engKick l e t) s = execEngKick l e t s := rfl
  rw [arm, execEngKick, onLaneAt_of_sees h, if_neg he]
  rfl

theorem Lane.setRbit_withEng (x : Lane) (g : EngSt) (r : Rg.Reg) (i : Nat) (b : Bool) :
    ({ x with eng := g } : Lane).setRbit r i b = { x.setRbit r i b with eng := g } := rfl

/-- A watchdog that trips is error 0x02 of its engine, after its trip bit is set and its window has ended (R454, R455). -/
theorem Lane.wdogTrip_errorOf (x : Lane) (e : Nat) : ErrorOf
    (({ x with eng := { x.eng with kickAt := x.eng.kickAt.set e none, relAt := x.eng.relAt.set e x.now } }).setRbit Rg.engStat (e + 8) true)
    0x02 e (x.wdogTrip e) := by
  have trip : x.wdogTrip e = (({ x with eng :=
      { x.eng with kickAt := x.eng.kickAt.set e none, relAt := x.eng.relAt.set e x.now } }).setRbit Rg.engStat (e + 8) true).raise 0x02 e := by
    simp only [Lane.wdogTrip, Lane.setRbit_withEng, Lane.setRbit_eng, Lane.setRbit_now]
  rw [trip]
  exact Lane.raise_errorOf _ 0x02 e

/-- What MAILBOX_WRITE does, by the state of the two islands and of the mailbox (R26, R457). -/
theorem exec_mailboxWrite_of_barred (h : Sees s l t x) {a d : Fin 8} (w : BitVec 32)
    (hb : a = d ∨ a = 1 ∨ x.islandStopped a = true) : exec (.mailboxWrite l a d w t) s = .next (s.setLane l x) := by
  have arm : exec (.mailboxWrite l a d w t) s = execMailboxWrite l a d w t s := rfl
  rw [arm, execMailboxWrite, onLaneAt_of_sees h, if_pos (by simpa [or_assoc] using hb)]

theorem exec_mailboxWrite_of_sender (h : Sees s l t x) {a d : Fin 8} (w : BitVec 32) (hd : a ≠ d) (h1 : a ≠ 1)
    (ha : x.islandStopped a = false) : exec (.mailboxWrite l a d w t) s = .next (s.setLane l (x.mbxSend a d w.toNat)) := by
  have arm : exec (.mailboxWrite l a d w t) s = execMailboxWrite l a d w t s := rfl
  rw [arm, execMailboxWrite, onLaneAt_of_sees h, if_neg (by simp [hd, h1, ha])]

theorem exec_mailboxWrite_of_full (h : Sees s l t x) {a d : Fin 8} (w : BitVec 32) (hd : a ≠ d) (h1 : a ≠ 1)
    (ha : x.islandStopped a = false) (hr : x.islandStopped d = false) (full : x.mbxFull a d = true) :
    ∃ y, exec (.mailboxWrite l a d w t) s = .next (s.setLane l y) ∧ y.rbit (Rg.mbxStat a d) 1 = true ∧
      y.mbxFull a d = true ∧ RegsKept [(Rg.mbxStat a d).addr] x y ∧
      y = { x with regs := y.regs, eng := { x.eng with refusals := y.eng.refusals } } := by
  obtain ⟨n, e⟩ := Lane.mbxArrive_of_full full w.toNat
  rw [exec_mailboxWrite_of_sender h w hd h1 ha, Lane.mbxSend_of_running hr, e]
  exact ⟨_, rfl, x.rbit_setRbit _ true (by omega), (x.rbit_setRbit_beside _ true (by omega) (by omega)).trans full,
    regsKept_setRbit (by simp) x 1 true, rfl⟩

theorem exec_mailboxWrite_of_empty (h : Sees s l t x) {a d : Fin 8} (w : BitVec 32) (hd : a ≠ d) (h1 : a ≠ 1)
    (ha : x.islandStopped a = false) (hr : x.islandStopped d = false) (empty : x.mbxFull a d = false) :
    ∃ y, exec (.mailboxWrite l a d w t) s = .next (s.setLane l y) ∧ y.reg (Rg.mbxData a d) = w.toNat ∧
      y.mbxFull a d = true ∧ y.rbit (Rg.mbxInbox d) a = true ∧
      RegsKept [(Rg.mbxData a d).addr, (Rg.mbxStat a d).addr, (Rg.mbxInbox d).addr] x y ∧ y = { x with regs := y.regs } := by
  rw [exec_mailboxWrite_of_sender h w hd h1 ha, Lane.mbxSend_of_running hr, Lane.mbxArrive_of_empty empty]
  exact ⟨_, rfl, (x.reg_data_mbxPut a.isLt d.isLt _).trans (Nat.mod_eq_of_lt w.isLt), x.mbxFull_mbxPut a.isLt d.isLt _,
    x.inbox_mbxPut a.isLt d _, x.mbxPut_regsKept a d _, rfl⟩

theorem exec_doorbell_of_full (h : Sees s l t x) {d : Fin 4} (w : BitVec 32) (full : x.flag (O.dbFull d) = true) :
    exec (.doorbell l d w t) s = .next (s.setLane l x) := by
  have arm : exec (.doorbell l d w t) s = execDoorbell l d w t s := rfl
  rw [arm, execDoorbell, onLaneAt_of_sees h, if_pos full]

theorem exec_doorbell_of_free (h : Sees s l t x) {d : Fin 4} (w : BitVec 32) (free : x.flag (O.dbFull d) = false) :
    ∃ y, exec (.doorbell l d w t) s = .next (s.setLane l y) ∧ y.obj (O.doorbell d) = w.toNat ∧
      y.flag (O.dbFull d) = true ∧ ObjsKept [(O.doorbell d).key, (O.dbFull d).key] x y ∧ y = { x with objs := y.objs } := by
  have key : (O.doorbell d).key ≠ (O.dbFull d).key := by
    simp only [O.doorbell, O.dbFull]
    omega
  have arm : exec (.doorbell l d w t) s = execDoorbell l d w t s := rfl
  rw [arm, execDoorbell, onLaneAt_of_sees h, if_neg (by simp [free])]
  refine ⟨_, rfl, ?_, ?_, ?_, rfl⟩
  · rw [Lane.obj_setObj_of_ne _ _ key, Lane.obj_setObj]
  · rw [Lane.flag, Lane.obj_setObj]
    rfl
  · exact (objsKept_setObj (by simp) x _).trans (objsKept_setObj (by simp) _ 1)

/-- A doorbell may be forwarded (R361): it is full, its word lies nowhere yet, and the mailbox and the crossing to its engine are empty. -/
def Lane.dbFree (x : Lane) (d : Nat) : Prop := x.flag (O.dbFull d) = true ∧ x.eng.dbTo.getD d none = none ∧
  x.mbxFull 0 (x.obj (O.dbRoute d)) = false ∧ ∀ w, (0, x.obj (O.dbRoute d), w) ∉ x.eng.held

/-- The test of DOORBELL_FORWARD. -/
theorem Lane.dbFree_iff (x : Lane) (d : Nat) : (x.flag (O.dbFull d) && (x.eng.dbTo.getD d none).isNone
    && !x.mbxFull 0 (x.obj (O.dbRoute d)) && !x.eng.held.any fun y => y.1 = 0 && y.2.1 = x.obj (O.dbRoute d)) = true
    ↔ x.dbFree d := by
  simp only [Lane.dbFree, Bool.and_eq_true, Bool.not_eq_true', Option.isNone_iff_eq_none, List.any_eq_false,
    decide_eq_true_eq, not_and, Prod.forall, and_assoc]
  exact and_congr_right fun _ => and_congr_right fun _ => and_congr_right fun _ =>
    ⟨fun k w hw => k 0 _ w hw rfl rfl, fun k a b w hw ha hb => k w (ha ▸ hb ▸ hw)⟩

theorem exec_doorbellForward_of_dbFree (h : Sees s l t x) {d : Fin 4} (free : x.dbFree d) (y : Lane)
    (hy : y = x.mbxSend 0 (x.obj (O.dbRoute d)) (x.obj (O.doorbell d))) : exec (.doorbellForward l d t) s
      = .next (s.setLane l { y with eng := { y.eng with dbTo := y.eng.dbTo.set d (some (x.obj (O.dbRoute d))) } }) := by
  subst hy
  have arm : exec (.doorbellForward l d t) s = execDoorbellForward l d t s := rfl
  rw [arm, execDoorbellForward, onLaneAt_of_sees h, if_pos ((x.dbFree_iff d).mpr free)]

theorem exec_doorbellForward_of_not_dbFree (h : Sees s l t x) {d : Fin 4} (free : ¬ x.dbFree d) :
    exec (.doorbellForward l d t) s = .next (s.setLane l x) := by
  have arm : exec (.doorbellForward l d t) s = execDoorbellForward l d t s := rfl
  rw [arm, execDoorbellForward, onLaneAt_of_sees h, if_neg ((x.dbFree_iff d).not.mpr free)]

theorem exec_doorbellForward_of_running (h : Sees s l t x) {d : Fin 4} {e : Nat} (he : e = x.obj (O.dbRoute d)) (he8 : e < 8)
    (free : x.dbFree d) (run : x.islandStopped e = false) : ∃ y, exec (.doorbellForward l d t) s = .next (s.setLane l y) ∧
      y.eng = { x.eng with dbTo := x.eng.dbTo.set d (some e) } ∧ y.mbxFull 0 e = true ∧
      y.reg (Rg.mbxData 0 e) = x.obj (O.doorbell d) % 2 ^ 32 ∧ y.rbit (Rg.mbxInbox e) 0 = true ∧
      RegsKept [(Rg.mbxData 0 e).addr, (Rg.mbxStat 0 e).addr, (Rg.mbxInbox e).addr] x y ∧
      y = { x with regs := y.regs, eng := y.eng } := by
  subst he
  obtain ⟨_, _, empty, _⟩ := id free
  have put := (Lane.mbxSend_of_running run 0 (x.obj (O.doorbell d))).trans (Lane.mbxArrive_of_empty empty _)
  have reg : ∀ r, ({ x.mbxPut 0 (x.obj (O.dbRoute d)) (x.obj (O.doorbell d)) with
      eng := { x.eng with dbTo := x.eng.dbTo.set d (some (x.obj (O.dbRoute d))) } } : Lane).reg r
      = (x.mbxPut 0 (x.obj (O.dbRoute d)) (x.obj (O.doorbell d))).reg r := fun r => rfl
  rw [exec_doorbellForward_of_dbFree h free _ put.symm]
  exact ⟨_, rfl, rfl, (Lane.mbxFull_of_reg_eq (reg _)).trans (x.mbxFull_mbxPut (by omega) he8 _),
    (reg _).trans (x.reg_data_mbxPut (by omega) he8 _), (Lane.rbit_of_reg_eq (reg _) 0).trans (x.inbox_mbxPut (by omega) _ _),
    fun r hr => (reg r).trans (x.mbxPut_regsKept 0 _ _ r hr), rfl⟩

theorem exec_doorbellForward_of_stopped (h : Sees s l t x) {d : Fin 4} {e : Nat} (he : e = x.obj (O.dbRoute d))
    (free : x.dbFree d) (stop : x.islandStopped e = true) : exec (.doorbellForward l d t) s = .next (s.setLane l
      { x with eng := { x.eng with dbTo := x.eng.dbTo.set d (some e), held := x.eng.held ++ [(0, e, x.obj (O.doorbell d))] } }) := by
  subst he
  exact exec_doorbellForward_of_dbFree h free _ (Lane.mbxSend_of_stopped stop 0 _).symm

theorem exec_engReset_of_not_owned (h : FindsE1 s l t x) {e : Fin 8} (he : ownedEngine e = false) :
    exec (.engReset l e t) s = .next (s.setLane l x) := by
  have arm : exec (.engReset l e t) s = execEngReset l e t s := rfl
  rw [arm, execEngReset, onE1_of_findsE1 h, if_neg (by simp [he])]

theorem exec_engReset_of_owned (h : FindsE1 s l t x) {e : Fin 8} (he : ownedEngine e = true) :
    ∃ y, exec (.engReset l e t) s = .next (s.setLane l y) ∧
      (∀ k < 8, y.mbxFull k e = false) ∧ y.reg (Rg.mbxNote e) = 0 ∧ y.reg (Rg.mbxIe e) = 0 ∧
      (∀ k < 8, k ≠ e.val → x.mbxFull k e = true ∨ (∃ w, (k, e.val, w) ∈ x.eng.held) → y.rbit (Rg.mbxNote k) (e + 8) = true) ∧
      y.eng.held = x.eng.held.filter (fun w => w.2.1 ≠ e.val) ∧
      y.eng.kickAt = x.eng.kickAt.set e none ∧ y.eng.relAt = x.eng.relAt.set e x.now ∧
      y = { x with regs := y.regs, objs := y.objs, eng := y.eng } := by
  have he8 : e.val < 8 := e.isLt
  obtain ⟨rs, os, ts, reach⟩ := x.mbxAbortAll_reach e
  have full : ∀ k < 8, (((x.mbxAbortAll e).setReg (Rg.mbxNote e) 0).setReg (Rg.mbxIe e) 0).mbxFull k e = false := fun k hk =>
    (Lane.mbxFull_of_reg_eq ((Lane.reg_setReg_of_ne _ _ (mbxIe_addr_ne_mbxStat hk he8 _).symm).trans
      (Lane.reg_setReg_of_ne _ _ (mbxNote_addr_ne_mbxStat hk he8 _).symm))).trans (x.mbxFull_mbxAbortAll he8 hk)
  have note : (((x.mbxAbortAll e).setReg (Rg.mbxNote e) 0).setReg (Rg.mbxIe e) 0).reg (Rg.mbxNote e) = 0 :=
    (Lane.reg_setReg_of_ne _ _ (mbxIe_addr_ne_mbxNote he8 _).symm).trans (Lane.reg_setReg _ _ _)
  have ie : (((x.mbxAbortAll e).setReg (Rg.mbxNote e) 0).setReg (Rg.mbxIe e) 0).reg (Rg.mbxIe e) = 0 := Lane.reg_setReg _ _ _
  have notes : ∀ k < 8, k ≠ e.val → x.mbxFull k e = true ∨ (∃ w, (k, e.val, w) ∈ x.eng.held) →
      (((x.mbxAbortAll e).setReg (Rg.mbxNote e) 0).setReg (Rg.mbxIe e) 0).rbit (Rg.mbxNote k) (e + 8) = true :=
    fun k hk hne hw => (Lane.rbit_of_reg_eq ((Lane.reg_setReg_of_ne _ _ (mbxIe_addr_ne_mbxNote hk _).symm).trans
      (Lane.reg_setReg_of_ne _ _ (mbxNote_addr_ne hne))) _).trans (Lane.note_mbxAbortAll he8 hk hw)
  have arm : exec (.engReset l e t) s = execEngReset l e t s := rfl
  rw [arm, execEngReset, onE1_of_findsE1 h, if_pos he]
  dsimp only
  refine ⟨_, rfl, full, note, ie, notes, ?_⟩
  rw [reach]
  exact ⟨rfl, rfl, rfl, rfl⟩

theorem exec_watchdogTrip (h : FindsE1 s l t x) (e : Fin 8) : exec (.watchdogTrip l e t) s = .next (s.setLane l
    (if (if e = 1 then x.e1Late else x.kickLate e) = true then x.wdogTrip e else x)) := by
  have arm : exec (.watchdogTrip l e t) s = execWatchdogTrip l e t s := rfl
  rw [arm, execWatchdogTrip, onE1_of_findsE1 h]

theorem exec_mailboxTake_of_stopped (h : FindsE1 s l t x) {a d r : Fin 8} (hr : x.islandStopped r = true) :
    exec (.mailboxTake l a d r t) s = .next (s.setLane l x) := by
  have arm : exec (.mailboxTake l a d r t) s = execMailboxTake l a d r t s := rfl
  rw [arm, execMailboxTake, onE1_of_findsE1 h, if_pos hr]

theorem exec_mailboxTake_of_nothing (h : FindsE1 s l t x) {a d r : Fin 8} (hr : x.islandStopped r = false)
    (no : r ≠ d ∨ a = d ∨ x.mbxFull a d = false) : exec (.mailboxTake l a d r t) s = .next (s.setLane l { x with bus := 0 }) := by
  have no' : ¬ (decide (r = d) && decide (a ≠ d) && x.mbxFull a d) = true := by
    obtain no | no | no := no <;> simp [no]
  have arm : exec (.mailboxTake l a d r t) s = execMailboxTake l a d r t s := rfl
  rw [arm, execMailboxTake, onE1_of_findsE1 h, if_neg (by simp [hr]), if_neg no']

theorem exec_mailboxTake_of_full (h : FindsE1 s l t x) {a d : Fin 8} (hr : x.islandStopped d = false) (hd : a ≠ d)
    (full : x.mbxFull a d = true) : ∃ y, exec (.mailboxTake l a d d t) s = .next (s.setLane l y) ∧
      y.bus = x.reg (Rg.mbxData a d) ∧ y.mbxFull a d = false ∧ y.rbit (Rg.mbxInbox d) a = false ∧
      y.rbit (Rg.mbxNote a) d = true ∧ RegsKept [(Rg.mbxStat a d).addr, (Rg.mbxInbox d).addr, (Rg.mbxNote a).addr] x y ∧
      (a ≠ 0 → y = { x with bus := y.bus, regs := y.regs }) ∧
      (a = 0 → y = { x with bus := y.bus, regs := y.regs, objs := y.objs, eng := { x.eng with dbTo := y.eng.dbTo } } ∧
        ∀ i < 4, x.eng.dbTo.getD i none = some d.val → y.obj (O.dbFull i) = 0 ∧ y.eng.dbTo.getD i none = none) := by
  have take : (decide (d = d) && decide (a ≠ d) && x.mbxFull a d) = true := by simp [hd, full]
  obtain ⟨rs, os, ts, reach⟩ := Lane.mbxEmpty_reach { x with bus := x.reg (Rg.mbxData a d) } a d false
  have arm : exec (.mailboxTake l a d d t) s = execMailboxTake l a d d t s := rfl
  rw [arm, execMailboxTake, onE1_of_findsE1 h, if_neg (by simp [hr]), if_pos take]
  refine ⟨_, rfl, by rw [reach],
    Lane.mbxFull_mbxEmpty _ a.isLt d.isLt false, Lane.inbox_mbxEmpty _ a.isLt d.isLt false, Lane.note_mbxEmpty _ a d.isLt false,
    Lane.mbxEmpty_regsKept { x with bus := x.reg (Rg.mbxData a d) } a d false, fun ha => ?_, fun ha => ⟨by rw [reach], fun i hi hto => ?_⟩⟩
  · have ha : a.val ≠ 0 := fun e => ha (Fin.ext e)
    rw [Lane.mbxEmpty_eq, if_neg ha]
    rfl
  · subst ha
    exact Lane.dbIdle_dbDone (l := ({ x with bus := x.reg (Rg.mbxData 0 d) } : Lane).mbxCleared 0 d false) false hi hto

end

/-- Settles O45: each command by what it does in its lane; the mailboxes by their registers, a reset and a taken word of E0 by induction
over the mailboxes and doorbells that they pass. -/
theorem enginesKickAndExchangeWords : Obligations.EnginesKickAndExchangeWords := by
  unfold Obligations.EnginesKickAndExchangeWords
  refine ⟨fun s l t x h => ⟨fun e run => exec_engRun_of_owned h, fun e run => exec_engRun_of_not_owned h,
      exec_engKick_one h, fun e he hk => ?_, fun e z p hz he hp hk => ?_, fun a d w => ?_, fun d w => ?_,
      fun d e free he he8 hf => ?_⟩,
    fun s l t x h => ⟨fun e => exec_engReset_of_not_owned h, fun e => exec_engReset_of_owned h,
      fun e z hz => ⟨fun late => ?_, fun late => ?_⟩, fun a d r => ?_⟩⟩
  · have good : x.kickBad e = false := by
      obtain hk | ⟨p, hp, hk⟩ := hk
      · exact Lane.kickBad_of_none hk
      · rw [← Bool.not_eq_true, Lane.kickBad_of_some hp]
        omega
    rw [exec_engKick_of_ne h he, if_neg (by simp [good])]
  · subst hz
    rw [exec_engKick_of_ne h he, if_pos ((Lane.kickBad_of_some hp).mpr hk)]
    exact ⟨_, rfl, x.wdogTrip_errorOf e⟩
  · exact ⟨exec_mailboxWrite_of_barred h w,
      fun hd h1 ha hr => by rw [exec_mailboxWrite_of_sender h w hd h1 ha, Lane.mbxSend_of_stopped hr],
      exec_mailboxWrite_of_full h w, exec_mailboxWrite_of_empty h w⟩
  · exact ⟨exec_doorbell_of_full h w, exec_doorbell_of_free h w⟩
  · have hf : free ↔ x.dbFree d := by
      subst he
      exact hf
    rw [hf]
    exact ⟨exec_doorbellForward_of_running h he he8, exec_doorbellForward_of_stopped h he,
      exec_doorbellForward_of_not_dbFree h⟩
  · subst hz
    rw [exec_watchdogTrip h, if_pos late]
    exact ⟨_, rfl, x.wdogTrip_errorOf e⟩
  · rw [exec_watchdogTrip h, if_neg (by simp [late])]
  · refine ⟨exec_mailboxTake_of_stopped h, exec_mailboxTake_of_nothing h, fun hr hd => ?_⟩
    subst hd
    exact exec_mailboxTake_of_full h hr

end Sys2Proof.Machine
end

section
/-!
SUPPORT. Words written under the codes of R7 to R9, the register map, the marks of a shadow write (R231), and the stages that cease
driving with their driver enable (R268).
-/
namespace Sys2Proof.Machine

theorem bitOf_eq_testBit (v i : Nat) : bitOf v i = v.testBit i := by
  simp [bitOf, bits, Nat.testBit_eq_decide_div_mod_eq]

/-- A word of ones in its low 32 bits. -/
theorem testBit_ones {i : Nat} (h : i < 32) : (0xFFFFFFFF : Nat).testBit i = true := by
  rw [show (0xFFFFFFFF : Nat) = 2 ^ 32 - 1 by norm_num, Nat.testBit_two_pow_sub_one, decide_eq_true h]

/-- Each bit of a word that is written: a W1C bit clears at 1 unless the hardware sets it in the same cycle, an RW bit takes the
value, any other bit stays (R7, R9). -/
theorem bitOf_writeWord {r : Rg.Reg} (own : ownRowMask r.addr = 0) (pwr : r.addr ≠ Rg.pwrCtl.addr) (old v hw : Nat) {i : Nat}
    (hi : i < 32) (codes : bitOf r.rw i = false ∨ bitOf r.w1c i = false) :
    bitOf (writeWord r old v hw % 2 ^ 32) i =
      if bitOf r.w1c i then bitOf hw i || (bitOf old i && !bitOf v i) else if bitOf r.rw i then bitOf v i else bitOf old i := by
  have cut : (writeWord r old v hw % 2 ^ 32).testBit i = (writeWord r old v hw).testBit i := by
    rw [Nat.testBit_mod_two_pow, decide_eq_true hi, Bool.true_and]
  simp only [bitOf_eq_testBit] at codes ⊢
  rw [cut]
  simp only [writeWord, own, pwr, decide_false, Bool.false_and, Bool.false_eq_true, if_false, Nat.testBit_or, Nat.testBit_and,
    Nat.testBit_xor, testBit_ones hi, Nat.or_self, Nat.zero_testBit, Bool.true_bne, Bool.not_false, Bool.and_true]
  obtain codes | codes := codes
  · cases hw1 : r.w1c.testBit i <;> simp [codes, Bool.or_comm]
  · cases hrw : r.rw.testBit i <;> simp [codes]

theorem regAt_addr {a : Nat} {r : Rg.Reg} (h : regAt a = some r) : r.addr = a := by
  simpa using List.find?_some h

/-- A write of any register leaves the gate-power latch, which is read only (R268). -/
theorem Lane.gateCut_setReg (x : Lane) {a : Nat} {r : Rg.Reg} (h : regAt a = some r) (v hw : Nat) :
    (x.setReg r (writeWord r (x.reg r) v hw)).gateCut = x.gateCut := by
  by_cases e : r.addr = Rg.gdStat.addr
  · have stat : r = Rg.gdStat := by
      have found : regAt Rg.gdStat.addr = some Rg.gdStat := by decide
      rw [← regAt_addr h, e, found] at h
      exact (Option.some.inj h).symm
    subst stat
    have bit := bitOf_writeWord (r := Rg.gdStat) (by decide) (by decide) (x.reg Rg.gdStat) v hw (i := 0) (by omega)
      (Or.inl (by decide))
    rw [Lane.gateCut, Lane.rbit, Lane.reg_setReg, bit]
    rfl
  · exact Lane.rbit_of_reg_eq (x.reg_setReg_of_ne _ (Ne.symm e)) 0

theorem pwmPerSh_addr_lt (st : Stage) : (Rg.pwmPerSh st).addr < 0x40020000 := by
  cases st with
  | steer => decide
  | brake n =>
    have := n.isLt
    simp only [Rg.pwmPerSh, Rg.pwmBase]
    omega

theorem pwmDutySh_addr_lt (st : Stage) {i : Nat} (hi : i < 3) : (Rg.pwmDutySh st i).addr < 0x40020000 := by
  cases st with
  | steer =>
    simp only [Rg.pwmDutySh, Rg.pwmBase]
    omega
  | brake n =>
    have := n.isLt
    simp only [Rg.pwmDutySh, Rg.pwmBase]
    omega

theorem pwmLgctl_addr_lt (st : Stage) : (Rg.pwmLgctl st).addr < 0x40020000 := by
  cases st with
  | steer => decide
  | brake n =>
    have := n.isLt
    simp only [Rg.pwmLgctl, Rg.pwmBase]
    omega

theorem pwmLgctl_addr_ne {st q : Stage} (h : st ≠ q) : (Rg.pwmLgctl st).addr ≠ (Rg.pwmLgctl q).addr := by
  cases st with
  | steer => cases q with
    | steer => exact absurd rfl h
    | brake m =>
      simp only [Rg.pwmLgctl, Rg.pwmBase]
      omega
  | brake n => cases q with
    | steer =>
      simp only [Rg.pwmLgctl, Rg.pwmBase]
      omega
    | brake m =>
      have hne : n.val ≠ m.val := fun e => h (congrArg Stage.brake (Fin.ext e))
      simp only [Rg.pwmLgctl, Rg.pwmBase]
      omega

theorem mem_allStages (st : Stage) : st ∈ allStages := by
  cases st <;> simp [allStages]

/-- The registers that a write at an address marks: PWM_LGCTL of the stage whose shadow register lies there. -/
def markedAddrs (a : Nat) : List Nat :=
  (allStages.filter fun st => a == (Rg.pwmPerSh st).addr || (List.range 3).any fun i => a == (Rg.pwmDutySh st i).addr).map
    fun st => (Rg.pwmLgctl st).addr

theorem lgctl_mem_markedAddrs_of_per {a : Nat} {st : Stage} (h : a = (Rg.pwmPerSh st).addr) :
    (Rg.pwmLgctl st).addr ∈ markedAddrs a :=
  List.mem_map_of_mem (List.mem_filter.mpr ⟨mem_allStages st, by simp [h]⟩)

theorem lgctl_mem_markedAddrs_of_duty {a : Nat} {st : Stage} {i : Nat} (hi : i < 3) (h : a = (Rg.pwmDutySh st i).addr) :
    (Rg.pwmLgctl st).addr ∈ markedAddrs a := by
  refine List.mem_map_of_mem (List.mem_filter.mpr ⟨mem_allStages st, ?_⟩)
  rw [Bool.or_eq_true, List.any_eq_true]
  exact Or.inr ⟨i, List.mem_range.mpr hi, by simp [h]⟩

theorem lt_of_mem_markedAddrs {a b : Nat} (h : b ∈ markedAddrs a) : b < 0x40020000 := by
  obtain ⟨st, _, rfl⟩ := List.mem_map.mp h
  exact pwmLgctl_addr_lt st

/-- A shadow register is no PWM_LGCTL. -/
theorem not_mem_markedAddrs (a : Nat) : a ∉ markedAddrs a := by
  intro h
  obtain ⟨st, hst, e⟩ := List.mem_map.mp h
  have marks := (List.mem_filter.mp hst).2
  rw [Bool.or_eq_true, List.any_eq_true] at marks
  obtain per | ⟨i, _, duty⟩ := marks
  · rw [beq_iff_eq] at per
    cases st <;> simp only [Rg.pwmPerSh, Rg.pwmLgctl, Rg.pwmBase] at per e <;> omega
  · rw [beq_iff_eq] at duty
    simp only [Rg.pwmDutySh, Rg.pwmLgctl] at duty e
    omega

/-- From `x`, marks of a write at address `a` have been set: in PWM_LGCTL of the marked stages alone, and none is taken back. -/
structure MarkedFrom (a : Nat) (x y : Lane) : Prop where
  reach : ∃ rs, y = { x with regs := rs }
  kept : RegsKept (markedAddrs a) x y
  stays : ∀ (st : Stage) (j : Nat), j < 32 → x.rbit (Rg.pwmLgctl st) j = true → y.rbit (Rg.pwmLgctl st) j = true

theorem MarkedFrom.refl (a : Nat) (x : Lane) : MarkedFrom a x x := ⟨⟨_, rfl⟩, RegsKept.refl _ x, fun _ _ _ h => h⟩

theorem MarkedFrom.trans {a : Nat} {x y z : Lane} (h : MarkedFrom a x y) (k : MarkedFrom a y z) : MarkedFrom a x z := by
  obtain ⟨rs, rfl⟩ := h.reach
  obtain ⟨ts, rfl⟩ := k.reach
  exact ⟨⟨ts, rfl⟩, h.kept.trans k.kept, fun st j hj b => k.stays st j hj (h.stays st j hj b)⟩

theorem markedFrom_setRbit {a : Nat} {st : Stage} (h : (Rg.pwmLgctl st).addr ∈ markedAddrs a) (x : Lane) (i : Nat) :
    MarkedFrom a x (x.setRbit (Rg.pwmLgctl st) i true) := by
  refine ⟨⟨_, rfl⟩, regsKept_setRbit h x i true, fun q j hj b => ?_⟩
  by_cases e : q = st
  · subst e
    exact x.rbit_setRbit_true _ hj b
  · rw [x.rbit_setRbit_of_ne i j true (pwmLgctl_addr_ne e), b]

/-- The bit of DUTY_W that a write at an address sets for one leg of a stage. -/
def Lane.markDuty (a : Nat) (st : Stage) (l : Lane) (i : Nat) : Lane :=
  if a = (Rg.pwmDutySh st i).addr then l.setRbit (Rg.pwmLgctl st) (3 + i) true else l

/-- What `Lane.markShadow` does for one stage. -/
def Lane.markStage (a : Nat) (l : Lane) (st : Stage) : Lane :=
  (List.range 3).foldl (Lane.markDuty a st)
    (if a = (Rg.pwmPerSh st).addr then l.setRbit (Rg.pwmLgctl st) 2 true else l)

theorem Lane.markShadow_eq_foldl (l : Lane) (a : Nat) : l.markShadow a = allStages.foldl (Lane.markStage a) l := rfl

theorem Lane.markDuty_markedFrom (a : Nat) (st : Stage) (l : Lane) {i : Nat} (hi : i < 3) :
    MarkedFrom a l (l.markDuty a st i) := by
  unfold Lane.markDuty
  split
  · exact markedFrom_setRbit (lgctl_mem_markedAddrs_of_duty hi ‹_›) l _
  · exact MarkedFrom.refl a l

theorem foldl_markDuty_markedFrom (a : Nat) (st : Stage) (l : Lane) :
    MarkedFrom a l ((List.range 3).foldl (Lane.markDuty a st) l) :=
  List.foldlRecOn _ (Lane.markDuty a st) (MarkedFrom.refl a l) fun b hb _ hi =>
    hb.trans (b.markDuty_markedFrom a st (List.mem_range.mp hi))

theorem Lane.markStage_markedFrom (a : Nat) (l : Lane) (st : Stage) : MarkedFrom a l (l.markStage a st) := by
  refine MarkedFrom.trans ?_ (foldl_markDuty_markedFrom a st _)
  split
  · exact markedFrom_setRbit (lgctl_mem_markedAddrs_of_per ‹_›) l 2
  · exact MarkedFrom.refl a l

theorem Lane.markShadow_markedFrom (l : Lane) (a : Nat) : MarkedFrom a l (l.markShadow a) :=
  List.foldlRecOn _ (Lane.markStage a) (MarkedFrom.refl a l) fun b hb st _ => hb.trans (b.markStage_markedFrom a st)

/-- A write of the period's shadow register sets PER_W (R231). -/
theorem Lane.perW_markShadow (l : Lane) {a : Nat} {st : Stage} (h : a = (Rg.pwmPerSh st).addr) :
    (l.markShadow a).rbit (Rg.pwmLgctl st) 2 = true := by
  rw [Lane.markShadow_eq_foldl]
  refine foldl_establishes (fun _ => True) (fun b : Lane => b.rbit (Rg.pwmLgctl st) 2 = true) (fun _ _ _ _ => trivial)
    (fun b q _ => (b.markStage_markedFrom a q).stays st 2 (by omega)) (fun b _ => ?_) (mem_allStages st) trivial
  refine (foldl_markDuty_markedFrom a st _).stays st 2 (by omega) ?_
  rw [if_pos h, Lane.rbit_setRbit _ _ _ (by omega)]

/-- A write of a duty's shadow register sets its bit of DUTY_W (R231). -/
theorem Lane.dutyW_markShadow (l : Lane) {a : Nat} {st : Stage} {i : Nat} (hi : i < 3) (h : a = (Rg.pwmDutySh st i).addr) :
    (l.markShadow a).rbit (Rg.pwmLgctl st) (3 + i) = true := by
  rw [Lane.markShadow_eq_foldl]
  refine foldl_establishes (fun _ => True) (fun b : Lane => b.rbit (Rg.pwmLgctl st) (3 + i) = true) (fun _ _ _ _ => trivial)
    (fun b q _ => (b.markStage_markedFrom a q).stays st _ (by omega)) (fun b _ => ?_) (mem_allStages st) trivial
  refine foldl_establishes (fun _ => True) (fun b : Lane => b.rbit (Rg.pwmLgctl st) (3 + i) = true) (fun _ _ _ _ => trivial)
    (fun b j hj => (b.markDuty_markedFrom a st (List.mem_range.mp hj)).stays st _ (by omega)) (fun b _ => ?_)
    (List.mem_range.mpr hi) trivial
  rw [Lane.markDuty, if_pos h, Lane.rbit_setRbit _ _ _ (by omega)]

/-- A write above the PWM registers marks nothing. -/
theorem Lane.markShadow_of_above (l : Lane) {a : Nat} (h : 0x40020000 ≤ a) : l.markShadow a = l := by
  have per : ∀ st, a ≠ (Rg.pwmPerSh st).addr := fun st e => by
    have := pwmPerSh_addr_lt st
    omega
  have duty : ∀ st i, i < 3 → a ≠ (Rg.pwmDutySh st i).addr := fun st i hi e => by
    have := pwmDutySh_addr_lt st hi
    omega
  rw [Lane.markShadow_eq_foldl]
  refine List.foldlRecOn (motive := fun b => b = l) _ (Lane.markStage a) rfl fun b hb st _ => ?_
  rw [Lane.markStage, if_neg (per st)]
  refine List.foldlRecOn (motive := fun b => b = l) _ (Lane.markDuty a st) hb fun b hb i hi => ?_
  rw [Lane.markDuty, if_neg (duty st i (List.mem_range.mp hi)), hb]

/-- A stage that ceases driving reaches the stages and GD_STAT (R95, R202). -/
theorem Lane.ceaseStage_reach (l : Lane) (st : Stage) :
    ∃ rs a bs, l.ceaseStage st = { l with regs := rs, steer := a, brakes := bs } := by
  cases st with
  | steer =>
    rw [Lane.ceaseStage, Lane.ceaseSteer, Lane.chooseSafe, Lane.raiseBit]
    split <;> exact ⟨_, _, _, rfl⟩
  | brake n => exact ⟨_, _, _, rfl⟩

theorem Lane.ceaseStage_regsKept (l : Lane) (st : Stage) : RegsKept [Rg.gdStat.addr] l (l.ceaseStage st) := by
  cases st with
  | steer =>
    rw [Lane.ceaseStage, Lane.ceaseSteer, Lane.chooseSafe, Lane.raiseBit]
    split
    · exact regsKept_setRbit (x := { l with steer := l.steer.stop l.now }) (by simp) 12 true
    · exact fun _ _ => rfl
  | brake n => exact fun _ _ => rfl

theorem Lane.driving_ceaseStage (l : Lane) (st : Stage) : ((l.ceaseStage st).stg st).driving = false := by
  cases st with
  | steer => simp [Lane.ceaseStage, Lane.stg]
  | brake n => simp [Lane.ceaseStage, Lane.openBrake, Lane.stg]

theorem Lane.stg_ceaseStage_of_ne (l : Lane) {st q : Stage} (h : q ≠ st) : (l.ceaseStage st).stg q = l.stg q := by
  cases st with
  | steer => cases q with
    | steer => exact absurd rfl h
    | brake m => simp [Lane.ceaseStage, Lane.stg]
  | brake n => cases q with
    | steer => rfl
    | brake m =>
      have hne : n.val ≠ m.val := fun e => h (congrArg Stage.brake (Fin.ext e).symm)
      simp [Lane.ceaseStage, Lane.openBrake, Lane.stg, Vector.getElem_set_ne, hne]

/-- What `Lane.ceaseDisabled` does with one stage. -/
def Lane.ceaseOne (l : Lane) (st : Stage) : Lane :=
  if (l.stg st).driving && !l.rbit Rg.gdCtl (stageIx st) then l.ceaseStage st else l

theorem Lane.ceaseDisabled_eq_foldl (l : Lane) : l.ceaseDisabled = allStages.foldl Lane.ceaseOne l := rfl

theorem Lane.ceaseOne_regsKept (l : Lane) (st : Stage) : RegsKept [Rg.gdStat.addr] l (l.ceaseOne st) := by
  unfold Lane.ceaseOne
  split
  · exact l.ceaseStage_regsKept st
  · exact RegsKept.refl _ l

theorem Lane.driving_ceaseOne (l : Lane) (st : Stage) :
    ((l.ceaseOne st).stg st).driving = ((l.stg st).driving && l.rbit Rg.gdCtl (stageIx st)) := by
  unfold Lane.ceaseOne
  split
  case isTrue h =>
    rw [Bool.and_eq_true, Bool.not_eq_true'] at h
    rw [l.driving_ceaseStage, h.2, Bool.and_false]
  case isFalse h =>
    cases d : (l.stg st).driving with
    | false => rfl
    | true => simpa [d] using h

theorem Lane.stg_ceaseOne_of_ne (l : Lane) {st q : Stage} (h : q ≠ st) : (l.ceaseOne st).stg q = l.stg q := by
  unfold Lane.ceaseOne
  split
  · exact l.stg_ceaseStage_of_ne h
  · rfl

theorem Lane.ceaseDisabled_reach (l : Lane) :
    ∃ rs a bs, l.ceaseDisabled = { l with regs := rs, steer := a, brakes := bs } := by
  refine List.foldlRecOn (motive := fun b => ∃ rs a bs, b = { l with regs := rs, steer := a, brakes := bs }) _ Lane.ceaseOne
    ⟨l.regs, l.steer, l.brakes, rfl⟩ ?_
  rintro _ ⟨_, _, _, rfl⟩ st _
  unfold Lane.ceaseOne
  split
  · obtain ⟨_, _, _, e⟩ := Lane.ceaseStage_reach _ st
    exact ⟨_, _, _, e⟩
  · exact ⟨_, _, _, rfl⟩

theorem Lane.ceaseDisabled_regsKept (l : Lane) : RegsKept [Rg.gdStat.addr] l l.ceaseDisabled :=
  List.foldlRecOn _ Lane.ceaseOne (RegsKept.refl _ l) fun b hb st _ => hb.trans (b.ceaseOne_regsKept st)

/-- After it a stage drives that drove and whose driver enable is set (R268). -/
theorem Lane.driving_ceaseDisabled (l : Lane) (st : Stage) :
    ((l.ceaseDisabled).stg st).driving = ((l.stg st).driving && l.rbit Rg.gdCtl (stageIx st)) := by
  have enable : ∀ b : Lane, RegsKept [Rg.gdStat.addr] l b → b.rbit Rg.gdCtl (stageIx st) = l.rbit Rg.gdCtl (stageIx st) :=
    fun b hb => Lane.rbit_of_reg_eq (hb _ (by decide)) _
  rw [Lane.ceaseDisabled_eq_foldl]
  refine (foldl_establishes (f := Lane.ceaseOne)
    (fun b => RegsKept [Rg.gdStat.addr] l b ∧ ((b.stg st).driving && l.rbit Rg.gdCtl (stageIx st))
      = ((l.stg st).driving && l.rbit Rg.gdCtl (stageIx st)))
    (fun b => RegsKept [Rg.gdStat.addr] l b ∧ (b.stg st).driving = ((l.stg st).driving && l.rbit Rg.gdCtl (stageIx st)))
    (fun b q _ hb => ⟨hb.1.trans (b.ceaseOne_regsKept q), ?_⟩) (fun b q _ hb => ⟨hb.1.trans (b.ceaseOne_regsKept q), ?_⟩)
    (fun b hb => ⟨hb.1.trans (b.ceaseOne_regsKept st), ?_⟩) (mem_allStages st) ⟨RegsKept.refl _ l, rfl⟩).2
  · by_cases e : st = q
    · subst e
      rw [b.driving_ceaseOne, enable b hb.1, Bool.and_assoc, Bool.and_self, hb.2]
    · rw [b.stg_ceaseOne_of_ne e, hb.2]
  · by_cases e : st = q
    · subst e
      rw [b.driving_ceaseOne, enable b hb.1, hb.2, Bool.and_assoc, Bool.and_self]
    · rw [b.stg_ceaseOne_of_ne e, hb.2]
  · rw [b.driving_ceaseOne, enable b hb.1, hb.2]

end Sys2Proof.Machine
end

section
/-!
SUPPORT. Writes and reads of registers and memories on the lane's bus (R7 to R9, R138, R451, R454, R459), each with the lane that it
reaches.
-/
namespace Sys2Proof.Machine

/-- `n` bytes from an address up, one by one. -/
theorem memReadAll_eq_map (m : List (Nat × Byte)) (a n : Nat) :
    memReadAll m a n = (List.range n).map fun i => memRead m (a + i) := by
  induction n generalizing a with
  | zero => rfl
  | succ n ih =>
    rw [memReadAll, ih, List.range_succ_eq_map, List.map_cons, List.map_map]
    refine congrArg (memRead m a :: ·) (List.map_congr_left fun i _ => congrArg (memRead m) ?_)
    simp only [Nat.succ_eq_add_one]
    omega

/-- Bytes read as written. -/
theorem memReadAll_memWriteAll (m : List (Nat × Byte)) (a : Nat) {bs : List Byte} {n : Nat} (h : bs.length = n) :
    memReadAll (memWriteAll m a bs) a n = bs := by
  subst h
  rw [memReadAll_eq_map]
  refine List.ext_getElem (by simp) fun i hi hb => ?_
  rw [List.getElem_map, List.getElem_range, memRead_memWriteAll_inside bs m a i hb]

@[simp] theorem length_bytesLE (n v : Nat) : (bytesLE n v).length = n := by
  induction n generalizing v with
  | zero => rfl
  | succ n ih => simp [bytesLE, ih]

/-- The local memories lie below the registers. -/
theorem lt_of_memTop {a : Nat} (h : a / 4 * 4 + 4 ≤ memTop a) : a < 0x18000000 := by
  unfold memTop at h
  split at h <;> omega

/-- While the gate-power latch is set the driver enables stay 0 (R263). -/
def Lane.holdEnables (x : Lane) : Lane := if x.gateCut = true then x.setFld Rg.gdCtl 0 9 0 else x

theorem Lane.holdEnables_regsKept (x : Lane) :
    RegsKept (if x.gateCut then [Rg.gdCtl.addr] else []) x x.holdEnables := by
  unfold Lane.holdEnables
  split
  · exact regsKept_setFld (by simp) x 0 9 0
  · exact RegsKept.refl _ x

theorem Lane.holdEnables_reach (x : Lane) : ∃ rs, x.holdEnables = { x with regs := rs } := by
  unfold Lane.holdEnables
  split <;> exact ⟨_, rfl⟩

/-- A register after a write of a word under its codes. -/
def Lane.putWord (x : Lane) (r : Rg.Reg) (v hw : Nat) : Lane := x.setReg r (writeWord r (x.reg r) v hw)

theorem Lane.gateCut_putWord (x : Lane) {a : Nat} {r : Rg.Reg} (h : regAt a = some r) (v hw : Nat) :
    (x.putWord r v hw).gateCut = x.gateCut := x.gateCut_setReg h v hw

/-- The marks of a shadow write leave the gate-power latch. -/
theorem Lane.gateCut_markShadow (x : Lane) (a : Nat) : (x.markShadow a).gateCut = x.gateCut := by
  refine Lane.rbit_of_reg_eq ((x.markShadow_markedFrom a).kept _ fun h => ?_) 0
  exact absurd (lt_of_mem_markedAddrs h) (by decide)

section
variable {s : State} {l : LaneId} {t : Nat} {x : Lane} {e : Fin 8} {a v hw : BitVec 32}

theorem exec_registerWrite_of_barred (h : FindsE1 s l t x) (hb : e.val ∉ writers a.toNat ∨ e = 1) :
    exec (.registerWrite l e a v hw t) s = .next (s.setLane l x.busRefuse) := by
  have arm : exec (.registerWrite l e a v hw t) s = execRegisterWrite l e a v hw t s := rfl
  rw [arm, execRegisterWrite, onE1_of_findsE1 h]
  dsimp only
  rw [if_pos (by simpa using hb)]

/-- What a write does that its engine may do, by where its address lies. -/
theorem exec_registerWrite_of_memory (h : FindsE1 s l t x) (he : e.val ∈ writers a.toNat) (h1 : e ≠ 1)
    (top : a.toNat / 4 * 4 + 4 ≤ memTop a.toNat) : exec (.registerWrite l e a v hw t) s = .next (s.setLane l
      { x with eng := { x.eng with mem := memWriteAll x.eng.mem (a.toNat / 4 * 4) (bytesLE 4 v.toNat) } }) := by
  have arm : exec (.registerWrite l e a v hw t) s = execRegisterWrite l e a v hw t s := rfl
  rw [arm, execRegisterWrite, onE1_of_findsE1 h]
  dsimp only
  rw [if_neg (by simp [he, h1]), if_pos (lt_of_memTop top), if_pos top]

theorem exec_registerWrite_of_no_memory (h : FindsE1 s l t x) (he : e.val ∈ writers a.toNat) (h1 : e ≠ 1)
    (low : a.toNat < 0x18000000) (top : memTop a.toNat < a.toNat / 4 * 4 + 4) :
    exec (.registerWrite l e a v hw t) s = .next (s.setLane l x.busRefuse) := by
  have arm : exec (.registerWrite l e a v hw t) s = execRegisterWrite l e a v hw t s := rfl
  rw [arm, execRegisterWrite, onE1_of_findsE1 h]
  dsimp only
  rw [if_neg (by simp [he, h1]), if_pos low, if_neg (by omega)]

theorem exec_registerWrite_of_bank (h : FindsE1 s l t x) (he : e.val ∈ writers a.toNat) (h1 : e ≠ 1)
    (bank : 0x50000000 ≤ a.toNat) : exec (.registerWrite l e a v hw t) s = .next (s.setLane l
      (if x.inActive a.toNat then x.busRefuse else x.writeStandby (a.toNat % 0x400000 / 4 * 4) (bytesLE 4 v.toNat))) := by
  have arm : exec (.registerWrite l e a v hw t) s = execRegisterWrite l e a v hw t s := rfl
  rw [arm, execRegisterWrite, onE1_of_findsE1 h]
  dsimp only
  rw [if_neg (by simp [he, h1]), if_neg (by omega), if_pos bank]

theorem exec_registerWrite_of_reg (h : FindsE1 s l t x) (he : e.val ∈ writers a.toNat) (h1 : e ≠ 1)
    (low : 0x18000000 ≤ a.toNat) (high : a.toNat < 0x50000000) {r : Rg.Reg} (hr : regAt a.toNat = some r) {y : Lane}
    (hy : y = ((x.putWord r v.toNat hw.toNat).markShadow a.toNat).holdEnables) :
    exec (.registerWrite l e a v hw t) s = .next (s.setLane l (if r.addr = Rg.gdCtl.addr then y.ceaseDisabled
      else if r.addr = Rg.collInj.addr then y.writeInjection l v.toNat else y)) := by
  have arm : exec (.registerWrite l e a v hw t) s = execRegisterWrite l e a v hw t s := rfl
  rw [arm, execRegisterWrite, onE1_of_findsE1 h]
  dsimp only
  rw [if_neg (by simp [he, h1]), if_neg (by omega), if_neg (by omega), hr, hy]
  rfl

/-- A word above the PWM registers is put without a mark. -/
theorem Lane.holdEnables_putWord_of_above (x : Lane) {b : Nat} {r : Rg.Reg} (hr : regAt b = some r) (above : 0x40020000 ≤ b)
    (v hw : Nat) : ((x.putWord r v hw).markShadow b).holdEnables
      = if x.gateCut = true then (x.putWord r v hw).setFld Rg.gdCtl 0 9 0 else x.putWord r v hw := by
  rw [Lane.markShadow_of_above _ above, Lane.holdEnables, x.gateCut_putWord hr]

theorem exec_registerWrite_of_gdCtl (h : FindsE1 s l t x) (he : e.val ∈ writers a.toNat) (h1 : e ≠ 1)
    (low : 0x18000000 ≤ a.toNat) (high : a.toNat < 0x50000000) {r : Rg.Reg} (hr : regAt a.toNat = some r)
    (hgd : r.addr = Rg.gdCtl.addr) (w : Lane) (hput : w = x.setReg r (writeWord r (x.reg r) v.toNat hw.toNat)) :
    ∃ z y, z = (if x.gateCut = true then w.setFld Rg.gdCtl 0 9 0 else w) ∧
      exec (.registerWrite l e a v hw t) s = .next (s.setLane l y) ∧ RegsKept [Rg.gdStat.addr] z y ∧
      (∀ st, (y.stg st).driving = ((x.stg st).driving && z.rbit Rg.gdCtl (stageIx st))) ∧
      y = { z with steer := y.steer, brakes := y.brakes, regs := y.regs } := by
  subst hput
  have above : 0x40020000 ≤ a.toNat := by
    rw [← regAt_addr hr, hgd]
    decide
  have put := x.holdEnables_putWord_of_above hr above v.toNat hw.toNat
  have stages : ∀ st, (((x.putWord r v.toNat hw.toNat).markShadow a.toNat).holdEnables).stg st = x.stg st := by
    intro st
    rw [put]
    split <;> rfl
  rw [exec_registerWrite_of_reg h he h1 low high hr rfl, if_pos hgd]
  refine ⟨_, _, put, rfl, Lane.ceaseDisabled_regsKept _, fun st => ?_, ?_⟩
  · rw [Lane.driving_ceaseDisabled, stages]
  · obtain ⟨_, _, _, reach⟩ := Lane.ceaseDisabled_reach ((x.putWord r v.toNat hw.toNat).markShadow a.toNat).holdEnables
    rw [reach]

theorem exec_registerWrite_of_collInj (h : FindsE1 s l t x) (he : e.val ∈ writers a.toNat) (h1 : e ≠ 1)
    (low : 0x18000000 ≤ a.toNat) (high : a.toNat < 0x50000000) {r : Rg.Reg} (hr : regAt a.toNat = some r)
    (hinj : r.addr = Rg.collInj.addr) (w : Lane) (src : Nat) (en : Bool)
    (hput : w = x.setReg r (writeWord r (x.reg r) v.toNat hw.toNat)) (hsrc : src = bits v.toNat 0 8) (hen : en = bitOf v.toNat 8) :
    ∃ z, z = (if x.gateCut = true then w.setFld Rg.gdCtl 0 9 0 else w) ∧
      exec (.registerWrite l e a v hw t) s = .next (s.setLane l (if en = true ∧ src = 0 then z
        else z.setInjection src en (Config.injData src x.now) (Config.railSeen (laneNo l) src x.now))) := by
  subst hput hsrc hen
  have above : 0x40020000 ≤ a.toNat := by
    rw [← regAt_addr hr, hinj]
    decide
  have put := x.holdEnables_putWord_of_above hr above v.toNat hw.toNat
  have now : (((x.putWord r v.toNat hw.toNat).markShadow a.toNat).holdEnables).now = x.now := by
    rw [put]
    split <;> rfl
  have other : r.addr ≠ Rg.gdCtl.addr := by
    rw [hinj]
    decide
  refine ⟨_, put, ?_⟩
  rw [exec_registerWrite_of_reg h he h1 low high hr rfl, if_neg other, if_pos hinj, Lane.writeInjection, now]
  simp only [Bool.and_eq_true, decide_eq_true_eq]

/-- Of any other register: the word, its marks, and the driver enables held at 0 (R7, R231, R263). -/
theorem exec_registerWrite_of_plain (h : FindsE1 s l t x) (he : e.val ∈ writers a.toNat) (h1 : e ≠ 1)
    (low : 0x18000000 ≤ a.toNat) (high : a.toNat < 0x50000000) {r : Rg.Reg} (hr : regAt a.toNat = some r)
    (hgd : r.addr ≠ Rg.gdCtl.addr) (hinj : r.addr ≠ Rg.collInj.addr) :
    ∃ y, exec (.registerWrite l e a v hw t) s = .next (s.setLane l y) ∧ y = { x with regs := y.regs } ∧
      RegsKept ([r.addr] ++ (if x.gateCut then [Rg.gdCtl.addr] else []) ++ markedAddrs a.toNat) x y ∧
      y.reg r = writeWord r (x.reg r) v.toNat hw.toNat % 2 ^ 32 ∧
      (x.gateCut = true → y.fld Rg.gdCtl 0 9 = 0) ∧
      (∀ st, a.toNat = (Rg.pwmPerSh st).addr → y.rbit (Rg.pwmLgctl st) 2 = true) ∧
      ∀ st, ∀ i < 3, a.toNat = (Rg.pwmDutySh st i).addr → y.rbit (Rg.pwmLgctl st) (3 + i) = true := by
  have marked := (x.putWord r v.toNat hw.toNat).markShadow_markedFrom a.toNat
  have cut : ((x.putWord r v.toNat hw.toNat).markShadow a.toNat).gateCut = x.gateCut :=
    (Lane.gateCut_markShadow _ _).trans (x.gateCut_putWord hr _ _)
  have held := ((x.putWord r v.toNat hw.toNat).markShadow a.toNat).holdEnables_regsKept
  rw [cut] at held
  have lgctl : ∀ st, (Rg.pwmLgctl st).addr ∉ (if x.gateCut then [Rg.gdCtl.addr] else []) := by
    intro st
    have ne : (Rg.pwmLgctl st).addr ≠ Rg.gdCtl.addr := (pwmLgctl_addr_lt st).ne
    split <;> simp [ne]
  have word : r.addr ∉ (if x.gateCut then [Rg.gdCtl.addr] else []) := by
    split <;> simp [hgd]
  rw [exec_registerWrite_of_reg h he h1 low high hr rfl, if_neg hgd, if_neg hinj]
  refine ⟨_, rfl, ?_, fun q hq => ?_, ?_, fun g => ?_, fun st hst => ?_, fun st i hi hst => ?_⟩
  · obtain ⟨_, e1⟩ := marked.reach
    obtain ⟨_, e2⟩ := ((x.putWord r v.toNat hw.toNat).markShadow a.toNat).holdEnables_reach
    rw [e2, e1]
    rfl
  · simp only [List.mem_append, not_or, List.mem_singleton] at hq
    obtain ⟨⟨hq1, hq2⟩, hq3⟩ := hq
    exact ((held q hq2).trans (marked.kept q hq3)).trans (x.reg_setReg_of_ne _ hq1)
  · have unmarked : r.addr ∉ markedAddrs a.toNat := by
      rw [regAt_addr hr]
      exact not_mem_markedAddrs _
    exact ((held r word).trans (marked.kept r unmarked)).trans (x.reg_setReg r _)
  · rw [Lane.holdEnables, cut, if_pos g, Lane.fld_setFld _ _ _ (by omega)]
    rfl
  · exact (Lane.rbit_of_reg_eq (held _ (lgctl st)) 2).trans (Lane.perW_markShadow _ hst)
  · exact (Lane.rbit_of_reg_eq (held _ (lgctl st)) _).trans (Lane.dutyW_markShadow _ hi hst)

theorem exec_readClearRegister_of_reg (h : FindsE1 s l t x) {r : Rg.Reg} {z : Lane} (hr : regAt a.toNat = some r)
    (lo : a.toNat ≠ (Rg.laneTime false).addr) (hi : a.toNat ≠ (Rg.laneTime true).addr)
    (hz : z = allStages.foldl (fun (x : Lane) st => x.settle st x.now) x) :
    ∃ y, exec (.readClearRegister l a hw t) s = .next (s.setLane l y) ∧ y.bus = z.regView r ||| (hw.toNat &&& r.rc) ∧
      (r.rc = 0 → y.regs = z.regs) ∧ (r.rc ≠ 0 → y.reg r = (z.reg r &&& (0xFFFFFFFF ^^^ r.rc)) % 2 ^ 32) ∧
      RegsKept [r.addr] z y ∧ y = { z with bus := y.bus, regs := y.regs } := by
  have arm : exec (.readClearRegister l a hw t) s = execReadClearRegister l a hw t s := rfl
  rw [arm, execReadClearRegister, onE1_of_findsE1 h]
  dsimp only
  rw [if_neg lo, if_neg hi, hr]
  dsimp only
  rw [← hz]
  by_cases rc : r.rc = 0
  · rw [if_pos rc]
    exact ⟨_, rfl, rfl, fun _ => rfl, fun no => absurd rc no, fun _ _ => rfl, rfl⟩
  · rw [if_neg rc]
    exact ⟨_, rfl, rfl, fun no => absurd no rc, fun _ => Lane.reg_setReg _ _ _,
      regsKept_setReg (x := { z with bus := z.regView r ||| (hw.toNat &&& r.rc) }) (by simp) _, rfl⟩

theorem exec_readClearRegister_of_no_reg (h : FindsE1 s l t x) (hr : regAt a.toNat = none)
    (lo : a.toNat ≠ (Rg.laneTime false).addr) (hi : a.toNat ≠ (Rg.laneTime true).addr) :
    exec (.readClearRegister l a hw t) s
      = .next (s.setLane l (if readable a.toNat then { x with bus := x.wordAt a.toNat } else ({ x with bus := 0 }).busRefuse)) := by
  have arm : exec (.readClearRegister l a hw t) s = execReadClearRegister l a hw t s := rfl
  rw [arm, execReadClearRegister, onE1_of_findsE1 h]
  dsimp only
  rw [if_neg lo, if_neg hi, hr]

theorem exec_readClearRegister_of_laneTimeHi (h : FindsE1 s l t x) :
    exec (.readClearRegister l (BitVec.ofNat 32 (Rg.laneTime true).addr) hw t) s
      = .next (s.setLane l { x with bus := x.reg (Rg.laneTime true) }) := by
  have arm : exec (.readClearRegister l (BitVec.ofNat 32 (Rg.laneTime true).addr) hw t) s
    = execReadClearRegister l (BitVec.ofNat 32 (Rg.laneTime true).addr) hw t s := rfl
  rw [arm, execReadClearRegister, onE1_of_findsE1 h]
  dsimp only
  rw [if_neg (by decide), if_pos (by decide)]

theorem exec_readClearRegister_of_laneTimeLo (h : FindsE1 s l t x) :
    ∃ y, exec (.readClearRegister l (BitVec.ofNat 32 (Rg.laneTime false).addr) hw t) s = .next (s.setLane l y) ∧
      y.bus = x.now % 2 ^ 32 ∧ y.reg (Rg.laneTime true) = x.now / 2 ^ 32 % 2 ^ 32 ∧ RegsKept [(Rg.laneTime true).addr] x y ∧
      y = { x with bus := y.bus, regs := y.regs } := by
  have arm : exec (.readClearRegister l (BitVec.ofNat 32 (Rg.laneTime false).addr) hw t) s
    = execReadClearRegister l (BitVec.ofNat 32 (Rg.laneTime false).addr) hw t s := rfl
  rw [arm, execReadClearRegister, onE1_of_findsE1 h]
  dsimp only
  rw [if_pos (by decide)]
  exact ⟨_, rfl, rfl, Lane.reg_setReg _ _ _, regsKept_setReg (x := { x with bus := x.now % 2 ^ 32 }) (by simp) _, rfl⟩

end

end Sys2Proof.Machine
end

section
/-!
SUPPORT. Scrubbing, the process monitors, the ageing log and the operating hours (R132, R157, R458 to R463), each command with the
lane that it reaches.
-/
namespace Sys2Proof.Machine

theorem countedBy_inc (x : Lane) (o : O.Obj) : CountedBy o 1 x (x.inc o) := fun h => by
  rw [x.obj_inc, countUp_of_lt h]

/-- What a counter has counted depends on its codes before and after alone. -/
theorem CountedBy.of_obj_eq {o : O.Obj} {n : Nat} {x y x' y' : Lane} (h : CountedBy o n x y) (hx : x'.obj o = x.obj o)
    (hy : y'.obj o = y.obj o) : CountedBy o n x' y' := fun below => by
  rw [hx] at below ⊢
  rw [hy, h below]

/-- A scrub read reaches the pass's beginning and SCRUB_PASS_TIME (R460). -/
theorem Lane.scrubPass_reach (x : Lane) (m addr : Nat) :
    ∃ os ps, x.scrubPass m addr = { x with objs := os, eng := { x.eng with passAt := ps } } := by
  unfold Lane.scrubPass
  split
  · exact ⟨_, _, rfl⟩
  · dsimp only
    split <;> exact ⟨_, _, rfl⟩

theorem Lane.scrubPass_objsKept (x : Lane) (m addr : Nat) : ObjsKept [O.scrubPassTime.key] x (x.scrubPass m addr) := by
  unfold Lane.scrubPass
  split
  · exact ObjsKept.refl _ x
  · dsimp only
    split
    · exact fun _ _ => rfl
    · exact objsKept_setObj (x := { x with eng := { x.eng with passAt := x.eng.passAt.set m x.now } }) (by simp) _

/-- Whose a word is, the scrubber does not change. -/
theorem Lane.wordOfLoop_scrubPass (x : Lane) (m addr : Nat) (k : Fin 9) :
    (x.scrubPass m addr).wordOfLoop k m addr = x.wordOfLoop k m addr := by
  obtain ⟨os, ps, e⟩ := x.scrubPass_reach m addr
  rw [e]
  rfl

theorem Lane.wordOfLoop_data_iff (x : Lane) (k : Fin 9) {m : Nat} (hm : m = 3) (addr : Nat) :
    x.wordOfLoop k m addr = true ↔ addr % 0x4000 / 0x400 = k := by
  simp [Lane.wordOfLoop, hm]

/-- The lane after E1's open entry, of loop `j`, is ended without its commit (R157). -/
theorem Lane.endE1_of_cur {x : Lane} {j : Fin 9} (h : x.mx.cur = some j) : x.endE1 j.val = { x with mx :=
    { x.mx with cur := none, pc := none, loops := x.mx.loops.set j { x.mx.loops[j] with entry := .none } } } := by
  rw [Lane.endE1, h]
  exact if_pos rfl

/-- An uncorrectable word of the open entry ends it and is error 0x05; any other is error 0x04 (R157, R458). -/
theorem Lane.uncorrectable_of_entry {x : Lane} {j : Fin 9} (h : x.mx.cur = some j) {m addr : Nat}
    (own : x.wordOfLoop j m addr = true) :
    x.uncorrectable m addr = (x.endE1 j.val).raise 0x05 (j.val + 256 * (addr / 4 % 2 ^ 24)) := by
  rw [Lane.uncorrectable, h]
  exact if_pos own

theorem Lane.uncorrectable_of_other {x : Lane} {m addr : Nat} (h : ∀ j, x.mx.cur = some j → x.wordOfLoop j m addr = false) :
    x.uncorrectable m addr = x.raise 0x04 (m + 256 * (addr / 4 % 2 ^ 24)) := by
  unfold Lane.uncorrectable
  cases cur : x.mx.cur with
  | none => rfl
  | some j => exact if_neg (by simp [h j cur])

/-- A corrected word of E1's memories takes a cycle of its open entry (R132). -/
theorem Lane.stallE1_of_entry {x : Lane} {j : Fin 9} (h : x.mx.cur = some j) {m : Nat}
    (own : m = 3 ∨ m = (if x.bank1Active then 0xC else 0xB)) :
    x.stallE1 m = x.updLoop j fun p => { p with cyc := p.cyc + 1, cycEntry := p.cycEntry + 1 } := by
  rw [Lane.stallE1, h]
  exact if_pos (by simpa using own)

theorem Lane.stallE1_of_other {x : Lane} {m : Nat}
    (h : x.mx.cur = none ∨ m ≠ 3 ∧ m ≠ (if x.bank1Active then 0xC else 0xB)) : x.stallE1 m = x := by
  unfold Lane.stallE1
  cases cur : x.mx.cur with
  | none => rfl
  | some j => exact if_neg (by simpa [cur] using h)

theorem Lane.stallE1_reach (x : Lane) (m : Nat) : ∃ ls, x.stallE1 m = { x with mx := { x.mx with loops := ls } } := by
  by_cases h : x.mx.cur = none ∨ m ≠ 3 ∧ m ≠ (if x.bank1Active then 0xC else 0xB)
  · rw [Lane.stallE1_of_other h]
    exact ⟨_, rfl⟩
  · obtain ⟨cur, own⟩ := not_or.mp h
    obtain ⟨j, cur⟩ := Option.ne_none_iff_exists'.mp cur
    rw [Lane.stallE1_of_entry cur (by tauto)]
    exact ⟨_, rfl⟩

@[simp] theorem Lane.obj_withEng (x : Lane) (g : EngSt) (o : O.Obj) : ({ x with eng := g } : Lane).obj o = x.obj o := rfl

/-- A corrected word is counted in its memory's element of MEM_CORRECTED and over life (R458, R471). -/
theorem Lane.countCorrected_eq (x : Lane) (m : Nat) : x.countCorrected m = { (x.setObj O.memCorrected
    (putBits (x.obj O.memCorrected) (32 * (15 - m)) 32
      (countUp 32 (O.memCorrected.key + m) x.now (bits (x.obj O.memCorrected) (32 * (15 - m)) 32)))).inc O.memCorrectedLife with
    eng := { x.eng with corrected := x.eng.corrected + 1 } } := by
  simp only [Lane.countCorrected, Lane.inc_eng, Lane.setObj_eng]

theorem Lane.obj_countCorrected (x : Lane) (m : Nat) : (x.countCorrected m).obj O.memCorrected
    = putBits (x.obj O.memCorrected) (32 * (15 - m)) 32
      (countUp 32 (O.memCorrected.key + m) x.now (bits (x.obj O.memCorrected) (32 * (15 - m)) 32)) := by
  rw [Lane.countCorrected_eq, Lane.obj_withEng, Lane.obj_inc_of_ne _ (by decide), Lane.obj_setObj]

theorem Lane.countCorrected_life (x : Lane) (m : Nat) : CountedBy O.memCorrectedLife 1 x (x.countCorrected m) := by
  rw [Lane.countCorrected_eq]
  exact (countedBy_inc _ O.memCorrectedLife).of_obj_eq (Lane.obj_setObj_of_ne x _ (by decide)).symm (Lane.obj_withEng _ _ _)

theorem Lane.countCorrected_objsKept (x : Lane) (m : Nat) :
    ObjsKept [O.memCorrected.key, O.memCorrectedLife.key] x (x.countCorrected m) := by
  rw [Lane.countCorrected_eq]
  exact ((objsKept_setObj (by simp) x _).trans (objsKept_inc (by simp) _)).trans fun o _ => Lane.obj_withEng _ _ o

theorem Lane.countCorrected_reach (x : Lane) (m : Nat) : ∃ os, x.countCorrected m
    = { x with objs := os, eng := { x.eng with corrected := x.eng.corrected + 1 } } := by
  rw [Lane.countCorrected_eq]
  generalize putBits _ _ _ _ = v
  exact ⟨_, rfl⟩

end Sys2Proof.Machine
end

section
/-!
SUPPORT. The scrubber's counts of a corrected word, the process monitors' deviations, and the counts of an operating hour's tenth.
-/
namespace Sys2Proof.Machine

/-- The counts of a corrected word at key `k` (R458, R460): of its memory and of its run of passes, with MEM_LAST_CORR `last`. -/
def Lane.countScrub (z : Lane) (m k last : Nat) : Lane :=
  let run := kvGet 0 z.eng.scrub k + 1
  let y := (z.countCorrected m).setObj O.memLastCorr last
  ({ y with eng := { y.eng with scrub := kvPut k (min run 4) y.eng.scrub } }).incIf O.memStuck (decide (run = 3))

theorem Lane.countScrub_objsKept (z : Lane) (m k last : Nat) :
    ObjsKept [O.memLastCorr.key, O.memStuck.key] (z.countCorrected m) (z.countScrub m k last) := by
  unfold Lane.countScrub
  exact ((objsKept_setObj (by simp) _ last).trans fun o _ => Lane.obj_withEng _ _ o).trans (objsKept_incIf (by simp) _ _)

theorem Lane.obj_incIf_of_ne (x : Lane) {o p : O.Obj} (b : Bool) (h : p.key ≠ o.key) : (x.incIf o b).obj p = x.obj p := by
  cases b
  · rfl
  · exact x.obj_inc_of_ne h

theorem Lane.lastCorr_countScrub (z : Lane) (m k last : Nat) : (z.countScrub m k last).obj O.memLastCorr = last := by
  unfold Lane.countScrub
  rw [Lane.obj_incIf_of_ne _ _ (by decide), Lane.obj_withEng, Lane.obj_setObj]

/-- MEM_STUCK counts at the third pass in a row, and then alone. -/
theorem Lane.stuck_countScrub (z : Lane) (m k last : Nat) :
    (kvGet 0 z.eng.scrub k = 2 → CountedBy O.memStuck 1 z (z.countScrub m k last)) ∧
    (kvGet 0 z.eng.scrub k ≠ 2 → (z.countScrub m k last).obj O.memStuck = z.obj O.memStuck) := by
  have before : ((z.countCorrected m).setObj O.memLastCorr last).obj O.memStuck = z.obj O.memStuck :=
    (Lane.obj_setObj_of_ne _ _ (by decide)).trans (z.countCorrected_objsKept m _ (by decide))
  unfold Lane.countScrub
  dsimp only
  refine ⟨fun h => ?_, fun h => ?_⟩
  · rw [h, decide_eq_true rfl]
    exact (countedBy_inc _ O.memStuck).of_obj_eq ((Lane.obj_withEng _ _ _).trans before).symm rfl
  · rw [decide_eq_false (by omega)]
    exact (Lane.obj_withEng _ _ _).trans before

theorem Lane.countScrub_reach (z : Lane) (m k last : Nat) : ∃ os c, z.countScrub m k last = { z with
    objs := os
    eng := { z.eng with corrected := c, scrub := kvPut k (min (kvGet 0 z.eng.scrub k + 1) 4) z.eng.scrub } } := by
  obtain ⟨os, e⟩ := z.countCorrected_reach m
  unfold Lane.countScrub
  rw [e]
  dsimp only
  cases decide (kvGet 0 z.eng.scrub k + 1 = 3) <;> exact ⟨_, z.eng.corrected + 1, rfl⟩

/-- The scrub read of a corrected word before it is counted: the pass, and the cycle that it takes of E1's open entry. -/
theorem Lane.scrubStall_reach (x : Lane) (m addr : Nat) : ∃ os ps ls, (x.scrubPass m addr).stallE1 m
    = { x with objs := os, eng := { x.eng with passAt := ps }, mx := { x.mx with loops := ls } } := by
  obtain ⟨ls, e⟩ := (x.scrubPass m addr).stallE1_reach m
  obtain ⟨os, ps, e'⟩ := x.scrubPass_reach m addr
  rw [e, e']
  exact ⟨_, _, _, rfl⟩

theorem Lane.scrubStall_objsKept (x : Lane) (m addr : Nat) :
    ObjsKept [O.scrubPassTime.key] x ((x.scrubPass m addr).stallE1 m) := by
  obtain ⟨ls, e⟩ := (x.scrubPass m addr).stallE1_reach m
  rw [e]
  exact x.scrubPass_objsKept m addr

theorem Lane.arr16_setElem16 (x : Lane) (o : O.Obj) (n i v : Nat) : (x.setElem16 o n i v).arr16 o n i = v % 2 ^ 16 := by
  rw [Lane.arr16, Lane.setElem16, Lane.obj_setObj, bits_putBits]

theorem Lane.arr16_setElem16_of_ne (x : Lane) (o : O.Obj) {n i j : Nat} (v : Nat) (hi : i < n) (hj : j < n) (h : i ≠ j) :
    (x.setElem16 o n j v).arr16 o n i = x.arr16 o n i := by
  rw [Lane.arr16, Lane.setElem16, Lane.obj_setObj, bits_putBits_beside _ _ (by omega), Lane.arr16]

theorem Lane.setElem16_reach (x : Lane) (o : O.Obj) (n i v : Nat) : ∃ os, x.setElem16 o n i v = { x with objs := os } :=
  ⟨_, rfl⟩

/-- The deviation of an island's oscillator that a count gives (R462). -/
def Lane.procDev (x : Lane) (counts : List Nat) (i : Nat) : Int :=
  satI 16 (roundDiv (10000 * ((Config.procRefer x.cal i (nth counts i) (toI 16 (nth x.eng.temps i)) (nth x.eng.volts (13 + i)) : Int)
    - Config.procFactory x.cal i)) (Config.procFactory x.cal i))

/-- A deviation falls below -5.00 %, from a code that did not lie below it. -/
def falls (dev : Int) (old : Nat) : Bool := decide (dev < -500) && decide (-500 ≤ toI 16 old)

/-- What PROCESS_READING does for one island. -/
def Lane.readOne (counts : List Nat) (x : Lane) (i : Nat) : Lane :=
  let y := x.setElem16 O.procDeviation 6 i (ofI 16 (x.procDev counts i))
  if falls (x.procDev counts i) (x.arr16 O.procDeviation 6 i) = true then (y.inc O.ageingEvents).setObj O.ageingFlag 1 else y

/-- From `x`, the process monitors' objects have changed and nothing else. -/
structure ReadFrom (x y : Lane) : Prop where
  kept : ObjsKept [O.procDeviation.key, O.ageingEvents.key, O.ageingFlag.key] x y
  reach : ∃ os, y = { x with objs := os }

theorem ReadFrom.refl (x : Lane) : ReadFrom x x := ⟨ObjsKept.refl _ x, ⟨_, rfl⟩⟩

theorem Lane.readOne_readFrom (counts : List Nat) (x : Lane) (i : Nat) : ReadFrom x (x.readOne counts i) := by
  have put : ObjsKept [O.procDeviation.key, O.ageingEvents.key, O.ageingFlag.key] x
      (x.setElem16 O.procDeviation 6 i (ofI 16 (x.procDev counts i))) := objsKept_setObj (by simp) x _
  obtain ⟨os, e⟩ := x.setElem16_reach O.procDeviation 6 i (ofI 16 (x.procDev counts i))
  unfold Lane.readOne
  dsimp only
  split
  · refine ⟨(put.trans (objsKept_inc (by simp) _)).trans (objsKept_setObj (by simp) _ 1), ?_⟩
    rw [e]
    exact ⟨_, rfl⟩
  · exact ⟨put, ⟨os, e⟩⟩

theorem ReadFrom.readOne {x y : Lane} (h : ReadFrom x y) (counts : List Nat) (i : Nat) : ReadFrom x (y.readOne counts i) := by
  have step := y.readOne_readFrom counts i
  obtain ⟨os, rfl⟩ := h.reach
  obtain ⟨ps, e⟩ := step.reach
  exact ⟨h.kept.trans step.kept, ⟨ps, e⟩⟩

/-- The deviation that a count gives does not hang on the monitors' objects. -/
theorem ReadFrom.procDev {x y : Lane} (h : ReadFrom x y) (counts : List Nat) (i : Nat) : y.procDev counts i = x.procDev counts i := by
  have lane : y.obj O.laneNumber = x.obj O.laneNumber := h.kept _ (by decide)
  obtain ⟨os, e⟩ := h.reach
  have cal : y.cal = x.cal := by
    rw [Lane.cal, lane, e, Lane.cal]
  have eng : y.eng = x.eng := by
    rw [e]
  rw [Lane.procDev, cal, eng, Lane.procDev]

theorem ofI_mod_two_pow (n : Nat) (z : Int) : ofI n z % 2 ^ n = ofI n z := by
  apply Nat.mod_eq_of_lt
  have hn : (0 : Int) < (2 ^ n : Nat) := by exact_mod_cast Nat.two_pow_pos n
  have lt : z % (2 ^ n : Nat) < (2 ^ n : Nat) := Int.emod_lt_of_pos z hn
  rw [ofI]
  omega

/-- The deviations that a reading leaves: the island's own anew, every other as it was. -/
theorem Lane.arr16_readOne (counts : List Nat) (x : Lane) {i j : Nat} (hi : i < 6) (hj : j < 6) :
    (x.readOne counts j).arr16 O.procDeviation 6 i
      = if i = j then ofI 16 (x.procDev counts i) else x.arr16 O.procDeviation 6 i := by
  have shown : (x.readOne counts j).arr16 O.procDeviation 6 i
      = (x.setElem16 O.procDeviation 6 j (ofI 16 (x.procDev counts j))).arr16 O.procDeviation 6 i := by
    unfold Lane.readOne
    dsimp only
    split
    · rw [Lane.arr16, Lane.obj_setObj_of_ne _ _ (by decide), Lane.obj_inc_of_ne _ (by decide), Lane.arr16]
    · rfl
  rw [shown]
  split
  case isTrue e =>
    subst e
    rw [Lane.arr16_setElem16, ofI_mod_two_pow]
  case isFalse e => rw [Lane.arr16_setElem16_of_ne _ _ _ hi hj e]

/-- The ageing flag is raised by a fall of the island's deviation, and stays. -/
theorem Lane.ageingFlag_readOne (counts : List Nat) (x : Lane) (i : Nat)
    (h : x.obj O.ageingFlag = 1 ∨ falls (x.procDev counts i) (x.arr16 O.procDeviation 6 i) = true) :
    (x.readOne counts i).obj O.ageingFlag = 1 := by
  unfold Lane.readOne
  dsimp only
  split
  case isTrue => exact Lane.obj_setObj _ _ _
  case isFalse no =>
    rw [Lane.setElem16, Lane.obj_setObj_of_ne _ _ (by decide)]
    exact h.resolve_right no

/-- From `x`, island `i` has its reading: its deviation, and the ageing flag where that has fallen. -/
structure ReadingOf (counts : List Nat) (i : Nat) (x y : Lane) : Prop where
  from_ : ReadFrom x y
  dev : y.arr16 O.procDeviation 6 i = ofI 16 (x.procDev counts i)
  flag : falls (x.procDev counts i) (x.arr16 O.procDeviation 6 i) = true → y.obj O.ageingFlag = 1

theorem ReadingOf.readOne {counts : List Nat} {i j : Nat} {x y : Lane} (hi : i < 6) (hj : j < 6) (h : ReadingOf counts i x y) :
    ReadingOf counts i x (y.readOne counts j) := by
  refine ⟨h.from_.readOne counts j, ?_, fun f => y.ageingFlag_readOne counts j (Or.inl (h.flag f))⟩
  rw [y.arr16_readOne counts hi hj, h.from_.procDev, h.dev, ite_self]

/-- An island whose deviation is as it was takes its reading. -/
theorem readingOf_readOne {counts : List Nat} {i : Nat} {x y : Lane} (hi : i < 6) (h : ReadFrom x y)
    (same : y.arr16 O.procDeviation 6 i = x.arr16 O.procDeviation 6 i) : ReadingOf counts i x (y.readOne counts i) := by
  refine ⟨h.readOne counts i, ?_, fun f => y.ageingFlag_readOne counts i (Or.inr ?_)⟩
  · rw [y.arr16_readOne counts hi hi, if_pos rfl, h.procDev]
  · rw [h.procDev, same, f]

/-- Every island takes its reading. -/
theorem readingOf_foldl (counts : List Nat) (x : Lane) {i : Nat} (hi : i < 6) :
    ReadingOf counts i x ((List.range 6).foldl (Lane.readOne counts) x) := by
  refine foldl_establishes
    (fun y => ReadingOf counts i x y ∨ ReadFrom x y ∧ y.arr16 O.procDeviation 6 i = x.arr16 O.procDeviation 6 i)
    (ReadingOf counts i x) (fun y j hj hy => ?_) (fun y j hj hy => hy.readOne hi (List.mem_range.mp hj)) (fun y hy => ?_)
    (List.mem_range.mpr hi) (Or.inr ⟨ReadFrom.refl x, rfl⟩)
  · have hj := List.mem_range.mp hj
    obtain hy | ⟨hf, same⟩ := hy
    · exact Or.inl (hy.readOne hi hj)
    · by_cases e : i = j
      · subst e
        exact Or.inl (readingOf_readOne hi hf same)
      · exact Or.inr ⟨hf.readOne counts j, by rw [y.arr16_readOne counts hi hj, if_neg e, same]⟩
  · obtain hy | ⟨hf, same⟩ := hy
    · exact hy.readOne hi hi
    · exact readingOf_readOne hi hf same

theorem foldl_readOne_readFrom (counts : List Nat) (x : Lane) :
    ReadFrom x ((List.range 6).foldl (Lane.readOne counts) x) :=
  List.foldlRecOn _ (Lane.readOne counts) (ReadFrom.refl x) fun _ hb i _ => hb.readOne counts i

theorem length_bytesBE (n v : Nat) : (bytesBE n v).length = n := by
  induction n generalizing v with
  | zero => rfl
  | succ n ih => simp [bytesBE, ih]

/-- An entry of the ageing log is 32 bytes long (R463). -/
theorem Lane.length_ageEntry (x : Lane) : x.ageEntry.length = 32 := by
  simp [Lane.ageEntry, length_bytesBE]

theorem Lane.incElem32_objsKept {ks : List Nat} {o : O.Obj} (h : o.key ∈ ks) (x : Lane) (i : Nat) :
    ObjsKept ks x (x.incElem32 o i) :=
  objsKept_setObj h x _

end Sys2Proof.Machine
end

section
/-!
SUPPORT. The commands of the scrubber, of the process monitors, of the ageing log and of the operating hours, each with the lane that it
reaches (R132, R157, R458 to R463); what settles the obligation on them and on the register block.
-/
namespace Sys2Proof.Machine

section
variable {s : State} {l : LaneId} {t : Nat} {x : Lane} {m : Fin 16} {a : BitVec 32}

theorem exec_scrub_of_resting (h : FindsE1 s l t x) (rest : isMemory m = false ∨ x.memStopped m = true) (e : WordError) :
    exec (.scrub l m a e t) s = .next (s.setLane l x) := by
  have arm : exec (.scrub l m a e t) s = execScrub l m a e t s := rfl
  rw [arm, execScrub, onE1_of_findsE1 h]
  dsimp only
  rw [if_pos (by simpa using rest)]

theorem exec_scrub_uncorrectable (h : FindsE1 s l t x) (mem : isMemory m = true) (runs : x.memStopped m = false) :
    exec (.scrub l m a .uncorrectable t) s
      = .next (s.setLane l ((x.scrubPass m.val a.toNat).uncorrectable m.val a.toNat)) := by
  have arm : exec (.scrub l m a .uncorrectable t) s = execScrub l m a .uncorrectable t s := rfl
  rw [arm, execScrub, onE1_of_findsE1 h]
  dsimp only
  rw [if_neg (by simp [mem, runs])]
  rfl

theorem exec_scrub_none (h : FindsE1 s l t x) (mem : isMemory m = true) (runs : x.memStopped m = false) {k : Nat}
    (hk : k = m.val * 2 ^ 32 + a.toNat) : ∃ y, exec (.scrub l m a .none t) s = .next (s.setLane l y) ∧ kvGet 0 y.eng.scrub k = 0 ∧
      ObjsKept [O.scrubPassTime.key] x y ∧
      y = { x with objs := y.objs, eng := { x.eng with scrub := y.eng.scrub, passAt := y.eng.passAt } } := by
  have arm : exec (.scrub l m a .none t) s = execScrub l m a .none t s := rfl
  rw [arm, execScrub, onE1_of_findsE1 h]
  dsimp only
  rw [if_neg (by simp [mem, runs]), if_neg (by simp [isSingle]), ← hk]
  refine ⟨_, rfl, kvGet_kvDel_same _ _ _, x.scrubPass_objsKept _ _, ?_⟩
  obtain ⟨_, _, e⟩ := x.scrubPass_reach m.val a.toNat
  rw [e]

/-- The error of a word of the open entry ends the entry, and has its record (R157). -/
theorem exec_scrub_uncorrectable_of_entry (h : FindsE1 s l t x) (mem : isMemory m = true) (runs : x.memStopped m = false)
    {j : Fin 9} (cur : x.mx.cur = some j) (own : x.wordOfLoop j m a.toNat = true) :
    ∃ y, exec (.scrub l m a .uncorrectable t) s = .next (s.setLane l y) ∧ y.Stopped ∧
      y.coll.spall 5 = (x.coll.spall 5).occur (j.val + 256 * (a.toNat / 4 % 2 ^ 24)) x.now false (x.coll.takesFirst 5 x.now) ∧
      y.mx = { x.mx with cur := none, pc := none, loops := x.mx.loops.set j { x.mx.loops[j] with entry := .none } } ∧
      y = { x with
        coll := y.coll, objs := y.objs, regs := y.regs, steer := y.steer, brakes := y.brakes, claim := y.claim
        drive := y.drive, eng := y.eng, mx := y.mx } := by
  have word : (x.scrubPass m.val a.toNat).wordOfLoop j m.val a.toNat = true := by
    rw [x.wordOfLoop_scrubPass, own]
  obtain ⟨os, ps, e⟩ := x.scrubPass_reach m.val a.toNat
  have open_ : (x.scrubPass m.val a.toNat).mx.cur = some j := by
    rw [e, cur]
  have err := Lane.raise_errorOf ((x.scrubPass m.val a.toNat).endE1 j.val) 5 (j.val + 256 * (a.toNat / 4 % 2 ^ 24))
  rw [exec_scrub_uncorrectable h mem runs, Lane.uncorrectable_of_entry open_ word]
  generalize ((x.scrubPass m.val a.toNat).endE1 j.val).raise 5 _ = y at err
  have record := err.record (by decide)
  have reach := err.reach
  rw [ErrorReach, Lane.endE1_of_cur open_, e] at reach
  rw [Lane.endE1_of_cur open_, e] at record
  refine ⟨y, rfl, err.stopped, record, ?_, ?_⟩ <;> rw [reach]

/-- The error of any other word (R458). -/
theorem exec_scrub_uncorrectable_of_other (h : FindsE1 s l t x) (mem : isMemory m = true) (runs : x.memStopped m = false)
    (other : ∀ j, x.mx.cur = some j → x.wordOfLoop j m a.toNat = false) :
    ∃ y, exec (.scrub l m a .uncorrectable t) s = .next (s.setLane l y) ∧ y.Stopped ∧
      y.coll.spall 4 = (x.coll.spall 4).occur (m.val + 256 * (a.toNat / 4 % 2 ^ 24)) x.now false (x.coll.takesFirst 4 x.now) ∧
      y = { x with
        coll := y.coll, objs := y.objs, regs := y.regs, steer := y.steer, brakes := y.brakes, claim := y.claim
        drive := y.drive, eng := y.eng } := by
  obtain ⟨os, ps, e⟩ := x.scrubPass_reach m.val a.toNat
  have word : ∀ j, (x.scrubPass m.val a.toNat).mx.cur = some j →
      (x.scrubPass m.val a.toNat).wordOfLoop j m.val a.toNat = false := by
    intro j cur
    rw [e] at cur
    rw [x.wordOfLoop_scrubPass, other j cur]
  have err := Lane.raise_errorOf (x.scrubPass m.val a.toNat) 4 (m.val + 256 * (a.toNat / 4 % 2 ^ 24))
  rw [exec_scrub_uncorrectable h mem runs, Lane.uncorrectable_of_other word]
  generalize (x.scrubPass m.val a.toNat).raise 4 _ = y at err
  have record := err.record (by decide)
  have reach := err.reach
  rw [ErrorReach, e] at reach
  rw [e] at record
  exact ⟨y, rfl, err.stopped, record, by rw [reach]⟩

/-- The scrub read of a corrected word, from the pass to the counts. -/
def Lane.scrubSingle (x : Lane) (m addr k last : Nat) : Lane := ((x.scrubPass m addr).stallE1 m).countScrub m k last

theorem exec_scrub_single (h : FindsE1 s l t x) (mem : isMemory m = true) (runs : x.memStopped m = false) {k : Nat}
    (hk : k = m.val * 2 ^ 32 + a.toNat) (b : BitVec 6) : exec (.scrub l m a (.single b) t) s = .next (s.setLane l
      (x.scrubSingle m.val a.toNat k (m.val * 2 ^ 56 + b.toNat * 2 ^ 48 + a.toNat))) := by
  have arm : exec (.scrub l m a (.single b) t) s = execScrub l m a (.single b) t s := rfl
  rw [arm, execScrub, onE1_of_findsE1 h]
  dsimp only
  have single : isSingle (.single b) = true := rfl
  rw [if_neg (by simp [mem, runs]), if_pos single, ← hk]
  generalize m.val * 2 ^ 56 + b.toNat * 2 ^ 48 + a.toNat = last
  rw [Lane.scrubSingle, Lane.countScrub]

theorem Lane.scrubSingle_reach (x : Lane) (m addr k last : Nat) : ∃ os ps c ls, x.scrubSingle m addr k last = { x with
    objs := os
    eng := { x.eng with passAt := ps, corrected := c, scrub := kvPut k (min (kvGet 0 x.eng.scrub k + 1) 4) x.eng.scrub }
    mx := { x.mx with loops := ls } } := by
  obtain ⟨_, ps, ls, e⟩ := x.scrubStall_reach m addr
  obtain ⟨os, c, e'⟩ := ((x.scrubPass m addr).stallE1 m).countScrub_reach m k last
  rw [Lane.scrubSingle, e', e]
  exact ⟨_, _, _, _, rfl⟩

/-- The cycle that a corrected word takes of E1's open entry is all that it does to E1. -/
theorem Lane.mx_scrubSingle (x : Lane) (m addr k last : Nat) : (x.scrubSingle m addr k last).mx = ((x.scrubPass m addr).stallE1 m).mx := by
  obtain ⟨os, c, e⟩ := ((x.scrubPass m addr).stallE1 m).countScrub_reach m k last
  rw [Lane.scrubSingle, e]

theorem Lane.mx_scrubPass (x : Lane) (m addr : Nat) : (x.scrubPass m addr).mx = x.mx := by
  obtain ⟨_, _, e⟩ := x.scrubPass_reach m addr
  rw [e]

theorem Lane.bank1Active_scrubPass (x : Lane) (m addr : Nat) : (x.scrubPass m addr).bank1Active = x.bank1Active := by
  obtain ⟨_, _, e⟩ := x.scrubPass_reach m addr
  rw [e]
  rfl

theorem Lane.mx_scrubSingle_of_other (x : Lane) {m : Nat} (addr k last : Nat)
    (h : x.mx.cur = none ∨ m ≠ 3 ∧ m ≠ (if x.bank1Active then 0xC else 0xB)) : (x.scrubSingle m addr k last).mx = x.mx := by
  rw [x.mx_scrubSingle, Lane.stallE1_of_other, x.mx_scrubPass]
  rw [x.mx_scrubPass, x.bank1Active_scrubPass]
  exact h

theorem Lane.loop_scrubSingle_of_entry {x : Lane} {m : Nat} (addr k last : Nat) {j : Fin 9} (cur : x.mx.cur = some j)
    (own : m = 3 ∨ m = (if x.bank1Active then 0xC else 0xB)) :
    (x.scrubSingle m addr k last).loop j = { x.loop j with cyc := (x.loop j).cyc + 1, cycEntry := (x.loop j).cycEntry + 1 } ∧
      ∀ i, i ≠ j → (x.scrubSingle m addr k last).loop i = x.loop i := by
  have loops : ∀ i, (x.scrubPass m addr).loop i = x.loop i := fun i => congrArg (·.loops[i]) (x.mx_scrubPass m addr)
  have mx := x.mx_scrubSingle m addr k last
  rw [Lane.stallE1_of_entry (j := j) (by rw [x.mx_scrubPass, cur]) (by rw [x.bank1Active_scrubPass]; exact own)] at mx
  have after : ∀ i, (x.scrubSingle m addr k last).loop i = ((x.scrubPass m addr).updLoop j fun p =>
    { p with cyc := p.cyc + 1, cycEntry := p.cycEntry + 1 }).loop i := fun i => congrArg (·.loops[i]) mx
  refine ⟨?_, fun i hi => ?_⟩
  · rw [after, Lane.loop_updLoop, loops]
  · rw [after, Lane.loop_updLoop_of_ne _ _ _ _ hi, loops]

/-- What the stall of a corrected word keeps, before it is counted. -/
theorem Lane.obj_scrubStall (x : Lane) (m addr : Nat) {o : O.Obj} (h : o.key ≠ O.scrubPassTime.key) :
    ((x.scrubPass m addr).stallE1 m).obj o = x.obj o :=
  x.scrubStall_objsKept m addr o (by simpa using h)

theorem Lane.scrubSingle_objsKept (x : Lane) (m addr k last : Nat) :
    ObjsKept [O.scrubPassTime.key, O.memCorrected.key, O.memCorrectedLife.key, O.memLastCorr.key, O.memStuck.key]
      x (x.scrubSingle m addr k last) := by
  intro o ho
  simp only [List.mem_cons, List.not_mem_nil, not_or, or_false] at ho
  obtain ⟨h1, h2, h3, h4, h5⟩ := ho
  exact ((Lane.countScrub_objsKept _ m k last o (by simp [h4, h5])).trans
    (Lane.countCorrected_objsKept _ m o (by simp [h2, h3]))).trans (x.obj_scrubStall m addr h1)

theorem Lane.corrected_scrubSingle (x : Lane) (m addr k last : Nat)
    (below : bits (x.obj O.memCorrected) (32 * (15 - m)) 32 + 1 < 2 ^ 32) :
    bits ((x.scrubSingle m addr k last).obj O.memCorrected) (32 * (15 - m)) 32
      = bits (x.obj O.memCorrected) (32 * (15 - m)) 32 + 1 := by
  rw [Lane.scrubSingle, Lane.countScrub_objsKept _ m k last O.memCorrected (by decide), Lane.obj_countCorrected, bits_putBits,
    x.obj_scrubStall m addr (by decide), countUp_of_lt below, Nat.mod_eq_of_lt below]

theorem Lane.life_scrubSingle (x : Lane) (m addr k last : Nat) :
    CountedBy O.memCorrectedLife 1 x (x.scrubSingle m addr k last) :=
  (Lane.countCorrected_life _ m).of_obj_eq (x.obj_scrubStall m addr (by decide)).symm
    (Lane.countScrub_objsKept _ m k last _ (by decide))

theorem Lane.scrub_scrubStall (x : Lane) (m addr : Nat) : ((x.scrubPass m addr).stallE1 m).eng.scrub = x.eng.scrub := by
  obtain ⟨_, _, _, e⟩ := x.scrubStall_reach m addr
  rw [e]

theorem Lane.stuck_scrubSingle (x : Lane) (m addr k last : Nat) :
    (kvGet 0 x.eng.scrub k = 2 → CountedBy O.memStuck 1 x (x.scrubSingle m addr k last)) ∧
    (kvGet 0 x.eng.scrub k ≠ 2 → (x.scrubSingle m addr k last).obj O.memStuck = x.obj O.memStuck) := by
  obtain ⟨third, other⟩ := ((x.scrubPass m addr).stallE1 m).stuck_countScrub m k last
  have before := x.obj_scrubStall m addr (o := O.memStuck) (by decide)
  rw [x.scrub_scrubStall] at third other
  exact ⟨fun h => (third h).of_obj_eq before.symm rfl, fun h => (other h).trans before⟩

/-- What a reading of the process monitors leaves (R462). -/
theorem exec_processReading (h : Sees s l t x) (counts : List Nat) :
    exec (.processReading l counts t) s = .next (s.setLane l ((List.range 6).foldl (Lane.readOne counts) x)) := by
  have arm : exec (.processReading l counts t) s = execProcessReading l counts t s := rfl
  rw [arm, execProcessReading, onLaneAt_of_sees h]
  rfl

theorem exec_ageingLogEntry_of_not_due (h : Sees s l t x) (due : x.eng.ageDue = false) :
    exec (.ageingLogEntry l t) s = .next (s.setLane l x) := by
  have arm : exec (.ageingLogEntry l t) s = execAgeingLogEntry l t s := rfl
  rw [arm, execAgeingLogEntry, onLaneAt_of_sees h, Lane.ageLog, if_neg (by simp [due])]

theorem exec_ageingLogEntry_of_due (h : Sees s l t x) (due : x.eng.ageDue = true) {n : Nat} (hn : n = x.obj O.ageLogNext) :
    ∃ y, exec (.ageingLogEntry l t) s = .next (s.setLane l y) ∧
      y.obj O.ageLogNext = (n + 1) % 1024 ∧ memReadAll y.eng.log (32 * n) 32 = x.ageEntry ∧
      (∀ a, a < 32 * n ∨ 32 * n + 32 ≤ a → memRead y.eng.log a = memRead x.eng.log a) ∧
      ObjsKept [O.ageLogNext.key] x y ∧
      y = { x with objs := y.objs, eng := { x.eng with log := y.eng.log, ageSeen := false, corrected := 0, ageDue := false } } := by
  have arm : exec (.ageingLogEntry l t) s = execAgeingLogEntry l t s := rfl
  rw [arm, execAgeingLogEntry, onLaneAt_of_sees h, Lane.ageLog, if_pos due, ← hn]
  refine ⟨_, rfl, Lane.obj_setObj _ _ _, memReadAll_memWriteAll _ _ x.length_ageEntry, fun a ha => ?_, ?_, rfl⟩
  · exact memRead_memWriteAll_outside _ _ _ _ (by rwa [x.length_ageEntry])
  · intro o ho
    exact objsKept_setObj (ks := [O.ageLogNext.key]) (by simp) _ _ o ho

/-- The histograms' counts of a tenth of an hour (R463). -/
def Lane.countTemps (x : Lane) : Lane :=
  let y := x.incElem32 O.tempHistSteer (histBin (maxI ((x.eng.temps.drop 6).take 3)))
  y.incElem32 O.tempHistBrake (histBin (maxI ((y.eng.temps.drop 9).take 4)))

theorem Lane.countTemps_objsKept (x : Lane) : ObjsKept [O.tempHistSteer.key, O.tempHistBrake.key] x x.countTemps :=
  (Lane.incElem32_objsKept (by simp) x _).trans (Lane.incElem32_objsKept (by simp) _ _)

theorem Lane.incElem32_reach (x : Lane) (o : O.Obj) (i : Nat) : ∃ os, x.incElem32 o i = { x with objs := os } := by
  rw [Lane.incElem32, Lane.setObj]
  generalize putBits _ _ _ _ = v
  exact ⟨_, rfl⟩

theorem Lane.countTemps_reach (x : Lane) : ∃ os, x.countTemps = { x with objs := os } := by
  unfold Lane.countTemps
  generalize histBin _ = i
  obtain ⟨_, e⟩ := x.incElem32_reach O.tempHistSteer i
  dsimp only
  rw [e]
  exact Lane.incElem32_reach _ _ _

/-- The ageing-log entry falls due when the hours' count reaches a multiple of 100 h. -/
def Lane.markDue (x : Lane) : Lane :=
  if x.obj O.operatingHours % 1000 = 0 then { x with eng := { x.eng with ageDue := true } } else x

theorem Lane.markDue_eq (x : Lane) : x.markDue
    = { x with eng := { x.eng with ageDue := x.eng.ageDue || decide (x.obj O.operatingHours % 1000 = 0) } } := by
  unfold Lane.markDue
  split
  case isTrue h => rw [decide_eq_true h, Bool.or_true]
  case isFalse h => rw [decide_eq_false h, Bool.or_false]

theorem exec_operatingHoursTick_of_off (h : Sees s l t x) (off : 2 ≤ x.fld Rg.pwrStat 0 3) :
    exec (.operatingHoursTick l t) s = .next (s.setLane l x) := by
  have arm : exec (.operatingHoursTick l t) s = execOperatingHoursTick l t s := rfl
  rw [arm, execOperatingHoursTick, onLaneAt_of_sees h, if_neg (by omega)]

theorem exec_operatingHoursTick_of_on (h : Sees s l t x) (on : x.fld Rg.pwrStat 0 3 < 2) :
    ∃ y, exec (.operatingHoursTick l t) s = .next (s.setLane l y) ∧
      CountedBy O.operatingHours 1 x y ∧ ObjsKept [O.operatingHours.key, O.tempHistSteer.key, O.tempHistBrake.key] x y ∧
      y = { x with
        objs := y.objs, eng := { x.eng with ageDue := x.eng.ageDue || decide (y.obj O.operatingHours % 1000 = 0) } } := by
  have arm : exec (.operatingHoursTick l t) s = execOperatingHoursTick l t s := rfl
  rw [arm, execOperatingHoursTick, onLaneAt_of_sees h, if_pos on]
  have kept : ∀ o : O.Obj, (x.inc O.operatingHours).markDue.obj o = (x.inc O.operatingHours).obj o := fun o => by
    rw [Lane.markDue_eq, Lane.obj_withEng]
  have hours : (x.inc O.operatingHours).markDue.countTemps.obj O.operatingHours = (x.inc O.operatingHours).obj O.operatingHours :=
    (Lane.countTemps_objsKept _ _ (by decide)).trans (kept _)
  refine ⟨(x.inc O.operatingHours).markDue.countTemps, rfl, (countedBy_inc x _).of_obj_eq rfl hours, fun o ho => ?_, ?_⟩
  · simp only [List.mem_cons, List.not_mem_nil, not_or, or_false] at ho
    obtain ⟨h1, h2, h3⟩ := ho
    exact ((Lane.countTemps_objsKept _ o (by simp [h2, h3])).trans (kept o)).trans (x.obj_inc_of_ne h1)
  · obtain ⟨os, e⟩ := (x.inc O.operatingHours).markDue.countTemps_reach
    rw [hours, e, Lane.markDue_eq]
    rfl

end

/-- Settles O46. Each command is read off its own equation: a scrub by what its read finds (nothing, a corrected word, a word that cannot
be corrected), a register write by where its address lies and which register lies there, a read by the register, and the monitors' commands
by whether they are due. -/
theorem scrubbingMonitorsAndRegisters : Obligations.ScrubbingMonitorsAndRegisters := by
  unfold Obligations.ScrubbingMonitorsAndRegisters
  refine ⟨fun s l t x h => ⟨fun m a k hk => ⟨fun e rest => exec_scrub_of_resting h rest e,
      fun j cur mem runs own => exec_scrub_uncorrectable_of_entry h mem runs cur own,
      fun j hm => x.wordOfLoop_data_iff j hm a.toNat,
      fun mem runs other => exec_scrub_uncorrectable_of_other h mem runs other,
      fun mem runs => exec_scrub_none h mem runs hk, fun b mem runs => ?single⟩,
    fun e a v hw => ⟨fun barred => exec_registerWrite_of_barred h barred,
      fun he h1 low high r hr => ⟨fun hgd w put => exec_registerWrite_of_gdCtl h he h1 low high hr hgd w put,
        fun hinj w src en put hsrc hen => exec_registerWrite_of_collInj h he h1 low high hr hinj w src en put hsrc hen,
        fun hgd hinj => ?plain⟩,
      fun he h1 top => ?memory, fun he h1 low top => exec_registerWrite_of_no_memory h he h1 low top,
      fun he h1 bank => exec_registerWrite_of_bank h he h1 bank⟩,
    fun a hw r z hr lo hi hz => exec_readClearRegister_of_reg h hr lo hi hz,
    fun a hw hr lo hi => exec_readClearRegister_of_no_reg h hr lo hi,
    fun hw => exec_readClearRegister_of_laneTimeHi h, fun hw => exec_readClearRegister_of_laneTimeLo h⟩,
    fun s l t x h => ⟨fun counts => ?reading, exec_ageingLogEntry_of_not_due h, fun n due hn => exec_ageingLogEntry_of_due h due hn,
      exec_operatingHoursTick_of_off h, exec_operatingHoursTick_of_on h⟩⟩
  case single =>
    rw [exec_scrub_single h mem runs hk b]
    generalize m.val * 2 ^ 56 + b.toNat * 2 ^ 48 + a.toNat = last
    obtain ⟨third, other⟩ := x.stuck_scrubSingle m.val a.toNat k last
    obtain ⟨_, _, _, _, reach⟩ := x.scrubSingle_reach m.val a.toNat k last
    refine ⟨_, rfl, x.corrected_scrubSingle m.val a.toNat k last, x.life_scrubSingle m.val a.toNat k last,
      Lane.lastCorr_countScrub _ _ _ _, ?_, third, other,
      fun j cur own => ⟨?_, Lane.loop_scrubSingle_of_entry a.toNat k last cur own⟩,
      x.mx_scrubSingle_of_other a.toNat k last, x.scrubSingle_objsKept m.val a.toNat k last, ?_⟩
    · rw [reach, kvGet_kvPut_same]
    · rw [reach]
    · rw [reach]
  case plain =>
    obtain ⟨y, run, reach, kept, word, cut, per, duty⟩ :=
      exec_registerWrite_of_plain (v := v) (hw := hw) h he h1 low high hr hgd hinj
    refine ⟨y, run, reach, kept, fun _ => word, fun _ own pwr i hi codes => ?_, cut, per, duty⟩
    rw [word, bitOf_writeWord own pwr _ _ _ hi codes]
  case memory =>
    exact ⟨_, exec_registerWrite_of_memory h he h1 top, memReadAll_memWriteAll _ _ (length_bytesLE _ _),
      fun b hb => memRead_memWriteAll_outside _ _ _ _ (by rwa [length_bytesLE]), rfl⟩
  case reading =>
    have from_ := foldl_readOne_readFrom counts x
    refine ⟨_, exec_processReading h counts, from_.kept, ?_, fun i hi => ?_⟩
    · obtain ⟨_, e⟩ := from_.reach
      rw [e]
    · have took := readingOf_foldl counts x hi
      exact ⟨x.procDev counts i, rfl, took.dev, fun low high => took.flag (by simp [falls, low, high])⟩

end Sys2Proof.Machine
end

section
/-!
SUPPORT. Where a command acts (R22, R212): the states that differ from a state in one lane alone, the shared steps of a lane that
lead to them, and the writes, commits and requests that pass through the state of the whole module.
-/
namespace Sys2Proof.Machine

/-- `s'` is `s` but for lane `l`. -/
def State.OnlyLane (l : LaneId) (s s' : State) : Prop := ∃ x : Lane, s' = s.setLane l x

/-- An outcome is a next state, which is `s` but for lane `l`. -/
def ActsIn (l : LaneId) (s : State) (o : Host.Outcome State Fault Refusal) : Prop := ∃ x : Lane, o = .next (s.setLane l x)

section
variable {l : LaneId} {s s' s'' : State}

theorem State.OnlyLane.refl (l : LaneId) (s : State) : s.OnlyLane l s := ⟨s.lane l, (s.setLane_self l).symm⟩

theorem State.OnlyLane.trans (h : s.OnlyLane l s') (k : s'.OnlyLane l s'') : s.OnlyLane l s'' := by
  obtain ⟨x, rfl⟩ := h
  obtain ⟨y, rfl⟩ := k
  exact ⟨y, s.setLane_setLane l x y⟩

theorem State.OnlyLane.setLane (h : s.OnlyLane l s') (x : Lane) : s.OnlyLane l (s'.setLane l x) := h.trans ⟨x, rfl⟩

theorem State.OnlyLane.upd (h : s.OnlyLane l s') (f : Lane → Lane) : s.OnlyLane l (s'.upd l f) := h.setLane _

/-- A fold of steps of which each changes the lane alone changes the lane alone. -/
theorem State.OnlyLane.foldl {α : Type} {f : State → α → State} (step : ∀ (b : State) (a : α), b.OnlyLane l (f b a)) (h : s.OnlyLane l s')
    (as : List α) : s.OnlyLane l (as.foldl f s') :=
  List.foldlRecOn as f h fun _ hb a _ => hb.trans (step _ a)

theorem State.OnlyLane.ite {c : Prop} [Decidable c] {t e : State} (ht : s.OnlyLane l t) (he : s.OnlyLane l e) :
    s.OnlyLane l (if c then t else e) := by
  split
  · exact ht
  · exact he

theorem State.OnlyLane.acts (h : s.OnlyLane l s') : ActsIn l s (.next s') := by
  obtain ⟨x, rfl⟩ := h
  exact ⟨x, rfl⟩

/-- The state that an outcome in a lane leaves differs in that lane alone. -/
theorem ActsIn.onlyLane_after {o : Host.Outcome State Fault Refusal} (h : ActsIn l s o) : s.OnlyLane l (after s o) := by
  obtain ⟨x, rfl⟩ := h
  exact ⟨x, rfl⟩

/-- What each of the steps of a lane (`onLane`, `onLaneAt`, `onE1`, `onLanePeers`) comes to: a new lane where it has its supply. -/
theorem actsIn_of_supplied (l : LaneId) (s : State) (x : Lane) :
    ActsIn l s (.next (if (s.lane l).powered then s.setLane l x else s)) :=
  (State.OnlyLane.ite ⟨x, rfl⟩ (.refl l s)).acts

theorem onStateAt_actsIn {f : State → State} (hf : ∀ b : State, b.OnlyLane l (f b)) (t : Nat) (s : State) : ActsIn l s (onStateAt l t s f) :=
  (State.OnlyLane.ite (((State.OnlyLane.refl l s).upd _).trans (hf _)) (.refl l s)).acts

end

/-- An effect, where there is one, acts in lane `l`. -/
def EffectIn (l : LaneId) (e : Option (State → Host.Outcome State Fault Refusal)) : Prop := ∀ f ∈ e, ∀ s, ActsIn l s (f s)

theorem EffectIn.none (l : LaneId) : EffectIn l none := fun _ h => nomatch h

theorem EffectIn.ite {l : LaneId} {c : Prop} [Decidable c] {d e : Option (State → Host.Outcome State Fault Refusal)}
    (hd : EffectIn l d) (he : EffectIn l e) : EffectIn l (if c then d else e) := by
  split
  · exact hd
  · exact he

/-- An effect that is a command of the lane (R371). -/
theorem EffectIn.command (l : LaneId) (x : State → Lane) :
    EffectIn l (some fun s => .next (if (s.lane l).powered then s.setLane l (x s) else s)) :=
  fun _ h s => Option.some.inj h ▸ actsIn_of_supplied l s (x s)

/-- What an object that acts does, acts in the lane of the write (R371): each effect is a command of that lane. -/
theorem keyEffect_effectIn (l : LaneId) (key off : Nat) (data : List Byte) (id : Nat) (x : Lane) :
    EffectIn l (keyEffect l key off data id x) := by
  have command := EffectIn.command l
  unfold keyEffect
  dsimp only
  split
  case h_5 => exact .ite (command _) (command _)
  case h_39 =>
    exact .ite (command _) (.ite (command _) (.ite (command _) (.ite (command _)
      (.ite (.ite (command _) (command _)) (.ite (.ite (command _) (command _))
        (.ite (command _) (.ite (command _) (.none l))))))))
  all_goals exact command _

section
variable (l : LaneId) (s : State)

theorem applyKey_onlyLane (key off : Nat) (data : List Byte) (id : Nat) : s.OnlyLane l (applyKey l key off data id s) := by
  unfold applyKey
  split
  next f h => exact (keyEffect_effectIn _ _ _ _ _ _ f h s).onlyLane_after.upd _
  next => exact (State.OnlyLane.refl l s).upd _

theorem takeWrite_onlyLane (w : PendWrite) : s.OnlyLane l (takeWrite l s w) :=
  .ite (((State.OnlyLane.refl l s).upd _).trans (applyKey_onlyLane ..)) ((applyKey_onlyLane ..).upd _)

theorem takeWrites_onlyLane : s.OnlyLane l (takeWrites l s) :=
  .foldl (takeWrite_onlyLane l) ((State.OnlyLane.refl l s).upd _) _

theorem applyEntries_onlyLane (id : Nat) (wide own : List Entry) : s.OnlyLane l (applyEntries l id wide own s) := by
  have entries := State.OnlyLane.foldl (fun b (e : Entry) => applyKey_onlyLane l b (entryKey e) 0 e.value id) (.refl l s) (wide ++ own)
  unfold applyEntries
  exact entries.upd _

theorem applyOwn_onlyLane (p : Proposal) : s.OnlyLane l (applyOwn l p s) := by
  unfold applyOwn
  extract_lets s1 anyN
  have taken : s.OnlyLane l s1 := (State.OnlyLane.refl l s).upd _
  have applied (wide own : List Entry) : s.OnlyLane l (applyEntries l p.id wide own s1) := taken.trans (applyEntries_onlyLane ..)
  split
  next => exact (applied _ _).upd _
  next => exact applied _ _
  next => exact (applied _ _).upd _
  next =>
    split
    next => exact taken
    next => exact .ite (taken.upd _) ((applied _ _).upd _)

theorem applyHeld_onlyLane (h : HeldProp) : s.OnlyLane l (applyHeld l h s) := by
  unfold applyHeld
  extract_lets s1
  have taken : s.OnlyLane l s1 := (State.OnlyLane.refl l s).upd _
  have applied (wide own : List Entry) : s.OnlyLane l (applyEntries l h.id wide own s1) := taken.trans (applyEntries_onlyLane ..)
  split
  next => exact .ite (taken.upd _) ((applied _ _).upd _)
  next => exact (applied _ _).upd _

theorem adoptSet_onlyLane : s.OnlyLane l (adoptSet l s) := by
  unfold adoptSet
  extract_lets x
  split
  next => exact .refl l s
  next => exact State.OnlyLane.upd (.foldl (fun _ _ => applyKey_onlyLane ..) (.refl l s) _) _

theorem commitT5_onlyLane : s.OnlyLane l (commitT5 l s) := by
  unfold commitT5
  extract_lets x s1 s2
  have own : s.OnlyLane l s1 := by
    unfold s1
    split
    next p _ => exact .ite (applyOwn_onlyLane l s p) (.refl l s)
    next => exact .refl l s
  have held : s.OnlyLane l s2 := by
    unfold s2
    split
    next h _ => exact .ite (own.trans (applyHeld_onlyLane l s1 h)) own
    next => exact own
  exact (held.trans (adoptSet_onlyLane l s2)).upd _

theorem routeWrite_onlyLane (id : TxnId) (key off : Nat) (data : List Byte) (at_ : Nat) :
    s.OnlyLane l (routeWrite l id key off data at_ s) := by
  have put (x : Lane) : s.OnlyLane l (s.setLane l x) := (State.OnlyLane.refl l s).setLane x
  have upd (f : Lane → Lane) : s.OnlyLane l (s.upd l f) := (State.OnlyLane.refl l s).upd f
  have applied (f : Lane → Lane) : s.OnlyLane l ((applyKey l key off data 0 s).upd l f) := (applyKey_onlyLane ..).upd f
  unfold routeWrite
  extract_lets pl done
  split
  next => exact .refl l s
  next =>
    exact .ite (upd _) (.ite (applied _) (.ite (upd _) (.ite (put _) (.ite (.ite (put _) (upd _))
      (.ite (applied _) (.ite (upd _) (upd _)))))))

theorem serveWrite_onlyLane (id : TxnId) (key0 off len : Nat) (data : List Byte) (at_ : Nat) :
    s.OnlyLane l (serveWrite l id key0 off len data at_ s) :=
  .ite ((State.OnlyLane.refl l s).upd _) (routeWrite_onlyLane ..)

theorem canWrite_onlyLane (h : TxnHead) (data : List Byte) (at_ : Nat) : s.OnlyLane l (canWrite l h data at_ s) :=
  .ite ((State.OnlyLane.refl l s).upd _) (serveWrite_onlyLane ..)

theorem canRun_onlyLane (h : TxnHead) (data : List Byte) (at_ : Nat) : s.OnlyLane l (canRun l h data at_ s) := by
  have upd (f : Lane → Lane) : s.OnlyLane l (s.upd l f) := (State.OnlyLane.refl l s).upd f
  unfold canRun
  split
  next => exact upd _
  next => exact canWrite_onlyLane ..
  next => exact upd _
  next => exact upd _
  next => exact upd _

theorem skdWrite_onlyLane (h : TxnHead) (at_ : Nat) : s.OnlyLane l (skdWrite l h at_ s) :=
  .ite ((State.OnlyLane.refl l s).upd _) (.ite ((State.OnlyLane.refl l s).upd _) (serveWrite_onlyLane ..))

theorem skdRun_onlyLane (rx : SkdRx) (payload : List Byte) : s.OnlyLane l (skdRun l rx payload s) :=
  have put (x : Lane) : s.OnlyLane l (s.setLane l x) := (State.OnlyLane.refl l s).setLane x
  .ite (put _) (.ite (put _) ((put _).trans (skdWrite_onlyLane ..)))

end

/-- A request acts in its lane where its execution does. -/
theorem request_actsIn {l : LaneId} {run : TxnHead → List Byte → State → State}
    (hrun : ∀ (h : TxnHead) (data : List Byte) (b : State), b.OnlyLane l (run h data b)) (rx : Ingress) (h : TxnHead) (data : List Byte)
    (s : State) : ActsIn l s (request l rx h data run s) := by
  refine onStateAt_actsIn (fun b => ?_) _ s
  have put (x : Lane) : b.OnlyLane l (b.setLane l x) := (State.OnlyLane.refl l b).setLane x
  dsimp only
  split
  next => exact put _
  next h data _ => exact .ite ((put _).trans (hrun h data _)) (put _)

theorem execRead_actsIn (l : LaneId) (rx : Ingress) (h : TxnHead) (s : State) : ActsIn l s (execRead l rx h s) := by
  unfold execRead
  split
  · exact actsIn_of_supplied l s _
  · exact request_actsIn (fun _ _ b => (State.OnlyLane.refl l b).upd _) rx h [] s

theorem execCanTransaction_actsIn (l : LaneId) (rx : CanRx) (h : TxnHead) (data : List Byte) (s : State) :
    ActsIn l s (execCanTransaction l rx h data s) := by
  refine onStateAt_actsIn (fun b => ?_) _ s
  have heard : b.OnlyLane l (b.upd l fun x => x.canState rx.busState) := (State.OnlyLane.refl l b).upd _
  exact .ite (heard.upd _) (.ite (heard.setLane _) (.ite (heard.setLane _) (.ite (heard.setLane _)
    ((heard.setLane _).trans (canRun_onlyLane ..)))))

theorem execExchangeCheck_actsIn (l : LaneId) (t5 : CheckAt) (s : State) : ActsIn l s (execExchangeCheck l t5 s) := by
  refine onStateAt_actsIn (fun b => .ite (.refl l b) ?_) _ s
  have checked (f : Lane → Lane) : b.OnlyLane l (b.upd l f) := (State.OnlyLane.refl l b).upd f
  exact (((checked _).trans (takeWrites_onlyLane ..)).trans (commitT5_onlyLane ..)).upd _

/-- A command of a lane acts in that lane: those that reach the state of the module for writes, commits and requests, those of the
supplies that act without power (R433), and all others, which are steps of the lane. -/
theorem exec_actsIn_of_homeLane {c : Instr} {l : LaneId} (h : homeLane c = some l) (s : State) : ActsIn l s (exec c s) := by
  cases c with
  | exchangeCheck => cases h; exact execExchangeCheck_actsIn ..
  | read => cases h; exact execRead_actsIn ..
  | write => cases h; exact request_actsIn (fun _ _ _ => serveWrite_onlyLane ..) _ _ _ s
  | bulkRead | sessionClose => cases h; exact request_actsIn (fun _ _ _ => (State.OnlyLane.refl _ _).upd _) _ _ _ s
  | canTransaction => cases h; exact execCanTransaction_actsIn ..
  | skd2AliasRead => cases h; exact onStateAt_actsIn (fun _ => ((State.OnlyLane.refl _ _).upd _).trans (skdRun_onlyLane ..)) _ s
  | skd2AliasWrite => cases h; exact onStateAt_actsIn (fun _ => skdRun_onlyLane ..) _ s
  | keepAliveRise | logicSupplyRise | ss0Wake | canXlWake | wakeFrame | resetRelease | logicSupplyLoss | keepAliveLoss
  | backEmfAboveLink => cases h; exact ⟨_, rfl⟩
  | _ => cases h <;> exact actsIn_of_supplied _ s _

/-- A command of the arbiter tile changes the arbiter alone (R69). -/
theorem exec_of_homeLane_none {c : Instr} (h : homeLane c = none) (hall : ∀ g t, c ≠ .pwrModuleRequest g t) (s : State) :
    ∃ a : Arbiter, exec c s = .next { s with arb := a } := by
  have step (b : Arbiter) : ∃ a : Arbiter, (.next (if s.arb.powered then { s with arb := b } else s) : Host.Outcome State Fault Refusal)
      = .next { s with arb := a } := by
    split
    · exact ⟨b, rfl⟩
    · exact ⟨s.arb, rfl⟩
  cases c with
  | arbiterPowerUp => exact ⟨_, rfl⟩
  | pwrModuleRequest g t => exact absurd rfl (hall g t)
  | claimFrame | arbiterEvaluation | halfFault | handshakeTimeout | safeStateTimer | offPulseTest | openLoad | overcurrent
  | outputNotFollowingDuty => exact step _
  | _ => cases h

/-- `s'` is `s` but for its lanes. -/
def State.OnlyLanes (s s' : State) : Prop := ∃ x y z : Lane, s' = { s with lane1 := x, lane2 := y, lane3 := z }

theorem State.OnlyLanes.setLane {s s' : State} (h : s.OnlyLanes s') (l : LaneId) (v : Lane) : s.OnlyLanes (s'.setLane l v) := by
  obtain ⟨x, y, z, rfl⟩ := h
  cases l with
  | l1 => exact ⟨v, y, z, rfl⟩
  | l2 => exact ⟨x, v, z, rfl⟩
  | l3 => exact ⟨x, y, v, rfl⟩

/-- A power request to every lane changes the lanes alone (R433): it is a fold of writes of one lane. -/
theorem exec_pwrModuleRequest_onlyLanes (g : BitVec 8) (t : Nat) (s : State) :
    ∃ x y z : Lane, exec (.pwrModuleRequest g t) s = .next { s with lane1 := x, lane2 := y, lane3 := z } := by
  have lanes : s.OnlyLanes ([LaneId.l1, .l2, .l3].foldl (fun s l =>
      if (s.lane l).powered then s.setLane l ({ s.lane l with now := max (s.lane l).now t }.requestPower g.toNat) else s) s) := by
    refine List.foldlRecOn _ _ ⟨_, _, _, rfl⟩ fun b hb l _ => ?_
    split
    · exact hb.setLane l _
    · exact hb
  obtain ⟨x, y, z, h⟩ := lanes
  exact ⟨x, y, z, congrArg _ h⟩

/-- Settles O6: a command of a lane by the shared steps of a lane and by the writes, commits and requests, which all end in writes of that
lane; a command of the arbiter by the step of the arbiter. -/
theorem commandsActWhereTheyBelong : Obligations.CommandsActWhereTheyBelong := by
  unfold Obligations.CommandsActWhereTheyBelong
  exact ⟨fun _ s _ h => exec_actsIn_of_homeLane h s, fun _ s h hall => exec_of_homeLane_none h hall s, exec_pwrModuleRequest_onlyLanes⟩

end Sys2Proof.Machine
end

section
/-!
SUPPORT. What the steps of a reload (R29) leave of a lane: the instants, numbers and frames of its sample, what its captures took, and
what it knows of the peers' sample numbers. One lemma for every step.
-/
namespace Sys2Proof.Machine

/-- The parts of a lane that the start of a sample reads or writes (R28, R29, R42) and that its other steps leave. -/
structure SampleView where
  powered : Bool
  now : Nat
  no : Nat
  reloadAt : Nat
  prevReload : Nat
  own : Option ExchFrame
  prevOwn : Option ExchFrame
  sent : Bool
  takeNo : Bool
  vBrake : Nat
  tWind : Nat
  fb : Nat
  peers : Peer → Nat × Option (Nat × Bool) × Bool

/-- What a lane knows of a peer's sample numbers: missing frames, the last number and claim, and whether it is evicted (R42). -/
def PeerSt.numbers (p : PeerSt) : Nat × Option (Nat × Bool) × Bool := (p.silent, p.crcLast, p.evicted)

def Lane.sampleView (l : Lane) : SampleView where
  powered := l.powered
  now := l.now
  no := l.smp.no
  reloadAt := l.smp.reloadAt
  prevReload := l.smp.prevReload
  own := l.smp.own
  prevOwn := l.smp.prevOwn
  sent := l.smp.sent
  takeNo := l.smp.takeNo
  vBrake := l.smp.vBrake
  tWind := l.drive.tWind
  fb := l.sio.fb
  peers := fun p => (l.peer p).numbers

/-! The named updates. -/

/-- An update of other fields than those of the view leaves it. -/
@[simp] theorem Lane.sampleView_with (l : Lane) (objs octs regs slots coll gate steer brakes votes dem claim eng cap mx spv shape brk net sess txn
    ka writes com nv cs quote upd pwr out bus) :
    Lane.sampleView { l with
      objs := objs, octs := octs, regs := regs, slots := slots, coll := coll, gate := gate, steer := steer,
      brakes := brakes, votes := votes, dem := dem, claim := claim, eng := eng, cap := cap, mx := mx, spv := spv, shape := shape, brk := brk,
      net := net, sess := sess, txn := txn, ka := ka, writes := writes, com := com, nv := nv, cs := cs, quote := quote, upd := upd,
      pwr := pwr, out := out, bus := bus } = l.sampleView := rfl

theorem Lane.sampleView_ite {c : Prop} [Decidable c] {x y l : Lane} (hx : x.sampleView = l.sampleView) (hy : y.sampleView = l.sampleView) :
    (if c then x else y).sampleView = l.sampleView := by
  split
  · exact hx
  · exact hy

/-- A fold of steps that leave the view leaves it. -/
theorem Lane.sampleView_foldl {α : Type} {f : Lane → α → Lane} (h : ∀ l a, (f l a).sampleView = l.sampleView) (as : List α) (l : Lane) :
    (as.foldl f l).sampleView = l.sampleView :=
  List.foldlRecOn (motive := fun y => y.sampleView = l.sampleView) as f rfl fun y hy a _ => (h y a).trans hy

section
variable (l : Lane)

theorem Lane.sampleView_withEng (e : EngSt) : ({ l with eng := e } : Lane).sampleView = l.sampleView := rfl
theorem Lane.sampleView_withSpv (v : SupSt) : ({ l with spv := v } : Lane).sampleView = l.sampleView := rfl
theorem Lane.sampleView_withMx (m : MxSt) : ({ l with mx := m } : Lane).sampleView = l.sampleView := rfl

@[simp] theorem Lane.sampleView_setObj (o : O.Obj) (v : Nat) : (l.setObj o v).sampleView = l.sampleView := rfl
@[simp] theorem Lane.sampleView_inc (o : O.Obj) : (l.inc o).sampleView = l.sampleView := rfl
@[simp] theorem Lane.sampleView_setArr16 (o : O.Obj) (vs : List Nat) : (l.setArr16 o vs).sampleView = l.sampleView := rfl
@[simp] theorem Lane.sampleView_setReg (r : Rg.Reg) (v : Nat) : (l.setReg r v).sampleView = l.sampleView := rfl
@[simp] theorem Lane.sampleView_setFld (r : Rg.Reg) (lo w v : Nat) : (l.setFld r lo w v).sampleView = l.sampleView := rfl
@[simp] theorem Lane.sampleView_setRbit (r : Rg.Reg) (i : Nat) (b : Bool) : (l.setRbit r i b).sampleView = l.sampleView := rfl
@[simp] theorem Lane.sampleView_setSlot (i v : Nat) : (l.setSlot i v).sampleView = l.sampleView := rfl
@[simp] theorem Lane.sampleView_updLoop (k : Fin 9) (f : LoopSt → LoopSt) : (l.updLoop k f).sampleView = l.sampleView := rfl
@[simp] theorem Lane.sampleView_updBd (n : Fin 8) (f : BrakeDrv → BrakeDrv) : (l.updBd n f).sampleView = l.sampleView := rfl

@[simp] theorem Lane.sampleView_incIf (o : O.Obj) (b : Bool) : (l.incIf o b).sampleView = l.sampleView := by
  cases b <;> rfl

@[simp] theorem Lane.sampleView_raiseBit (r : Rg.Reg) (i : Nat) (b : Bool) : (l.raiseBit r i b).sampleView = l.sampleView := by
  cases b <;> rfl

@[simp] theorem Lane.sampleView_updStg (st : Stage) (f : StageSt → StageSt) : (l.updStg st f).sampleView = l.sampleView := by
  cases st <;> rfl

@[simp] theorem Lane.sampleView_incBy (o : O.Obj) (n : Nat) : (l.incBy o n).sampleView = l.sampleView := by
  induction n generalizing l with
  | zero => rfl
  | succ n ih => exact (ih (l.inc o)).trans rfl

@[simp] theorem Lane.sampleView_setSlots (i : Nat) (vs : List Nat) : (l.setSlots i vs).sampleView = l.sampleView := by
  induction vs generalizing l i with
  | nil => rfl
  | cons v vs ih => exact (ih (l.setSlot i v) (i + 1)).trans rfl

@[simp] theorem Lane.sampleView_seeTerminals (above : Bool) : (l.seeTerminals above).sampleView = l.sampleView := rfl

@[simp] theorem Lane.sampleView_ceaseSteer : l.ceaseSteer.sampleView = l.sampleView := by
  simp [Lane.ceaseSteer, Lane.chooseSafe]

@[simp] theorem Lane.sampleView_openBrakes : l.openBrakes.sampleView = l.sampleView :=
  Lane.sampleView_foldl (f := Lane.openBrake) (fun _ _ => rfl) _ l

@[simp] theorem Lane.sampleView_dropClaim : l.dropClaim.sampleView = l.sampleView := rfl
@[simp] theorem Lane.sampleView_setStep (v : Nat) : (l.setStep v).sampleView = l.sampleView := rfl

@[simp] theorem Lane.sampleView_setPend (o : Option Nat) : (l.setPend o).sampleView = l.sampleView := by
  cases o <;> rfl

@[simp] theorem Lane.sampleView_takeLink (p : Peer) (bytes : Nat) : (l.takeLink p bytes).sampleView = l.sampleView := by
  have h : ∀ q, ((l.takeLink p bytes).peer q).numbers = (l.peer q).numbers := by
    intro q
    cases p <;> cases q <;> rfl
  cases p <;> exact congrArg (fun ps => { l.sampleView with peers := ps }) (funext h)

theorem Lane.sampleView_watchTerminals (above : Bool) : (l.watchTerminals above).sampleView = l.sampleView :=
  Lane.sampleView_ite rfl (by simp [Lane.chooseSafe])

theorem Lane.sampleView_sendCapture (f : CaptureFrame) : (l.sendCapture f).sampleView = l.sampleView :=
  Lane.sampleView_foldl (fun l p => l.sampleView_takeLink p 32) bothPeers l

theorem Lane.sampleView_countTrim : l.countTrim.sampleView = l.sampleView :=
  l.sampleView_incIf O.steerTrims _

/-! E1's work (R122 to R154). -/

theorem Lane.sampleView_setSpecValid (k : Fin 9) (b : Bool) : (l.setSpecValid k b).sampleView = l.sampleView := rfl

theorem Lane.sampleView_squash (k : Fin 9) (cause : Nat) : (l.squash k cause).sampleView = l.sampleView := by
  unfold Lane.squash
  extract_lets a b
  have ha : a.sampleView = l.sampleView := (Lane.sampleView_setRbit _ _ _ _).trans (l.sampleView_updLoop k _)
  have hb : b.sampleView = l.sampleView := (Lane.sampleView_inc _ _).trans ((Lane.sampleView_inc _ _).trans ha)
  exact Lane.sampleView_ite ((b.sampleView_setFld _ _ _ _).trans hb) hb

theorem Lane.sampleView_beginEntry (k : Fin 9) (e : EntryKind) : (l.beginEntry k e).sampleView = l.sampleView := rfl

theorem Lane.sampleView_endEntry (k : Fin 9) : (l.endEntry k).sampleView = l.sampleView := Lane.sampleView_ite rfl rfl

theorem Lane.sampleView_place (st : Stage) (count : Nat) (set : LgSet) : (l.place st count set).sampleView = l.sampleView := by
  simp [Lane.place]

theorem Lane.sampleView_settle (st : Stage) (t : Nat) : (l.settle st t).sampleView = l.sampleView := by
  unfold Lane.settle
  split
  next => exact Lane.sampleView_ite ((Lane.sampleView_place _ st _ _).trans (l.sampleView_updStg st _)) rfl
  next => rfl

theorem Lane.sampleView_commitVolts (st : Stage) (at_ : Nat) (u : List Nat) : (l.commitVolts st at_ u).sampleView = l.sampleView := by
  unfold Lane.commitVolts
  extract_lets p v ds n a b c d set
  have hb : b.sampleView = l.sampleView :=
    (Lane.sampleView_foldl (fun m _ => m.sampleView_setReg _ _) _ a).trans (l.sampleView_setFld _ _ _ _)
  have hc : c.sampleView = b.sampleView := (Lane.sampleView_incBy _ _ _).trans (b.sampleView_raiseBit _ _ _)
  have hd : d.sampleView = c.sampleView := (Lane.sampleView_settle _ st _).trans (c.sampleView_setFld _ _ _ _)
  exact (Lane.sampleView_settle _ st _).trans ((d.sampleView_updStg st _).trans (hd.trans (hc.trans hb)))

theorem Lane.sampleView_commitE1 (k : Fin 9) (dq : Bool) (src : Nat) : (l.commitE1 k dq src).sampleView = l.sampleView := by
  simp [Lane.commitE1, Lane.sampleView_commitVolts]

theorem Lane.sampleView_mbxSend (s d w : Nat) : (l.mbxSend s d w).sampleView = l.sampleView :=
  Lane.sampleView_ite rfl (Lane.sampleView_ite rfl rfl)

theorem Lane.sampleView_postWord (k : Fin 9) (eng src : Nat) : (l.postWord k eng src).sampleView = l.sampleView :=
  Lane.sampleView_ite rfl (Lane.sampleView_ite rfl (l.sampleView_mbxSend 1 eng _))

theorem Lane.sampleView_mvm (k : Fin 9) (acc wb : Bool) (mat src dst : Nat) : (l.mvm k acc wb mat src dst).sampleView = l.sampleView :=
  Lane.sampleView_ite (by simp [Lane.countSats]) (by simp [Lane.countSats])

theorem Lane.sampleView_tube (k : Fin 9) (n tub src : Nat) : (l.tube k n tub src).sampleView = l.sampleView :=
  Lane.sampleView_ite rfl (Lane.sampleView_ite rfl (Lane.sampleView_squash _ k 1))

theorem Lane.sampleView_e1op (k : Fin 9) (i : E1Ins) : (l.e1op k i).sampleView = l.sampleView := by
  cases i with
  | endI => exact l.sampleView_endEntry k
  | mvm acc wb mat src dst => exact l.sampleView_mvm k acc wb _ _ _
  | vadd wrap copy len src dst => exact Lane.sampleView_ite rfl (l.sampleView_incBy _ _)
  | vsub wrap len src dst => exact l.sampleView_incBy _ _
  | sat len sh dst => exact l.sampleView_incBy _ _
  | tube len tub src => exact l.sampleView_tube k _ _ _
  | commit dq src => exact l.sampleView_commitE1 k dq _
  | post eng src => exact l.sampleView_postWord k _ _
  | lim | sel | ld | st | ldc | prep => rfl

theorem Lane.sampleView_e1 (i : E1Ins) : (l.e1 i).sampleView = l.sampleView := by
  unfold Lane.e1
  split
  next => rfl
  next k _ => exact Lane.sampleView_e1op _ k i

theorem Lane.sampleView_stepProgram (k : Fin 9) (pc : Nat) (i : E1Ins) : (l.stepProgram k pc i).sampleView = l.sampleView :=
  Lane.sampleView_ite (l.sampleView_e1 i) (l.sampleView_e1 i)

theorem Lane.sampleView_beginRun (k : Fin 9) (start due : Nat) : (l.beginRun k start due).sampleView = l.sampleView := by
  unfold Lane.beginRun
  extract_lets c cause a e from_
  have ha : a.sampleView = l.sampleView :=
    Lane.sampleView_ite (l.sampleView_squash k _) (Lane.sampleView_ite rfl (l.sampleView_updLoop k _))
  exact (Lane.sampleView_beginEntry _ k e).trans ((a.sampleView_updLoop k _).trans ha)

theorem Lane.sampleView_beginWork (w : E1Due) (start : Nat) : (l.beginWork w start).sampleView = l.sampleView :=
  Lane.sampleView_ite (x := Lane.beginSpec _ start) rfl (Lane.sampleView_beginRun _ w.loop start w.due)

theorem Lane.sampleView_e1Turn {t : Nat} {m : Lane} (h : l.e1Turn t = some m) : m.sampleView = l.sampleView := by
  unfold Lane.e1Turn at h
  split at h
  next =>
    obtain ⟨-, h⟩ := Option.ite_none_right_eq_some.mp h
    cases h
    exact l.sampleView_stepProgram _ _ _
  next =>
    split at h
    next w _ =>
      obtain ⟨-, h⟩ := Option.ite_none_right_eq_some.mp h
      cases h
      exact l.sampleView_beginWork w _
    next => cases h
  next => cases h

theorem Lane.sampleView_e1Turns (t f : Nat) : (Lane.e1Turns t f l).sampleView = l.sampleView := by
  induction f generalizing l with
  | zero => rfl
  | succ f ih =>
    unfold Lane.e1Turns
    split
    next m h => exact (ih m).trans (l.sampleView_e1Turn h)
    next => rfl

theorem Lane.sampleView_e1Until (t : Nat) : (l.e1Until t).sampleView = l.sampleView := l.sampleView_e1Turns t _

end

end Sys2Proof.Machine
end

section
/-!
SUPPORT. The capture (R460 to R470) and the boundary of a period (R230 to R245) leave the view of a lane's sample.
-/
namespace Sys2Proof.Machine

section
variable (l : Lane)

theorem Lane.sampleView_captureRecord (me : LaneId) : (l.captureRecord me).sampleView = l.sampleView := by
  unfold Lane.captureRecord
  extract_lets c k vals ring buf trg c1 a b d e f g
  have hd : d.sampleView = l.sampleView := Lane.sampleView_ite (b.sampleView_sendCapture _) rfl
  have he : e.sampleView = l.sampleView := by
    refine Eq.trans ?_ hd
    clear_value trg d
    unfold e
    split
    next => exact Lane.sampleView_sendCapture _ _
    next => rfl
  have hg : g.sampleView = l.sampleView := by
    refine Lane.sampleView_ite rfl ?_
    split
    next => exact Lane.sampleView_ite he he
    next => exact he
  exact Lane.sampleView_ite hg hg

theorem Lane.sampleView_countRefresh (st : Stage) (leg : Nat) : (Lane.countRefresh st l leg).sampleView = l.sampleView := rfl

theorem Lane.sampleView_setDt (st : Stage) (sw v : Nat) : (l.setDt st sw v).sampleView = l.sampleView :=
  Lane.sampleView_ite (l.sampleView_setFld _ _ _ _) (l.sampleView_setFld _ _ _ _)

theorem Lane.sampleView_adaptDt (st : Stage) (sw : Nat) : (Lane.adaptDt st l sw).sampleView = l.sampleView :=
  l.sampleView_setDt st sw _

theorem Lane.sampleView_adaptDead (st : Stage) : (l.adaptDead st).sampleView = l.sampleView := by
  have h : ∀ (on : Bool) (m : Lane) (sw : Nat),
      ((if on then Lane.adaptDt st else fun l sw => l.setDt st sw (l.dtInit st)) m sw).sampleView = m.sampleView := by
    intro on m sw
    cases on
    · exact m.sampleView_setDt st sw _
    · exact m.sampleView_adaptDt st sw
  exact (Lane.sampleView_updStg _ st _).trans (Lane.sampleView_foldl (h _) _ l)

theorem Lane.sampleView_activate (st : Stage) (set : LgSet) : (l.activate st set).sampleView = l.sampleView := by
  unfold Lane.activate
  extract_lets nw cs a b nd nn c
  have hb : b.sampleView = l.sampleView :=
    (Lane.sampleView_foldl (fun m _ => m.sampleView_setReg _ _) _ a).trans (l.sampleView_setFld _ _ _ _)
  have hc : c.sampleView = b.sampleView := (Lane.sampleView_incBy _ _ _).trans (b.sampleView_raiseBit _ _ _)
  exact (Lane.sampleView_incBy _ _ _).trans ((c.sampleView_raiseBit _ _ _).trans (hc.trans hb))

theorem Lane.sampleView_fallbackVolts (st : Stage) (u : List Nat) : (l.fallbackVolts st u).sampleView = l.sampleView :=
  (Lane.sampleView_activate _ st _).trans ((Lane.sampleView_incBy _ _ _).trans (l.sampleView_raiseBit _ _ _))

theorem Lane.sampleView_overPoint (st : Stage) : (l.overPoint st).sampleView = l.sampleView := by
  unfold Lane.overPoint
  extract_lets o a b c
  have ha : a.sampleView = l.sampleView := (Lane.sampleView_setRbit _ _ _ _).trans (l.sampleView_setRbit _ _ _)
  have hb : b.sampleView = l.sampleView := Lane.sampleView_ite ((a.sampleView_setFld _ _ _ _).trans ha) ha
  have hc : c.sampleView = l.sampleView := (b.sampleView_updStg st _).trans hb
  clear_value o
  split
  next => exact hc
  next => exact (c.sampleView_inc _).trans hc
  next u => exact (Lane.sampleView_inc _ _).trans ((c.sampleView_fallbackVolts st u).trans hc)

theorem Lane.sampleView_transferBoundary (st : Stage) : (l.transferBoundary st).sampleView = l.sampleView := by
  unfold Lane.transferBoundary
  extract_lets a s active set b c
  have ha : a.sampleView = l.sampleView := l.sampleView_settle st l.now
  have hb : b.sampleView = l.sampleView := (Lane.sampleView_overPoint _ st).trans ((a.sampleView_updStg st _).trans ha)
  have hc : c.sampleView = l.sampleView := (Lane.sampleView_overPoint _ st).trans ((a.sampleView_updStg st _).trans ha)
  refine Lane.sampleView_ite ?_ ?_
  · split
    · exact (b.sampleView_activate st _).trans hb
    · exact hb
  · clear_value set
    split
    · exact (c.sampleView_activate st _).trans hc
    · exact hc

theorem Lane.sampleView_beginLeg (st : Stage) (leg : Nat) : (Lane.beginLeg st l leg).sampleView = l.sampleView := by
  unfold Lane.beginLeg
  extract_lets p d duty lim forced insert a
  have ha : a.sampleView = l.sampleView := l.sampleView_updStg st _
  split
  next => exact l.sampleView_updStg _ _
  next n =>
    extract_lets b
    have hb : b.sampleView = l.sampleView :=
      Lane.sampleView_ite ((Lane.sampleView_inc _ _).trans ((a.sampleView_setRbit _ _ _).trans ha)) ha
    exact Lane.sampleView_ite (l.sampleView_updStg _ _)
      (Lane.sampleView_ite (Lane.sampleView_ite ((b.sampleView_inc _).trans hb) hb) (l.sampleView_updStg _ _))

theorem Lane.sampleView_beginPeriod (st : Stage) (may : Bool) : (l.beginPeriod st may).sampleView = l.sampleView := by
  unfold Lane.beginPeriod
  extract_lets a b c
  have hc : c.sampleView = l.sampleView := (b.sampleView_updStg st _).trans
    ((Lane.sampleView_foldl (fun m leg => m.sampleView_beginLeg st leg) _ a).trans (l.sampleView_setReg _ _))
  exact Lane.sampleView_ite ((c.sampleView_setRbit _ _ _).trans hc) hc

theorem Lane.sampleView_boundary (st : Stage) (may : Bool) : (l.boundary st may).sampleView = l.sampleView := by
  refine Lane.sampleView_ite ((Lane.sampleView_beginPeriod _ st may).trans ((Lane.sampleView_transferBoundary _ st).trans
    ((Lane.sampleView_adaptDead _ st).trans ?_))) rfl
  split
  next => rfl
  next => exact Lane.sampleView_foldl (fun m leg => m.sampleView_countRefresh _ leg) _ l

theorem Lane.sampleView_latchEdges : l.latchEdges.sampleView = l.sampleView := by
  unfold Lane.latchEdges
  extract_lets a b
  have ha : a.sampleView = l.sampleView := Lane.sampleView_foldl (fun m st => m.sampleView_updStg st _) _ l
  have hb : b.sampleView = l.sampleView := (a.sampleView_setReg _ _).trans ha
  exact (Lane.sampleView_foldl
    (fun m _ => Lane.sampleView_ite (m.sampleView_setFld _ _ _ _) (m.sampleView_setFld _ _ _ _)) _ b).trans hb

end

end Sys2Proof.Machine
end

section
/-!
SUPPORT. What the captures and the start of a sample change of the view, and what the other steps of a reload leave.
-/
namespace Sys2Proof.Machine

section
variable (l : Lane)

theorem Lane.sampleView_takeMonitors (temps volts : List Nat) : (l.takeMonitors temps volts).sampleView = l.sampleView := by
  unfold Lane.takeMonitors
  extract_lets e tMax vMin vMax now age a b
  have ha : a.sampleView = l.sampleView := (Lane.sampleView_setArr16 _ _ _).trans (Lane.sampleView_setArr16 _ _ _)
  have hb : b.sampleView = a.sampleView :=
    (Lane.sampleView_setArr16 _ _ _).trans ((Lane.sampleView_setArr16 _ _ _).trans (Lane.sampleView_setArr16 _ _ _))
  exact (b.sampleView_withEng _).trans (hb.trans ha)

theorem Lane.sampleView_steerSlots (vLink : Nat) : (l.steerSlots vLink).sampleView = l.sampleView := by
  unfold Lane.steerSlots
  extract_lets len g a volts mv td0 tgl cue cs flags b c d e q f n m
  have hd : d.sampleView = l.sampleView :=
    (c.sampleView_setSlots 6 _).trans ((b.sampleView_setSlots 3 _).trans (l.sampleView_setSlots 0 _))
  have he : e.sampleView = d.sampleView := (Lane.sampleView_setSlot _ _ _).trans (Lane.sampleView_setSlot _ _ _)
  have hf : f.sampleView = e.sampleView := (Lane.sampleView_setObj _ _ _).trans (Lane.sampleView_setObj _ _ _)
  have hm : m.sampleView = f.sampleView := f.sampleView_incBy O.cueValidCount n
  clear_value m
  exact hm.trans (hf.trans (he.trans hd))

theorem Lane.sampleView_sampleAna (me : LaneId) (c : Captures) (i : Nat) : (Lane.sampleAna me c l i).sampleView = l.sampleView :=
  l.sampleView_incIf (O.anaRangeEvents) _

theorem Lane.sampleView_sampleSent (c : Nat) : (l.sampleSent c).sampleView = l.sampleView := rfl

theorem Lane.sampleView_sampleAngle : l.sampleAngle.sampleView = l.sampleView := by
  unfold Lane.sampleAngle
  extract_lets r src err
  exact Lane.sampleView_ite rfl rfl

theorem Lane.sampleView_loseRotor (cause : Nat) : (l.loseRotor cause).sampleView = l.sampleView := by
  unfold Lane.loseRotor
  extract_lets a b
  have ha : a.sampleView = l.sampleView := l.sampleView_inc _
  have hb : b.sampleView = a.sampleView := (Lane.sampleView_setObj _ _ _).trans ((Lane.sampleView_setSlot _ _ _).trans
    ((Lane.sampleView_setObj _ _ _).trans (Lane.sampleView_setObj _ _ _)))
  exact Lane.sampleView_ite ha ((b.sampleView_withSpv _).trans (hb.trans ha))

theorem Lane.sampleView_invalidAngle : l.invalidAngle.sampleView = l.sampleView := Lane.sampleView_ite (l.sampleView_loseRotor 1) rfl

theorem Lane.sampleView_angleSlots : l.angleSlots.sampleView = l.sampleView := by
  unfold Lane.angleSlots
  extract_lets a own back _ b
  have ha : a.sampleView = l.sampleView := l.sampleView_invalidAngle
  have hb : b.sampleView = l.sampleView := by
    refine Eq.trans ?_ ha
    clear_value a
    exact Lane.sampleView_ite rfl rfl
  clear_value b
  split
  next => exact hb
  next => exact hb

theorem Lane.sampleView_brakeSlotsReload (me : LaneId) (v : Nat) (n : Fin 8) :
    (Lane.brakeSlotsReload me v l n).sampleView = l.sampleView := by
  unfold Lane.brakeSlotsReload
  extract_lets b len g a mv td0 tgl q one cs flags d us age dt s theta sn m
  exact ((m.updStg (.brake n) _).sampleView_updBd n _).trans ((m.sampleView_updStg (.brake n) _).trans (l.sampleView_setSlots b _))

end

end Sys2Proof.Machine
end

section
/-!
SUPPORT. What the captures and the start of a sample change of the view.
-/
namespace Sys2Proof.Machine

/-- The view with what the captures of a reload give (R29). -/
def SampleView.captured (v : SampleView) (c : Captures) : SampleView :=
  { v with vBrake := c.vBrake.toNat, tWind := c.tWind.toNat, fb := c.fb.toNat }

/-- The view of the sample after it: it starts now with the number `no`, and the frame sent is that of the sample before (R28, R42). -/
def SampleView.begun (v : SampleView) (no : Nat) : SampleView :=
  { v with prevReload := v.reloadAt, reloadAt := v.now, prevOwn := v.own, own := none, sent := false, no := no, takeNo := false }

section
variable (l : Lane)

theorem Lane.sampleView_withCaptures (c : Captures) (dev cool : Nat) :
    ({ l with
        drive := { l.drive with tDev := dev, tWind := c.tWind.toNat, tCool := cool }
        sio := { l.sio with fb := c.fb.toNat }
        smp := { l.smp with vBrake := c.vBrake.toNat, vLogic := c.vLogic.toNat } } : Lane).sampleView = l.sampleView.captured c := rfl

theorem Lane.sampleView_takeCaptures (me : LaneId) (c : Captures) :
    (l.takeCaptures me c).sampleView = l.sampleView.captured c := by
  unfold Lane.takeCaptures
  extract_lets temps a dev smp drive sio b d e f g h i
  have hb : b.sampleView = l.sampleView.captured c :=
    (a.sampleView_withCaptures c _ _).trans (congrArg (fun v : SampleView => v.captured c) (l.sampleView_takeMonitors temps _))
  have hd : d.sampleView = b.sampleView := b.sampleView_setFld _ _ _ _
  have he : e.sampleView = d.sampleView :=
    (Lane.sampleView_setSlot _ _ _).trans ((Lane.sampleView_setSlot _ _ _).trans (d.sampleView_steerSlots _))
  have hf : f.sampleView = e.sampleView := e.sampleView_setReg _ _
  have hg : g.sampleView = f.sampleView := Lane.sampleView_foldl (fun m _ => m.sampleView_setReg _ _) _ f
  have hh : h.sampleView = g.sampleView := Lane.sampleView_foldl (fun m k => m.sampleView_sampleAna me c k) _ g
  have hi : i.sampleView = h.sampleView := (Lane.sampleView_angleSlots _).trans ((Lane.sampleView_sampleAngle _).trans
    (Lane.sampleView_foldl (fun m k => m.sampleView_sampleSent k) _ h))
  have hj := Lane.sampleView_foldl (fun m n => m.sampleView_brakeSlotsReload me c.vBrake.toNat n) allDrives i
  exact hj.trans (hi.trans (hh.trans (hg.trans (hf.trans (he.trans (hd.trans hb))))))

theorem Lane.sampleView_newSample (me : LaneId) : (l.newSample me).sampleView = l.sampleView.begun (l.nextSampleNo me) := by
  unfold Lane.newSample
  extract_lets s smp a b
  have hb : b.sampleView = a.sampleView := by
    have h : ∀ q, (b.peer q).numbers = (a.peer q).numbers := by
      intro q
      cases q <;> rfl
    exact congrArg (fun ps => { a.sampleView with peers := ps }) (funext h)
  exact (b.sampleView_setObj _ _).trans hb

/-- The number of the next sample depends on the view alone (R42). -/
theorem Lane.nextSampleNo_of_sampleView {m : Lane} (h : m.sampleView = l.sampleView) (me : LaneId) :
    m.nextSampleNo me = l.nextSampleNo me := by
  have hp : ∀ q, (m.peer q).numbers = (l.peer q).numbers := fun q => congrFun (congrArg SampleView.peers h) q
  have hno : m.smp.no = l.smp.no := congrArg SampleView.no h
  have htake : m.smp.takeNo = l.smp.takeNo := congrArg SampleView.takeNo h
  have hsil : ∀ q, (m.peer q).silent = (l.peer q).silent := fun q => congrArg Prod.fst (hp q)
  have hcrc : ∀ q, (m.peer q).crcLast = (l.peer q).crcLast := fun q => congrArg (fun n => n.2.1) (hp q)
  have hev : ∀ q, (m.peer q).evicted = (l.peer q).evicted := fun q => congrArg (fun n => n.2.2) (hp q)
  have hsrc : m.sourcePeer me = l.sourcePeer me := by
    unfold Lane.sourcePeer
    simp only [hsil, hcrc, hev]
  unfold Lane.nextSampleNo
  simp only [hno, htake, hsrc, hcrc]

end

end Sys2Proof.Machine
end

section
/-!
SUPPORT. The steps of a reload after the captures leave the view (R29): the swap and the benches, the run of the steering loop, the
shaper, the commits, the power state and the beginning of a claim.
-/
namespace Sys2Proof.Machine

section
variable (l : Lane)

theorem Lane.sampleView_refuseSwap (code : Nat) : (l.refuseSwap code).sampleView = l.sampleView :=
  (Lane.sampleView_setRbit _ _ _ _).trans ((Lane.sampleView_withMx _ _).trans
    ((Lane.sampleView_setObj _ _ _).trans (l.sampleView_setFld _ _ _ _)))

theorem Lane.sampleView_realignReload : l.realignReload.sampleView = l.sampleView := rfl

theorem Lane.sampleView_applySwap : l.applySwap.sampleView = l.sampleView := by
  unfold Lane.applySwap
  extract_lets a b c mx d p e f
  have hb : b.sampleView = l.sampleView :=
    (Lane.sampleView_setRbit _ _ _ _).trans ((Lane.sampleView_setRbit _ _ _ _).trans (l.sampleView_setRbit _ _ _))
  have hd : d.sampleView = b.sampleView := (c.sampleView_withMx _).trans (b.sampleView_setObj _ _)
  have he : e.sampleView = d.sampleView := Lane.sampleView_ite rfl
    ((Lane.sampleView_realignReload _).trans ((Lane.sampleView_setFld _ _ _ _ _).trans (d.sampleView_setFld _ _ _ _)))
  have hf : f.sampleView = e.sampleView := (Lane.sampleView_setObj _ _ _).trans (Lane.sampleView_setObj _ _ _)
  exact (Lane.sampleView_foldl (fun m k => m.sampleView_updLoop k _) allLoops f).trans (hf.trans (he.trans (hd.trans hb)))

theorem Lane.sampleView_swapStep (fits moduleDrives : Bool) : (l.swapStep fits moduleDrives).sampleView = l.sampleView :=
  Lane.sampleView_ite (Lane.sampleView_ite (l.sampleView_refuseSwap 2)
    (Lane.sampleView_ite (l.sampleView_refuseSwap 3) l.sampleView_applySwap)) rfl

theorem Lane.sampleView_selectBench (k : Fin 9) : (l.selectBench k).sampleView = l.sampleView := by
  unfold Lane.selectBench
  extract_lets m r olds bins cell force block changed w a
  exact (a.sampleView_updLoop k _).trans (l.sampleView_setReg r w)

theorem Lane.sampleView_selectBenches : l.selectBenches.sampleView = l.sampleView :=
  Lane.sampleView_ite (Lane.sampleView_foldl (fun m k => m.sampleView_selectBench k) _ l) rfl

theorem Lane.sampleView_newPosts : l.newPosts.sampleView = l.sampleView := l.sampleView_updLoop 0 _

theorem Lane.sampleView_runDue (k : Fin 9) (due : Nat) : (l.runDue k due).sampleView = l.sampleView := rfl

theorem Lane.sampleView_steeringRun : l.steeringRun.sampleView = l.sampleView := by
  unfold Lane.steeringRun
  extract_lets a mx b c
  have ha : a.sampleView = l.sampleView := Lane.sampleView_foldl (fun m k => m.sampleView_updLoop _ _) _ l
  have hb : b.sampleView = a.sampleView := rfl
  have hc : c.sampleView = b.sampleView := b.sampleView_updLoop 0 _
  refine Eq.trans ?_ (hc.trans (hb.trans ha))
  exact Lane.sampleView_ite ((Lane.sampleView_e1Until _ _).trans (c.sampleView_runDue 0 _)) (c.sampleView_setSpecValid 0 false)

theorem Lane.sampleView_setProbes : l.setProbes.sampleView = l.sampleView := by
  refine Lane.sampleView_foldl (fun m i => ?_) _ l
  exact Lane.sampleView_ite (m.sampleView_setFld _ _ _ _) (m.sampleView_setFld _ _ _ _)

theorem Lane.sampleView_applyPark : l.applyPark.sampleView = l.sampleView := rfl

theorem Lane.sampleView_loadSeed (b : List Byte) : (l.loadSeed b).sampleView = l.sampleView := by
  unfold Lane.loadSeed
  extract_lets f rise stop a d dem sh ws
  have ha : a.sampleView = l.sampleView := Lane.sampleView_ite rfl (Lane.sampleView_ite rfl rfl)
  have hd : d.sampleView = a.sampleView := Lane.sampleView_ite a.sampleView_applyPark rfl
  exact (Lane.sampleView_inc _ _).trans (hd.trans ha)

theorem Lane.sampleView_beginStop : l.beginStop.sampleView = l.sampleView := by
  unfold Lane.beginStop
  extract_lets d rest dec a
  have ha : a.sampleView = l.sampleView := (Lane.sampleView_setObj _ _ _).trans ((Lane.sampleView_setObj _ _ _).trans
    ((Lane.sampleView_setObj _ _ _).trans (Lane.sampleView_setObj _ _ _)))
  clear_value a
  exact ha

theorem Lane.sampleView_prepareStep : l.prepareStep.sampleView = l.sampleView := by
  unfold Lane.prepareStep
  extract_lets r
  clear_value r
  rfl

theorem Lane.sampleView_shapeReload : l.shapeReload.sampleView = l.sampleView := by
  unfold Lane.shapeReload
  extract_lets s a b d
  have hb : b.sampleView = l.sampleView := by
    unfold b
    split
    next => exact Lane.sampleView_ite (a.sampleView_loadSeed _) rfl
    next => rfl
  have hd : d.sampleView = b.sampleView := Lane.sampleView_ite b.sampleView_beginStop rfl
  exact d.sampleView_prepareStep.trans (hd.trans hb)

theorem Lane.sampleView_bermReload : l.bermReload.sampleView = l.sampleView := by
  unfold Lane.bermReload
  extract_lets v h a b sh c d coll e
  have hd : d.sampleView = l.sampleView := (Lane.sampleView_incIf _ _ _).trans (Lane.sampleView_incIf _ _ _)
  have he : e.sampleView = d.sampleView := Lane.sampleView_ite rfl rfl
  exact (Lane.sampleView_setObj _ _ _).trans ((Lane.sampleView_setObj _ _ _).trans (he.trans hd))

/-! Commits (R43 to R56). -/

theorem Lane.sampleView_sendCommit (p : Peer) (f : CommitFrame) : (l.sendCommit p f).sampleView = l.sampleView :=
  l.sampleView_takeLink p _

theorem Lane.sampleView_setInProp (p : Peer) (x : Option PeerProp) : (l.setInProp p x).sampleView = l.sampleView := rfl

theorem Lane.sampleView_abortOwn (me : LaneId) : (l.abortOwn me).sampleView = l.sampleView := by
  unfold Lane.abortOwn
  split
  next => rfl
  next =>
    extract_lets f a
    have ha : a.sampleView = l.sampleView := Lane.sampleView_foldl (fun m q => m.sampleView_sendCommit q f) bothPeers l
    clear_value a
    exact ha

theorem Lane.sampleView_retryOwn (me : LaneId) (winner : Nat) : (l.retryOwn me winner).sampleView = l.sampleView := by
  unfold Lane.retryOwn
  split
  next => rfl
  next => exact l.sampleView_abortOwn me

theorem Lane.sampleView_judgeOne (me : LaneId) (pl : Peer → Lane) (ended : Nat) (p : Peer) :
    (Lane.judgeOne me pl ended l p).sampleView = l.sampleView := by
  unfold Lane.judgeOne
  split
  next => rfl
  next q _ =>
    refine Lane.sampleView_ite rfl ?_
    extract_lets a refuse stays b c com d
    have ha : a.sampleView = l.sampleView := l.sampleView_setInProp p none
    have hrefuse : ∀ (m : Lane) (res s : Nat), (refuse m res s).sampleView = m.sampleView := fun m _ _ => m.sampleView_sendCommit p _
    clear_value stays
    split
    next => exact (hrefuse a _ _).trans ha
    next =>
      split
      next => exact (hrefuse a _ _).trans ha
      next =>
        have hb : b.sampleView = l.sampleView := (a.sampleView_retryOwn me q.apply).trans ha
        exact Lane.sampleView_ite ((hrefuse b _ _).trans hb) ((d.sampleView_sendCommit p _).trans hb)

theorem Lane.sampleView_judgeProps (me : LaneId) (pl : Peer → Lane) (ended : Nat) : (l.judgeProps me pl ended).sampleView = l.sampleView :=
  Lane.sampleView_foldl (fun m p => m.sampleView_judgeOne me pl ended p) bothPeers l

theorem Lane.sampleView_sendPart (me : LaneId) (p : Proposal) (k : Nat) : (l.sendPart me p k).sampleView = l.sampleView :=
  Lane.sampleView_foldl (fun m q => m.sampleView_sendCommit q _) bothPeers l

theorem Lane.sampleView_startSync (me : LaneId) (p : Peer) : (l.startSync me p).sampleView = l.sampleView := by
  unfold Lane.startSync
  extract_lets a b c d
  have ha : a.sampleView = l.sampleView :=
    Lane.sampleView_ite ((Lane.sampleView_openBrakes _).trans ((Lane.sampleView_ceaseSteer _).trans l.sampleView_dropClaim)) rfl
  exact (d.sampleView_sendCommit p _).trans ha

theorem Lane.sampleView_lostApply (me : LaneId) (h : HeldProp) : (l.lostApply me h).sampleView = l.sampleView := by
  unfold Lane.lostApply
  extract_lets c a other count
  refine Lane.sampleView_ite (a.sampleView_startSync me _) ?_
  split
  next p _ => exact a.sampleView_startSync me p
  next => rfl

theorem Lane.sampleView_judgeDigest (me : LaneId) : (l.judgeDigest me).sampleView = l.sampleView := by
  refine Lane.sampleView_ite rfl ?_
  extract_lets com a com' b
  split
  next => rfl
  next p _ =>
    exact Lane.sampleView_ite (b.sampleView_startSync me p) rfl

theorem Lane.sampleView_localInstall (me : LaneId) : (l.localInstall me).sampleView = l.sampleView := by
  unfold Lane.localInstall
  split
  next => exact Lane.sampleView_ite rfl rfl
  next => rfl

theorem Lane.sampleView_startProposal (me : LaneId) : (l.startProposal me).sampleView = l.sampleView := by
  unfold Lane.startProposal
  extract_lets a free
  have ha : a.sampleView = l.sampleView := l.sampleView_localInstall me
  clear_value free a
  refine Eq.trans ?_ ha
  split
  next => rfl
  next =>
    refine Lane.sampleView_ite rfl ?_
    extract_lets ps late last p c
    exact Lane.sampleView_ite (c.sampleView_sendPart me p 0) rfl

theorem Lane.sampleView_commitReload (me : LaneId) (pl : Peer → Lane) (ended : Nat) :
    (l.commitReload me pl ended).sampleView = l.sampleView := by
  unfold Lane.commitReload
  extract_lets a b d
  have ha : a.sampleView = l.sampleView := l.sampleView_judgeProps me pl ended
  have hb : b.sampleView = a.sampleView := by
    clear_value a
    unfold b
    split
    next h _ => exact Lane.sampleView_ite (a.sampleView_lostApply me h) rfl
    next => rfl
  have hd : d.sampleView = b.sampleView := by
    clear_value b
    unfold d
    split
    next => rfl
    next p _ =>
      extract_lets e f to_ g
      have he : e.sampleView = b.sampleView := by
        unfold e
        split
        next k _ => exact b.sampleView_sendPart me p k
        next => rfl
      have hg : g.sampleView = e.sampleView := Lane.sampleView_foldl (fun m q => m.sampleView_sendCommit q f) to_ e
      exact Lane.sampleView_ite (hg.trans he) he
  exact (Lane.sampleView_startProposal _ me).trans ((d.sampleView_judgeDigest me).trans (hd.trans (hb.trans ha)))

/-! The power state and the beginning of a claim (R181, R268, R415 to R430). -/

theorem Lane.sampleView_setCtState (v : Nat) : (l.setCtState v).sampleView = l.sampleView := rfl

theorem Lane.sampleView_drv (d : CtDrive) (on : Bool) : (l.drv d on).sampleView = l.sampleView := by
  have h : ∀ x : CtSt, (l.setCt d x).sampleView = l.sampleView := fun x => by cases d <;> rfl
  exact Lane.sampleView_ite (c := (l.ct d).on = on) rfl (h _)

theorem Lane.sampleView_openContactors : l.openContactors.sampleView = l.sampleView := by
  refine Lane.sampleView_ite rfl ?_
  extract_lets a b c
  have ha : a.sampleView = l.sampleView := ((l.drv .kp false).sampleView_drv .pre false).trans (l.sampleView_drv .kp false)
  exact (Lane.sampleView_setCtState _ 5).trans ha

theorem Lane.sampleView_takeLower : l.takeLower.sampleView = l.sampleView := by
  unfold Lane.takeLower
  split
  next x p _ _ =>
    refine Lane.sampleView_ite rfl ?_
    extract_lets pwr b
    exact Lane.sampleView_ite (b.withdraw.sampleView_openContactors) rfl
  next => rfl

theorem Lane.sampleView_powerReload : l.powerReload.sampleView = l.sampleView := by
  unfold Lane.powerReload
  split
  next => rfl
  next x _ =>
    refine Lane.sampleView_ite rfl ?_
    extract_lets a
    have ha : a.sampleView = l.sampleView := l.sampleView_ceaseSteer
    refine (Lane.sampleView_takeLower _).trans (Eq.trans ?_ ha)
    exact Lane.sampleView_ite a.sampleView_openContactors rfl

theorem Lane.sampleView_refSlots : l.refSlots.sampleView = l.sampleView := by
  unfold Lane.refSlots
  extract_lets s p v a b
  have hb : b.sampleView = l.sampleView := l.sampleView_setSlots 40 _
  exact (Lane.sampleView_setObj _ _ _).trans ((Lane.sampleView_setObj _ _ _).trans ((Lane.sampleView_setObj _ _ _).trans
    ((Lane.sampleView_setObj _ _ _).trans hb)))

theorem Lane.sampleView_prepareRef : l.prepareRef.sampleView = l.sampleView :=
  (Lane.sampleView_refSlots _).trans l.sampleView_prepareStep

theorem Lane.sampleView_seedAtRest : l.seedAtRest.sampleView = l.sampleView := rfl

theorem Lane.sampleView_claimEnds : l.claimEnds.sampleView = l.sampleView := by
  unfold Lane.claimEnds
  extract_lets pwr a b upd c upd' d pwr' e
  have ha : a.sampleView = l.sampleView := Lane.sampleView_ite rfl rfl
  have hb : b.sampleView = a.sampleView := (Lane.sampleView_setObj _ _ _).trans (a.sampleView_setStep 0)
  have hc : c.sampleView = b.sampleView := by
    unfold c
    split
    next => exact Lane.sampleView_setObj _ _ _
    next => rfl
  have hd : d.sampleView = c.sampleView := Lane.sampleView_ite (Lane.sampleView_setObj _ _ _) rfl
  have he : e.sampleView = d.sampleView := Lane.sampleView_ite rfl rfl
  refine Eq.trans ?_ (he.trans (hd.trans (hc.trans (hb.trans ha))))
  clear_value e
  split
  next => rfl
  next => rfl

theorem Lane.sampleView_beginClaim : l.beginClaim.sampleView = l.sampleView := by
  unfold Lane.beginClaim
  extract_lets a b c d
  have ha : a.sampleView = l.sampleView :=
    Lane.sampleView_ite ((Lane.sampleView_prepareRef _).trans l.sampleView_seedAtRest) rfl
  exact d.sampleView_claimEnds.trans ha

end

end Sys2Proof.Machine
end

section
/-!
SUPPORT. A lane that sends its frame of the sample (R28, R31, R39), a received frame (R41), the end of listening (R42, R443) and a type that
no frame has (R36).
-/
namespace Sys2Proof.Machine

/-- A steering set's availability reads no count of late posts (R95). -/
theorem Lane.capSteer_inc_postLate (x : Lane) : (x.inc O.postLate).capSteer = x.capSteer := by
  have h : ∀ {p : O.Obj}, p.key ≠ O.postLate.key → (x.inc O.postLate).obj p = x.obj p := x.obj_inc_of_ne
  have hmotor : (x.inc O.postLate).motorOk = x.motorOk := by
    unfold Lane.motorOk
    rw [h (p := O.steerPolePairs) (by decide), h (p := O.steerPsiM) (by decide), h (p := O.steerLd) (by decide),
      h (p := O.steerLq) (by decide), h (p := O.steerRs) (by decide)]
  have hnib : (x.inc O.postLate).sentNibbles 4 = x.sentNibbles 4 := by
    change (if (x.inc O.postLate).obj O.angSentField = 1 then 4 else 3) = if x.obj O.angSentField = 1 then 4 else 3
    rw [h (by decide)]
  unfold Lane.capSteer Lane.steerFit
  rw [hmotor, hnib, h (p := O.angPRes) (by decide), h (p := O.angMode) (by decide), h (p := O.steerFeMax) (by decide),
    h (p := O.supChAngle) (by decide), h (p := O.steerPolePairs) (by decide)]
  rfl

theorem Lane.capSteer_incIf_postLate (x : Lane) (b : Bool) : (x.incIf O.postLate b).capSteer = x.capSteer := by
  cases b
  · rfl
  · exact x.capSteer_inc_postLate

theorem Lane.incIf_objs_only (x : Lane) (o : O.Obj) (b : Bool) : x.incIf o b = { x with objs := (x.incIf o b).objs } := by
  cases b <;> rfl

theorem Lane.ceaseUnfit_reach (x : Lane) : ∃ rs a, x.ceaseUnfit = { x with regs := rs, steer := a } := by
  unfold Lane.ceaseUnfit
  split
  next =>
    obtain ⟨rs, a, bs, h⟩ := x.ceaseStage_reach .steer
    have hb : bs = x.brakes := (congrArg Lane.brakes h).symm.trans x.ceaseSteer_brakes
    exact ⟨rs, a, hb ▸ h⟩
  next => exact ⟨_, _, rfl⟩

theorem Lane.ceaseUnfit_regsKept (x : Lane) : RegsKept [Rg.gdStat.addr] x x.ceaseUnfit := by
  unfold Lane.ceaseUnfit
  split
  next => exact x.ceaseStage_regsKept .steer
  next => exact RegsKept.refl _ x

/-- A lane that need not cease is left as it is. -/
theorem Lane.ceaseUnfit_of_fit {x : Lane} (h : x.steer.driving = false ∨ (x.claim.claiming = true ∧ x.capSteer = true)) :
    x.ceaseUnfit = x := by
  rcases h with h | ⟨hclaim, hcap⟩
  · simp [Lane.ceaseUnfit, h]
  · simp [Lane.ceaseUnfit, hclaim, hcap]

/-- What drives after it is fit, and was left as it is. -/
theorem Lane.fit_of_ceaseUnfit_driving {x : Lane} (h : x.ceaseUnfit.steer.driving = true) :
    x.ceaseUnfit = x ∧ x.claim.claiming = true ∧ x.capSteer = true := by
  by_cases unfit : (x.steer.driving && !(x.claim.claiming && x.capSteer)) = true
  · rw [Lane.ceaseUnfit, if_pos unfit, Lane.ceaseSteer_steer] at h
    simp at h
  · have hx : x.ceaseUnfit = x := if_neg unfit
    rw [hx] at h
    simpa [h, hx] using unfit

/-- The lane that has sent its frame of the sample (R28, R31, R39). -/
def Lane.exchanged (x : Lane) (me : LaneId) : Lane :=
  let z := x.ceaseUnfit.placeDemand.incIf O.postLate (x.e1Due && !(x.loop 0).postsIn 11)
  let f := z.exchFrame me
  { z with smp := { z.smp with own := some f, sent := true, lastSend := z.now },
           drive := { z.drive with angleSent := f.angleStatus.toNat } }

section
variable {s : State} {l : LaneId} {t : Nat} {x : Lane}

theorem exec_exchangeSend_eq_exchanged (h : FindsE1 s l t x) (up : x.up = true) (hears : x.smp.listening = false)
    (unsent : x.smp.sent = false) : exec (.exchangeSend l t) s = .next (s.setLane l (x.exchanged l)) := by
  change execExchangeSend l t s = _
  rw [execExchangeSend, onE1_of_findsE1 h]
  simp [up, hears, unsent, Lane.exchanged]

theorem exec_exchangeSend_of_none (h : FindsE1 s l t x) (idle : x.up = false ∨ x.smp.listening = true ∨ x.smp.sent = true) :
    exec (.exchangeSend l t) s = .next (s.setLane l x) := by
  change execExchangeSend l t s = _
  rw [execExchangeSend, onE1_of_findsE1 h]
  rcases idle with h | h | h <;> simp [h]

end

section
variable (x : Lane) (me : LaneId)

/-- The only parts that the exchange changes: its frame, the Demand of the sample, the count of late posts, and a set that ceases. -/
theorem Lane.exchanged_reach : ∃ f : ExchFrame,
    (x.exchanged me).smp = { x.smp with own := some f, sent := true, lastSend := x.now } ∧
    f.source = BitVec.ofNat 8 (4 + laneNo me) ∧ f.sampleNo = BitVec.ofNat 32 x.smp.no ∧
    f.reloadTime = BitVec.ofNat 64 x.smp.reloadAt ∧ f.firstCause = BitVec.ofNat 32 x.coll.firstCause ∧
    f.verdictLo = BitVec.ofNat 8 x.peerLo.verdict ∧ f.verdictHi = BitVec.ofNat 8 x.peerHi.verdict ∧
    f.evictOut = BitVec.ofNat 8 x.linesOut ∧ f.claim = BitVec.ofNat 16 x.claimField ∧
    x.exchanged me = { x with
      smp := (x.exchanged me).smp, dem := x.placeDemand.dem, objs := (x.exchanged me).objs
      steer := (x.exchanged me).steer, regs := (x.exchanged me).regs
      drive := { x.drive with angleSent := f.angleStatus.toNat } } := by
  obtain ⟨rs, a, hc⟩ := x.ceaseUnfit_reach
  unfold Lane.exchanged
  rw [hc, Lane.incIf_objs_only]
  exact ⟨_, rfl, rfl, rfl, rfl, rfl, rfl, rfl, rfl, rfl, rfl⟩

theorem Lane.exchanged_objsKept : ObjsKept [O.postLate.key] x (x.exchanged me) := by
  obtain ⟨rs, a, hc⟩ := x.ceaseUnfit_reach
  have h := objsKept_incIf (List.mem_singleton_self O.postLate.key) x.ceaseUnfit.placeDemand (x.e1Due && !(x.loop 0).postsIn 11)
  intro o ho
  refine (h o ho).trans ?_
  rw [hc]
  rfl

theorem Lane.exchanged_countedBy : CountedBy O.postLate (if x.e1Due = true ∧ (x.loop 0).postsIn 11 = false then 1 else 0) x
    (x.exchanged me) := by
  obtain ⟨rs, a, hc⟩ := x.ceaseUnfit_reach
  have hx : x.ceaseUnfit.placeDemand.obj O.postLate = x.obj O.postLate := by
    rw [hc]
    rfl
  by_cases late : x.e1Due = true ∧ (x.loop 0).postsIn 11 = false
  · have hy : (x.exchanged me).obj O.postLate = (x.ceaseUnfit.placeDemand.inc O.postLate).obj O.postLate := by
      simp only [Lane.exchanged, late.1, late.2]
      rfl
    rw [if_pos late]
    exact (countedBy_inc x.ceaseUnfit.placeDemand O.postLate).of_obj_eq hx.symm hy
  · have hy : (x.exchanged me).obj O.postLate = x.ceaseUnfit.placeDemand.obj O.postLate := by
      have : (x.e1Due && !(x.loop 0).postsIn 11) = false := by simpa using late
      simp only [Lane.exchanged, this]
      rfl
    rw [if_neg late]
    exact fun _ => hy.trans hx

theorem Lane.exchanged_regs : (x.exchanged me).regs = x.ceaseUnfit.regs := by
  unfold Lane.exchanged
  rw [Lane.incIf_objs_only]
  rfl

theorem Lane.exchanged_regsKept : RegsKept [Rg.gdStat.addr] x (x.exchanged me) := fun r hr => by
  rw [← x.ceaseUnfit_regsKept r hr, Lane.reg, Lane.exchanged_regs, Lane.reg]

theorem Lane.exchanged_steer : (x.exchanged me).steer = x.ceaseUnfit.steer := by
  unfold Lane.exchanged
  rw [Lane.incIf_objs_only]
  rfl

theorem Lane.exchanged_driving (h : (x.exchanged me).steer.driving = true) :
    (x.exchanged me).claim.claiming = true ∧ (x.exchanged me).capSteer = true := by
  rw [Lane.exchanged_steer] at h
  obtain ⟨hx, claims, cap⟩ := Lane.fit_of_ceaseUnfit_driving h
  have hcap := (x.placeDemand.capSteer_incIf_postLate (x.e1Due && !(x.loop 0).postsIn 11)).trans cap
  unfold Lane.exchanged
  rw [hx]
  refine ⟨?_, hcap⟩
  rw [Lane.incIf_objs_only]
  exact claims

end


/-! A received frame (R41, R42). -/

/-- A peer after a frame of its: what EXCHANGE_FRAME keeps of it. -/
def PeerSt.takeFrame (q : PeerSt) (reload : Nat) (rx : BirixRx) (f : ExchFrame) : PeerSt :=
  { q with
    got := if q.got.isNone = true ∧ reload ≤ rx.start ∧ rx.start < reload + 8000 then some (f, rx) else q.got
    crcLast := if rx.crc = crc32 (exchBytes f) then some (f.sampleNo.toNat, bitOf f.status.toNat 0) else q.crcLast }

/-- An update of a peer depends on what it makes of that peer alone. -/
theorem Lane.updPeer_congr {x : Lane} {p : Peer} {f g : PeerSt → PeerSt} (h : f (x.peer p) = g (x.peer p)) :
    x.updPeer p f = x.updPeer p g := by
  rw [Lane.updPeer, h, Lane.updPeer]

section
variable {s : State} {l : LaneId} {t : Nat} {x : Lane}

theorem exec_exchangeFrame_eq_takeFrame {rx : BirixRx} {f : ExchFrame} (h : Sees s l (rx.fin.getD rx.start) x) :
    exec (.exchangeFrame l rx f) s = .next (s.setLane l (x.updPeer rx.peer fun q => q.takeFrame x.smp.reloadAt rx f)) := by
  change execExchangeFrame l rx f s = _
  rw [execExchangeFrame, onLaneAt_of_sees h]
  refine congrArg (fun y => Host.Outcome.next (s.setLane l y)) (Lane.updPeer_congr ?_)
  generalize x.peer rx.peer = q
  by_cases here : q.got.isNone = true ∧ x.smp.reloadAt ≤ rx.start ∧ rx.start < x.smp.reloadAt + 8000
  · by_cases good : rx.crc = crc32 (exchBytes f) <;> simp [PeerSt.takeFrame, here, good]
  · have : (q.got.isNone && (decide (x.smp.reloadAt ≤ rx.start) && decide (rx.start < x.smp.reloadAt + 8000))) = false := by
      simpa using here
    by_cases good : rx.crc = crc32 (exchBytes f) <;> simp only [PeerSt.takeFrame, this, if_neg here, good] <;> rfl

/-! The end of listening (R42, R443). -/

theorem NetSt.shifted_zero (n : NetSt) : n.shifted 0 = n := by
  simp [NetSt.shifted]

theorem Lane.shiftTime_zero (x : Lane) : x.shiftTime 0 = x := by
  have h : x.shiftTime 0 = { x with
      smp := { x.smp with slew := x.smp.slew + 0 }, net := x.net.shifted 0
      peerLo := { x.peerLo with offset := x.peerLo.offset - 0 }, peerHi := { x.peerHi with offset := x.peerHi.offset - 0 } } := rfl
  rw [h, NetSt.shifted_zero, Int.add_zero, Int.sub_zero, Int.sub_zero]

theorem Lane.startTime_of_kept (h : x.smp.timeSet = true ∨ ∃ p, (x.peer p).claims = true) : x.startTime = x := by
  refine if_pos ?_
  rcases h with h | ⟨p, h⟩
  · simp [h]
  · cases p <;> simp [bothPeers, h]

theorem Lane.startTime_of_set {d : Int} (unset : x.smp.timeSet = false) (claims : ∀ p, (x.peer p).claims = false)
    (hd : d = if x.obj O.netTimeSource ≠ 0 then -x.net.offsetAt x.now else 0) :
    x.startTime = { x.shiftTime d with smp := { (x.shiftTime d).smp with timeSet := true } } := by
  unfold Lane.startTime
  rw [if_neg (by simp [unset, claims])]
  by_cases source : x.obj O.netTimeSource ≠ 0
  · rw [if_pos source] at hd ⊢
    rw [hd]
  · rw [if_neg source] at hd ⊢
    rw [hd, Lane.shiftTime_zero]

theorem exec_listenEnd_eq (h : Sees s l t x) (listens : x.smp.listening = true) (due : x.smp.listenUntil ≤ x.now) :
    exec (.listenEnd l t) s
      = .next (s.setLane l { x.startTime with smp := { x.startTime.smp with listening := false, takeNo := true } }) := by
  change execListenEnd l t s = _
  rw [execListenEnd, onLaneAt_of_sees h]
  simp [listens, due]

theorem exec_listenEnd_of_none (h : Sees s l t x) (idle : x.smp.listening = false ∨ x.now < x.smp.listenUntil) :
    exec (.listenEnd l t) s = .next (s.setLane l x) := by
  change execListenEnd l t s = _
  rw [execListenEnd, onLaneAt_of_sees h]
  rcases idle with h | h
  · simp [h]
  · simp [Nat.not_le.mpr h]

theorem exec_birixTypeUnknown_counts {p : Peer} {ty : BitVec 8} (h : Has s l x) (unknown : ty.toNat = 0 ∨ 5 < ty.toNat)
    (below : (x.peer p).unknownTypes + 1 < 2 ^ 32) :
    exec (.birixTypeUnknown l p ty) s
      = .next (s.setLane l (x.updPeer p fun q => { q with unknownTypes := q.unknownTypes + 1 })) := by
  change execBirixTypeUnknown l p ty s = _
  rw [execBirixTypeUnknown, onLane_of_has h, if_neg (by omega)]
  refine congrArg (fun y => Host.Outcome.next (s.setLane l y)) (Lane.updPeer_congr ?_)
  rw [countUp_of_lt below]

end

end Sys2Proof.Machine
end

section
/-!
O16. A sample starts at its reload and exchanges one frame with each peer.
-/
namespace Sys2Proof.Machine

theorem exec_steeringReload_sampleView {s : State} {l : LaneId} {t : Nat} {x : Lane} (h : Sees s l t x) (c : Captures) (up : x.up = true) :
    ∃ y, exec (.steeringReload l t c) s = .next (s.setLane l y) ∧
      y.sampleView = (x.sampleView.begun (x.nextSampleNo l)).captured c := by
  change ∃ y, execSteeringReload l t c s = _ ∧ _
  unfold execSteeringReload onLanePeers
  rw [onLaneAt_of_sees h]
  refine ⟨_, rfl, ?_⟩
  beta_reduce
  rw [up, if_neg (by decide)]
  extract_lets ended r a may b d e f drives fits g seeded k m
  have ha : a.sampleView = x.sampleView := (Lane.sampleView_countTrim _).trans ((Lane.sampleView_captureRecord _ l).trans
    ((Lane.sampleView_watchTerminals _ _).trans (x.sampleView_e1Until x.now)))
  have hb : b.sampleView = x.sampleView := (Lane.sampleView_ite a.sampleView_ceaseSteer rfl).trans ha
  have hd : d.sampleView = x.sampleView := (b.sampleView_boundary .steer may).trans hb
  have he : e.sampleView = x.sampleView.begun (x.nextSampleNo l) := by
    rw [← x.nextSampleNo_of_sampleView hd l, ← hd]
    exact (Lane.sampleView_latchEdges _).trans (d.sampleView_newSample l)
  have hf : f.sampleView = (x.sampleView.begun (x.nextSampleNo l)).captured c := by
    rw [← he]
    exact e.sampleView_takeCaptures l c
  have hg : g.sampleView = f.sampleView := (Lane.sampleView_setProbes _).trans ((Lane.sampleView_steeringRun _).trans
    ((Lane.sampleView_newPosts _).trans ((Lane.sampleView_selectBenches _).trans (f.sampleView_swapStep fits drives))))
  have hk : k.sampleView = g.sampleView := (Lane.sampleView_bermReload _).trans g.sampleView_shapeReload
  have hm : m.sampleView = k.sampleView := (Lane.sampleView_powerReload _).trans (k.sampleView_commitReload l _ ended)
  have hn := Lane.sampleView_ite (c := m.claimsNow seeded = true) m.sampleView_beginClaim rfl
  exact hn.trans (hm.trans (hk.trans (hg.trans hf)))

theorem exec_steeringReload_of_down {s : State} {l : LaneId} {t : Nat} {x : Lane} (h : Sees s l t x) (c : Captures)
    (down : x.up = false) : exec (.steeringReload l t c) s = .next (s.setLane l x) := by
  change execSteeringReload l t c s = _
  unfold execSteeringReload onLanePeers
  rw [onLaneAt_of_sees h]
  beta_reduce
  rw [down, if_pos (by decide)]

/-- Settles O16: the start of a sample by the view of it that the steps of a reload keep, and each exchange by what it does to the lane. -/
theorem samplesStartAndExchangeTheirFrames : Obligations.SamplesStartAndExchangeTheirFrames := by
  refine ⟨fun s l t x c h => ⟨exec_steeringReload_of_down h c, fun up => ?_⟩, ?_, fun s l t x => exec_exchangeSend_of_none, ?_, ?_,
    fun s l t x => exec_listenEnd_of_none, fun s l p ty x => exec_birixTypeUnknown_counts⟩
  case refine_1 =>
    obtain ⟨y, hexec, hview⟩ := exec_steeringReload_sampleView h c up
    have powered : x.powered = true := (Bool.and_eq_true _ _ ▸ up : x.powered = true ∧ x.netUp = true).1
    have read : ∀ {α : Type} (r : SampleView → α), r y.sampleView = r ((x.sampleView.begun (x.nextSampleNo l)).captured c) :=
      fun r => congrArg r hview
    exact ⟨y, hexec, read (·.no), read (·.reloadAt), read (·.prevReload), read (·.prevOwn), read (·.own), read (·.sent),
      read (·.tWind), read (·.fb), read (·.vBrake), (read (·.powered)).trans powered, read (·.now)⟩
  case refine_2 =>
    intro s l t x h up hears unsent
    obtain ⟨f, smp, source, no, reload, cause, lo, hi, evict, claim, only⟩ := x.exchanged_reach l
    refine ⟨x.exchanged l, f, exec_exchangeSend_eq_exchanged h up hears unsent, smp, source, no, reload, cause, lo, hi, evict, claim,
      x.exchanged_countedBy l, x.exchanged_objsKept l, x.exchanged_driving l, fun fit => ?_, x.exchanged_regsKept l, only⟩
    rw [x.exchanged_steer l, x.exchanged_regs l, Lane.ceaseUnfit_of_fit fit]
    exact ⟨rfl, rfl⟩
  case refine_3 =>
    intro s l rx f x h
    refine ⟨_, exec_exchangeFrame_eq_takeFrame h, ?_, ?_, Lane.updPeer_congr ?_⟩ <;> rw [Lane.peer_updPeer]
    · rfl
    · rfl
    · rfl
  case refine_4 =>
    intro s l t x h listens due
    refine ⟨fun kept => ?_, fun d unset claims hd => ⟨_, exec_listenEnd_eq h listens due, ?_⟩⟩
    · rw [exec_listenEnd_eq h listens due, Lane.startTime_of_kept kept]
    · rw [Lane.startTime_of_set unset claims hd]
      exact ⟨rfl, rfl, rfl, rfl, rfl⟩

end Sys2Proof.Machine
end

section
/-!
SUPPORT. Edge records (R97 to R99, R107) and reserves that are spent (R61, R114, R219).
-/
namespace Sys2Proof.Machine

@[simp] theorem Lane.stg_setStg (x : Lane) (st : Stage) (g : StageSt) : (x.setStg st g).stg st = g := by
  cases st <;> simp [Lane.setStg, Lane.stg]

@[simp] theorem Lane.setStg_setStg (x : Lane) (st : Stage) (g h : StageSt) : (x.setStg st g).setStg st h = x.setStg st h := by
  cases st <;> simp [Lane.setStg]

theorem Lane.pushRec_of_room {x : Lane} {st : Stage} (room : (x.stg st).openRecs.length < bufferSize st) (r : EdgeRec) :
    x.pushRec st r = x.setStg st { x.stg st with perRecs := (x.stg st).perRecs ++ [r], openRecs := (x.stg st).openRecs ++ [r] } := by
  simp [Lane.pushRec, room, Lane.updStg]

theorem Lane.pushRec_of_full {x : Lane} {st : Stage} (full : bufferSize st ≤ (x.stg st).openRecs.length) (r : EdgeRec) :
    x.pushRec st r
      = ((x.setStg st { x.stg st with perRecs := (x.stg st).perRecs ++ [r] }).setRbit Rg.etStat (stageIx st) true).inc O.etOverflows := by
  simp [Lane.pushRec, Nat.not_lt.mpr full, Lane.updStg]

/-- A crossing touches the records in whose capture window it falls, as one condition on each record. -/
theorem EdgeRec.meet_eq (w leg b : Nat) (q : EdgeRec) : q.meet w leg b =
    if q.probe = true ∨ b < q.tCross ∨ q.tCross + w ≤ b then q
    else if q.leg = leg then { q with valid := false } else { q with ovlp := true } := by
  unfold EdgeRec.meet
  congr 1
  simp [EdgeRec.covers]
  tauto

theorem Lane.stg_incIf (x : Lane) (o : O.Obj) (b : Bool) (st : Stage) : (x.incIf o b).stg st = x.stg st := by
  cases st <;> simp [Lane.stg]

section
variable {s : State} {l : LaneId} {x z : Lane} {st : Stage} {e : EdgeIn}

theorem exec_edgeCrossing_of_off (h : Has s l x) (off : x.rbit Rg.etCtl 0 = false) : exec (.edgeCrossing l st e) s
    = .next (s.setLane l (x.incIf O.steerGateWaits (decide (st = .steer) && decide (1 < e.gateHold)))) := by
  change execEdgeCrossing l st e s = _
  unfold execEdgeCrossing
  rw [onLane_of_has h]
  exact congrArg (fun y => Host.Outcome.next (s.setLane l y)) (if_neg (by simpa [Lane.rbit, Lane.reg] using off))

theorem exec_edgeCrossing_of_on (h : Has s l x) (on : x.rbit Rg.etCtl 0 = true)
    (hz : z = x.incIf O.steerGateWaits (decide (st = .steer) && decide (1 < e.gateHold))) {len : Nat} {r : EdgeRec}
    (hlen : len = 2 * (x.smp.reloadAt - x.smp.prevReload))
    (hr : r = edgeRecord e ((x.stg st).overlaps (windowH st) (legIx e.leg) (e.cross % 2 ^ 19) len) (nthB (x.stg st).plim (legIx e.leg))
      (x.fld (Rg.pwmCnt st) 16 4)) :
    exec (.edgeCrossing l st e) s = .next (s.setLane l ((z.setStg st
      { (x.stg st).meetAll (windowH st) (legIx e.leg) (e.cross % 2 ^ 19) len with
        plim := (x.stg st).plim.set (legIx e.leg) false }).pushRec st r)) := by
  have hstg : z.stg st = x.stg st := hz ▸ x.stg_incIf _ _ st
  have hregs : z.regs = x.regs := by rw [hz, Lane.incIf_regs]
  have hsmp : z.smp = x.smp := by rw [hz, Lane.incIf_smp]
  change execEdgeCrossing l st e s = _
  unfold execEdgeCrossing
  rw [onLane_of_has h, ← hz]
  dsimp only
  rw [if_pos (by simpa [Lane.rbit, Lane.reg, hregs] using on), Lane.updStg, hstg, hsmp, ← hlen,
    show z.fld (Rg.pwmCnt st) 16 4 = x.fld (Rg.pwmCnt st) 16 4 by simp [Lane.fld, Lane.reg, hregs], ← hr]

theorem exec_probeTrip_of_off (h : Has s l x) {sw : Switch} {c k : Nat}
    (off : x.rbit Rg.etCtl 0 = false ∨ x.rbit Rg.etCtl 2 = false ∨ x.probeRef (switchIx sw) = 0) :
    exec (.probeTrip l sw c k) s = .next (s.setLane l x) := by
  change execProbeTrip l sw c k s = _
  unfold execProbeTrip
  rw [onLane_of_has h]
  exact congrArg (fun y => Host.Outcome.next (s.setLane l y)) (if_neg (by
    rcases off with a | a | a <;> simp [a]))

/-- The record of a probe (R98, R107). -/
def Lane.probeRecord (x : Lane) (sw : Switch) (c k : Nat) : EdgeRec where
  tCross := c % 2 ^ 19
  leg := legIx sw.leg
  rise := sw.high
  soft := false
  hard := false
  valid := false
  ovlp := false
  plim := false
  probe := true
  scree := x.fld (Rg.pwmCnt .steer) 16 4
  tSlew := 0
  tCmd := k % 65536

/-- A probe shows in the limit flags of its switch. -/
def Lane.probeSeen (x : Lane) (sw : Switch) : Lane :=
  { x with drive := { x.drive with limFlags := x.drive.limFlags ||| 64 * 2 ^ switchIx sw } }

theorem exec_probeTrip_of_on (h : Has s l x) {sw : Switch} {c k : Nat} (on : x.rbit Rg.etCtl 0 = true) (en : x.rbit Rg.etCtl 2 = true)
    (ref : x.probeRef (switchIx sw) ≠ 0) :
    exec (.probeTrip l sw c k) s = .next (s.setLane l ((x.probeSeen sw).pushRec .steer (x.probeRecord sw c k))) := by
  change execProbeTrip l sw c k s = _
  unfold execProbeTrip
  rw [onLane_of_has h]
  exact congrArg (fun y => Host.Outcome.next (s.setLane l y)) (if_pos (by simp [on, en, ref]))

end

/-- Settles O40: a crossing and a probe by what the push of a record does to a buffer with room and to a full one, the reserves by one write
each. -/
theorem edgesAreRecordedAndReservesSpent : Obligations.EdgesAreRecordedAndReservesSpent := by
  refine ⟨fun s l st e x z h hz => ?_, fun s l sw c k x h => ?_, fun s l t x h => ?_⟩
  · replace hz : z = x.incIf O.steerGateWaits (decide (st = .steer) && decide (1 < e.gateHold)) := by
      simp [hz, Lane.incIf]
    refine ⟨fun off => hz ▸ exec_edgeCrossing_of_off h off, ?_⟩
    intro on r g w c len met hw hc hlen hmet hr hg
    subst hw hc
    have hmet : ∀ b rs, met b rs = rs.map (EdgeRec.meet (windowH st) (legIx e.leg) b) := fun b rs =>
      (hmet b rs).trans (List.map_congr_left fun q _ => (EdgeRec.meet_eq _ _ b q).symm)
    have hexec := exec_edgeCrossing_of_on (e := e) (r := r) h on hz hlen hr
    refine ⟨fun room => ?_, fun full => ?_⟩
    · rw [hexec, Lane.pushRec_of_room (by simpa [StageSt.meetAll] using room)]
      simp [hg, hmet, StageSt.meetAll]
    · rw [hexec, Lane.pushRec_of_full (by simpa [StageSt.meetAll] using full)]
      simp [hg, hmet, StageSt.meetAll]
  · refine ⟨exec_probeTrip_of_off h, fun on en ref room => ?_, fun on en ref full => ?_⟩
    · exact ⟨_, _, exec_probeTrip_of_on h on en ref, by
        rw [Lane.pushRec_of_room (x := x.probeSeen sw) (st := .steer) room]
        exact ⟨rfl, rfl, rfl, rfl, rfl, rfl, rfl, rfl, rfl⟩⟩
    · refine ⟨_, exec_probeTrip_of_on h on en ref, ?_⟩
      rw [Lane.pushRec_of_full (x := x.probeSeen sw) (st := .steer) full]
      refine ⟨rfl, ?_, countedBy_inc _ _, objsKept_inc (by simp) _, ?_, rfl, rfl⟩
      · exact Lane.rbit_setRbit _ Rg.etStat true (by decide)
      · exact regsKept_setRbit (r := Rg.etStat) (by simp) _ 0 true
  · refine ⟨⟨_, (onLaneAt_of_sees h _ : execOverdriveBudgetSpent l t s = _), ?_⟩, (onLaneAt_of_sees h _ : execPeakReserveSpent l t s = _),
      fun n none => ?_, fun n some => ?_⟩
    · exact ⟨Lane.obj_setObj _ _ _, rfl, rfl, objsKept_setObj (by simp) _ 0, rfl⟩
    · exact (onLaneAt_of_sees h _ : execBrakePeakReserveSpent l n t s = _).trans (by rw [if_pos none])
    · refine ⟨(x.updBd n fun d => { d with reserveNs := 0 }).setObj (O.bdPeakReserve n) 0,
        (onLaneAt_of_sees h _ : execBrakePeakReserveSpent l n t s = _).trans (by rw [if_neg (Nat.not_le.mpr some)]), Lane.obj_setObj _ _ _, ?_, ?_, rfl⟩
      · exact Vector.getElem_set_self _
      · exact objsKept_setObj (by simp) (x.updBd n _) 0

end Sys2Proof.Machine
end

section
/-!
SUPPORT. What an accepted clear leaves of the collector and of the objects (R311), and the rounding of a value between two whole numbers.
-/
namespace Sys2Proof.Machine

/-- From `x`, at most the registers and the stages change. -/
def StagesReach (x y : Lane) : Prop := ∃ rs a b, y = { x with regs := rs, steer := a, brakes := b }

theorem StagesReach.refl (x : Lane) : StagesReach x x := ⟨_, _, _, rfl⟩

theorem StagesReach.trans {x y z : Lane} : StagesReach x y → StagesReach y z → StagesReach x z := by
  rintro ⟨_, _, _, rfl⟩ ⟨rs, a, b, rfl⟩
  exact ⟨rs, a, b, rfl⟩

theorem StagesReach.foldl {α : Type} {f : Lane → α → Lane} (h : ∀ x a, StagesReach x (f x a)) (as : List α) (x : Lane) :
    StagesReach x (as.foldl f x) :=
  List.foldlRecOn as f (StagesReach.refl x) fun _ hy a _ => hy.trans (h _ a)

theorem StagesReach.coll {x y : Lane} : StagesReach x y → y.coll = x.coll := by
  rintro ⟨_, _, _, rfl⟩
  rfl

theorem StagesReach.objs {x y : Lane} : StagesReach x y → y.objs = x.objs := by
  rintro ⟨_, _, _, rfl⟩
  rfl

theorem stagesReach_updStg (x : Lane) (st : Stage) (f : StageSt → StageSt) : StagesReach x (x.updStg st f) := by
  cases st <;> exact ⟨_, _, _, rfl⟩

theorem stagesReach_setRbit (x : Lane) (r : Rg.Reg) (i : Nat) (b : Bool) : StagesReach x (x.setRbit r i b) := ⟨_, _, _, rfl⟩

theorem stagesReach_endExhausted (x : Lane) : StagesReach x x.endExhausted :=
  StagesReach.foldl (fun y st => by
    split
    · exact ((stagesReach_setRbit y _ 16 false).trans (stagesReach_setRbit _ _ _ false)).trans (stagesReach_updStg _ st _)
    · exact StagesReach.refl y) allStages x

theorem stagesReach_diagStep (x : Lane) (st : Stage) : StagesReach x (x.diagStep st) := by
  unfold Lane.diagStep
  split
  · exact stagesReach_updStg x st _
  split
  · exact stagesReach_updStg x st _
  · exact StagesReach.refl x

theorem stagesReach_diagDueAll (x : Lane) : StagesReach x x.diagDueAll :=
  ((StagesReach.foldl (fun y st => stagesReach_updStg y st _) allStages x).trans
    (StagesReach.foldl stagesReach_diagStep allStages _)).trans (stagesReach_setRbit _ Rg.gdStat 13 _)

@[simp] theorem Lane.endExhausted_coll (x : Lane) : x.endExhausted.coll = x.coll := (stagesReach_endExhausted x).coll
@[simp] theorem Lane.endExhausted_objs (x : Lane) : x.endExhausted.objs = x.objs := (stagesReach_endExhausted x).objs
@[simp] theorem Lane.diagDueAll_coll (x : Lane) : x.diagDueAll.coll = x.coll := (stagesReach_diagDueAll x).coll
@[simp] theorem Lane.diagDueAll_objs (x : Lane) : x.diagDueAll.objs = x.objs := (stagesReach_diagDueAll x).objs

@[simp] theorem Lane.endClass_coll (x : Lane) (cls : Nat) : (x.endClass cls).coll = x.coll := by
  unfold Lane.endClass
  split <;> rfl

@[simp] theorem Lane.endClass_objs (x : Lane) (cls : Nat) : (x.endClass cls).objs = x.objs := by
  unfold Lane.endClass
  split <;> rfl

@[simp] theorem Lane.drv_coll (x : Lane) (d : CtDrive) (on : Bool) : (x.drv d on).coll = x.coll := by
  unfold Lane.drv
  dsimp only
  split
  · rfl
  · cases d <;> rfl

@[simp] theorem Lane.drv_objs (x : Lane) (d : CtDrive) (on : Bool) : (x.drv d on).objs = x.objs := by
  unfold Lane.drv
  dsimp only
  split
  · rfl
  · cases d <;> rfl

@[simp] theorem Lane.testEnable_coll (x : Lane) : x.testEnable.coll = x.coll := by
  unfold Lane.testEnable
  split <;> rfl

@[simp] theorem Lane.testEnable_objs (x : Lane) : x.testEnable.objs = x.objs := by
  unfold Lane.testEnable
  split <;> rfl

@[simp] theorem Lane.closeContactors_coll (x : Lane) : x.closeContactors.coll = x.coll := by
  unfold Lane.closeContactors
  dsimp only
  split <;> simp [Lane.setCtState]

@[simp] theorem Lane.closeContactors_objs (x : Lane) : x.closeContactors.objs = x.objs := by
  unfold Lane.closeContactors
  dsimp only
  split <;> simp [Lane.setCtState]

/-- The collector of a clear that is accepted: no source latched, no error, the re-qualification begun (R311). -/
def Lane.clearedColl (x : Lane) : Coll :=
  { x.coll with
    undo := some x.clearUndo, recs := x.coll.recs.map fun r => { r with flags := putBits (putBits r.flags 0 1 0) 2 1 0 }, error := false,
    errorAt := 0, requal := true, requalSlice := false, firstSrc := 0, occ := 0, clears := (x.now :: x.coll.clears).take 3 }

theorem Lane.clearedColl_anyLatched (x : Lane) : x.clearedColl.anyLatched = false := by
  simp [Lane.clearedColl, Coll.anyLatched, bitOf, bits_putBits_below, bits_putBits]

/-- An accepted clear leaves no error, and of the objects counts the clear alone. -/
theorem Lane.clearAccepted_view (x : Lane) : x.clearAccepted.coll = x.clearedColl ∧ x.clearAccepted.objs = (x.inc O.clearsTotal).objs := by
  unfold Lane.clearAccepted
  dsimp only
  generalize hd : Lane.endClass _ 1 = d
  have coll : d.coll = x.clearedColl := by
    rw [← hd, Lane.endClass_coll, Lane.diagDueAll_coll, Lane.endExhausted_coll]
    rfl
  have objs : d.objs = (x.inc O.clearsTotal).objs := by
    rw [← hd, Lane.endClass_objs, Lane.diagDueAll_objs, Lane.endExhausted_objs]
    rfl
  split
  · exact ⟨coll, objs⟩
  · rw [Lane.closeContactors_coll, Lane.testEnable_coll, Lane.closeContactors_objs, Lane.testEnable_objs]
    exact ⟨coll, objs⟩

theorem Lane.requestClear_of_refused {x z : Lane} (hz : z = x.settleColl) (refused : z.judgeClear ≠ 1) : x.requestClear
    = ({ z with coll := { z.coll with refusedAt := if z.judgeClear = 2 then some z.now else none } }).setObj O.clearResult z.judgeClear := by
  rw [Lane.requestClear, ← hz]
  exact if_neg refused

theorem Lane.requestClear_of_accepted {x z : Lane} (hz : z = x.settleColl) (accepted : z.judgeClear = 1) :
    x.requestClear = (({ z with coll := { z.coll with refusedAt := none } } : Lane).setObj O.clearResult 1).clearAccepted := by
  rw [Lane.requestClear, ← hz]
  dsimp only
  rw [accepted, if_pos rfl, if_neg (by decide)]

/-- A clear request shows its judgement, and one that is accepted ends the error (R310, R311). -/
theorem Lane.requestClear_view {x z : Lane} (hz : z = x.settleColl) : x.requestClear.obj O.clearResult = z.judgeClear ∧
    (z.judgeClear = 1 → x.requestClear.coll.error = false ∧ x.requestClear.coll.anyLatched = false) := by
  by_cases accepted : z.judgeClear = 1
  · rw [Lane.requestClear_of_accepted hz accepted, accepted]
    generalize hb : ({ z with coll := { z.coll with refusedAt := none } } : Lane).setObj O.clearResult 1 = b
    obtain ⟨hcoll, hobjs⟩ := b.clearAccepted_view
    refine ⟨?_, fun _ => hcoll ▸ ⟨rfl, b.clearedColl_anyLatched⟩⟩
    rw [Lane.obj, hobjs]
    exact (b.obj_inc_of_ne (o := O.clearsTotal) (by decide)).trans (hb ▸ Lane.obj_setObj _ _ _)
  · rw [Lane.requestClear_of_refused hz accepted]
    exact ⟨Lane.obj_setObj _ _ _, fun a => absurd a accepted⟩

/-- A rational between two whole numbers, the lower one not negative, rounds to a number between them. -/
theorem roundRat_mem_Icc {a b : Nat} {q : Rat} (ha : (a : Rat) ≤ q) (hb : q ≤ b) : (a : Int) ≤ roundRat q ∧ roundRat q ≤ b := by
  have den : (0 : Int) < q.den := by exact_mod_cast q.den_pos
  have num : 0 ≤ q.num := Rat.num_nonneg.mpr ((Nat.cast_nonneg a).trans ha)
  have eq : q = q.num / q.den := (Rat.num_div_den q).symm
  have lo : (a : Int) * q.den ≤ q.num := by
    rw [eq, le_div_iff₀ (by exact_mod_cast q.den_pos)] at ha
    exact_mod_cast ha
  have hi : q.num ≤ (b : Int) * q.den := by
    rw [eq, div_le_iff₀ (by exact_mod_cast q.den_pos)] at hb
    exact_mod_cast hb
  rw [roundRat, roundDiv, if_neg q.den_nz, if_pos num]
  constructor
  · rw [Int.le_ediv_iff_mul_le (by omega)]
    linarith
  · apply Int.lt_add_one_iff.mp
    rw [Int.ediv_lt_iff_lt_mul (by omega)]
    linarith

end Sys2Proof.Machine
end

section
/-!
SUPPORT. Stops and the energy limits of the brakes at their times (R63, R186 to R197).
-/
namespace Sys2Proof.Machine

section
variable {s : State} {l : LaneId} {t : Nat} {x : Lane}

theorem exec_hostLossHoldEnd (h : Sees s l t x) : exec (.hostLossHoldEnd l t) s = .next (s.setLane l
    (if x.obj O.hostState = 1 ∧ x.shape.lostAt + 1000000 * x.obj O.hostLossHold ≤ x.now
      then ({ x with shape := { x.shape with holdEnd := x.now } }).setObj O.hostState 2 else x)) := by
  refine (onLaneAt_of_sees h _ : execHostLossHoldEnd l t s = _).trans ?_
  simp

theorem exec_simplexStopTimeEnd_of_some (h : Sees s l t x) {t0 : Nat} (from_ : x.claim.stopFrom = some t0) :
    exec (.simplexStopTimeEnd l t) s = .next (s.setLane l
      (if t0 + 1000000 * x.obj O.simplexStopTime ≤ x.now then { x with claim := { x.claim with stopDue := true } } else x)) :=
  (onLaneAt_of_sees h _ : execSimplexStopTimeEnd l t s = _).trans (by rw [from_])

theorem exec_simplexStopTimeEnd_of_none (h : Sees s l t x) (none : x.claim.stopFrom = none) :
    exec (.simplexStopTimeEnd l t) s = .next (s.setLane l x) :=
  (onLaneAt_of_sees h _ : execSimplexStopTimeEnd l t s = _).trans (by rw [none])

theorem exec_standstill (h : Sees s l t x) : exec (.standstill l t) s = .next (s.setLane l
    (if x.obj O.stopState = 1 ∧ x.standstill = true
      then (({ x with shape := { x.shape with held := none } }.setObj O.stopState 2).inc O.stopsCompleted).applyPark else x)) := by
  refine (onLaneAt_of_sees h _ : execStandstill l t s = _).trans ?_
  simp

theorem exec_stopTrimUpdate_of_rest (h : Sees s l t x) (rest : x.obj O.stopState ≠ 1 ∨ x.now < x.shape.trimAt + 100000000) :
    exec (.stopTrimUpdate l t) s = .next (s.setLane l x) := by
  refine (onLaneAt_of_sees h _ : execStopTrimUpdate l t s = _).trans ?_
  rw [if_neg]
  simpa using (by omega : x.obj O.stopState = 1 → x.now < x.shape.trimAt + 100000000)

/-- The trim of a stop whose deceleration target and measured deceleration are known, before it is limited (R189). -/
def trimOf (old : Nat) (dec am : Rat) : Rat := (old : Rat) / 1000 * (1 + (dec - am) / dec / 4)

theorem exec_stopTrimUpdate_of_due (h : Sees s l t x) (stops : x.obj O.stopState = 1) (due : x.shape.trimAt + 100000000 ≤ x.now) :
    exec (.stopTrimUpdate l t) s = .next (s.setLane l (match x.speedInput with
      | none => { x with shape := { x.shape with prevSpeed := none, trimAt := x.now } }
      | some v => match x.shape.prevSpeed with
        | none => { x with shape := { x.shape with prevSpeed := some v, trimAt := x.now } }
        | some v0 => ({ x with shape := { x.shape with prevSpeed := some v, trimAt := x.now } } : Lane).setObj O.stopTrim
            (roundRat (max (1 / 2) (min 2 (trimOf (x.obj O.stopTrim) ((x.obj O.stopDecelTarget : Rat) / 100)
              ((v0 - v) / 36 / (((x.now - x.shape.trimAt : Nat) : Rat) / 1000000000)))) * 1000)).toNat)) := by
  refine (onLaneAt_of_sees h _ : execStopTrimUpdate l t s = _).trans ?_
  rw [if_pos (by simp [stops, due])]
  rfl

/-- The lane of which a Berm latch is let go (R193). -/
def Lane.bermLeft (x : Lane) (level2 : Bool) : Lane :=
  if level2 then { x with shape := { x.shape with l2 := false } } else { x with shape := { x.shape with l1 := false } }

theorem exec_bermExit_of_due (h : Sees s l t x) {level2 : Bool} {t0 : Nat} (below : (if level2 then x.shape.l2Below else x.shape.l1Below) = some t0)
    (due : t0 + 1000000 * x.obj O.bermExitTime ≤ x.now) :
    exec (.bermExit l level2 t) s = .next (s.setLane l ((x.bermLeft level2).setObj O.bermLevel (x.bermLeft level2).shape.level)) := by
  refine (onLaneAt_of_sees h _ : execBermExit l level2 t s = _).trans ?_
  rw [below]
  exact congrArg (fun y => Host.Outcome.next (s.setLane l y)) (if_pos (decide_eq_true due))

theorem exec_bermExit_of_rest (h : Sees s l t x) {level2 : Bool}
    (rest : ∀ t0, (if level2 then x.shape.l2Below else x.shape.l1Below) = some t0 → x.now < t0 + 1000000 * x.obj O.bermExitTime) :
    exec (.bermExit l level2 t) s = .next (s.setLane l x) := by
  refine (onLaneAt_of_sees h _ : execBermExit l level2 t s = _).trans ?_
  refine congrArg (fun y => Host.Outcome.next (s.setLane l y)) (if_neg ?_)
  split
  · next t0 e => simpa using rest t0 e
  · decide

theorem exec_bermLevel3 (h : Sees s l t x) (v : Nat) (b : Bool) : exec (.bermLevel3 l t v b) s = .next (s.setLane l
    (if x.obj O.bermL3 ≤ v then ((x.seeTerminals b).inc O.bermL3Errors).sourceAsserts 0x17 v else x)) :=
  (onLaneAt_of_sees h _ : execBermLevel3 l t v b s = _)

/-- A source whose pair reads asserted from now on: one that read idle before is an error (R301), any other changes the pair's reading alone. -/
theorem Lane.sourceAsserts_eq {x r : Lane} {src : Nat} (hr : r = x.takeReading) (data : Nat) (other : src ≠ 5) : x.sourceAsserts src data
    = if src ∈ r.coll.asserted then { r with coll := (r.coll.setAsserted src).setHeal src none }
      else ({ r with coll := (r.coll.setAsserted src).setHeal src none } : Lane).raise src data := by
  simp [Lane.sourceAsserts, Lane.sourceReads, ← hr, other]

/-- The link has stayed below level 1 for the wait of the automatic clear (R197). -/
def Lane.bermLow (x : Lane) : Prop := ∃ t0, x.shape.l1Below = some t0 ∧ t0 + 1000000 * x.obj O.bermClearWait ≤ x.now

theorem exec_bermAutoClear_of_due (h : Sees s l t x) (auto : x.flag O.bermAutoClear = true) (low : x.bermLow)
    (latched : bitOf (x.coll.spall 0x17).flags 0 = true) : exec (.bermAutoClear l t) s
      = .next (s.setLane l ({ x with coll := { x.coll with asserted := removeAsc 0x17 x.coll.asserted } } : Lane).requestClear) := by
  obtain ⟨t0, below, due⟩ := low
  refine (onLaneAt_of_sees h _ : execBermAutoClear l t s = _).trans ?_
  rw [below]
  exact congrArg (fun y => Host.Outcome.next (s.setLane l y)) (if_pos (by simp [auto, due, latched]))

theorem exec_bermAutoClear_of_rest (h : Sees s l t x)
    (rest : x.flag O.bermAutoClear = false ∨ ¬ x.bermLow ∨ bitOf (x.coll.spall 0x17).flags 0 = false) :
    exec (.bermAutoClear l t) s = .next (s.setLane l x) := by
  refine (onLaneAt_of_sees h _ : execBermAutoClear l t s = _).trans ?_
  refine congrArg (fun y => Host.Outcome.next (s.setLane l y)) (if_neg ?_)
  rcases rest with off | high | clear
  · simp [off]
  · split
    · next t0 e => simpa using fun _ due => absurd ⟨t0, e, due⟩ high
    · simp
  · simp [clear]

end

/-- Settles O42: each command by its own equation, the trim by the rounding between its bounds, level 3 by what an asserting source does, and the
automatic clear by what a clear request shows. -/
theorem stopsAndBrakeEnergyActAtTheirTimes : Obligations.StopsAndBrakeEnergyActAtTheirTimes := by
  intro s l t x h
  refine ⟨fun lost due => ?_, fun rest => ?_, fun t0 => exec_simplexStopTimeEnd_of_some h, exec_simplexStopTimeEnd_of_none h,
    fun stops still => ?_, fun rest => ?_, exec_stopTrimUpdate_of_rest h, ?_, fun v stops due now before => ?_, fun stops due now => ?_,
    fun t0 below due => ?_, fun t0 below due => ?_, exec_bermExit_of_rest h (level2 := false), exec_bermExit_of_rest h (level2 := true),
    fun v b low => ?_, fun v b r a hr ha high => ?_, ?_, ?_⟩
  · rw [exec_hostLossHoldEnd h, if_pos ⟨lost, due⟩]
  · rw [exec_hostLossHoldEnd h, if_neg (by omega)]
  · rw [exec_standstill h, if_pos ⟨stops, still⟩]
    refine ⟨_, rfl, ?_, ?_, rfl, rfl, ?_, rfl⟩
    · exact (Lane.obj_inc_of_ne _ (by decide)).trans (Lane.obj_setObj _ _ _)
    · exact (countedBy_inc _ O.stopsCompleted).of_obj_eq (Lane.obj_setObj_of_ne _ _ (by decide)).symm rfl
    · exact (objsKept_setObj (o := O.stopState) (by simp) ({ x with shape := { x.shape with held := none } } : Lane) 2).trans
        (objsKept_inc (by simp) _)
  · rw [exec_standstill h, if_neg (by rcases rest with a | a <;> simp [a])]
  · intro v v0 dec am tr stops due now before hdec ham htr
    have bounds := roundRat_mem_Icc (a := 500) (b := 2000) (q := max (1 / 2) (min 2 tr) * 1000)
      (by linarith [le_max_left (1 / 2 : Rat) (min 2 tr)])
      (by linarith [max_le (by norm_num : (1 / 2 : Rat) ≤ 2) (min_le_left 2 tr)])
    have htrim : tr = trimOf (x.obj O.stopTrim) ((x.obj O.stopDecelTarget : Rat) / 100)
        ((v0 - v) / 36 / (((x.now - x.shape.trimAt : Nat) : Rat) / 1000000000)) := by rw [htr, trimOf, hdec, ham]
    rw [exec_stopTrimUpdate_of_due h stops due, now, before]
    simp only [← htrim]
    refine ⟨_, rfl, rfl, ?_, ?_, ?_, objsKept_setObj (by simp) _ _, rfl⟩ <;> rw [Lane.obj_setObj] <;> omega
  · rw [exec_stopTrimUpdate_of_due h stops due, now, before]
  · rw [exec_stopTrimUpdate_of_due h stops due, now]
  · exact ⟨_, exec_bermExit_of_due h (level2 := false) below due, rfl, Lane.obj_setObj _ _ _,
      objsKept_setObj (by simp) (x.bermLeft false) _, rfl⟩
  · exact ⟨_, exec_bermExit_of_due h (level2 := true) below due, rfl, Lane.obj_setObj _ _ _,
      objsKept_setObj (by simp) (x.bermLeft true) _, rfl⟩
  · rw [exec_bermLevel3 h, if_neg (by omega)]
  · rw [exec_bermLevel3 h, if_pos high, Lane.sourceAsserts_eq hr v (by decide), ← ha]
    exact ⟨fun idle => ⟨_, by rw [if_neg idle], a.raise_errorOf 0x17 v⟩, fun live => by rw [if_pos live]⟩
  · rintro (off | high | clear)
    · exact exec_bermAutoClear_of_rest h (.inl off)
    · exact exec_bermAutoClear_of_rest h (.inr (.inl fun ⟨t0, below, due⟩ => absurd (high t0 below) (Nat.not_lt.mpr due)))
    · exact exec_bermAutoClear_of_rest h (.inr (.inr clear))
  · intro t0 z auto below due latched hz
    refine ⟨_, exec_bermAutoClear_of_due h auto ⟨t0, below, due⟩ latched, ?_⟩
    obtain ⟨result, accepted⟩ := Lane.requestClear_view
      (x := { x with coll := { x.coll with asserted := removeAsc 0x17 x.coll.asserted } }) (z := z) hz
    exact ⟨result, accepted, Lane.requestClear_of_refused hz⟩

end Sys2Proof.Machine
end

section
/-!
SUPPORT. What sending a message and answering a request leave of the non-volatile memory, the claim and the firmware's requests, and which
requests stay open (R320, R356).
-/
namespace Sys2Proof.Machine

/-- From `x`, a lane sends: its non-volatile memory, the count of its stores, its claim, the state of its firmware and its open requests stay
as they are. -/
structure SendKept (x y : Lane) : Prop where
  nv : y.nv = x.nv
  stores : y.obj O.nvStores = x.obj O.nvStores
  claim : y.claim = x.claim
  upd : y.upd = x.upd
  opened : y.txn.opened = x.txn.opened

theorem SendKept.refl (x : Lane) : SendKept x x := ⟨rfl, rfl, rfl, rfl, rfl⟩

theorem SendKept.trans {x y z : Lane} (h : SendKept x y) (k : SendKept y z) : SendKept x z :=
  ⟨k.nv.trans h.nv, k.stores.trans h.stores, k.claim.trans h.claim, k.upd.trans h.upd, k.opened.trans h.opened⟩

theorem SendKept.foldl {α : Type} {f : Lane → α → Lane} (h : ∀ x a, SendKept x (f x a)) (as : List α) (x : Lane) :
    SendKept x (as.foldl f x) :=
  List.foldlRecOn as f (SendKept.refl x) fun _ hy a _ => hy.trans (h _ a)

theorem SendKept.ite {c : Prop} [Decidable c] {x y z : Lane} (hy : SendKept x y) (hz : SendKept x z) : SendKept x (if c then y else z) := by
  split
  · exact hy
  · exact hz

theorem sendKept_inc {o : O.Obj} (h : o.key ≠ O.nvStores.key) (x : Lane) : SendKept x (x.inc o) :=
  ⟨rfl, x.obj_inc_of_ne h.symm, rfl, rfl, rfl⟩

theorem sendKept_setPort (x : Lane) (n : Net) (p : PortSt) : SendKept x (x.setPort n p) := ⟨rfl, rfl, rfl, rfl, rfl⟩

theorem txFrames_key_ne_nvStores (n : Net) : (O.txFrames (netIx n)).key ≠ O.nvStores.key := by cases n <;> decide

theorem txPreemptions_key_ne_nvStores (n : Net) : (O.txPreemptions (netIx n)).key ≠ O.nvStores.key := by cases n <;> decide

theorem sendKept_startTx (x : Lane) (n : Net) (t : Nat) : SendKept x (x.startTx n t) := by
  unfold Lane.startTx
  extract_lets at_ _ p cyc left fits idle go
  refine SendKept.ite (SendKept.refl x) ?_
  have hgo : ∀ f ns q, SendKept x (go f ns q) := fun f ns q => sendKept_setPort x n _
  split
  · exact hgo _ _ _
  split
  · exact SendKept.ite (sendKept_setPort x n _) (sendKept_setPort x n _)
  split
  · exact hgo _ _ _
  · exact sendKept_setPort x n _

theorem sendKept_runPort (n : Net) (t k : Nat) (x : Lane) : SendKept x (x.runPort n t k) := by
  induction k generalizing x with
  | zero => exact SendKept.refl x
  | succ k ih =>
    unfold Lane.runPort
    dsimp only
    split
    · refine SendKept.ite ?_ (SendKept.refl x)
      exact (((sendKept_setPort x n _).trans (sendKept_inc (txFrames_key_ne_nvStores n) _)).trans (sendKept_startTx _ n _)).trans (ih _)
    · exact SendKept.refl x

theorem sendKept_preempt (x : Lane) (n : Net) (t : Nat) : SendKept x (x.preempt n t) := by
  unfold Lane.preempt
  dsimp only
  split
  · exact SendKept.ite (SendKept.refl x) ((sendKept_setPort x n _).trans (sendKept_inc (txPreemptions_key_ne_nvStores n) _))
  · exact SendKept.refl x

theorem sendKept_pushPort (x : Lane) (n : Net) (t : Nat) (f : TxFrame) : SendKept x (x.pushPort n t f) := by
  unfold Lane.pushPort
  extract_lets y z
  have hy : SendKept x y := (sendKept_runPort n t _ x).trans (sendKept_setPort _ n _)
  have hz : SendKept y z := SendKept.ite (sendKept_preempt y n t) (SendKept.refl y)
  exact (hy.trans hz).trans (sendKept_startTx z n t)

theorem sendKept_sendMsg (x : Lane) (dst cls t : Nat) (segs : List (List Byte)) : SendKept x (x.sendMsg dst cls t segs) := by
  unfold Lane.sendMsg
  refine SendKept.foldl (fun y s => ?_) _ x
  extract_lets r f _ z
  have hz : SendKept y z := ⟨rfl, rfl, rfl, rfl, rfl⟩
  exact hz.trans (SendKept.foldl (fun u p => SendKept.ite (SendKept.refl u) (sendKept_pushPort u p t _)) bothNets z)

theorem sendKept_queueAnswer (x : Lane) (id : TxnId) (cls : Nat) (msg : List Byte) : SendKept x (x.queueAnswer id cls msg) :=
  SendKept.ite ⟨rfl, rfl, rfl, rfl, rfl⟩ (SendKept.ite (sendKept_inc (by decide) x)
    (SendKept.ite (SendKept.refl x) (sendKept_sendMsg x _ cls x.now _)))

theorem sendKept_countRefused (x : Lane) (can : Bool) (res : Nat) : SendKept x (x.countRefused can res) :=
  SendKept.ite (sendKept_inc (by decide) x) (SendKept.refl x)

theorem sendKept_putTag (x : Lane) (id : TxnId) (g : Nat) (u : TagUse) : SendKept x (x.putTag id g u) := by
  refine ⟨rfl, rfl, rfl, rfl, ?_⟩
  unfold Lane.putTag
  dsimp only
  split <;> rfl

/-- An answer takes its request out of those that are open, and leaves the non-volatile memory, the claim and the state of
the firmware. -/
theorem Lane.answer_kept (x : Lane) (id : TxnId) (h : TxnHead) (res : Nat) (data : List Byte) :
    (x.answer id h res data).nv = x.nv ∧ (x.answer id h res data).obj O.nvStores = x.obj O.nvStores ∧
    (x.answer id h res data).claim = x.claim ∧ (x.answer id h res data).upd = x.upd ∧
    (x.answer id h res data).txn.opened = x.txn.opened.filter fun o => o.id ≠ id := by
  unfold Lane.answer
  split
  next none =>
    refine ⟨rfl, rfl, rfl, rfl, (List.filter_eq_self.mpr fun o ho => ?_).symm⟩
    simp only [Bool.not_eq_true', List.any_eq_false, decide_eq_true_eq] at none
    exact decide_eq_true (none o ho)
  next =>
    extract_lets msg _ y z
    have hz : SendKept y z := SendKept.ite (SendKept.refl y) (sendKept_putTag y id _ _)
    have queued := hz.trans (sendKept_queueAnswer z id (answerClass h) msg)
    obtain ⟨nv, stores, claim, upd, opened⟩ := queued.trans (sendKept_countRefused _ id.can res)
    exact ⟨nv, stores, claim, upd, opened⟩

theorem Lane.opened_answer (x : Lane) (id : TxnId) (h : TxnHead) (res : Nat) (data : List Byte) :
    (x.answer id h res data).txn.opened = x.txn.opened.filter fun o => o.id ≠ id := by
  obtain ⟨-, -, -, -, opened⟩ := x.answer_kept id h res data
  exact opened

/-- From `x`, requests are answered: the non-volatile memory, the claim and the state of the firmware stay, and no request opens. -/
structure AnswersKept (x y : Lane) : Prop where
  nv : y.nv = x.nv
  stores : y.obj O.nvStores = x.obj O.nvStores
  claim : y.claim = x.claim
  upd : y.upd = x.upd
  opened : ∀ o ∈ y.txn.opened, o ∈ x.txn.opened

theorem AnswersKept.answer {x y : Lane} (h : AnswersKept x y) (id : TxnId) (hd : TxnHead) (res : Nat) (data : List Byte) :
    AnswersKept x (y.answer id hd res data) := by
  obtain ⟨nv, stores, claim, upd, opened⟩ := y.answer_kept id hd res data
  exact ⟨nv.trans h.nv, stores.trans h.stores, claim.trans h.claim, upd.trans h.upd,
    fun o ho => h.opened o (List.mem_of_mem_filter (opened ▸ ho))⟩

theorem Lane.finish_answersKept (x : Lane) (w : TxnWait) (res : Nat) (data : List Byte) : AnswersKept x (x.finish w res data) :=
  List.foldlRecOn (motive := AnswersKept x) _ _ ⟨rfl, rfl, rfl, rfl, fun _ ho => ho⟩ fun _ hy o _ => hy.answer o.id o.head res data

/-- Where every request that waits for a thing is answered, none of them stays open. -/
theorem Lane.wait_ne_of_mem_finish {x : Lane} {w : TxnWait} {res : Nat} {data : List Byte} {o : OpenTxn}
    (ho : o ∈ (x.finish w res data).txn.opened) : o.wait ≠ w := fun waits => by
  have was : o ∈ x.txn.opened.filter fun o => o.wait = w :=
    List.mem_filter.mpr ⟨(x.finish_answersKept w res data).opened o ho, decide_eq_true waits⟩
  have gone := foldl_establishes (f := fun (l : Lane) o => l.answer o.id o.head res data) (fun _ => True)
    (fun y => ∀ p ∈ y.txn.opened, p.id ≠ o.id) (fun _ _ _ _ => trivial)
    (fun y c _ hy p hp => hy p (List.mem_of_mem_filter (y.opened_answer c.id c.head res data ▸ hp)))
    (fun y _ p hp => by
      rw [y.opened_answer o.id o.head res data, List.mem_filter] at hp
      exact of_decide_eq_true hp.2) was (b := x) trivial
  exact gone o ho rfl

theorem Lane.finish_of_none {x : Lane} {w : TxnWait} (none : ∀ o ∈ x.txn.opened, o.wait ≠ w) (res : Nat) (data : List Byte) :
    x.finish w res data = x := by
  have h : (x.txn.opened.filter fun o => o.wait = w) = [] := List.filter_eq_nil_iff.mpr fun o ho => by simpa using none o ho
  rw [Lane.finish, h, List.foldl_nil]

end Sys2Proof.Machine
end

section
/-!
SUPPORT. Stores, the staged image, and the objects that a write resets (R46, R160, R199, R371 to R383, R471).
-/
namespace Sys2Proof.Machine

theorem kvFind_kvPut_same {α : Type} (m : List (Nat × α)) (k : Nat) (v : α) : kvFind (kvPut k v m) k = some v := by
  induction m with
  | nil => simp [kvPut, kvFind]
  | cons c m ih =>
    obtain ⟨a, w⟩ := c
    unfold kvPut
    split
    · simp [kvFind]
    split
    · simp [kvFind]
    next _ ne => simpa [kvFind, ne] using ih

theorem kvFind_kvPut_of_ne {α : Type} (m : List (Nat × α)) {k j : Nat} (v : α) (h : j ≠ k) :
    kvFind (kvPut k v m) j = kvFind m j := by
  induction m with
  | nil => simp [kvPut, kvFind, h.symm]
  | cons c m ih =>
    obtain ⟨a, w⟩ := c
    unfold kvPut
    split
    · simp [kvFind, h.symm]
    split
    next _ e => simp [kvFind, e, h.symm]
    · by_cases e : a = j
      · simp [kvFind, e]
      · simpa [kvFind, e] using ih

/-- One object of `Lane.withValues`. -/
def Lane.withValue (x : Lane) (me : LaneId) (m : List (Nat × (Nat × List Byte))) (k : Nat) : List (Nat × (Nat × List Byte)) :=
  match rowOf k with
  | some r => kvPut k (rowType r, x.valueOf me r k) m
  | none => m

theorem Lane.withValues_eq_foldl (x : Lane) (me : LaneId) (keys : List Nat) (m : List (Nat × (Nat × List Byte))) :
    x.withValues me keys m = keys.foldl (x.withValue me) m := rfl

theorem Lane.kvFind_withValue_same (x : Lane) (me : LaneId) (m : List (Nat × (Nat × List Byte))) {k : Nat} {r : ObjRow} (h : rowOf k = some r) :
    kvFind (x.withValue me m k) k = some (rowType r, x.valueOf me r k) := by
  simp only [Lane.withValue, h, kvFind_kvPut_same]

theorem Lane.kvFind_withValue_of_ne (x : Lane) (me : LaneId) (m : List (Nat × (Nat × List Byte))) {j k : Nat} (h : j ≠ k) :
    kvFind (x.withValue me m k) j = kvFind m j := by
  unfold Lane.withValue
  split
  · exact kvFind_kvPut_of_ne m _ h
  · rfl

theorem Lane.kvFind_withValues_of_mem (x : Lane) (me : LaneId) {keys : List Nat} (m : List (Nat × (Nat × List Byte))) {k : Nat}
    (hk : k ∈ keys) {r : ObjRow} (h : rowOf k = some r) : kvFind (x.withValues me keys m) k = some (rowType r, x.valueOf me r k) := by
  rw [x.withValues_eq_foldl]
  refine foldl_establishes (fun _ => True) (fun m => kvFind m k = some (rowType r, x.valueOf me r k)) (fun _ _ _ _ => trivial)
    (fun m c _ hm => ?_) (fun m _ => x.kvFind_withValue_same me m h) hk trivial
  by_cases e : c = k
  · exact e ▸ x.kvFind_withValue_same me m (e ▸ h)
  · exact (x.kvFind_withValue_of_ne me m (Ne.symm e)).trans hm

theorem Lane.kvFind_withValues_of_not_mem (x : Lane) (me : LaneId) {keys : List Nat} (m : List (Nat × (Nat × List Byte))) {k : Nat}
    (hk : k ∉ keys) : kvFind (x.withValues me keys m) k = kvFind m k := by
  rw [x.withValues_eq_foldl]
  exact List.foldlRecOn (motive := fun n => kvFind n k = kvFind m k) keys _ rfl fun n hn c hc =>
    (x.kvFind_withValue_of_ne me n (ne_of_mem_of_not_mem hc hk).symm).trans hn

/-- The generation of the next image (R382). -/
def NvSt.nextGen (n : NvSt) : Nat := match n.inUse with | some (_, c) => c.gen + 1 | none => 1

theorem NvSt.nextGen_of_none {n : NvSt} (h : n.inUse = none) : n.nextGen = 1 := by
  rw [NvSt.nextGen, h]

theorem NvSt.nextGen_of_inUse {n : NvSt} {b : Bool} {c : NvImage} (h : n.inUse = some (b, c)) : n.nextGen = c.gen + 1 := by
  rw [NvSt.nextGen, h]

theorem NvSt.putCopy_of_first {n : NvSt} (first : n.use = some false) (form : Nat → NvImage) :
    n.putCopy form = { n with copyB := some (form n.nextGen), use := some true } := by
  unfold NvSt.putCopy
  rw [first]
  rfl

theorem NvSt.putCopy_of_other {n : NvSt} (other : n.use ≠ some false) (form : Nat → NvImage) :
    n.putCopy form = { n with copyA := some (form n.nextGen), use := some false } := by
  unfold NvSt.putCopy
  cases use : n.use with
  | none => rfl
  | some b =>
    cases b with
    | false => exact absurd use other
    | true => rfl

theorem NvSt.putCopy_reach (n : NvSt) (form : Nat → NvImage) : ∃ a b u, n.putCopy form = { n with copyA := a, copyB := b, use := u } := by
  by_cases first : n.use = some false
  · exact ⟨_, _, _, NvSt.putCopy_of_first first form⟩
  · exact ⟨_, _, _, NvSt.putCopy_of_other first form⟩

theorem NvSt.use_of_inUse {n : NvSt} {b : Bool} {c : NvImage} (h : n.inUse = some (b, c)) : n.use = some b ∧ n.copy b = some c := by
  unfold NvSt.inUse at h
  split at h
  next d use =>
    obtain ⟨e, he, eq⟩ := Option.map_eq_some_iff.mp h
    obtain ⟨rfl, rfl⟩ := Prod.mk.inj eq
    exact ⟨use, he⟩
  next => exact nomatch h

/-- A new image comes into the copy that is not in use, a generation higher, and leaves the other one. -/
theorem NvSt.putCopy_inUse (n : NvSt) (form : Nat → NvImage) : ∃ b, (n.putCopy form).inUse = some (b, form n.nextGen) ∧
    ∀ b0 c0, n.inUse = some (b0, c0) → b = !b0 ∧ (if b0 then (n.putCopy form).copyB else (n.putCopy form).copyA) = some c0 := by
  by_cases first : n.use = some false
  · rw [NvSt.putCopy_of_first first]
    refine ⟨true, rfl, fun b0 c0 h => ?_⟩
    obtain ⟨use, copy⟩ := NvSt.use_of_inUse h
    obtain rfl : b0 = false := Option.some.inj (use.symm.trans first)
    exact ⟨rfl, copy⟩
  · rw [NvSt.putCopy_of_other first]
    refine ⟨false, rfl, fun b0 c0 h => ?_⟩
    obtain ⟨use, copy⟩ := NvSt.use_of_inUse h
    cases b0 with
    | false => exact absurd use first
    | true => exact ⟨rfl, copy⟩

/-- The image that a lane forms of entries, of a generation (R380, R382). -/
def Lane.imageOf (x : Lane) (me : LaneId) (es : List (Nat × (Nat × List Byte))) (gen : Nat) : NvImage :=
  formImage 2 (laneNo me) gen (x.obj O.dictSetCounter) (x.imageUnit me es) es

theorem Lane.imageOf_entries (x : Lane) (me : LaneId) (es : List (Nat × (Nat × List Byte))) (gen : Nat) :
    (x.imageOf me es gen).entries = es := rfl

/-- The entries of a store's image: those of the image in use, with the present values of the objects stored and of NV_STORES. -/
def Lane.storeEntries (x : Lane) (me : LaneId) (keys : List Nat) : List (Nat × (Nat × List Byte)) :=
  (x.inc O.nvStores).withValues me (O.nvStores.key :: keys) x.nv.entries

/-- What a store leaves in the non-volatile memory, but for the values as stored. -/
def Lane.storedNv (x : Lane) (me : LaneId) (keys : List Nat) : NvSt :=
  x.nv.putCopy ((x.inc O.nvStores).imageOf me (x.storeEntries me keys))

theorem Lane.storeNv_reach (x : Lane) (me : LaneId) (keys : List Nat) : ∃ ro, x.storeNv me keys
    = { x.inc O.nvStores with nv := { x.storedNv me keys with roBase := ro } } := ⟨_, rfl⟩

theorem Lane.storedNv_reach (x : Lane) (me : LaneId) (keys : List Nat) : ∃ a b u, x.storedNv me keys
    = { x.nv with copyA := a, copyB := b, use := u } := x.nv.putCopy_reach _

/-- A lane whose non-volatile memory is that of a store has stored. -/
theorem storeOf_of_storedNv {me : LaneId} {keys : List Nat} {x y : Lane} (stores : y.obj O.nvStores = (x.inc O.nvStores).obj O.nvStores)
    (inUse : y.nv.inUse = (x.storedNv me keys).inUse) (copyA : y.nv.copyA = (x.storedNv me keys).copyA)
    (copyB : y.nv.copyB = (x.storedNv me keys).copyB) : StoreOf me keys x y := by
  obtain ⟨b, hb, other⟩ := x.nv.putCopy_inUse ((x.inc O.nvStores).imageOf me (x.storeEntries me keys))
  refine ⟨(countedBy_inc x O.nvStores).of_obj_eq rfl stores, b, _, inUse.trans hb, x.obj_inc_of_ne (by decide), rfl, rfl, rfl, rfl,
    fun first => NvSt.nextGen_of_none first, fun b0 c0 h => ?_, fun k hk r hr => ?_, fun k hk ne => ?_⟩
  · obtain ⟨turn, kept⟩ := other b0 c0 h
    refine ⟨NvSt.nextGen_of_inUse h, turn, ?_⟩
    rw [copyA, copyB]
    exact kept
  · rw [Lane.imageOf_entries]
    exact Lane.kvFind_withValues_of_mem _ me _ (List.mem_cons_of_mem _ hk) hr
  · rw [Lane.imageOf_entries]
    exact Lane.kvFind_withValues_of_not_mem _ me _ (by simp [hk, ne])

section
variable {s : State} {l : LaneId} {t : Nat} {x : Lane}

theorem Lane.storeDue_of_none {me : LaneId} (none : x.nv.due = []) : x.storeDue me = x := if_pos none

theorem Lane.storeDue_of_due {me : LaneId} (due : x.nv.due ≠ []) : ∃ ro, x.storeDue me
    = { x.inc O.nvStores with nv := { x.storedNv me x.nv.due with roBase := ro, due := [] } } := ⟨_, if_neg due⟩

theorem exec_nvStore (h : Sees s l t x) : exec (.nvStore l t) s = .next (s.setLane l ((x.storeDue l).finish .store 0 [])) :=
  (onLaneAt_of_sees h _ : execNvStore l t s = _)

theorem exec_roStore_of_none (h : Sees s l t x) (none : x.roDue l = []) : exec (.roStore l t) s = .next (s.setLane l x) :=
  (onLaneAt_of_sees h _ : execRoStore l t s = _).trans (by rw [Lane.storeRo, if_pos none])

theorem exec_roStore_of_due (h : Sees s l t x) (due : x.roDue l ≠ []) :
    exec (.roStore l t) s = .next (s.setLane l (x.storeNv l (x.roDue l))) :=
  (onLaneAt_of_sees h _ : execRoStore l t s = _).trans (by rw [Lane.storeRo, if_neg due])

theorem exec_nvUserReset (h : Sees s l t x) (v : BitVec 8) :
    exec (.nvUserReset l v t) s = .next (s.setLane l (if v = 1 then x.resetNv l else x)) :=
  (onLaneAt_of_sees h _ : execNvUserReset l v t s = _)

theorem Lane.resetNv_reach (x : Lane) (me : LaneId) : ∃ ro, x.resetNv me
    = { x.inc O.nvStores with nv := { x.nv.putCopy ((x.inc O.nvStores).imageOf me []) with due := [], roBase := ro } } := ⟨_, rfl⟩

theorem exec_nvStage (h : Sees s l t x) (off : Nat) (data : List Byte) :
    exec (.nvStage l off data t) s = .next (s.setLane l (x.writeStage off data)) :=
  (onLaneAt_of_sees h _ : execNvStage l off data t s = _)

theorem exec_nvStageCheck (h : Sees s l t x) (v : BitVec 8) :
    exec (.nvStageCheck l v t) s = .next (s.setLane l (if v = 1 then x.startStageCheck else x)) :=
  (onLaneAt_of_sees h _ : execNvStageCheck l v t s = _)

/-- A byte of a memory in which bytes are written from an address up. -/
theorem memRead_memWriteAll (m : List (Nat × Byte)) (off a : Nat) (data : List Byte) : memRead (memWriteAll m off data) a
    = if off ≤ a ∧ a < off + data.length then data.getD (a - off) 0 else memRead m a := by
  split
  next h =>
    obtain ⟨i, rfl⟩ := Nat.exists_eq_add_of_le h.1
    have hi : i < data.length := by omega
    rw [memRead_memWriteAll_inside data m off i hi, Nat.add_sub_cancel_left, List.getD_eq_getElem _ _ hi]
  next h => exact memRead_memWriteAll_outside data m off a (by omega)

theorem Lane.stage_writeStage (x : Lane) (off : Nat) (given : List Byte) : (x.writeStage off given).nv = { x.nv with
    stage := memWriteAll x.nv.stage off (given.take (262144 - off))
    stageLen := if given.take (262144 - off) = [] then x.nv.stageLen else max x.nv.stageLen (off + (given.take (262144 - off)).length)
    checkSpoilt := decide (x.obj O.nvStageState = 1) } := by
  unfold Lane.writeStage
  dsimp only
  split <;> rfl

theorem Lane.objs_writeStage (x : Lane) (off : Nat) (given : List Byte) :
    (x.writeStage off given).objs = if x.obj O.nvStageState = 1 then x.objs else (x.setObj O.nvStageState 0).objs := by
  unfold Lane.writeStage
  dsimp only
  simp only [decide_eq_true_eq]
  split <;> rfl

theorem Lane.writeStage_reach (x : Lane) (off : Nat) (given : List Byte) : ∃ os n, x.writeStage off given = { x with objs := os, nv := n } := by
  unfold Lane.writeStage
  dsimp only
  split <;> exact ⟨_, _, rfl⟩

theorem exec_nvStageCheckDone_of_idle (h : Sees s l t x) (idle : x.obj O.nvStageState ≠ 1) :
    exec (.nvStageCheckDone l t) s = .next (s.setLane l x) :=
  (onLaneAt_of_sees h _ : execNvStageCheckDone l t s = _).trans (by rw [if_pos idle])

theorem exec_nvStageCheckDone_of_spoilt (h : Sees s l t x) (checks : x.obj O.nvStageState = 1) (spoilt : x.nv.checkSpoilt = true) :
    exec (.nvStageCheckDone l t) s = .next (s.setLane l (x.setObj O.nvStageState 3)) :=
  (onLaneAt_of_sees h _ : execNvStageCheckDone l t s = _).trans (by rw [if_neg (not_not.mpr checks), if_pos spoilt])

theorem exec_nvStageCheckDone_of_judged (h : Sees s l t x) (checks : x.obj O.nvStageState = 1) (whole : x.nv.checkSpoilt = false) :
    exec (.nvStageCheckDone l t) s = .next (s.setLane l
      ((x.setObj O.nvStageState (if x.judgeStage l = 0 then 2 else 3)).setObj O.nvStageFail (x.judgeStage l))) := by
  refine (onLaneAt_of_sees h _ : execNvStageCheckDone l t s = _).trans ?_
  rw [if_neg (not_not.mpr checks), if_neg (by simp [whole])]
  dsimp only
  split
  next pass => rw [pass]
  next => rfl

theorem Lane.judgeStage_of_magic {x : Lane} (magic : be (memReadAll x.nv.stage 0 0x40) 0 4 ≠ 0x534B4E56) (me : LaneId) : x.judgeStage me = 1 :=
  if_pos (by simp [magic])

theorem exec_nvStageInstall_of_ok (h : Sees s l t x) {digest : List Byte} {es : List Entry} (eligible : x.obj O.nvStageState = 2)
    (same : memReadAll x.nv.stage 0x20 32 = digest) (entries : x.nv.stagedEntries = some es) : exec (.nvStageInstall l digest t) s
      = .next (s.setLane l { x with com := { x.com with waiting := x.com.waiting ++ [(.install, es)] } }) := by
  refine (onLaneAt_of_sees h _ : execNvStageInstall l digest t s = _).trans ?_
  rw [Lane.stageInstall, entries]
  exact congrArg (fun y => Host.Outcome.next (s.setLane l y)) (if_pos (by simp [Lane.installOk, eligible, same]))

theorem exec_nvStageInstall_of_refused (h : Sees s l t x) {digest : List Byte}
    (refused : x.obj O.nvStageState ≠ 2 ∨ memReadAll x.nv.stage 0x20 32 ≠ digest) :
    exec (.nvStageInstall l digest t) s = .next (s.setLane l x) := by
  have not : x.installOk digest = false := by
    rw [Lane.installOk, Bool.and_eq_false_iff, decide_eq_false_iff_not, decide_eq_false_iff_not]
    exact refused
  refine (onLaneAt_of_sees h _ : execNvStageInstall l digest t s = _).trans ?_
  rw [Lane.stageInstall]
  split
  · rw [if_neg (by simp [not])]
  · rfl

theorem exec_voteStatusReset (h : Sees s l t x) (n : Fin 10) (v : BitVec 8) : exec (.voteStatusReset l n v t) s = .next (s.setLane l
    (if v = 0 then { x.setObj (O.voteStatus n) (x.obj (O.voteStatus n) / 8 * 8) with
      votes := x.votes.set n { x.votes[n] with runs := [0, 0, 0] } } else x)) :=
  (onLaneAt_of_sees h _ : execVoteStatusReset l n v t s = _)

theorem exec_counterReset_of_refused (h : Sees s l t x) {index : BitVec 16} {sub : BitVec 8} {data : List Byte} {key : Nat}
    (hkey : key = index.toNat * 256 + sub.toNat) (refused : x.judgeWrite false key 0 data ≠ 0 ∨ zeroOnly key = true ∧ ofBytesBE data ≠ 0) :
    exec (.counterReset l index sub data t) s = .next (s.setLane l x) := by
  refine (onLaneAt_of_sees h _ : execCounterReset l index sub data t s = _).trans ?_
  rw [← hkey]
  refine congrArg (fun y => Host.Outcome.next (s.setLane l y)) (if_neg ?_)
  rcases refused with a | ⟨a, b⟩
  · simp [a]
  · simp [a, b]

theorem exec_counterReset_of_passed (h : Sees s l t x) {index : BitVec 16} {sub : BitVec 8} {data : List Byte} {key : Nat}
    (hkey : key = index.toNat * 256 + sub.toNat) (pass : x.judgeWrite false key 0 data = 0)
    (zero : zeroOnly key = false ∨ ofBytesBE data = 0) :
    exec (.counterReset l index sub data t) s = .next (s.setLane l (x.resetCounter key data)) := by
  refine (onLaneAt_of_sees h _ : execCounterReset l index sub data t s = _).trans ?_
  rw [← hkey]
  exact congrArg (fun y => Host.Outcome.next (s.setLane l y)) (if_pos (by simpa [pass] using zero))

end

/-- An object of an unsigned row takes the value 0. -/
theorem Lane.storeValue_zero (x : Lane) {key : Nat} {r : ObjRow} {o : O.Obj} {data : List Byte} (row : rowOf key = some r) (ty : r.ty = .u16)
    (obj : objOf r key = o) (zero : ofBytesBE data = 0) : x.storeValue key data = x.setObj o 0 := by
  simp [Lane.storeValue, row, ty, obj, storeCodeOf, zero]

/-- A key is that of a peak which a write of 0 alone resets. -/
def zeroPeak (key : Nat) (o : O.Obj) : Bool :=
  zeroOnly key && (rowOf key).any fun r => decide (r.ty = .u16 ∧ objOf r key = o)

theorem Lane.storeValue_of_zeroPeak (x : Lane) {key : Nat} {o : O.Obj} {data : List Byte} (peak : zeroPeak key o = true)
    (zero : zeroOnly key = false ∨ ofBytesBE data = 0) : x.storeValue key data = x.setObj o 0 := by
  obtain ⟨only, row⟩ := (Bool.and_eq_true _ _ ▸ peak : zeroOnly key = true ∧ _)
  obtain ⟨r, hr, h⟩ := (Option.any_eq_true _ _).mp row
  obtain ⟨ty, obj⟩ := of_decide_eq_true h
  exact x.storeValue_zero hr ty obj (zero.resolve_left (by simp [only]))

theorem zeroPeak_vLinkPeak : zeroPeak O.vLinkPeak.key O.vLinkPeak = true := by decide

theorem zeroPeak_commitLatMax (k : Fin 9) : zeroPeak (O.commitLatMax k).key (O.commitLatMax k) = true := by revert k; decide

theorem Lane.resetCounter_commitLatMax (x : Lane) (k : Fin 9) (data : List Byte) :
    x.resetCounter (O.commitLatMax k).key data = x.storeValue (O.commitLatMax k).key data := by
  have ne : ∀ m : Nat, m % 256 ≠ 0x0E → (O.commitLatMax k).key ≠ m := by
    intro m hm e
    simp only [O.commitLatMax] at e
    omega
  unfold Lane.resetCounter
  rw [if_neg (ne _ (by decide)), if_neg (ne _ (by decide)), if_neg (ne _ (by decide)), if_pos]
  have loop : (O.commitLatMax k).key % 256 = 0x0E ∧ 0x5010 ≤ (O.commitLatMax k).key / 256 ∧ (O.commitLatMax k).key / 256 ≤ 0x5018 := by
    simp only [O.commitLatMax]
    omega
  simp [loop]

/-- Settles O54: the stores by the image that comes into the free copy, the staged image by its writes, its check and its install, and each
reset by what the write stores. -/
theorem storesAndStagedImagesActByTheirRules : Obligations.StoresAndStagedImagesActByTheirRules := by
  intro s l t x h
  refine ⟨?_, exec_roStore_of_none h, fun due => ?_, fun v => ⟨fun ne => ?_, fun one => ?_⟩, fun off given data hdata => ?_,
    fun v => ⟨fun ne => ?_, fun one => ?_⟩, exec_nvStageCheckDone_of_idle h, fun checks => ?_, fun digest =>
      ⟨fun es => exec_nvStageInstall_of_ok h, exec_nvStageInstall_of_refused h⟩, fun n v => ⟨fun ne => ?_, fun zero => ?_⟩,
    fun index sub data key hkey => ⟨exec_counterReset_of_refused h hkey, fun pass zero => ?_⟩⟩
  case refine_1 =>
    refine ⟨_, exec_nvStore h, ?_⟩
    have kept := (x.storeDue l).finish_answersKept .store 0 []
    by_cases none : x.nv.due = []
    · rw [Lane.storeDue_of_none none] at kept ⊢
      refine ⟨(congrArg NvSt.due kept.nv).trans none, fun o ho => Lane.wait_ne_of_mem_finish ho, fun _ => kept.nv,
        fun due => absurd none due, fun idle => ?_⟩
      rw [Lane.finish_of_none idle]
      exact ⟨ObjsKept.refl _ x, rfl⟩
    · obtain ⟨ro, hro⟩ := Lane.storeDue_of_due (me := l) none
      obtain ⟨a, b, u, hnv⟩ := x.storedNv_reach l x.nv.due
      have nv := kept.nv.trans (congrArg Lane.nv hro)
      refine ⟨congrArg NvSt.due nv, fun o ho => Lane.wait_ne_of_mem_finish ho, fun e => absurd e none, fun _ => ⟨?_, ?_⟩, fun idle => ?_⟩
      · refine storeOf_of_storedNv (kept.stores.trans ?_) ?_ ?_ ?_
        · rw [hro]
          rfl
        all_goals rw [nv]
        rfl
      · rw [nv, hnv]
      · rw [Lane.finish_of_none (by rw [hro]; exact idle), hro, hnv]
        exact ⟨objsKept_inc (by simp) x, rfl⟩
  case refine_2 =>
    obtain ⟨ro, hro⟩ := x.storeNv_reach l (x.roDue l)
    obtain ⟨a, b, u, hnv⟩ := x.storedNv_reach l (x.roDue l)
    rw [exec_roStore_of_due h due, hro]
    refine ⟨_, rfl, storeOf_of_storedNv rfl rfl rfl rfl, objsKept_inc (by simp) x, ?_⟩
    rw [hnv]
    rfl
  case refine_3 => rw [exec_nvUserReset h, if_neg ne]
  case refine_4 =>
    obtain ⟨ro, hro⟩ := x.resetNv_reach l
    obtain ⟨b, hb, -⟩ := x.nv.putCopy_inUse ((x.inc O.nvStores).imageOf l [])
    obtain ⟨p, q, u, hnv⟩ := x.nv.putCopy_reach ((x.inc O.nvStores).imageOf l [])
    rw [exec_nvUserReset h, if_pos one, hro]
    refine ⟨_, b, _, rfl, hb, rfl, rfl, rfl, rfl, rfl, rfl, countedBy_inc x _, objsKept_inc (by simp) x, ?_⟩
    rw [hnv]
    rfl
  case refine_5 =>
    obtain ⟨os, n, reach⟩ := x.writeStage_reach off given
    have nv := x.stage_writeStage off given
    have objs := x.objs_writeStage off given
    rw [← hdata] at nv
    refine ⟨_, exec_nvStage h off given, fun a => ?_, congrArg NvSt.stageLen nv, congrArg NvSt.checkSpoilt nv, ?_, fun o ho => ?_, ?_, ?_⟩
    · rw [congrArg NvSt.stage nv]
      exact memRead_memWriteAll _ off a data
    · rw [Lane.obj, objs]
      split
      next checks => exact checks
      next => exact Lane.obj_setObj _ _ _
    · rw [Lane.obj, objs]
      split
      next => rfl
      next => exact x.obj_setObj_of_ne _ fun e => ho (e ▸ List.mem_singleton_self _)
    · rw [reach]
    · rw [nv]
  case refine_6 => rw [exec_nvStageCheck h, if_neg ne]
  case refine_7 =>
    rw [exec_nvStageCheck h, if_pos one]
    rfl
  case refine_8 =>
    by_cases spoilt : x.nv.checkSpoilt = true
    · refine ⟨_, exec_nvStageCheckDone_of_spoilt h checks spoilt, ?_, ?_, fun _ whole => absurd (whole.symm.trans spoilt) (by decide),
        objsKept_setObj (by simp) x _, rfl⟩
      · rw [Lane.obj_setObj, if_neg (by simp [spoilt])]
      · rw [x.obj_setObj_of_ne _ (by decide), if_pos spoilt]
    · have whole : x.nv.checkSpoilt = false := Bool.eq_false_iff.mpr spoilt
      refine ⟨_, exec_nvStageCheckDone_of_judged h checks whole, ?_, ?_, fun magic _ => ?_,
        (objsKept_setObj (by simp) x _).trans (objsKept_setObj (by simp) _ _), rfl⟩
      · rw [Lane.obj_setObj_of_ne _ _ (by decide), Lane.obj_setObj]
        simp [whole]
      · rw [Lane.obj_setObj, if_neg spoilt]
      · rw [Lane.obj_setObj, Lane.judgeStage_of_magic magic]
  case refine_9 => rw [exec_voteStatusReset h, if_neg ne]
  case refine_10 =>
    rw [exec_voteStatusReset h, if_pos zero]
    refine ⟨_, rfl, Lane.obj_setObj _ _ _, Vector.getElem_set_self _, fun m hm => ?_,
      objsKept_setObj (o := O.voteStatus n) (by simp) x _, rfl⟩
    exact Vector.getElem_set_ne n.isLt _ (fun e => hm (Fin.ext e.symm))
  case refine_11 =>
    have hexec := exec_counterReset_of_passed h hkey pass zero
    refine ⟨fun e => ?_, fun e => ?_, fun e => ?_, fun e => ?_, fun k e => ?_⟩ <;> rw [hexec]
    · rw [Lane.resetCounter, if_pos e]
    · rw [Lane.resetCounter, if_neg (e ▸ by decide), if_pos e]
    · rw [Lane.resetCounter, if_neg (e ▸ by decide), if_neg (e ▸ by decide), if_pos e]
    · rw [Lane.resetCounter, if_neg (e ▸ by decide), if_neg (e ▸ by decide), if_neg (e ▸ by decide), if_pos (by simp [e]), e]
      rw [e] at zero
      rw [x.storeValue_of_zeroPeak zeroPeak_vLinkPeak zero]
    · rw [e, x.resetCounter_commitLatMax]
      rw [e] at zero
      rw [x.storeValue_of_zeroPeak (zeroPeak_commitLatMax k) zero]

end Sys2Proof.Machine
end

section
/-!
SUPPORT. The judgement of a peer's frame (R41), the slew of lane time, and the Time frames (R38).
-/
namespace Sys2Proof.Machine

theorem PeerSt.judge_of_ok {p : PeerSt} {reload no : Nat} (ok : (checkFrame reload no p.got).ok = true) :
    (p.judge reload no).1.last = p.got.map (fun g => g.1) ∧ (p.judge reload no).1.heard = true ∧
    (p.judge reload no).1.now = p.got.map (fun g => g.1) ∧ (p.judge reload no).1.failed = 0 := by
  simp [PeerSt.judge, ok]

theorem PeerSt.judge_of_not_ok {p : PeerSt} {reload no : Nat} (bad : (checkFrame reload no p.got).ok = false) :
    (p.judge reload no).1.last = p.last ∧ (p.judge reload no).1.now = none ∧ (p.judge reload no).1.failed = p.failed + 1 := by
  simp [PeerSt.judge, bad]

theorem natAbs_within_le (b : Nat) (v : Int) : (within b v).natAbs ≤ b := by
  unfold within
  omega

/-- The milliseconds from the last slew (R38). -/
def Lane.slewMs (x : Lane) : Nat := if x.smp.slewAt = 0 then 1 else (x.now - x.smp.slewAt) / 1000000

theorem Lane.natAbs_slewStep_le (x : Lane) : x.slewStep.natAbs ≤ 11 * x.slewMs := by
  unfold Lane.slewStep
  extract_lets ms os net mean
  have hms : ms = x.slewMs := rfl
  have far := natAbs_within_le (10 * ms) net
  have near := natAbs_within_le (10 * ms) mean
  have slow := natAbs_within_le ms net
  split <;> omega

@[simp] theorem Lane.updPeer_updPeer (x : Lane) (p : Peer) (f g : PeerSt → PeerSt) :
    (x.updPeer p f).updPeer p g = x.updPeer p fun q => g (f q) := by
  cases p <;> rfl

theorem Lane.peer_shiftTime (x : Lane) (d : Int) (p : Peer) :
    (x.shiftTime d).peer p = { x.peer p with offset := (x.peer p).offset - d } := by
  cases p <;> rfl

theorem Lane.slewTime_eq (x : Lane) : x.slewTime = { x with
    smp := { x.smp with slew := x.smp.slew + x.slewStep, slewAt := x.now }, net := x.net.shifted x.slewStep
    peerLo := { x.peerLo with offset := x.peerLo.offset - x.slewStep }
    peerHi := { x.peerHi with offset := x.peerHi.offset - x.slewStep } } := by
  unfold Lane.slewTime
  generalize x.slewStep = d
  rfl

/-- The link to a peer is read off the clock, the sample, the period of the steering stage and the end of what the link carries. -/
theorem Lane.linkStart_congr {x y : Lane} {p : Peer} (now : y.now = x.now) (free : (y.peer p).linkFree = (x.peer p).linkFree)
    (smp : y.smp = x.smp) (per : y.per .steer = x.per .steer) (bytes : Nat) : y.linkStart p bytes = x.linkStart p bytes := by
  simp only [Lane.linkStart, now, free, smp, per]

/-- A Time frame to a peer leaves at an instant (R38). -/
def Lane.sendTimeAt (me : LaneId) (x : Lane) (p : Peer) (at_ : Nat) : Lane :=
  { x.updPeer p fun q => { q with linkFree := at_ + birixNs 32, lastTimeTx := at_, prevTimeTx := q.lastTimeTx } with
    out := { x.out with
      starts := x.out.starts ++ [(p, at_)]
      times := x.out.times ++ [(p, ⟨BitVec.ofNat 8 (laneNo me), BitVec.ofNat 64 at_, BitVec.ofNat 64 (x.peer p).lastTimeRx,
        BitVec.ofNat 64 (x.peer p).lastTimeTx⟩)] } }

theorem Lane.sendTime_eq (me : LaneId) (x : Lane) (p : Peer) : Lane.sendTime me x p = Lane.sendTimeAt me x p (x.linkStart p 32) := by
  unfold Lane.sendTime Lane.takeLink Lane.sendTimeAt
  generalize x.linkStart p 32 = a
  cases p <;> rfl

/-- The frame to the higher peer leaves when it would without the one to the lower peer. -/
theorem Lane.sendTimes_eq (me : LaneId) (x : Lane) : bothPeers.foldl (Lane.sendTime me) x
    = Lane.sendTimeAt me (Lane.sendTimeAt me x .lo (x.linkStart .lo 32)) .hi (x.linkStart .hi 32) := by
  have start : ∀ a, (Lane.sendTimeAt me x .lo a).linkStart .hi 32 = x.linkStart .hi 32 := fun a => Lane.linkStart_congr rfl rfl rfl rfl 32
  rw [bothPeers, List.foldl_cons, List.foldl_cons, List.foldl_nil, Lane.sendTime_eq, Lane.sendTime_eq, start]

theorem Lane.peerLo_sendTimes (me : LaneId) (x : Lane) (a b : Nat) : (Lane.sendTimeAt me (Lane.sendTimeAt me x .lo a) .hi b).peerLo
    = { x.peerLo with linkFree := a + birixNs 32, lastTimeTx := a, prevTimeTx := x.peerLo.lastTimeTx } := rfl

theorem Lane.peerHi_sendTimes (me : LaneId) (x : Lane) (a b : Nat) : (Lane.sendTimeAt me (Lane.sendTimeAt me x .lo a) .hi b).peerHi
    = { x.peerHi with linkFree := b + birixNs 32, lastTimeTx := b, prevTimeTx := x.peerHi.lastTimeTx } := rfl

section
variable {s : State} {l : LaneId} {x : Lane}

theorem exec_timeFrameSend {t : Nat} (h : Sees s l t x) :
    exec (.timeFrameSend l t) s = .next (s.setLane l (if x.up = true then bothPeers.foldl (Lane.sendTime l) x.slewTime else x)) := by
  refine (onLaneAt_of_sees h _ : execTimeFrameSend l t s = _).trans ?_
  cases x.up <;> rfl

/-- A Time frame counts: its end and its CRC are good, and it comes from the peer it names (R35). -/
def Lane.timeOk (x : Lane) (me : LaneId) (rx : BirixRx) (f : TimeFrame) : Prop :=
  x.up = true ∧ rx.fin.isSome = true ∧ rx.crc = crc32 (timeBytes f) ∧ bits f.source.toNat 0 2 = laneNo (peerId me rx.peer)

theorem exec_timeFrame_of_bad {rx : BirixRx} {f : TimeFrame} (h : Sees s l (rx.fin.getD rx.start) x) (bad : ¬ x.timeOk l rx f) :
    exec (.timeFrame l rx f) s = .next (s.setLane l x) := by
  refine (onLaneAt_of_sees h _ : execTimeFrame l rx f s = _).trans ?_
  refine congrArg (fun y => Host.Outcome.next (s.setLane l y)) (if_pos ?_)
  simp only [Lane.timeOk, not_and_or] at bad
  rcases bad with down | cut | crc | other
  · simp [down]
  · simp [Option.not_isSome_iff_eq_none.mp cut]
  · simp [crc]
  · simp [other]

/-- The offset and the round trip of a Time frame by its four instants (R38). -/
def PeerSt.measured (q : PeerSt) (t1 t2 t3 t4 : Int) : PeerSt :=
  { q with roundTrip := ((t4 - t1) - (t3 - t2)).toNat, offset := roundDiv ((t2 - t1) + (t3 - t4)) 2 }

theorem exec_timeFrame_of_ok {rx : BirixRx} {f : TimeFrame} {t1 t2 t3 t4 : Int} (h : Sees s l (rx.fin.getD rx.start) x)
    (ok : x.timeOk l rx f) (h1 : t1 = (x.peer rx.peer).timeTxOf t2 t3 t4) (h2 : t2 = f.lastRx.toNat) (h3 : t3 = f.sendTime.toNat)
    (h4 : t4 = rx.start) : exec (.timeFrame l rx f) s = .next (s.setLane l (if t1 = 0 ∨ t2 = 0
      then x.updPeer rx.peer fun q => { q with lastTimeRx := rx.start }
      else (x.updPeer rx.peer fun q => { q with lastTimeRx := rx.start }.measured t1 t2 t3 t4).setTime rx.peer)) := by
  obtain ⟨up, whole, crc, names⟩ := ok
  refine (onLaneAt_of_sees h _ : execTimeFrame l rx f s = _).trans ?_
  refine congrArg (fun y => Host.Outcome.next (s.setLane l y)) ((if_neg ?_).trans ?_)
  · simp [up, crc, names, ← Option.not_isSome, whole]
  · dsimp only
    rw [← h2, ← h3, ← h4, ← h1]
    simp only [Bool.or_eq_true, decide_eq_true_eq, Lane.updPeer_updPeer]
    rfl

/-- A frame sets lane time (R38): it runs at the peer's from then on, with the time of the network as far from it. -/
def Lane.timeSetFrom (x : Lane) (p : Peer) : Lane :=
  { x.shiftTime (x.peer p).offset with smp := { (x.shiftTime (x.peer p).offset).smp with timeSet := true } }

theorem Lane.peer_timeSetFrom (x : Lane) (p : Peer) : (x.timeSetFrom p).peer p = { x.peer p with offset := 0 } :=
  (x.peer_shiftTime (x.peer p).offset p).trans (by rw [sub_self])

theorem Lane.smp_timeSetFrom (x : Lane) (p : Peer) :
    (x.timeSetFrom p).smp = { x.smp with timeSet := true, slew := x.smp.slew + (x.peer p).offset } := rfl

theorem Lane.net_timeSetFrom (x : Lane) (p : Peer) : (x.timeSetFrom p).net = x.net.shifted (x.peer p).offset := rfl

theorem Lane.setTime_of_kept {p : Peer} (kept : x.smp.timeSet = true ∨ (x.peer p).claims = false) : x.setTime p = x :=
  if_pos (by simpa using kept)

theorem Lane.setTime_of_set {p : Peer} (unset : x.smp.timeSet = false) (claims : (x.peer p).claims = true) :
    x.setTime p = x.timeSetFrom p :=
  if_neg (by simp [unset, claims])

end

/-- Settles O18: a frame by its four checks, the Time frames that leave by the two that a fold over the peers sends, and one that comes by its
four instants. -/
theorem peerFramesAreJudgedAndTimeFramesTaken : Obligations.PeerFramesAreJudgedAndTimeFramesTaken := by
  refine ⟨fun p reload no => ?_, fun s l t x z h up hz => ?_, fun s l t x h down => ?_, ?_, fun s l rx f x h bad => ?_⟩
  · refine ⟨?_, fun ok => ?_, PeerSt.judge_of_not_ok, rfl⟩
    · cases ok : (checkFrame reload no p.got).ok with
      | true => simp [(PeerSt.judge_of_ok ok).2.2.2]
      | false => simp [(PeerSt.judge_of_not_ok ok).2.2]
    · obtain ⟨last, heard, now, -⟩ := PeerSt.judge_of_ok ok
      exact ⟨last, heard, now⟩
  · rw [exec_timeFrameSend h, if_pos up, ← hz, Lane.sendTimes_eq]
    generalize ha : z.linkStart .lo 32 = a
    generalize hb : z.linkStart .hi 32 = b
    have bound := x.natAbs_slewStep_le
    rw [Lane.slewTime_eq] at hz
    generalize x.slewStep = d at *
    subst hz
    refine ⟨_, rfl, List.append_assoc _ _ _, rfl, rfl, fun p => ?_, bound, rfl⟩
    cases p
    · rw [ha]
      exact Lane.peerLo_sendTimes l _ a b
    · rw [hb]
      exact Lane.peerHi_sendTimes l _ a b
  · rw [exec_timeFrameSend h, if_neg (by simp [down])]
  · intro s l rx f x t1 t2 t3 t4 off rt h up whole crc names h1 h2 h3 h4 hrt hoff
    have hexec := exec_timeFrame_of_ok h ⟨up, whole, crc, names⟩ h1 h2 h3 h4
    refine ⟨fun sent heard kept => ?_, fun sent heard unset claims => ?_, fun unheard => ?_⟩
    · rw [hexec, if_neg (by simp [sent, heard]), Lane.setTime_of_kept (by simpa [PeerSt.claims, PeerSt.measured] using kept)]
      simp [PeerSt.measured, hrt, hoff]
    · rw [hexec, if_neg (by simp [sent, heard]),
        Lane.setTime_of_set (by simpa using unset) (by simpa [PeerSt.claims, PeerSt.measured] using claims)]
      generalize rx.peer = p at *
      refine ⟨_, rfl, ?_, ?_, ?_, ?_, ?_⟩
      · simp [Lane.peer_timeSetFrom]
      · simp [Lane.peer_timeSetFrom, PeerSt.measured, hrt]
      · simp [Lane.peer_timeSetFrom, PeerSt.measured]
      · simp [Lane.smp_timeSetFrom, PeerSt.measured, hoff]
      · simp [Lane.net_timeSetFrom, PeerSt.measured, hoff]
    · rw [hexec, if_pos unheard]
  · exact exec_timeFrame_of_bad h fun ⟨up, whole, crc, names⟩ => by
      rcases bad with b | b | b | b
      · simp [b] at up
      · simp [b] at whole
      · exact b crc
      · exact b names

end Sys2Proof.Machine
end

section
/-!
SUPPORT. The off-state diagnostics of the stages (R264): each stage's step reads and changes that stage alone, so that all of them together
do what each does.
-/
namespace Sys2Proof.Machine

theorem nodup_allStages : allStages.Nodup := by decide

/-- A fold over different stages, of steps that change one stage each, leaves each stage as its own step does. -/
theorem Lane.stg_foldl_local {step : Lane → Stage → Lane} {next : Lane → Stage → StageSt} (own : ∀ l st, (step l st).stg st = next l st)
    (other : ∀ l st q, q ≠ st → (step l st).stg q = l.stg q) (apart : ∀ l st q, q ≠ st → next (step l st) q = next l q) {as : List Stage}
    (nodup : as.Nodup) (l : Lane) (st : Stage) : (as.foldl step l).stg st = if st ∈ as then next l st else l.stg st := by
  induction as generalizing l with
  | nil => rfl
  | cons a as ih =>
    obtain ⟨fresh, nodup⟩ := List.nodup_cons.mp nodup
    rw [List.foldl_cons, ih nodup]
    by_cases h : st = a
    · subst h
      rw [if_neg fresh, if_pos List.mem_cons_self, own]
    · rw [apart _ _ _ h, other _ _ _ h]
      simp [h]

/-- An update of every stage. -/
theorem Lane.stg_updStages (f : StageSt → StageSt) (l : Lane) (st : Stage) :
    (allStages.foldl (fun l st => l.updStg st f) l).stg st = f (l.stg st) :=
  (Lane.stg_foldl_local (next := fun l st => f (l.stg st)) (fun l st => l.stg_updStg st f) (fun l st q h => l.stg_updStg_of_ne st q f h)
    (fun l st q h => congrArg f (l.stg_updStg_of_ne st q f h)) nodup_allStages l st).trans (if_pos (mem_allStages st))

/-- A stage after its step of the diagnostics (R264). -/
def Lane.diagNext (l : Lane) (st : Stage) : StageSt :=
  if l.diagStarts st then { l.stg st with diagRun := true, diagFrom := l.now }
  else if (l.stg st).diagRun && !l.diagMet st then { l.stg st with diagRun := false } else l.stg st

theorem Lane.stg_diagStep (l : Lane) (st : Stage) : (l.diagStep st).stg st = l.diagNext st := by
  unfold Lane.diagStep Lane.diagNext
  split
  · exact Lane.stg_updStg ..
  split
  · exact Lane.stg_updStg ..
  · rfl

theorem Lane.stg_diagStep_of_ne (l : Lane) (st q : Stage) (h : q ≠ st) : (l.diagStep st).stg q = l.stg q := by
  unfold Lane.diagStep
  split
  · exact Lane.stg_updStg_of_ne _ _ _ _ h
  split
  · exact Lane.stg_updStg_of_ne _ _ _ _ h
  · rfl

theorem Lane.updStg_only (l : Lane) (st : Stage) (f : StageSt → StageSt) : ∃ a b, l.updStg st f = { l with steer := a, brakes := b } := by
  cases st <;> exact ⟨_, _, rfl⟩

theorem Lane.diagStep_only (l : Lane) (st : Stage) : ∃ a b, l.diagStep st = { l with steer := a, brakes := b } := by
  unfold Lane.diagStep
  split
  · exact l.updStg_only st _
  split
  · exact l.updStg_only st _
  · exact ⟨_, _, rfl⟩

/-- The next step of a stage is read off the stage, its precondition, the variant and the clock. -/
theorem Lane.diagNext_congr {x z : Lane} {st : Stage} (stg : z.stg st = x.stg st) (met : z.diagMet st = x.diagMet st)
    (has : z.hasStage st = x.hasStage st) (now : z.now = x.now) : z.diagNext st = x.diagNext st := by
  simp only [Lane.diagNext, Lane.diagStarts, stg, met, has, now]

theorem Lane.diagNext_diagStep_of_ne (l : Lane) (st q : Stage) (h : q ≠ st) : (l.diagStep st).diagNext q = l.diagNext q := by
  have stg := l.stg_diagStep_of_ne st q h
  obtain ⟨a, b, only⟩ := l.diagStep_only st
  rw [only] at stg ⊢
  cases q <;> exact Lane.diagNext_congr stg rfl rfl rfl

theorem Lane.stg_showDiag (l : Lane) (st : Stage) : l.showDiag.stg st = l.stg st := by
  cases st <;> rfl

theorem Lane.stg_diagStart (l : Lane) (st : Stage) : l.diagStart.stg st = l.diagNext st :=
  calc l.diagStart.stg st = (allStages.foldl Lane.diagStep l).stg st := Lane.stg_showDiag _ st
    _ = if st ∈ allStages then l.diagNext st else l.stg st :=
      Lane.stg_foldl_local Lane.stg_diagStep Lane.stg_diagStep_of_ne Lane.diagNext_diagStep_of_ne nodup_allStages l st
    _ = l.diagNext st := if_pos (mem_allStages st)

/-- The diagnostics start and end: beside that, a stage stays as it is. -/
theorem Lane.diagNext_eq (l : Lane) (st : Stage) :
    l.diagNext st = { l.stg st with diagRun := (l.diagNext st).diagRun, diagFrom := (l.diagNext st).diagFrom } := by
  unfold Lane.diagNext
  split
  · rfl
  split
  · rfl
  · rfl

/-- The steps of the diagnostics change stages alone. -/
theorem Lane.diagSteps_only (l : Lane) : ∃ a b, allStages.foldl Lane.diagStep l = { l with steer := a, brakes := b } :=
  List.foldlRecOn (motive := fun m => ∃ a b, m = { l with steer := a, brakes := b }) allStages _ ⟨_, _, rfl⟩ fun m hm st _ => by
    obtain ⟨_, _, rfl⟩ := hm
    exact Lane.diagStep_only _ st

/-- The diagnostics change stages and bit 13 of GD_STAT alone. -/
theorem Lane.diagStart_only (l : Lane) : ∃ a b c, l.diagStart = { l.setRbit Rg.gdStat 13 c with steer := a, brakes := b } := by
  obtain ⟨a, b, only⟩ := l.diagSteps_only
  unfold Lane.diagStart
  rw [only]
  exact ⟨a, b, _, rfl⟩

/-- The diagnostics of a lane with the stages `g` and what else they read as in `x`. -/
theorem diagRuns_diagStart {x z : Lane} {g : Stage → StageSt} (stg : ∀ st, z.stg st = g st) (met : ∀ st, z.diagMet st = x.diagMet st)
    (has : ∀ st, z.hasStage st = x.hasStage st) (now : z.now = x.now) : DiagRuns x g z.diagStart where
  stages st := by rw [z.stg_diagStart, ← stg]; exact z.diagNext_eq st
  runs st := by
    rw [z.stg_diagStart]
    simp only [Lane.diagNext, Lane.diagStarts, stg, met, has]
    cases run : (g st).diagRun <;> cases m : x.diagMet st <;> split <;> simp_all
  since st := by
    rw [z.stg_diagStart]
    simp only [Lane.diagNext, Lane.diagStarts, stg, met, has, now]
    split
    · simp_all
    split <;> simp_all
  shown := by
    have bit : z.diagStart.rbit Rg.gdStat 13 = allStages.any fun st => (z.diagStart.stg st).diagRun := by
      simp only [Lane.diagStart, Lane.stg_showDiag]
      exact Lane.rbit_setRbit _ Rg.gdStat _ (by decide)
    rw [bit, List.any_eq_true]
    exact ⟨fun ⟨st, _, run⟩ => ⟨st, run⟩, fun ⟨st, run⟩ => ⟨st, mem_allStages st, run⟩⟩

end Sys2Proof.Machine
end

section
/-!
SUPPORT. What E1's work can change (R122 to R154): the lane's counters, registers, power stages, mailboxes and loops.
-/
namespace Sys2Proof.Machine

/-- `y` is `x` but for what E1 can change. -/
def E1Reach (x y : Lane) : Prop :=
  ∃ os rs a b e m, y = { x with objs := os, regs := rs, steer := a, brakes := b, eng := e, mx := m }

theorem E1Reach.refl (x : Lane) : E1Reach x x := ⟨_, _, _, _, _, _, rfl⟩

theorem E1Reach.trans {x y z : Lane} : E1Reach x y → E1Reach y z → E1Reach x z := by
  rintro ⟨_, _, _, _, _, _, rfl⟩ ⟨os, rs, a, b, e, m, rfl⟩
  exact ⟨os, rs, a, b, e, m, rfl⟩

theorem E1Reach.foldl {α : Type} {f : Lane → α → Lane} (h : ∀ x a, E1Reach x (f x a)) (as : List α) (x : Lane) : E1Reach x (as.foldl f x) :=
  List.foldlRecOn as f (E1Reach.refl x) fun _ hy a _ => hy.trans (h _ a)

theorem E1Reach.ite {c : Prop} [Decidable c] {x y z : Lane} (hy : E1Reach x y) (hz : E1Reach x z) : E1Reach x (if c then y else z) := by
  split
  · exact hy
  · exact hz

theorem e1Reach_setObj (x : Lane) (o : O.Obj) (v : Nat) : E1Reach x (x.setObj o v) := ⟨_, _, _, _, _, _, rfl⟩
theorem e1Reach_setReg (x : Lane) (r : Rg.Reg) (v : Nat) : E1Reach x (x.setReg r v) := ⟨_, _, _, _, _, _, rfl⟩
theorem e1Reach_setFld (x : Lane) (r : Rg.Reg) (i w v : Nat) : E1Reach x (x.setFld r i w v) := ⟨_, _, _, _, _, _, rfl⟩
theorem e1Reach_updLoop (x : Lane) (k : Fin 9) (f : LoopSt → LoopSt) : E1Reach x (x.updLoop k f) := ⟨_, _, _, _, _, _, rfl⟩
theorem e1Reach_withMx (x : Lane) (m : MxSt) : E1Reach x { x with mx := m } := ⟨_, _, _, _, _, _, rfl⟩

theorem e1Reach_raiseBit (x : Lane) (r : Rg.Reg) (i : Nat) (b : Bool) : E1Reach x (x.raiseBit r i b) :=
  .ite (e1Reach_setFld ..) (.refl x)

theorem e1Reach_updStg (x : Lane) (st : Stage) (f : StageSt → StageSt) : E1Reach x (x.updStg st f) := by
  cases st <;> exact ⟨_, _, _, _, _, _, rfl⟩

theorem e1Reach_incBy (x : Lane) (o : O.Obj) (n : Nat) : E1Reach x (x.incBy o n) := by
  rw [Lane.incBy_only]
  exact ⟨_, _, _, _, _, _, rfl⟩

theorem e1Reach_setSpecValid (x : Lane) (k : Fin 9) (b : Bool) : E1Reach x (x.setSpecValid k b) := ⟨_, _, _, _, _, _, rfl⟩

theorem e1Reach_squash (x : Lane) (k : Fin 9) (cause : Nat) : E1Reach x (x.squash k cause) := by
  unfold Lane.squash
  extract_lets a b
  have ha : E1Reach x a := (e1Reach_updLoop x k _).trans (e1Reach_setFld _ _ _ _ _)
  have hb : E1Reach x b := ha.trans ((e1Reach_setObj a _ _).trans (e1Reach_setObj _ _ _))
  exact .ite (hb.trans (e1Reach_setFld b _ _ _ _)) hb

theorem e1Reach_beginEntry (x : Lane) (k : Fin 9) (e : EntryKind) : E1Reach x (x.beginEntry k e) := ⟨_, _, _, _, _, _, rfl⟩

theorem e1Reach_endEntry (x : Lane) (k : Fin 9) : E1Reach x (x.endEntry k) := .ite (e1Reach_beginEntry x k _) ⟨_, _, _, _, _, _, rfl⟩

theorem e1Reach_place (x : Lane) (st : Stage) (count : Nat) (set : LgSet) : E1Reach x (x.place st count set) := by
  unfold Lane.place
  exact ((e1Reach_setReg x _ _).trans (e1Reach_raiseBit _ _ _ _)).trans (e1Reach_updStg _ st _)

theorem e1Reach_settle (x : Lane) (st : Stage) (t : Nat) : E1Reach x (x.settle st t) := by
  unfold Lane.settle
  split
  · exact .ite ((e1Reach_updStg x st _).trans (e1Reach_place _ st _ _)) (.refl x)
  · exact .refl x

theorem e1Reach_commitVolts (x : Lane) (st : Stage) (at_ : Nat) (u : List Nat) : E1Reach x (x.commitVolts st at_ u) := by
  unfold Lane.commitVolts
  extract_lets p v ds n a b c d set
  have hb : E1Reach x b := (e1Reach_setFld x _ _ _ _).trans (.foldl (fun y _ => e1Reach_setReg y _ _) (List.range 3) a)
  have hc : E1Reach b c := (e1Reach_raiseBit b _ _ _).trans (e1Reach_incBy _ _ _)
  have hd : E1Reach c d := (e1Reach_setFld c _ _ _ _).trans (e1Reach_settle _ st _)
  exact ((hb.trans (hc.trans hd)).trans (e1Reach_updStg d st _)).trans (e1Reach_settle _ st _)

theorem e1Reach_commitE1 (x : Lane) (k : Fin 9) (dq : Bool) (src : Nat) : E1Reach x (x.commitE1 k dq src) := by
  unfold Lane.commitE1
  exact ((((e1Reach_commitVolts x _ _ _).trans (e1Reach_setObj _ _ _)).trans (e1Reach_setObj _ _ _)).trans
    (.ite (e1Reach_setObj _ _ _) (.refl _))).trans (e1Reach_updLoop _ k _)

theorem e1Reach_mvm (x : Lane) (k : Fin 9) (acc wb : Bool) (mat src dst : Nat) : E1Reach x (x.mvm k acc wb mat src dst) :=
  .ite ((e1Reach_incBy x _ _).trans (e1Reach_updLoop _ k _)) ((e1Reach_incBy x _ _).trans (e1Reach_updLoop _ k _))

theorem e1Reach_tube (x : Lane) (k : Fin 9) (n tub src : Nat) : E1Reach x (x.tube k n tub src) :=
  .ite (.refl x) (.ite (e1Reach_setSpecValid x k _)
    (((e1Reach_setObj x _ _).trans (e1Reach_squash _ k _)).trans (e1Reach_beginEntry _ k _)))

theorem e1Reach_mbxSend (x : Lane) (s d w : Nat) : E1Reach x (x.mbxSend s d w) := by
  unfold Lane.mbxSend Lane.mbxArrive
  exact .ite ⟨_, _, _, _, _, _, rfl⟩ (.ite ⟨_, _, _, _, _, _, rfl⟩ ⟨_, _, _, _, _, _, rfl⟩)

theorem e1Reach_postWord (x : Lane) (k : Fin 9) (eng src : Nat) : E1Reach x (x.postWord k eng src) :=
  .ite (.refl x) (.ite (e1Reach_setObj x _ _) (e1Reach_mbxSend x 1 eng _))

theorem e1Reach_vecOp (x : Lane) (k : Fin 9) (wrap : Bool) (f : Int → Int → Int) (n src dst : Nat) :
    E1Reach x (x.vecOp k wrap f n src dst) := by
  unfold Lane.vecOp
  exact (e1Reach_incBy x _ _).trans (e1Reach_updLoop _ k _)

theorem e1Reach_satVec (x : Lane) (k : Fin 9) (n sh dst : Nat) : E1Reach x (x.satVec k n sh dst) := by
  unfold Lane.satVec
  exact (e1Reach_incBy x _ _).trans (e1Reach_updLoop _ k _)

theorem e1Reach_e1op (x : Lane) (k : Fin 9) (i : E1Ins) : E1Reach x (x.e1op k i) := by
  cases i with
  | endI => exact e1Reach_endEntry x k
  | mvm acc wb mat src dst => exact e1Reach_mvm x k acc wb _ _ _
  | vadd wrap copy len src dst => exact .ite (e1Reach_updLoop x k _) (e1Reach_vecOp x k wrap _ _ _ _)
  | vsub wrap len src dst => exact e1Reach_vecOp x k wrap _ _ _ _
  | sat len sh dst => exact e1Reach_satVec x k _ _ _
  | tube len tub src => exact e1Reach_tube x k _ _ _
  | prep dq src => exact (e1Reach_updLoop x k _).trans (e1Reach_setSpecValid _ k _)
  | commit dq src => exact e1Reach_commitE1 x k dq _
  | post eng src => exact e1Reach_postWord x k _ _
  | lim | sel | ld | st | ldc => exact ⟨_, _, _, _, _, _, rfl⟩

theorem e1Reach_e1 (x : Lane) (i : E1Ins) : E1Reach x (x.e1 i) := by
  unfold Lane.e1
  split
  · exact .refl x
  next k _ => exact (e1Reach_updLoop x k _).trans (e1Reach_e1op _ k i)

theorem e1Reach_stepProgram (x : Lane) (k : Fin 9) (pc : Nat) (i : E1Ins) : E1Reach x (x.stepProgram k pc i) :=
  .ite (e1Reach_e1 x i) ((e1Reach_e1 x i).trans (e1Reach_withMx _ _))

theorem e1Reach_beginRun (x : Lane) (k : Fin 9) (start due : Nat) : E1Reach x (x.beginRun k start due) :=
  have begun : E1Reach x _ := .ite (e1Reach_squash x k _) (.ite (.refl x) (e1Reach_updLoop x k LoopSt.discard))
  (begun.trans (e1Reach_updLoop _ k _)).trans (e1Reach_beginEntry _ k _)

theorem e1Reach_beginWork (x : Lane) (w : E1Due) (start : Nat) : E1Reach x (x.beginWork w start) :=
  have waits := e1Reach_withMx x { x.mx with waiting := x.mx.waiting.filter fun v => v ≠ w }
  (waits.trans (.ite ((e1Reach_updLoop _ 0 _).trans (e1Reach_beginEntry _ 0 _)) (e1Reach_beginRun _ w.loop _ _))).trans (e1Reach_withMx _ _)

theorem e1Reach_e1Turn {x y : Lane} {t : Nat} (h : x.e1Turn t = some y) : E1Reach x y := by
  unfold Lane.e1Turn at h
  split at h
  next =>
    obtain ⟨-, h⟩ := Option.ite_none_right_eq_some.mp h
    cases h
    exact e1Reach_stepProgram x _ _ _
  next =>
    split at h
    next w _ =>
      obtain ⟨-, h⟩ := Option.ite_none_right_eq_some.mp h
      cases h
      exact e1Reach_beginWork x w _
    next => cases h
  next => cases h

theorem e1Reach_e1Turns (t f : Nat) (x : Lane) : E1Reach x (Lane.e1Turns t f x) := by
  induction f generalizing x with
  | zero => exact .refl x
  | succ f ih =>
    unfold Lane.e1Turns
    split
    next y h => exact (e1Reach_e1Turn h).trans (ih y)
    next => exact .refl x

theorem e1Reach_e1Until (x : Lane) (t : Nat) : E1Reach x (x.e1Until t) := e1Reach_e1Turns t _ x

end Sys2Proof.Machine
end

section
/-!
SUPPORT. The module's part of a t5 (R41 to R63): what its steps leave of the sample's frames and of the stop required, and the counts of the
claiming lanes' frames in which it ends.
-/
namespace Sys2Proof.Machine

/-- What R41 makes of a peer's frame of a sample: the frame that waits for t5, the one that passed, and the run of failures. -/
def PeerSt.frames (p : PeerSt) : Option (ExchFrame × BirixRx) × Option ExchFrame × Nat := (p.got, p.now, p.failed)

theorem PeerSt.frames_judge (p : PeerSt) (reload no : Nat) : (p.judge reload no).1.frames
    = (none, if (checkFrame reload no p.got).ok = true then p.got.map (fun g => g.1) else none,
        if (checkFrame reload no p.got).ok = true then 0 else p.failed + 1) := rfl

theorem PeerSt.frames_notePeriod (q : PeerSt) : q.notePeriod.frames = q.frames := by
  unfold PeerSt.notePeriod
  split <;> rfl

/-- A step of t5 leaves the clock, the sample, the peers' frames as they were judged, and since when a stop is required. -/
structure CheckKept (x y : Lane) : Prop where
  clock : y.now = x.now
  number : y.smp.no = x.smp.no
  reload : y.smp.reloadAt = x.smp.reloadAt
  since : y.claim.stopFrom = x.claim.stopFrom
  frames : ∀ p, (y.peer p).frames = (x.peer p).frames

theorem CheckKept.refl (x : Lane) : CheckKept x x := ⟨rfl, rfl, rfl, rfl, fun _ => rfl⟩

theorem CheckKept.trans {x y z : Lane} (h : CheckKept x y) (k : CheckKept y z) : CheckKept x z :=
  ⟨k.clock.trans h.clock, k.number.trans h.number, k.reload.trans h.reload, k.since.trans h.since, fun p => (k.frames p).trans (h.frames p)⟩

theorem CheckKept.foldl {α : Type} {f : Lane → α → Lane} (h : ∀ x a, CheckKept x (f x a)) (as : List α) (x : Lane) :
    CheckKept x (as.foldl f x) :=
  List.foldlRecOn as f (CheckKept.refl x) fun _ hy a _ => hy.trans (h _ a)

theorem CheckKept.ite {c : Prop} [Decidable c] {x y z : Lane} (hy : CheckKept x y) (hz : CheckKept x z) : CheckKept x (if c then y else z) := by
  split
  · exact hy
  · exact hz

theorem CheckKept.setPeer {x y : Lane} (h : CheckKept x y) {p : Peer} {v : PeerSt} (same : v.frames = (x.peer p).frames) :
    CheckKept x (y.setPeer p v) := by
  refine ⟨by simp [h.clock], by simp [h.number], by simp [h.reload], by simp [h.since], fun q => ?_⟩
  have hq := h.frames q
  cases p <;> cases q
  · exact same
  · exact hq
  · exact hq
  · exact same

theorem checkKept_updPeer (x : Lane) (p : Peer) (f : PeerSt → PeerSt) (same : ∀ q, (f q).frames = q.frames) : CheckKept x (x.updPeer p f) :=
  (CheckKept.refl x).setPeer (same _)

theorem checkKept_setObj (x : Lane) (o : O.Obj) (v : Nat) : CheckKept x (x.setObj o v) := ⟨rfl, rfl, rfl, rfl, fun _ => rfl⟩

theorem checkKept_withDem (x : Lane) (d : DemandSt) : CheckKept x { x with dem := d } := ⟨rfl, rfl, rfl, rfl, fun _ => rfl⟩
theorem checkKept_withVotes (x : Lane) (v : Vector VoteIn 10) : CheckKept x { x with votes := v } := ⟨rfl, rfl, rfl, rfl, fun _ => rfl⟩
theorem checkKept_withUpd (x : Lane) (u : UpdSt) : CheckKept x { x with upd := u } := ⟨rfl, rfl, rfl, rfl, fun _ => rfl⟩

theorem checkKept_withClaim (x : Lane) {c : ClaimSt} (since : c.stopFrom = x.claim.stopFrom) : CheckKept x { x with claim := c } :=
  ⟨rfl, rfl, rfl, since, fun _ => rfl⟩

theorem checkKept_incIf (x : Lane) (o : O.Obj) (b : Bool) : CheckKept x (x.incIf o b) := .ite (checkKept_setObj x o _) (.refl x)

theorem checkKept_of_e1Reach {x y : Lane} : E1Reach x y → CheckKept x y := by
  rintro ⟨_, _, _, _, _, _, rfl⟩
  exact ⟨rfl, rfl, rfl, rfl, fun _ => rfl⟩

theorem checkKept_watchTerminals (x : Lane) (above : Bool) : CheckKept x (x.watchTerminals above) :=
  .ite ⟨rfl, rfl, rfl, rfl, fun _ => rfl⟩ (.ite ⟨rfl, rfl, rfl, rfl, fun _ => rfl⟩ ⟨rfl, rfl, rfl, rfl, fun _ => rfl⟩)

/-! The judgement of the frames (R41, R245, R429). -/

/-- A peer after the judgement of its frame. -/
def Lane.judgedPeer (x : Lane) (p : Peer) : PeerSt := ((x.peer p).judge x.smp.reloadAt x.smp.no).1.notePeriod

theorem checkKept_noteAlign (x : Lane) (p : Peer) (f : Option ExchFrame) : CheckKept x (x.noteAlign p f) := by
  cases f with
  | none => exact .refl x
  | some f =>
    unfold Lane.noteAlign
    exact checkKept_updPeer x p _ fun _ => rfl

theorem checkKept_endAside (x : Lane) : CheckKept x x.endAside := by
  unfold Lane.endAside
  exact .ite (.refl x) (.ite ⟨rfl, rfl, rfl, rfl, fun _ => rfl⟩ ⟨rfl, rfl, rfl, rfl, fun _ => rfl⟩)

theorem checkKept_endAsideForPeer (x : Lane) : CheckKept x x.endAsideForPeer := by
  unfold Lane.endAsideForPeer
  extract_lets _ y
  have hy : CheckKept x y := .ite (.refl x) ((checkKept_withUpd x _).trans (checkKept_setObj _ _ _))
  exact hy.trans (checkKept_endAside y)

theorem checkKept_judgeFrame (x : Lane) (p : Peer) : CheckKept (x.setPeer p (x.judgedPeer p)) (x.judgeFrame p).1 :=
  (checkKept_noteAlign _ p _).trans (.ite (checkKept_endAsideForPeer _) (.refl _))

/-- What t5 makes of the frame of a peer that waits for it. -/
def Lane.framesAtT5 (x : Lane) (p : Peer) : Option (ExchFrame × BirixRx) × Option ExchFrame × Nat :=
  ((x.peer p).judge x.smp.reloadAt x.smp.no).1.frames

theorem Lane.frames_judgeFrame (x : Lane) (p : Peer) : ((x.judgeFrame p).1.peer p).frames = x.framesAtT5 p :=
  ((checkKept_judgeFrame x p).frames p).trans (by cases p <;> exact PeerSt.frames_notePeriod _)

theorem Lane.frames_judgeFrame_of_ne (x : Lane) {p q : Peer} (h : q ≠ p) : ((x.judgeFrame p).1.peer q).frames = (x.peer q).frames :=
  ((checkKept_judgeFrame x p).frames q).trans (by cases p <;> cases q <;> first | rfl | exact absurd rfl h)

theorem Lane.framesAtT5_congr {x y : Lane} {p : Peer} (number : y.smp.no = x.smp.no) (reload : y.smp.reloadAt = x.smp.reloadAt)
    (frames : (y.peer p).frames = (x.peer p).frames) : y.framesAtT5 p = x.framesAtT5 p := by
  simp only [PeerSt.frames, Prod.mk.injEq] at frames
  obtain ⟨got, -, failed⟩ := frames
  simp only [Lane.framesAtT5, PeerSt.frames_judge, number, reload, got, failed]

/-- Both frames of a t5 are judged as they stand before it. -/
theorem Lane.frames_judgeFrames (x : Lane) (p : Peer) : ((((x.judgeFrame .lo).1).judgeFrame .hi).1.peer p).frames = x.framesAtT5 p := by
  have lo := checkKept_judgeFrame x .lo
  cases p with
  | lo => rw [Lane.frames_judgeFrame_of_ne _ (by decide), Lane.frames_judgeFrame]
  | hi => rw [Lane.frames_judgeFrame, Lane.framesAtT5_congr (lo.number.trans (by simp)) (lo.reload.trans (by simp))
      (Lane.frames_judgeFrame_of_ne x (by decide))]

/-! The votes, verdicts and lines (R43 to R59). -/

theorem checkKept_markCut (me : LaneId) (x : Lane) (p : Peer) : CheckKept x (Lane.markCut me x p) := by
  unfold Lane.markCut
  exact checkKept_updPeer x p _ fun _ => rfl

theorem checkKept_voteInput (me : LaneId) (x : Lane) (n : Fin 10) : CheckKept x (Lane.voteInput me x n) := by
  unfold Lane.voteInput
  exact .ite (checkKept_withVotes x _) (((checkKept_withVotes x _).trans (checkKept_setObj _ _ _)).trans (checkKept_setObj _ _ _))

theorem checkKept_voteDemand (x : Lane) (me : LaneId) : CheckKept x (x.voteDemand me) := by
  unfold Lane.voteDemand
  extract_lets cs top v y adv
  exact (checkKept_incIf x _ _).trans (checkKept_withDem _ _)

theorem checkKept_votes (x : Lane) (me : LaneId) : CheckKept x (((x.voteSession me).voteAll me).voteDemand me) :=
  ((checkKept_withDem x _).trans (CheckKept.foldl (checkKept_voteInput me) _ _)).trans (checkKept_voteDemand _ me)

theorem checkKept_judgePeer (me : LaneId) (x : Lane) (p : Peer) (c : FrameChecks) : CheckKept x (Lane.judgePeer me x p c) := by
  unfold Lane.judgePeer
  extract_lets q ln dem many flags q' y declare faulty suspect kind con alone a b newConflict d
  have hy : CheckKept x y := (CheckKept.refl x).setPeer rfl
  have hd : CheckKept x d := ((hy.trans (checkKept_incIf y _ _)).trans (checkKept_incIf a _ _)).trans (checkKept_incIf b _ _)
  exact .ite (hy.setPeer rfl) (hd.setPeer rfl)

theorem checkKept_evictPeer (x : Lane) (p : Peer) : CheckKept x (x.evictPeer p) := by
  unfold Lane.evictPeer
  extract_lets q
  have out : CheckKept x (x.setPeer p { q with lineOut := true }) := (CheckKept.refl x).setPeer rfl
  exact .ite (out.trans (checkKept_setObj _ _ _)) (.refl x)

theorem checkKept_countAccusing (me : LaneId) (x : Lane) (p : Peer) : CheckKept x (Lane.countAccusing me x p) := by
  unfold Lane.countAccusing
  exact checkKept_updPeer x p _ fun _ => rfl

theorem checkKept_endExclusions (x : Lane) (ln : Nat) : CheckKept x (x.endExclusions ln) := by
  unfold Lane.endExclusions
  extract_lets y keep
  have hy : CheckKept x y := .foldl (fun y n => checkKept_setObj y (O.voteStatus n) _) (List.range 10) x
  exact hy.trans (checkKept_withClaim y rfl)

theorem checkKept_followRequal (me : LaneId) (x : Lane) (p : Peer) : CheckKept x (Lane.followRequal me x p) := by
  unfold Lane.followRequal
  extract_lets q run found y
  have hy : CheckKept x y := .ite (checkKept_endExclusions x _) (.refl x)
  exact .ite ((CheckKept.refl x).setPeer rfl) (hy.setPeer rfl)

theorem checkKept_planTrim (x : Lane) (me : LaneId) : CheckKept x (x.planTrim me) := ⟨rfl, rfl, rfl, rfl, fun _ => rfl⟩

/-- The lane at a t5 once the frames, votes, verdicts and lines are judged: the module state is taken from it. -/
def Lane.judgedModule (x : Lane) (me : LaneId) : Lane :=
  let a := x.judgeFrame .lo
  let b := a.1.judgeFrame .hi
  let l := Lane.markCut me (Lane.markCut me b.1 .lo) .hi
  let l := ((l.voteSession me).voteAll me).voteDemand me
  let l := Lane.judgePeer me (Lane.judgePeer me l .lo a.2) .hi b.2
  let l := (l.evictPeer .lo).evictPeer .hi
  let l := Lane.countAccusing me (Lane.countAccusing me l .lo) .hi
  (Lane.followRequal me (Lane.followRequal me l .lo) .hi).planTrim me

theorem Lane.checkModule_eq (x : Lane) (me : LaneId) : x.checkModule me = (x.judgedModule me).moduleState me := rfl

theorem checkKept_judgedModule (x : Lane) (me : LaneId) : CheckKept ((x.judgeFrame .lo).1.judgeFrame .hi).1 (x.judgedModule me) := by
  unfold Lane.judgedModule
  extract_lets a b c d e f g
  have hc : CheckKept b.1 c := (checkKept_markCut me _ .lo).trans (checkKept_markCut me _ .hi)
  have hd : CheckKept c d := checkKept_votes c me
  have he : CheckKept d e := (checkKept_judgePeer me _ .lo a.2).trans (checkKept_judgePeer me _ .hi b.2)
  have hf : CheckKept e f := (checkKept_evictPeer e .lo).trans (checkKept_evictPeer _ .hi)
  have hg : CheckKept f g := (checkKept_countAccusing me f .lo).trans (checkKept_countAccusing me _ .hi)
  have follow := (checkKept_followRequal me g .lo).trans (checkKept_followRequal me _ .hi)
  exact (((hc.trans hd).trans he).trans (hf.trans hg)).trans (follow.trans (checkKept_planTrim _ me))

theorem Lane.now_judgedModule (x : Lane) (me : LaneId) : (x.judgedModule me).now = x.now :=
  calc (x.judgedModule me).now = (x.judgeFrame .lo).1.now := (checkKept_judgedModule x me).clock.trans
        ((checkKept_judgeFrame _ .hi).clock.trans (Lane.setPeer_now ..))
    _ = x.now := (checkKept_judgeFrame x .lo).clock.trans (Lane.setPeer_now ..)

theorem Lane.stopFrom_judgedModule (x : Lane) (me : LaneId) : (x.judgedModule me).claim.stopFrom = x.claim.stopFrom :=
  calc (x.judgedModule me).claim.stopFrom = (x.judgeFrame .lo).1.claim.stopFrom := (checkKept_judgedModule x me).since.trans
        ((checkKept_judgeFrame _ .hi).since.trans (by rw [Lane.setPeer_claim]))
    _ = x.claim.stopFrom := (checkKept_judgeFrame x .lo).since.trans (by rw [Lane.setPeer_claim])

theorem Lane.frames_judgedModule (x : Lane) (me : LaneId) (p : Peer) : ((x.judgedModule me).peer p).frames = x.framesAtT5 p :=
  ((checkKept_judgedModule x me).frames p).trans (x.frames_judgeFrames p)

end Sys2Proof.Machine
end

section
/-!
SUPPORT. The module state at t5 (R60 to R63), the availability of a steering set that still drives after it (R95), and the check at t5 as
one step of a state.
-/
namespace Sys2Proof.Machine

/-- `y` is `x` but for objects. -/
def ObjsOnly (x y : Lane) : Prop := ∃ os, y = { x with objs := os }

theorem ObjsOnly.refl (x : Lane) : ObjsOnly x x := ⟨_, rfl⟩

theorem ObjsOnly.setObj {x y : Lane} : ObjsOnly x y → ∀ (o : O.Obj) (v : Nat), ObjsOnly x (y.setObj o v) := by
  rintro ⟨os, rfl⟩ o v
  exact ⟨_, rfl⟩

section
variable (z : Lane) (me : LaneId)

/-- The objects of the module state but for STOP_REQUIRED. -/
def Lane.moduleObjs : Lane :=
  let k := z.countLanes me
  let c := popLanes k.1
  let st := popLanes k.2.1
  let br := popLanes k.2.2
  let fs := (z.claimFrames me).filter fun x => bitOf x.2.capability.toNat 0
  let l := (((z.setObj O.moduleState c).setObj O.lanesClaiming k.1).setObj O.steerLanes k.2.1).setObj O.brakeLanes k.2.2
  let l := (l.setObj O.authorityFraction (authority st (fs.all fun x => bitOf x.2.status.toNat 5))).setObj O.speedLimitActive (l.speedMax c st br)
  if fs.isEmpty then l else l.setObj O.overdriveBudget (fs.foldl (fun m x => min m x.2.overdriveBudget.toNat) 0xFFFF)

/-- The claim with the time from which the stop stands, and whether the simplex stop time has passed since (R63). -/
def Lane.stopClock (need : Bool) : ClaimSt :=
  let from_ := if need then some (z.claim.stopFrom.getD z.now) else none
  let passed := match from_ with | some t0 => decide (t0 + 1000000 * z.obj O.simplexStopTime ≤ z.now) | none => false
  { z.claim with stopFrom := from_, stopDue := passed }

theorem objsOnly_moduleObjs : ObjsOnly z (z.moduleObjs me) := by
  unfold Lane.moduleObjs
  extract_lets k c st br fs a b
  have ha : ObjsOnly z a := ((((ObjsOnly.refl z).setObj _ _).setObj _ _).setObj _ _).setObj _ _
  have hb : ObjsOnly z b := (ha.setObj _ _).setObj _ _
  split
  · exact hb
  · exact hb.setObj _ _

theorem Lane.obj_moduleObjs_of_free {o : O.Obj} (free : o.key < 0x210001 ∨ 0x210008 < o.key) : (z.moduleObjs me).obj o = z.obj o := by
  unfold Lane.moduleObjs
  extract_lets k c st br fs a b
  have apart : ∀ {p : O.Obj}, 0x210001 ≤ p.key → p.key ≤ 0x210008 → o.key ≠ p.key := by omega
  have ha : a.obj o = z.obj o := by
    unfold a
    rw [Lane.obj_setObj_of_ne _ _ (apart (by decide) (by decide)), Lane.obj_setObj_of_ne _ _ (apart (by decide) (by decide)),
      Lane.obj_setObj_of_ne _ _ (apart (by decide) (by decide)), Lane.obj_setObj_of_ne _ _ (apart (by decide) (by decide))]
  have hb : b.obj o = z.obj o := by
    unfold b
    rw [Lane.obj_setObj_of_ne _ _ (apart (by decide) (by decide)), Lane.obj_setObj_of_ne _ _ (apart (by decide) (by decide)), ha]
  split
  · exact hb
  · rw [Lane.obj_setObj_of_ne _ _ (apart (by decide) (by decide)), hb]

theorem Lane.obj_moduleObjs_counts : (z.moduleObjs me).obj O.moduleState = popLanes (z.countLanes me).1 ∧
    (z.moduleObjs me).obj O.lanesClaiming = (z.countLanes me).1 ∧ (z.moduleObjs me).obj O.steerLanes = (z.countLanes me).2.1 ∧
    (z.moduleObjs me).obj O.brakeLanes = (z.countLanes me).2.2 := by
  unfold Lane.moduleObjs
  extract_lets k c st br fs a b
  have ha : a.obj O.moduleState = c ∧ a.obj O.lanesClaiming = k.1 ∧ a.obj O.steerLanes = k.2.1 ∧ a.obj O.brakeLanes = k.2.2 := by
    unfold a
    simp (disch := decide) only [Lane.obj_setObj_of_ne, Lane.obj_setObj, and_self]
  have later : ∀ {o : O.Obj}, o.key < 0x210005 → b.obj o = a.obj o := fun low => by
    unfold b
    rw [Lane.obj_setObj_of_ne _ _ (low.trans (by decide)).ne, Lane.obj_setObj_of_ne _ _ low.ne]
  have last : ∀ {o : O.Obj}, o.key < 0x210005 → (if fs.isEmpty = true then b else b.setObj O.overdriveBudget
      (fs.foldl (fun m x => min m x.2.overdriveBudget.toNat) 0xFFFF)).obj o = a.obj o := fun low => by
    split
    · exact later low
    · rw [Lane.obj_setObj_of_ne _ _ (low.trans (by decide)).ne, later low]
  rw [last (by decide), last (by decide), last (by decide), last (by decide)]
  exact ha

/-- The lane with the flag of the stop that it requires. -/
def Lane.moduleFlag : Lane := (z.moduleObjs me).setFlag O.stopRequired ((z.moduleObjs me).stopNeeded
  (popLanes (z.countLanes me).1) (popLanes (z.countLanes me).2.1) (popLanes (z.countLanes me).2.2))

theorem Lane.moduleState_eq : z.moduleState me
    = { z.moduleFlag me with claim := (z.moduleFlag me).stopClock ((z.moduleObjs me).stopNeeded
        (popLanes (z.countLanes me).1) (popLanes (z.countLanes me).2.1) (popLanes (z.countLanes me).2.2)) } := rfl

/-- The stop required is read off the votes' objects, the arbiter's status and the peers (R63). -/
theorem Lane.stopNeeded_congr {x y : Lane} (status : y.claim.status = x.claim.status) (peers : ∀ p, y.peer p = x.peer p)
    (objs : ∀ o : O.Obj, 0x210008 < o.key → y.obj o = x.obj o) (c st br : Nat) : y.stopNeeded c st br = x.stopNeeded c st br := by
  have lost : y.essentialLost = x.essentialLost := by
    unfold Lane.essentialLost Lane.flag
    refine congrArg (List.any _) (funext fun n => ?_)
    rw [objs (O.voteEnable n) (by simp only [O.voteEnable]; omega), objs (O.voteEssential n) (by simp only [O.voteEssential]; omega),
      objs (O.voteStatus n) (by simp only [O.voteStatus]; omega)]
  simp only [Lane.stopNeeded, Lane.conflictStands, status, peers, lost]

/-- Whether a stop is required by the counts of a lane's own frames (R63). -/
def Lane.stopByCounts : Bool :=
  z.stopNeeded (popLanes (z.countLanes me).1) (popLanes (z.countLanes me).2.1) (popLanes (z.countLanes me).2.2)

theorem Lane.peer_withObjs {z y : Lane} (h : ObjsOnly z y) (p : Peer) : y.peer p = z.peer p := by
  obtain ⟨os, rfl⟩ := h
  cases p <;> rfl

theorem Lane.stopNeeded_moduleObjs (c st br : Nat) : (z.moduleObjs me).stopNeeded c st br = z.stopNeeded c st br := by
  have only := objsOnly_moduleObjs z me
  refine Lane.stopNeeded_congr ?_ (Lane.peer_withObjs only) (fun o high => z.obj_moduleObjs_of_free me (.inr high)) c st br
  obtain ⟨os, e⟩ := only
  rw [e]

theorem objsOnly_moduleFlag : ObjsOnly z (z.moduleFlag me) := (objsOnly_moduleObjs z me).setObj _ _

theorem Lane.moduleState_flag : (z.moduleState me) = { z.moduleFlag me with claim := (z.moduleFlag me).stopClock (z.stopByCounts me) } := by
  rw [Lane.moduleState_eq, Lane.stopNeeded_moduleObjs]
  rfl

theorem Lane.obj_moduleState (o : O.Obj) : (z.moduleState me).obj o = (z.moduleFlag me).obj o := by
  rw [Lane.moduleState_flag]
  rfl

theorem Lane.peer_moduleState (p : Peer) : (z.moduleState me).peer p = z.peer p := by
  rw [Lane.moduleState_flag, ← Lane.peer_withObjs (objsOnly_moduleFlag z me)]
  cases p <;> rfl

theorem Lane.stopFrom_moduleState : (z.moduleState me).claim.stopFrom
    = if z.stopByCounts me = true then some (z.claim.stopFrom.getD z.now) else none := by
  obtain ⟨os, e⟩ := objsOnly_moduleFlag z me
  rw [Lane.moduleState_flag, e]
  rfl

theorem Lane.countLanes_moduleState : (z.moduleState me).countLanes me = z.countLanes me := by
  have smp : (z.moduleState me).smp = z.smp := by
    obtain ⟨os, e⟩ := objsOnly_moduleFlag z me
    rw [Lane.moduleState_flag, e]
  have own : (z.moduleState me).ownClaims = z.ownClaims := by
    unfold Lane.ownClaims
    rw [smp]
  have frames : (z.moduleState me).claimFrames me = z.claimFrames me := by
    unfold Lane.claimFrames
    simp only [own, smp, Lane.peer_moduleState]
  rw [Lane.countLanes, frames, ← Lane.countLanes]

theorem Lane.stopByCounts_moduleState : (z.moduleState me).stopByCounts me = z.stopByCounts me := by
  have status : (z.moduleState me).claim.status = z.claim.status := by
    obtain ⟨os, e⟩ := objsOnly_moduleFlag z me
    rw [Lane.moduleState_flag, e]
    rfl
  unfold Lane.stopByCounts
  rw [Lane.countLanes_moduleState]
  refine Lane.stopNeeded_congr status (z.peer_moduleState me) (fun o high => ?_) _ _ _
  rw [Lane.obj_moduleState, Lane.moduleFlag, Lane.setFlag, Lane.obj_setObj_of_ne _ _ (Nat.ne_of_gt (Nat.lt_trans (by decide) high))]
  exact z.obj_moduleObjs_of_free me (.inr high)

theorem Lane.flag_moduleState : (z.moduleState me).flag O.stopRequired = z.stopByCounts me := by
  rw [Lane.flag, Lane.obj_moduleState, Lane.moduleFlag, Lane.setFlag, Lane.obj_setObj, Lane.stopNeeded_moduleObjs]
  change decide (b2n (z.stopByCounts me) = 1) = z.stopByCounts me
  cases z.stopByCounts me <;> rfl

theorem Lane.obj_moduleState_counts : (z.moduleState me).obj O.moduleState = popLanes (z.countLanes me).1 ∧
    (z.moduleState me).obj O.lanesClaiming = (z.countLanes me).1 ∧ (z.moduleState me).obj O.steerLanes = (z.countLanes me).2.1 ∧
    (z.moduleState me).obj O.brakeLanes = (z.countLanes me).2.2 := by
  have flag : ∀ o : O.Obj, o.key ≠ O.stopRequired.key → (z.moduleState me).obj o = (z.moduleObjs me).obj o := fun o ne =>
    (z.obj_moduleState me o).trans (Lane.obj_setObj_of_ne _ _ ne)
  rw [flag _ (by decide), flag _ (by decide), flag _ (by decide), flag _ (by decide)]
  exact z.obj_moduleObjs_counts me

end

/-! A steering set that still drives after a t5 is available (R95). -/

/-- The objects that say whether a steering set is available (R95, R141). -/
def steerObjs : List O.Obj :=
  [O.steerPolePairs, O.steerPsiM, O.steerLd, O.steerLq, O.steerRs, O.angPRes, O.angMode, O.steerFeMax, O.supChAngle, O.angSentField]

/-- The objects of availability are as they were: so is availability, whatever the transport of requests. -/
theorem Lane.capSteer_withObjs {x : Lane} {os : List (Nat × Nat)} {tx : TxnSt}
    (same : ∀ o ∈ steerObjs, ({ x with objs := os, txn := tx } : Lane).obj o = x.obj o) :
    ({ x with objs := os, txn := tx } : Lane).capSteer = x.capSteer := by
  have h : ∀ {o : O.Obj}, o ∈ steerObjs → ({ x with objs := os, txn := tx } : Lane).obj o = x.obj o := same _
  have motor : ({ x with objs := os, txn := tx } : Lane).motorOk = x.motorOk := by
    unfold Lane.motorOk
    rw [h (o := O.steerPolePairs) (by decide), h (o := O.steerPsiM) (by decide), h (o := O.steerLd) (by decide),
      h (o := O.steerLq) (by decide), h (o := O.steerRs) (by decide)]
  have nibbles : ({ x with objs := os, txn := tx } : Lane).sentNibbles 4 = x.sentNibbles 4 := by
    change (if ({ x with objs := os, txn := tx } : Lane).obj O.angSentField = 1 then 4 else 3) = if x.obj O.angSentField = 1 then 4 else 3
    rw [h (by decide)]
  unfold Lane.capSteer Lane.steerFit
  rw [motor, nibbles, h (o := O.angPRes) (by decide), h (o := O.angMode) (by decide), h (o := O.steerFeMax) (by decide),
    h (o := O.supChAngle) (by decide), h (o := O.steerPolePairs) (by decide)]
  rfl

/-- What is available stays so through the diagnostics of the stages, which say of it nothing new (R264). -/
theorem Lane.capSteer_diagStart (x : Lane) : x.diagStart.capSteer = x.capSteer := by
  have steer : x.diagStart.steer = x.diagNext .steer := x.stg_diagStart .steer
  obtain ⟨a, b, c, only⟩ := x.diagStart_only
  have diag : a.diag = x.steer.diag ∧ a.afterTrip = x.steer.afterTrip := by
    rw [only, x.diagNext_eq] at steer
    subst steer
    exact ⟨rfl, rfl⟩
  rw [only]
  generalize hy : ({ x.setRbit Rg.gdStat 13 c with steer := a, brakes := b } : Lane) = y
  have reg : ∀ {r : Rg.Reg}, r.addr ≠ Rg.gdStat.addr → y.reg r = x.reg r := fun ne => hy ▸ x.reg_setRbit_of_ne 13 c ne
  have closed : y.hvClosed = x.hvClosed := by
    unfold Lane.hvClosed Lane.ctState Lane.fld
    rw [reg (by decide)]
  have cut : y.gateCut = x.gateCut := hy ▸ x.rbit_setRbit_beside Rg.gdStat c (i := 13) (j := 0) (by decide) (by decide)
  have enabled : y.rbit Rg.gdCtl 0 = x.rbit Rg.gdCtl 0 := Lane.rbit_of_reg_eq (reg (by decide)) 0
  have trip : y.tripped .steer = x.tripped .steer := Lane.rbit_of_reg_eq (reg (by decide)) 16
  have period : y.per .steer = x.per .steer := by
    unfold Lane.per Lane.fld
    rw [reg (by decide)]
  have peers : ∀ p, y.peer p = x.peer p := fun p => hy ▸ (by cases p <;> rfl)
  have equal : y.periodsEqual = x.periodsEqual := by
    unfold Lane.periodsEqual
    simp only [peers, period]
  have stage : y.steer.diag = x.steer.diag ∧ y.steer.afterTrip = x.steer.afterTrip := hy ▸ diag
  unfold Lane.capSteer Lane.steerFit
  rw [closed, cut, enabled, trip, equal, stage.1, stage.2, ← hy]
  rfl

theorem Lane.driving_diagStart (x : Lane) : x.diagStart.steer.driving = x.steer.driving := by
  have steer : x.diagStart.steer = x.diagNext .steer := x.stg_diagStart .steer
  rw [steer, x.diagNext_eq]
  rfl

/-- A set that still drives after R95 is judged is available. -/
theorem Lane.capSteer_of_checkSteer_driving {x : Lane} (drives : x.checkSteer.steer.driving = true) : x.checkSteer.capSteer = true := by
  unfold Lane.checkSteer at drives ⊢
  rw [Lane.driving_diagStart] at drives
  rw [Lane.capSteer_diagStart]
  split at drives
  next => simp at drives
  next fit =>
    rw [if_neg fit]
    simpa [drives] using fit

/-- The end of a t5 (R353, R358) leaves availability and the stage. -/
theorem Lane.takeSnap_dropLate (x : Lane) (t : Nat) (me : LaneId) : ∃ os tx, (x.dropLate t).takeSnap me = { x with objs := os, txn := tx } ∧
    tx.snap.isSome = true ∧ ∀ o ∈ steerObjs, ({ x with objs := os, txn := tx } : Lane).obj o = x.obj o := by
  unfold Lane.takeSnap Lane.dropLate
  extract_lets late ps
  generalize hd : Lane.incBy _ _ _ = d
  rw [Lane.incBy_only] at hd
  refine ⟨d.objs, _, by rw [← hd], rfl, fun o ho => ?_⟩
  rw [← hd]
  exact Lane.incBy_obj_ne { x with txn := _ } O.txnExpired o _ (by revert o; decide)

/-! The check at t5 as a step of the state. -/

/-- What t5 does last in a lane (R353, R358, R402 to R434): the quote, re-qualification, requests, the seeds, the sample's number, the
steering set and the Reports. -/
def Lane.checkEnd (x : Lane) (me : LaneId) (pl : Peer → Lane) : Lane :=
  ((((((((x.takeQuote me).checkRequal me pl).checkRequests me pl).sendSeeds me).resync).checkSteer).dropLate x.now).takeSnap me)

theorem Lane.checkEnd_available (x : Lane) (me : LaneId) (pl : Peer → Lane) :
    ((x.checkEnd me pl).steer.driving = true → (x.checkEnd me pl).capSteer = true) ∧ (x.checkEnd me pl).txn.snap.isSome = true := by
  unfold Lane.checkEnd
  have fit := fun w : Lane => Lane.capSteer_of_checkSteer_driving (x := w)
  specialize fit ((((x.takeQuote me).checkRequal me pl).checkRequests me pl).sendSeeds me).resync
  generalize Lane.checkSteer _ = w at fit ⊢
  obtain ⟨os, tx, reach, snap, same⟩ := w.takeSnap_dropLate x.now me
  rw [reach, Lane.capSteer_withObjs same]
  exact ⟨fit, snap⟩

theorem State.peersOf_setLane (s : State) (l : LaneId) (x : Lane) : (s.setLane l x).peersOf l = s.peersOf l := by
  funext p
  cases l <;> cases p <;> rfl

section
variable {s : State} {l : LaneId} {t : Nat} {x : Lane} {v : Bool}

theorem onStateAt_of_sees (h : Sees s l t x) (f : State → State) : onStateAt l t s f = .next (f (s.setLane l x)) := by
  obtain ⟨on, rfl⟩ := h
  exact congrArg Host.Outcome.next (if_pos on)

theorem exec_exchangeCheck_of_down (h : Sees s l t x) (down : x.up = false) : exec (.exchangeCheck l ⟨t, v⟩) s = .next (s.setLane l x) := by
  refine (onStateAt_of_sees h _ : execExchangeCheck l ⟨t, v⟩ s = _).trans (congrArg Host.Outcome.next (if_pos ?_))
  simp [down]

theorem exec_exchangeCheck_of_up (h : Sees s l t x) (up : x.up = true) {s2 : State} (hs2 : s2 = commitT5 l (takeWrites l
      (s.setLane l ((((x.e1Until x.now).watchTerminals v).checkModule l).checkDrives l (s.peersOf l))))) :
    exec (.exchangeCheck l ⟨t, v⟩) s = .next (s2.setLane l ((s2.lane l).checkEnd l (s2.peersOf l))) := by
  refine (onStateAt_of_sees h _ : execExchangeCheck l ⟨t, v⟩ s = _).trans (congrArg Host.Outcome.next ((if_neg (by simp [up])).trans ?_))
  rw [hs2]
  simp only [State.upd, State.lane_setLane, State.setLane_setLane, State.peersOf_setLane]
  rfl

theorem commitT5_takeWrites_setLane (y z : Lane) :
    (commitT5 l (takeWrites l (s.setLane l y))).setLane l z = s.setLane l z := by
  obtain ⟨w, e⟩ := (takeWrites_onlyLane l (s.setLane l y)).trans (commitT5_onlyLane l _)
  rw [e, State.setLane_setLane, State.setLane_setLane]

end

/-- Settles O17: the frames as both are judged, the counts as the module state puts them, and the check as one step of the state. -/
theorem exchangeCheckActsInOrder : Obligations.ExchangeCheckActsInOrder := by
  intro s l t v x h
  refine ⟨exec_exchangeCheck_of_down h, fun up m s1 s2 hm hs1 hs2 => ?_⟩
  have exec_eq := exec_exchangeCheck_of_up (v := v) h up (s2 := s2) (by rw [hs2, hs1, hm])
  have other : s2.setLane l ((s2.lane l).checkEnd l (s2.peersOf l)) = s.setLane l ((s2.lane l).checkEnd l (s2.peersOf l)) := by
    rw [hs2, hs1]
    exact commitT5_takeWrites_setLane _ _
  obtain ⟨available, snap⟩ := (s2.lane l).checkEnd_available l (s2.peersOf l)
  have watched : CheckKept x ((x.e1Until x.now).watchTerminals v) :=
    (checkKept_of_e1Reach (e1Reach_e1Until x x.now)).trans (checkKept_watchTerminals _ v)
  generalize (x.e1Until x.now).watchTerminals v = w at watched hm
  rw [Lane.checkModule_eq] at hm
  have frames : ∀ p, (m.peer p).frames = x.framesAtT5 p := fun p => by
    rw [hm, Lane.peer_moduleState, Lane.frames_judgedModule]
    exact Lane.framesAtT5_congr watched.number watched.reload (watched.frames p)
  obtain ⟨state, claiming, steer, brake⟩ := (w.judgedModule l).obj_moduleState_counts l
  have counts := (w.judgedModule l).countLanes_moduleState l
  have stop := (w.judgedModule l).stopByCounts_moduleState l
  have flag := (w.judgedModule l).flag_moduleState l
  have since := (w.judgedModule l).stopFrom_moduleState l
  rw [← flag, Lane.now_judgedModule, Lane.stopFrom_judgedModule, watched.clock, watched.since] at since
  rw [← hm] at state claiming steer brake counts stop flag since
  rw [← counts] at state claiming steer brake
  refine ⟨fun p => ?_, claiming, steer, brake, state, flag.trans stop.symm, since, _, exec_eq, exec_eq.trans (congrArg _ other),
    available, snap, rfl⟩
  have hp := frames p
  simp only [Lane.framesAtT5, PeerSt.frames, Prod.mk.injEq] at hp
  obtain ⟨got, now, failed⟩ := hp
  exact ⟨got, failed, now⟩

end Sys2Proof.Machine
end

section
/-!
SUPPORT. What a lane sends to the arbiter and takes from it (R75 to R81, R87, R89): the claim frame, the windows of tenure, and the status
frame.
-/
namespace Sys2Proof.Machine

section
variable {s : State} {l : LaneId} {t : Nat} {x : Lane}

/-- The lane that has sent its claim frame (R77, R78). -/
def Lane.claimSent (x : Lane) (me : LaneId) : Lane :=
  ({ x with claim := { x.claim with
      counter := (x.claimFrame me).counter.toNat, last := some (x.claimFrame me)
      winHealthy := x.claim.winHealthy && x.claim.claiming && bitOf (x.score me) 7 } }).inc O.claimFrames

/-- The lane whose first frame with claim 0 after a stand-aside answers its request (R417). -/
def Lane.asideAnswered (x : Lane) : Lane := ({ x with upd := { x.upd with answerDue := false } }).finish .aside 0 []

theorem Lane.asideAnswered_kept (x : Lane) : x.asideAnswered.claim = x.claim ∧ x.asideAnswered.upd.answerDue = false := by
  have kept := Lane.finish_answersKept { x with upd := { x.upd with answerDue := false } } .aside 0 []
  exact ⟨kept.claim, congrArg UpdSt.answerDue kept.upd⟩

theorem exec_claimFrameSend_of_down (h : Sees s l t x) (down : x.up = false) : exec (.claimFrameSend l t) s = .next (s.setLane l x) :=
  (onLaneAt_of_sees h _ : execClaimFrameSend l t s = _).trans (congrArg (fun y => Host.Outcome.next (s.setLane l y)) (if_pos (by simp [down])))

theorem exec_claimFrameSend_of_up (h : Sees s l t x) (up : x.up = true) : exec (.claimFrameSend l t) s
    = .next (s.setLane l (if (x.upd.answerDue && decide ((x.claimFrame l).claim = 0)) = true then (x.claimSent l).asideAnswered
      else x.claimSent l)) := by
  refine (onLaneAt_of_sees h _ : execClaimFrameSend l t s = _).trans (congrArg (fun y => Host.Outcome.next (s.setLane l y)) ?_)
  exact (if_neg (by simp [up])).trans rfl

theorem Lane.claim_claimFrame_of_none (me : LaneId) (none : x.claim.claiming = false ∨ x.gateCut = true) : (x.claimFrame me).claim = 0 :=
  if_neg (by rcases none with n | n <;> simp [n])

theorem Lane.claim_claimFrame_of_claiming (me : LaneId) (claims : x.claim.claiming = true) (fed : x.gateCut = false) :
    (x.claimFrame me).claim = BitVec.ofNat 16 (256 * x.score me + 4 * x.claim.tenure + laneNo me) :=
  if_pos (by simp [claims, fed])

/-- The tenure at the end of a window (R77). -/
def ClaimSt.windowTenure (c : ClaimSt) : Nat := if c.claiming && c.winHealthy then min (c.tenure + 1) (if c.winner then 63 else 62) else 0

theorem exec_claimWindowEnd (h : Sees s l t x) : exec (.claimWindowEnd l t) s = .next (s.setLane l (if t % 100000000 ≠ 0 then x
    else { x with claim := { x.claim with tenure := x.claim.windowTenure, winHealthy := x.claim.claiming } })) :=
  (onLaneAt_of_sees h _ : execClaimWindowEnd l t s = _)

theorem exec_arbiterStatusFrame (h : Sees s l t x) (f : StatusFrame) (c : BitVec 16) : exec (.arbiterStatusFrame l t f c) s
    = .next (s.setLane l (if c = crc16 (statusBytes f) then x.takeStatus l f else x.inc O.statusErrors)) :=
  (onLaneAt_of_sees h _ : execArbiterStatusFrame l t f c s = _)

/-- The objects that a status frame can change (R81). -/
def statusKeys : List Nat := [O.arbWinner.key, O.arbFlags.key, O.arbDisregard.key, O.arbStopState.key, O.arbDisagreements.key, O.wins.key] ++
  (List.range 8).map (fun n => (O.outStateObj n).key) ++ (List.range 8).map (fun n => (O.outFault n).key)

/-- What a status frame says of one output (R81, R87). -/
def Lane.takeOutput (f : StatusFrame) (l : Lane) (n : Nat) : Lane :=
  let d := (f.outState.getD n 0).toNat
  let l := if (decide (d = 0)) = (decide (l.obj (O.outStateObj n) = 0)) then l
    else { l with claim := { l.claim with outAt := l.claim.outAt.set n l.now } }
  let cause := bits f.chanCause.toNat (4 * (7 - n)) 4
  let l := (l.setObj (O.outStateObj n) d).setObj (O.outFault n) cause
  if bitOf f.chanFault.toNat n then l
  else { l with claim := { l.claim with chanClear := l.claim.chanClear.set n false } }

/-- From `x`, a lane takes what a status frame says: objects change, and of the claim when the outputs changed and the clears due. -/
def StatusTaken (x y : Lane) : Prop :=
  ObjsKept statusKeys x y ∧ ∃ os a c, y = { x with objs := os, claim := { x.claim with outAt := a, chanClear := c } }

theorem StatusTaken.refl (x : Lane) : StatusTaken x x := ⟨ObjsKept.refl _ x, _, _, _, rfl⟩

theorem StatusTaken.trans {x y z : Lane} : StatusTaken x y → StatusTaken y z → StatusTaken x z := by
  rintro ⟨hxy, _, _, _, rfl⟩ ⟨hyz, os, a, c, rfl⟩
  exact ⟨hxy.trans hyz, os, a, c, rfl⟩

theorem statusTaken_setObj {o : O.Obj} (h : o.key ∈ statusKeys) (x : Lane) (v : Nat) : StatusTaken x (x.setObj o v) :=
  ⟨objsKept_setObj h x v, _, _, _, rfl⟩

theorem outStateObj_mem_statusKeys {n : Nat} (h : n < 8) : (O.outStateObj n).key ∈ statusKeys := by
  simp only [statusKeys, List.mem_append, List.mem_map, List.mem_range]
  exact .inl (.inr ⟨n, h, rfl⟩)

theorem outFault_mem_statusKeys {n : Nat} (h : n < 8) : (O.outFault n).key ∈ statusKeys := by
  simp only [statusKeys, List.mem_append, List.mem_map, List.mem_range]
  exact .inr ⟨n, h, rfl⟩

theorem statusTaken_takeOutput (f : StatusFrame) {n : Nat} (h : n < 8) (x : Lane) : StatusTaken x (x.takeOutput f n) := by
  unfold Lane.takeOutput
  extract_lets d _ y cause z
  have hy : StatusTaken x y := by
    unfold y
    split
    · exact .refl x
    · exact ⟨fun _ _ => rfl, _, _, _, rfl⟩
  have hz : StatusTaken x z := hy.trans ((statusTaken_setObj (outStateObj_mem_statusKeys h) y d).trans
    (statusTaken_setObj (outFault_mem_statusKeys h) _ cause))
  split
  · exact hz
  · exact hz.trans ⟨fun _ _ => rfl, _, _, _, rfl⟩

/-- The objects of an output after its own part of the frame. -/
theorem Lane.obj_takeOutput (f : StatusFrame) (x : Lane) (n : Nat) (o : O.Obj) :
    (x.takeOutput f n).obj o = ((x.setObj (O.outStateObj n) (f.outState.getD n 0).toNat).setObj (O.outFault n)
      (bits f.chanCause.toNat (4 * (7 - n)) 4)).obj o := by
  unfold Lane.takeOutput
  extract_lets d _ y cause z
  have hy : y.objs = x.objs := by
    unfold y
    split <;> rfl
  have hz : z.obj o = ((x.setObj (O.outStateObj n) d).setObj (O.outFault n) cause).obj o := by
    simp only [z, Lane.setObj, Lane.obj, hy]
  split
  · exact hz
  · exact hz

/-- The objects of output `n` show what the frame says of it. -/
def Lane.ShowsOutput (f : StatusFrame) (n : Nat) (y : Lane) : Prop :=
  y.obj (O.outStateObj n) = (f.outState.getD n 0).toNat ∧ y.obj (O.outFault n) = bits f.chanCause.toNat (4 * (7 - n)) 4

theorem Lane.showsOutput_takeOutput (f : StatusFrame) (x : Lane) (n : Nat) : (x.takeOutput f n).ShowsOutput f n := by
  refine ⟨?_, ?_⟩
  · rw [Lane.obj_takeOutput, Lane.obj_setObj_of_ne _ _ (by simp only [O.outStateObj, O.outFault]; omega), Lane.obj_setObj]
  · rw [Lane.obj_takeOutput, Lane.obj_setObj]

/-- An object other than those of an output keeps its value through the output's part of the frame. -/
theorem Lane.obj_takeOutput_of_ne (f : StatusFrame) (x : Lane) {n : Nat} {o : O.Obj} (state : o.key ≠ (O.outStateObj n).key)
    (fault : o.key ≠ (O.outFault n).key) : (x.takeOutput f n).obj o = x.obj o := by
  rw [Lane.obj_takeOutput, Lane.obj_setObj_of_ne _ _ fault, Lane.obj_setObj_of_ne _ _ state]

theorem Lane.ShowsOutput.takeOutput {f : StatusFrame} {n : Nat} {y : Lane} (h : y.ShowsOutput f n) (m : Nat) :
    (y.takeOutput f m).ShowsOutput f n := by
  by_cases e : m = n
  · subst e
    exact y.showsOutput_takeOutput f m
  · obtain ⟨state, fault⟩ := h
    refine ⟨(y.obj_takeOutput_of_ne f ?_ ?_).trans state, (y.obj_takeOutput_of_ne f ?_ ?_).trans fault⟩ <;>
      simp only [O.outStateObj, O.outFault] <;> omega

/-- The lane once it has taken the outputs that a status frame shows. -/
def Lane.takeOutputs (x : Lane) (f : StatusFrame) : Lane := (List.range 8).foldl (Lane.takeOutput f) x

theorem Lane.showsOutput_takeOutputs (f : StatusFrame) (x : Lane) {n : Nat} (h : n < 8) : (x.takeOutputs f).ShowsOutput f n :=
  foldl_establishes (fun _ => True) (Lane.ShowsOutput f n) (fun _ _ _ _ => trivial) (fun _ m _ hb => hb.takeOutput m)
    (fun y _ => y.showsOutput_takeOutput f n) (List.mem_range.mpr h) trivial

theorem Lane.obj_takeOutputs_of_low (f : StatusFrame) (x : Lane) {o : O.Obj} (low : o.key < 0x221000) : (x.takeOutputs f).obj o = x.obj o :=
  List.foldlRecOn (motive := fun y : Lane => y.obj o = x.obj o) _ _ rfl fun y hy n _ => (y.obj_takeOutput_of_ne f
    (by simp only [O.outStateObj]; omega) (by simp only [O.outFault]; omega)).trans hy

theorem statusTaken_takeOutputs (f : StatusFrame) (x : Lane) : StatusTaken x (x.takeOutputs f) :=
  List.foldlRecOn (motive := StatusTaken x) _ _ (.refl x) fun y hy _ hn => hy.trans (statusTaken_takeOutput f (List.mem_range.mp hn) y)

/-- What a status frame says of the arbiter (R81). -/
def Lane.takeArbiter (x : Lane) (f : StatusFrame) : Lane :=
  ((((x.setObj O.arbWinner f.winner.toNat).setObj O.arbFlags f.arbFlags.toNat).setObj O.arbDisregard f.disregard.toNat).setObj
    O.arbStopState f.stopState.toNat).incIf O.arbDisagreements (!bitOf f.arbFlags.toNat 4)

/-- Does a status frame name a lane as the winner? -/
def namesWinner (f : StatusFrame) (me : LaneId) : Bool := decide (f.winner ≠ 0) && decide (bits f.winner.toNat 0 2 = laneNo me)

theorem statusTaken_takeArbiter (x : Lane) (f : StatusFrame) : StatusTaken x (x.takeArbiter f) := by
  unfold Lane.takeArbiter
  have stop := (((statusTaken_setObj (o := O.arbWinner) (by decide) x f.winner.toNat).trans
    (statusTaken_setObj (o := O.arbFlags) (by decide) _ f.arbFlags.toNat)).trans
    (statusTaken_setObj (o := O.arbDisregard) (by decide) _ f.disregard.toNat)).trans
    (statusTaken_setObj (o := O.arbStopState) (by decide) _ f.stopState.toNat)
  refine stop.trans ?_
  cases bitOf f.arbFlags.toNat 4
  · exact statusTaken_setObj (o := O.arbDisagreements) (by decide) _ _
  · exact .refl _

theorem Lane.obj_takeArbiter (x : Lane) (f : StatusFrame) : (x.takeArbiter f).obj O.arbWinner = f.winner.toNat ∧
    (x.takeArbiter f).obj O.arbFlags = f.arbFlags.toNat ∧ (x.takeArbiter f).obj O.arbDisregard = f.disregard.toNat ∧
    (x.takeArbiter f).obj O.arbStopState = f.stopState.toNat := by
  have kept : ∀ {o : O.Obj} (z : Lane), o.key ≠ O.arbDisagreements.key →
      (z.incIf O.arbDisagreements (!bitOf f.arbFlags.toNat 4)).obj o = z.obj o := fun z ne =>
    objsKept_incIf (ks := [O.arbDisagreements.key]) (by simp) z _ _ (by simpa using ne)
  unfold Lane.takeArbiter
  simp (disch := decide) only [kept, Lane.obj_setObj_of_ne, Lane.obj_setObj, and_self]

/-- Disagreements count where the frame's bit 4 is clear (R81). -/
theorem Lane.disagreements_takeArbiter (x : Lane) (f : StatusFrame) :
    (bitOf f.arbFlags.toNat 4 = true → (x.takeArbiter f).obj O.arbDisagreements = x.obj O.arbDisagreements) ∧
    (bitOf f.arbFlags.toNat 4 = false → CountedBy O.arbDisagreements 1 x (x.takeArbiter f)) := by
  unfold Lane.takeArbiter
  generalize hz : (((x.setObj O.arbWinner _).setObj O.arbFlags _).setObj O.arbDisregard _).setObj O.arbStopState _ = z
  have before : z.obj O.arbDisagreements = x.obj O.arbDisagreements := by
    rw [← hz]
    simp (disch := decide) only [Lane.obj_setObj_of_ne]
  refine ⟨fun set => ?_, fun clear => ?_⟩
  · rw [set]
    exact before
  · rw [clear]
    exact (countedBy_inc z _).of_obj_eq before.symm rfl

/-- The lane once it has taken the arbiter's part of a frame and the outputs', with a win counted. -/
def Lane.statusCounted (x : Lane) (me : LaneId) (f : StatusFrame) : Lane :=
  let y := (x.takeArbiter f).takeOutputs f
  if namesWinner f me && !y.claim.winner then y.inc16 O.wins else y

theorem Lane.takeStatus_eq_counted (x : Lane) (me : LaneId) (f : StatusFrame) : x.takeStatus me f = { x.statusCounted me f with
    claim := { (x.statusCounted me f).claim with
      winner := namesWinner f me, status := some f
      tenure := if namesWinner f me then (x.statusCounted me f).claim.tenure else min (x.statusCounted me f).claim.tenure 62 } } := rfl

theorem statusTaken_statusCounted (x : Lane) (me : LaneId) (f : StatusFrame) : StatusTaken x (x.statusCounted me f) := by
  have taken := (statusTaken_takeArbiter x f).trans (statusTaken_takeOutputs f _)
  unfold Lane.statusCounted
  extract_lets y
  split
  · exact taken.trans (statusTaken_setObj (o := O.wins) (by decide) _ _)
  · exact taken

theorem Lane.obj_statusCounted (x : Lane) (me : LaneId) (f : StatusFrame) {o : O.Obj} (ne : o.key ≠ O.wins.key) :
    (x.statusCounted me f).obj o = ((x.takeArbiter f).takeOutputs f).obj o := by
  unfold Lane.statusCounted
  extract_lets y
  split
  · exact Lane.obj_setObj_of_ne _ _ ne
  · rfl

theorem Lane.obj_statusCounted_of_low (x : Lane) (me : LaneId) (f : StatusFrame) {o : O.Obj} (low : o.key < 0x221000) :
    (x.statusCounted me f).obj o = (x.takeArbiter f).obj o :=
  (x.obj_statusCounted me f (Nat.ne_of_lt (Nat.lt_trans low (by decide)))).trans (Lane.obj_takeOutputs_of_low f _ low)

theorem Lane.showsOutput_statusCounted (x : Lane) (me : LaneId) (f : StatusFrame) {n : Nat} (h : n < 8) :
    (x.statusCounted me f).ShowsOutput f n := by
  obtain ⟨state, fault⟩ := Lane.showsOutput_takeOutputs f (x.takeArbiter f) h
  exact ⟨(x.obj_statusCounted me f (by simp only [O.outStateObj, O.wins]; omega)).trans state,
    (x.obj_statusCounted me f (by simp only [O.outFault, O.wins]; omega)).trans fault⟩

end

end Sys2Proof.Machine
end

section
/-!
SUPPORT. The feedback of the outputs (R46, R87, R88): what ends its exclusions, and the lanes' readings against their majority.
-/
namespace Sys2Proof.Machine

theorem nth_set (l : List Nat) (i j v : Nat) : nth (l.set i v) j = if j = i ∧ i < l.length then v else nth l j := by
  unfold nth
  rw [List.getD_eq_getElem?_getD, List.getD_eq_getElem?_getD, List.getElem?_set]
  split_ifs <;> simp_all

theorem nthB_set (l : List Bool) (i j : Nat) (v : Bool) : nthB (l.set i v) j = if j = i ∧ i < l.length then v else nthB l j := by
  unfold nthB
  rw [List.getD_eq_getElem?_getD, List.getD_eq_getElem?_getD, List.getElem?_set]
  split_ifs <;> simp_all

/-! OUT_FAULT_CLEAR (R46, R87). -/

/-- A reading's run and exclusion end. -/
def ClaimSt.endReading (n : Nat) (c : ClaimSt) (i : Nat) : ClaimSt :=
  { c with fbRun := c.fbRun.set (3 * n + i) 0, fbOut := c.fbOut.set (3 * n + i) false }

/-- Those of the three lanes' readings of an output end. -/
def ClaimSt.endReadings (c : ClaimSt) (n : Nat) : ClaimSt := [0, 1, 2].foldl (ClaimSt.endReading n) c

theorem ClaimSt.endReadings_eq (c : ClaimSt) (n : Nat) : c.endReadings n = { c with
    fbRun := ((c.fbRun.set (3 * n + 0) 0).set (3 * n + 1) 0).set (3 * n + 2) 0
    fbOut := ((c.fbOut.set (3 * n + 0) false).set (3 * n + 1) false).set (3 * n + 2) false } := rfl

theorem ClaimSt.endReadings_outside (c : ClaimSt) {n i : Nat} (outside : i < 3 * n ∨ 3 * n + 3 ≤ i) :
    nth (c.endReadings n).fbRun i = nth c.fbRun i ∧ nthB (c.endReadings n).fbOut i = nthB c.fbOut i := by
  have h0 : i ≠ 3 * n + 0 := by omega
  have h1 : i ≠ 3 * n + 1 := by omega
  have h2 : i ≠ 3 * n + 2 := by omega
  simp only [ClaimSt.endReadings_eq, nth_set, nthB_set, h0, h1, h2, false_and, if_false, and_self]

theorem nth_set_zero {l : List Nat} {i j : Nat} (h : j = i ∨ nth l j = 0) : nth (l.set i 0) j = 0 := by
  rw [nth_set]
  split_ifs with at_
  · rfl
  rcases h with rfl | h
  · have past : l.length ≤ j := Nat.le_of_not_lt fun inside => at_ ⟨rfl, inside⟩
    simp [nth, past]
  · exact h

theorem nthB_set_false {l : List Bool} {i j : Nat} (h : j = i ∨ nthB l j = false) : nthB (l.set i false) j = false := by
  rw [nthB_set]
  split_ifs with at_
  · rfl
  rcases h with rfl | h
  · have past : l.length ≤ j := Nat.le_of_not_lt fun inside => at_ ⟨rfl, inside⟩
    simp [nthB, past]
  · exact h

theorem ClaimSt.endReadings_inside (c : ClaimSt) {n i : Nat} (low : 3 * n ≤ i) (high : i < 3 * n + 3) :
    nth (c.endReadings n).fbRun i = 0 ∧ nthB (c.endReadings n).fbOut i = false := by
  rw [ClaimSt.endReadings_eq]
  obtain h | h | h : i = 3 * n + 0 ∨ i = 3 * n + 1 ∨ i = 3 * n + 2 := by omega
  · exact ⟨nth_set_zero (.inr (nth_set_zero (.inr (nth_set_zero (.inl h))))),
      nthB_set_false (.inr (nthB_set_false (.inr (nthB_set_false (.inl h)))))⟩
  · exact ⟨nth_set_zero (.inr (nth_set_zero (.inl h))), nthB_set_false (.inr (nthB_set_false (.inl h)))⟩
  · exact ⟨nth_set_zero (.inl h), nthB_set_false (.inl h)⟩

section
variable {s : State} {l : LaneId} {t : Nat} {x : Lane}

theorem exec_outFaultClear (h : Sees s l t x) (n : Fin 8) (v : BitVec 8) : exec (.outFaultClear l n v t) s = .next (s.setLane l
    (if v = 0 then { x with claim := { x.claim.endReadings n with
      chanClear := (x.claim.endReadings n).chanClear.set n true, chanHold := (x.claim.endReadings n).chanHold.set n false } } else x)) :=
  (onLaneAt_of_sees h _ : execOutFaultClear l n v t s = _)

end

/-! CONTACTOR_FEEDBACK_COMPARE (R88). -/

/-- The readings that stand alone against the other lanes': one mismatch of three, or one match. -/
def oddReadings (rs : List (Nat × Bool)) : List (Nat × Bool) :=
  let bad := (rs.filter fun r => r.2).length
  if bad = 1 && decide (3 ≤ rs.length) then rs.filter (fun r => r.2)
  else if bad + 1 = rs.length && decide (3 ≤ rs.length) then rs.filter (fun r => !r.2) else []

/-- A lane's run of lone readings after a comparison. -/
def ClaimSt.runAfter (c : ClaimSt) (odd : List (Nat × Bool)) (n ln : Nat) : Nat :=
  if odd.any fun r => r.1 = ln then nth c.fbRun (3 * n + ln - 1) + 1 else 0

/-- The comparison for one lane: its run, its exclusion at the third, and the own lane's event. -/
def ClaimSt.compareOne (me : LaneId) (odd : List (Nat × Bool)) (n : Nat) (c : ClaimSt) (ln : Nat) : ClaimSt :=
  let run := c.runAfter odd n ln
  { c with
    fbRun := c.fbRun.set (3 * n + ln - 1) run
    fbOut := if 3 ≤ run then c.fbOut.set (3 * n + ln - 1) true else c.fbOut
    fbEvents := c.fbEvents + b2n (decide (3 ≤ run) && decide (ln = laneNo me)) }

def ClaimSt.compareAll (c : ClaimSt) (me : LaneId) (odd : List (Nat × Bool)) (n : Nat) : ClaimSt :=
  [1, 2, 3].foldl (ClaimSt.compareOne me odd n) c

section
variable (c : ClaimSt) (me : LaneId) (odd : List (Nat × Bool)) (n ln : Nat)

theorem ClaimSt.length_compareOne : (c.compareOne me odd n ln).fbRun.length = c.fbRun.length ∧
    (c.compareOne me odd n ln).fbOut.length = c.fbOut.length := by
  refine ⟨List.length_set .., ?_⟩
  unfold ClaimSt.compareOne
  dsimp only
  split <;> simp

theorem ClaimSt.compareOne_of_ne {j : Nat} (h : j ≠ 3 * n + ln - 1) :
    nth (c.compareOne me odd n ln).fbRun j = nth c.fbRun j ∧ nthB (c.compareOne me odd n ln).fbOut j = nthB c.fbOut j := by
  unfold ClaimSt.compareOne
  dsimp only
  refine ⟨by rw [nth_set, if_neg (by simp [h])], ?_⟩
  split
  · rw [nthB_set, if_neg (by simp [h])]
  · rfl

theorem ClaimSt.compareOne_same (run : 3 * n + ln - 1 < c.fbRun.length) (out : 3 * n + ln - 1 < c.fbOut.length) :
    nth (c.compareOne me odd n ln).fbRun (3 * n + ln - 1) = c.runAfter odd n ln ∧
    nthB (c.compareOne me odd n ln).fbOut (3 * n + ln - 1) = (nthB c.fbOut (3 * n + ln - 1) || decide (3 ≤ c.runAfter odd n ln)) := by
  unfold ClaimSt.compareOne
  dsimp only
  refine ⟨by rw [nth_set, if_pos ⟨rfl, run⟩], ?_⟩
  split
  next h => rw [nthB_set, if_pos ⟨rfl, out⟩]; simp [h]
  next h => simp [h]

end

/-- The comparison for one lane leaves the run of another. -/
theorem ClaimSt.runAfter_compareOne (c : ClaimSt) (me : LaneId) (odd : List (Nat × Bool)) (n : Nat) {ln m : Nat} (hm : 1 ≤ m) (h : m ≠ ln)
    (hl : 1 ≤ ln) : (c.compareOne me odd n ln).runAfter odd n m = c.runAfter odd n m := by
  obtain ⟨run, -⟩ := c.compareOne_of_ne me odd n ln (j := 3 * n + m - 1) (by omega)
  rw [ClaimSt.runAfter, run, ClaimSt.runAfter]

section
variable (me : LaneId) (odd : List (Nat × Bool)) (n : Nat)

theorem ClaimSt.foldl_compareOne_of_ne (c : ClaimSt) {lns : List Nat} {j : Nat} (h : ∀ ln ∈ lns, j ≠ 3 * n + ln - 1) :
    nth (lns.foldl (ClaimSt.compareOne me odd n) c).fbRun j = nth c.fbRun j ∧
    nthB (lns.foldl (ClaimSt.compareOne me odd n) c).fbOut j = nthB c.fbOut j :=
  List.foldlRecOn (motive := fun d : ClaimSt => nth d.fbRun j = nth c.fbRun j ∧ nthB d.fbOut j = nthB c.fbOut j) lns _ ⟨rfl, rfl⟩
    fun d hd ln hln => by
      obtain ⟨run, out⟩ := d.compareOne_of_ne me odd n ln (h ln hln)
      exact ⟨run.trans hd.1, out.trans hd.2⟩

/-- Each lane's comparison reads what the others' leave. -/
theorem ClaimSt.foldl_compareOne_own {c : ClaimSt} {lns : List Nat} (nodup : lns.Nodup) (pos : ∀ ln ∈ lns, 1 ≤ ln) {ln : Nat} (mem : ln ∈ lns)
    (run : 3 * n + ln - 1 < c.fbRun.length) (out : 3 * n + ln - 1 < c.fbOut.length) :
    nth (lns.foldl (ClaimSt.compareOne me odd n) c).fbRun (3 * n + ln - 1) = c.runAfter odd n ln ∧
    nthB (lns.foldl (ClaimSt.compareOne me odd n) c).fbOut (3 * n + ln - 1)
      = (nthB c.fbOut (3 * n + ln - 1) || decide (3 ≤ c.runAfter odd n ln)) := by
  induction lns generalizing c with
  | nil => exact absurd mem List.not_mem_nil
  | cons a lns ih =>
    obtain ⟨fresh, nodup⟩ := List.nodup_cons.mp nodup
    have ha : 1 ≤ a := pos a List.mem_cons_self
    have later : ∀ m ∈ lns, 1 ≤ m := fun m hm => pos m (List.mem_cons_of_mem a hm)
    rw [List.foldl_cons]
    by_cases e : ln = a
    · subst e
      obtain ⟨keptRun, keptOut⟩ := (c.compareOne me odd n ln).foldl_compareOne_of_ne me odd n (lns := lns) (j := 3 * n + ln - 1)
        fun m hm e => fresh (by have := later m hm; rwa [show ln = m by omega])
      rw [keptRun, keptOut]
      exact c.compareOne_same me odd n ln run out
    · have hln : 1 ≤ ln := pos ln mem
      obtain ⟨lenRun, lenOut⟩ := c.length_compareOne me odd n a
      obtain ⟨-, keptOut⟩ := c.compareOne_of_ne me odd n a (j := 3 * n + ln - 1) (by omega)
      have step := ih (c := c.compareOne me odd n a) nodup later (List.mem_of_ne_of_mem e mem) (by rwa [lenRun]) (by rwa [lenOut])
      rwa [keptOut, c.runAfter_compareOne me odd n hln e ha] at step

end

section
variable {c : ClaimSt} {n : Nat} (me : LaneId) (odd : List (Nat × Bool))

theorem ClaimSt.compareAll_outside {i : Nat} (outside : i < 3 * n ∨ 3 * n + 3 ≤ i) :
    nth (c.compareAll me odd n).fbRun i = nth c.fbRun i ∧ nthB (c.compareAll me odd n).fbOut i = nthB c.fbOut i :=
  c.foldl_compareOne_of_ne me odd n fun ln hln => by
    simp only [List.mem_cons, List.not_mem_nil, or_false] at hln
    omega

theorem ClaimSt.compareAll_own (run : c.fbRun.length = 24) (out : c.fbOut.length = 24) (hn : n < 8) {ln : Nat} (low : 1 ≤ ln)
    (high : ln ≤ 3) : nth (c.compareAll me odd n).fbRun (3 * n + ln - 1) = c.runAfter odd n ln ∧
    nthB (c.compareAll me odd n).fbOut (3 * n + ln - 1) = (nthB c.fbOut (3 * n + ln - 1) || decide (3 ≤ c.runAfter odd n ln)) :=
  ClaimSt.foldl_compareOne_own me odd n (lns := [1, 2, 3]) (by decide) (by decide) (by simp; omega) (by omega) (by omega)

/-- The own lane's exclusion is the event that a comparison records. -/
theorem ClaimSt.fbEvents_compareAll (c : ClaimSt) :
    (c.compareAll me odd n).fbEvents = c.fbEvents + if 3 ≤ c.runAfter odd n (laneNo me) then 1 else 0 := by
  have events : (c.compareAll me odd n).fbEvents = c.fbEvents + b2n (decide (3 ≤ c.runAfter odd n 1) && decide (1 = laneNo me))
      + b2n (decide (3 ≤ c.runAfter odd n 2) && decide (2 = laneNo me)) + b2n (decide (3 ≤ c.runAfter odd n 3) && decide (3 = laneNo me)) := by
    have second := c.runAfter_compareOne me odd n (ln := 1) (m := 2) (by decide) (by decide) (by decide)
    have third := c.runAfter_compareOne me odd n (ln := 1) (m := 3) (by decide) (by decide) (by decide)
    rw [← (c.compareOne me odd n 1).runAfter_compareOne me odd n (ln := 2) (by decide) (by decide) (by decide)] at third
    rw [← second, ← third]
    rfl
  have one : ∀ k a, b2n (decide (3 ≤ a) && decide (k = laneNo me)) = if k = laneNo me then (if 3 ≤ a then 1 else 0) else 0 := fun k a => by
    by_cases h : k = laneNo me <;> by_cases h3 : 3 ≤ a <;> simp [h, h3, b2n]
  rw [events, one, one, one]
  cases me <;> rfl

end

/-! The readings of the lanes (R88). -/

/-- What a filter picks of a list maps to a part of the list's own image. -/
theorem map_filterMap_sublist {α β γ : Type} {g : α → Option β} {k : β → γ} {h : α → γ} (agree : ∀ a b, g a = some b → k b = h a)
    (l : List α) : ((l.filterMap g).map k).Sublist (l.map h) := by
  induction l with
  | nil => exact List.Sublist.refl _
  | cons a l ih =>
    cases e : g a with
    | none => rw [List.filterMap_cons_none e]; exact ih.cons _
    | some b => rw [List.filterMap_cons_some e, List.map_cons, List.map_cons, agree a b e]; exact ih.cons_cons _

section
variable (x : Lane) (me : LaneId) (n : Nat)

theorem Lane.fbReadings_lanes_sublist :
    ((x.fbReadings me n).map Prod.fst).Sublist (laneNo me :: bothPeers.map fun p => laneNo (peerId me p)) := by
  unfold Lane.fbReadings
  extract_lets own peers
  refine (List.Sublist.map _ List.filter_sublist).trans ?_
  rw [List.map_append, ← List.singleton_append]
  refine List.Sublist.append ?_ (map_filterMap_sublist (fun p r hr => ?_) bothPeers)
  · have mine : ∀ r ∈ own, r.1 = laneNo me := fun r hr => by
      unfold own at hr
      split at hr
      · obtain ⟨b, -, rfl⟩ := Option.mem_map.mp hr
        rfl
      · cases hr
    cases e : own with
    | none => exact List.nil_sublist _
    | some r => simp [mine r e]
  · split at hr
    next f _ =>
      obtain ⟨-, hr⟩ := Option.ite_none_right_eq_some.mp hr
      obtain ⟨b, -, rfl⟩ := Option.map_eq_some_iff.mp hr
      rfl
    next => cases hr

theorem Lane.fbReadings_nodup : ((x.fbReadings me n).map Prod.fst).Nodup :=
  (x.fbReadings_lanes_sublist me n).nodup (by cases me <;> decide)

theorem Lane.length_fbReadings_le : (x.fbReadings me n).length ≤ 3 :=
  (List.length_map Prod.fst).symm.trans_le (x.fbReadings_lanes_sublist me n).length_le

end

section
variable {rs : List (Nat × Bool)} {ln : Nat} {b : Bool}

theorem oddReadings_of_few (few : rs.length < 3) : oddReadings rs = [] := by
  simp [oddReadings, Nat.not_le.mpr few]

/-- A lane that stands alone against the two others. -/
theorem any_oddReadings_of_alone (most : rs.length ≤ 3) (three : 3 ≤ rs.length) (mem : (ln, b) ∈ rs)
    (alone : b = true ∧ (rs.filter fun r => r.2).length = 1 ∨ b = false ∧ (rs.filter fun r => r.2).length = 2) :
    ((oddReadings rs).any fun r => r.1 = ln) = true := by
  refine List.any_eq_true.mpr ⟨(ln, b), ?_, by simp⟩
  unfold oddReadings
  rcases alone with ⟨rfl, bad⟩ | ⟨rfl, bad⟩
  · rw [if_pos (by simp [bad, three])]
    exact List.mem_filter.mpr ⟨mem, rfl⟩
  · rw [if_neg (by simp [bad]), if_pos (by simp [bad]; omega)]
    exact List.mem_filter.mpr ⟨mem, rfl⟩

/-- A lane that does not stand alone. -/
theorem any_oddReadings_of_others (nodup : (rs.map Prod.fst).Nodup) (mem : (ln, b) ∈ rs)
    (others : b = true ∧ (rs.filter fun r => r.2).length ≠ 1 ∨ b = false ∧ (rs.filter fun r => r.2).length + 1 ≠ rs.length) :
    ((oddReadings rs).any fun r => r.1 = ln) = false := by
  have own : ∀ r ∈ rs, r.1 = ln → r = (ln, b) := fun r hr e => List.inj_on_of_nodup_map nodup hr mem e
  refine List.any_eq_false.mpr fun r hr e => ?_
  have e := of_decide_eq_true e
  unfold oddReadings at hr
  dsimp only at hr
  split at hr
  next bad =>
    simp only [Bool.and_eq_true, decide_eq_true_eq] at bad
    obtain ⟨hr, mismatch⟩ := List.mem_filter.mp hr
    rw [own r hr e] at mismatch
    rcases others with ⟨-, ne⟩ | ⟨match_, -⟩
    · exact ne bad.1
    · exact absurd (match_.symm.trans mismatch) (by decide)
  next =>
    split at hr
    next bad =>
      simp only [Bool.and_eq_true, decide_eq_true_eq] at bad
      obtain ⟨hr, agrees⟩ := List.mem_filter.mp hr
      rw [own r hr e] at agrees
      rcases others with ⟨mismatch, -⟩ | ⟨-, ne⟩
      · simp [mismatch] at agrees
      · exact ne bad.1
    next => cases hr

end

end Sys2Proof.Machine
end

section
/-!
SUPPORT. The commands of eviction, gate power and re-arming (R53 to R58, R95, R263, R268), and the comparison of the contactors' feedback.
-/
namespace Sys2Proof.Machine

section
variable {s : State} {l : LaneId} {t : Nat} {x : Lane}

/-- The lane after a comparison of an output's readings (R88). -/
def Lane.compared (x : Lane) (me : LaneId) (n : Nat) : Lane :=
  let rs := x.fbReadings me n
  let y := { x with claim := x.claim.compareAll me (oddReadings rs) n }
  if rs.length < 2 * (rs.filter fun r => r.2).length && y.claim.winner then
    { y with claim := { y.claim with chanHold := y.claim.chanHold.set n true } }
  else y

theorem exec_contactorFeedbackCompare (h : Sees s l t x) (n : Fin 8) : exec (.contactorFeedbackCompare l n t) s
    = .next (s.setLane l (if (x.claim.claiming && x.fbWaited n) = true then x.compared l n else x)) :=
  (onLaneAt_of_sees h _ : execContactorFeedbackCompare l n t s = _)

/-- A comparison changes the runs, the exclusions, the events and the hold of its channel. -/
theorem Lane.compared_eq (x : Lane) (me : LaneId) (n : Nat) : x.compared me n = { x with claim := { x.claim with
    fbRun := (x.claim.compareAll me (oddReadings (x.fbReadings me n)) n).fbRun
    fbOut := (x.claim.compareAll me (oddReadings (x.fbReadings me n)) n).fbOut
    fbEvents := (x.claim.compareAll me (oddReadings (x.fbReadings me n)) n).fbEvents
    chanHold := if (x.fbReadings me n).length < 2 * ((x.fbReadings me n).filter fun r => r.2).length ∧ x.claim.winner = true
      then x.claim.chanHold.set n true else x.claim.chanHold } } := by
  unfold Lane.compared
  extract_lets rs y
  have winner : y.claim.winner = x.claim.winner := rfl
  by_cases majority : rs.length < 2 * (rs.filter fun r => r.2).length ∧ x.claim.winner = true
  · rw [if_pos (by simpa [winner] using majority), if_pos majority]
    rfl
  · rw [if_neg (by simpa [winner] using majority), if_neg majority]
    rfl

/-! Eviction lines and gate power. -/

theorem exec_evictionLine (h : Sees s l t x) (p : Peer) (v : Bool) : exec (.evictionLine l p v t) s
    = .next (s.setLane l ((x.updPeer p fun q => { q with lineIn := v }).setRbit Rg.gdStat (1 + peerIx p) v)) :=
  (onLaneAt_of_sees h _ : execEvictionLine l p v t s = _)

/-- The lane with its gate power latched off, its gates disabled, and the cut counted (R53, R58). -/
def Lane.cutGates (x : Lane) : Lane :=
  let x := ((x.setRbit Rg.gdStat 0 true).setFld Rg.gdCtl 0 9 0).inc16 O.gpwrCuts
  x.setFld Rg.sumpEvict 0 2 (min (x.fld Rg.sumpEvict 0 2 + 1) 3)

/-- The lane whose gate power is cut (R53, R55, R58), before its stages stop: E0 has had no reset since, and no own line is out. -/
def Lane.powerCut (x : Lane) : Lane :=
  bothPeers.foldl (fun x p => x.updPeer p fun q => { q with lineOut := false })
    { x.cutGates with gate := { x.cutGates.gate with porSince := false } }

theorem exec_gatePowerLatch (h : Sees s l t x) (v : Bool) : exec (.gatePowerLatch l t v) s = .next (s.setLane l
    (if (x.lineCounts .lo && x.lineCounts .hi && !x.gateCut) = true then (x.seeTerminals v).powerCut.ceaseSteer.openBrakes.strike 1
     else x.seeTerminals v)) :=
  (onLaneAt_of_sees h _ : execGatePowerLatch l t v s = _)

theorem exec_shortRelease (h : Sees s l t x) : exec (.shortRelease l t) s = .next (s.setLane l
    (if ((match x.gate.emfLowSince with | some t0 => decide (t0 + 10000000 ≤ x.now) | none => false) && !x.gateCut) = true
     then x.setRbit Rg.gdStat 12 false else x)) :=
  (onLaneAt_of_sees h _ : execShortRelease l t s = _).trans rfl

theorem exec_rearm (h : Sees s l t x) : exec (.rearm l t) s = .next (s.setLane l
    (if (x.gate.porSince && !x.peerLo.lineIn && !x.peerHi.lineIn) = true
     then ((x.setRbit Rg.gdStat 0 false).setRbit Rg.gdStat 14 false).diagDueAll else x.inc O.rearmRefused)) :=
  (onLaneAt_of_sees h _ : execRearm l t s = _)

end

theorem Lane.cutGates_reach (x : Lane) : x.cutGates = { x with objs := (x.inc16 O.gpwrCuts).objs, regs := x.cutGates.regs } := by
  unfold Lane.cutGates
  extract_lets y
  rfl

theorem Lane.cutGates_regs (x : Lane) : x.cutGates.gateCut = true ∧ x.cutGates.fld Rg.gdCtl 0 9 = 0 ∧
    x.cutGates.fld Rg.sumpEvict 0 2 = min (x.fld Rg.sumpEvict 0 2 + 1) 3 ∧
    RegsKept [Rg.gdStat.addr, Rg.gdCtl.addr, Rg.sumpEvict.addr] x x.cutGates := by
  have latched : (x.setRbit Rg.gdStat 0 true).rbit Rg.gdStat 0 = true := x.rbit_setRbit Rg.gdStat true (by decide)
  unfold Lane.cutGates
  extract_lets y
  have before : y.reg Rg.sumpEvict = x.reg Rg.sumpEvict :=
    (Lane.reg_setFld_of_ne _ 0 9 0 (by decide)).trans (x.reg_setRbit_of_ne 0 true (by decide))
  refine ⟨?_, ?_, ?_, ?_⟩
  · exact (Lane.rbit_of_reg_eq ((y.reg_setFld_of_ne 0 2 _ (by decide)).trans (Lane.reg_setFld_of_ne _ 0 9 0 (by decide))) 0).trans latched
  · exact (congrArg (fun v => bits v 0 9) (y.reg_setFld_of_ne 0 2 _ (by decide))).trans (Lane.fld_setFld _ Rg.gdCtl 0 (by decide))
  · rw [Lane.fld_setFld y Rg.sumpEvict _ (by decide), Lane.fld, before, ← Lane.fld]
    omega
  · exact ((regsKept_setRbit (r := Rg.gdStat) (by decide) x 0 true).trans (regsKept_setFld (r := Rg.gdCtl) (by decide) _ 0 9 0)).trans
      (regsKept_setFld (r := Rg.sumpEvict) (by decide) y 0 2 _)

theorem Lane.powerCut_eq (x : Lane) : x.powerCut = { x.cutGates with
    gate := { x.cutGates.gate with porSince := false }
    peerLo := { x.cutGates.peerLo with lineOut := false }, peerHi := { x.cutGates.peerHi with lineOut := false } } := by
  unfold Lane.powerCut
  generalize x.cutGates = y
  rfl

/-! The stages stop, and the class strikes (R64, R65). -/

theorem Lane.gateCut_ceaseSteer (x : Lane) : x.ceaseSteer.gateCut = x.gateCut := by
  unfold Lane.ceaseSteer Lane.chooseSafe Lane.raiseBit
  split
  · exact Lane.rbit_setRbit_beside _ Rg.gdStat true (i := 12) (j := 0) (by decide) (by decide)
  · rfl

theorem Lane.gateCut_of_regs {x y : Lane} (h : y.regs = x.regs) : y.gateCut = x.gateCut := by
  unfold Lane.gateCut Lane.rbit Lane.reg
  rw [h]

theorem Lane.gateCut_stop (x : Lane) : x.ceaseSteer.openBrakes.gateCut = x.gateCut :=
  (Lane.gateCut_of_regs (Lane.openBrakes_regs _)).trans x.gateCut_ceaseSteer

/-- A class that strikes is noted, stands already, or raises the second fault, which stops the stages (R64, R65). -/
theorem Lane.strike_cases (x : Lane) (cls : Nat) : (∃ d, x.strike cls = { x with drive := d }) ∨
    ∃ c, x.strike cls = ({ x with coll := c } : Lane).ceaseSteer.openBrakes.dropClaim := by
  unfold Lane.strike
  split
  · exact .inl ⟨_, rfl⟩
  split
  · exact .inl ⟨x.drive, rfl⟩
  · exact .inr ⟨_, rfl⟩

theorem Lane.gateCut_strike (x : Lane) (cls : Nat) : (x.strike cls).gateCut = x.gateCut := by
  rcases x.strike_cases cls with ⟨d, e⟩ | ⟨c, e⟩ <;> rw [e]
  · rfl
  · have dropped := Lane.gateCut_of_regs (x := ({ x with coll := c } : Lane).ceaseSteer.openBrakes) (Lane.dropClaim_regs _)
    rw [dropped, Lane.gateCut_stop]
    rfl

theorem Lane.steer_strike_off {x : Lane} (cls : Nat) (off : x.steer.driving = false) : (x.strike cls).steer.driving = false := by
  rcases x.strike_cases cls with ⟨d, e⟩ | ⟨c, e⟩ <;> rw [e]
  · exact off
  · have stopped : (({ x with coll := c } : Lane).ceaseSteer.openBrakes).steer.driving = false := by simp
    exact stopped

theorem Lane.brakes_strike_off {x : Lane} (cls : Nat) (off : ∀ n : Fin 8, x.brakes[n].driving = false) (n : Fin 8) :
    (x.strike cls).brakes[n].driving = false := by
  rcases x.strike_cases cls with ⟨d, e⟩ | ⟨c, e⟩ <;> rw [e]
  · exact off n
  · rw [Lane.dropClaim_brakes, Lane.openBrakes_driving]

/-- The first class of a lane strikes, or one that stands (R64). -/
theorem Lane.strike_of_first {x : Lane} {cls : Nat} (first : x.drive.firstClass = 0 ∨ x.drive.firstClass = cls) :
    x.strike cls = { x with drive := { x.drive with firstClass := cls } } := by
  unfold Lane.strike
  rcases first with h | rfl
  · rw [if_pos h]
  · by_cases h : x.drive.firstClass = 0
    · rw [if_pos h]
    · rw [if_neg h, if_pos rfl]

theorem Lane.stop_reach (x : Lane) : ∃ rs a b, x.ceaseSteer.openBrakes = { x with regs := rs, steer := a, brakes := b } := by
  obtain ⟨rs, a, b, e⟩ := x.ceaseStage_reach .steer
  have e : x.ceaseSteer = { x with regs := rs, steer := a, brakes := b } := e
  rw [Lane.openBrakes_reach, e]
  exact ⟨_, _, _, rfl⟩

/-! Re-arming (R57, R263, R264). -/

/-- What a stage owes after a re-arming: its diagnostics, but for one that has failed them. -/
def StageSt.owesDiag (s : StageSt) : StageSt := { s with diag := if s.diag = .failed then .failed else .due }

/-- The stages owe their diagnostics, and nothing else changes. -/
theorem Lane.owesDiag_only (x : Lane) : ∃ a b, allStages.foldl (fun l st => l.updStg st StageSt.owesDiag) x = { x with steer := a, brakes := b } :=
  List.foldlRecOn (motive := fun m => ∃ a b, m = { x with steer := a, brakes := b }) allStages _ ⟨_, _, rfl⟩ fun m hm st _ => by
    obtain ⟨_, _, rfl⟩ := hm
    exact Lane.updStg_only _ st _

theorem Lane.diagDueAll_eq (x : Lane) : x.diagDueAll = (allStages.foldl (fun l st => l.updStg st StageSt.owesDiag) x).diagStart := rfl

/-- Every stage's diagnostics are due, as a lane that reads the same of its preconditions finds them. -/
theorem diagRuns_diagDueAll {x z : Lane} (stg : ∀ st, z.stg st = x.stg st) (met : ∀ st, z.diagMet st = x.diagMet st)
    (has : ∀ st, z.hasStage st = x.hasStage st) (now : z.now = x.now) : DiagRuns x (fun st => (x.stg st).owesDiag) z.diagDueAll := by
  rw [Lane.diagDueAll_eq]
  have owed : ∀ st, (allStages.foldl (fun l st => l.updStg st StageSt.owesDiag) z).stg st = (x.stg st).owesDiag := fun st => by
    rw [Lane.stg_updStages, stg]
  obtain ⟨a, b, only⟩ := z.owesDiag_only
  rw [only] at owed ⊢
  exact diagRuns_diagStart owed (fun st => (by cases st <;> rfl : _ = z.diagMet st).trans (met st))
    (fun st => (by cases st <;> rfl : _ = z.hasStage st).trans (has st)) now

theorem Lane.diagDueAll_only (x : Lane) : ∃ a b c, x.diagDueAll = { x.setRbit Rg.gdStat 13 c with steer := a, brakes := b } := by
  obtain ⟨a, b, only⟩ := x.owesDiag_only
  rw [Lane.diagDueAll_eq, only]
  obtain ⟨a, b, c, e⟩ := Lane.diagStart_only { x with steer := a, brakes := b }
  exact ⟨a, b, c, e⟩

end Sys2Proof.Machine
end

section
/-!
SUPPORT. The lanes' part of the arbiter and the cut of the gate power, command by command (R53 to R58, R75 to R89, R95, R263).
-/
namespace Sys2Proof.Machine

section
variable {s : State} {l : LaneId} {t : Nat} {x : Lane}

theorem Lane.statusTaken_kept {x y : Lane} (h : StatusTaken x y) : y.claim.tenure = x.claim.tenure ∧ y.claim.winner = x.claim.winner ∧
    ∀ c, ({ y with claim := c } : Lane) = { x with claim := c, objs := y.objs } := by
  obtain ⟨-, os, a, c, rfl⟩ := h
  exact ⟨rfl, rfl, fun _ => rfl⟩

/-- The lane after its gate power is cut: stages off, and the class strikes (R53, R64). -/
def Lane.cutPower (x : Lane) (v : Bool) : Lane := (x.seeTerminals v).powerCut.ceaseSteer.openBrakes.strike 1

/-- The stop of the stages and the strike leave every register but GD_STAT as the cut has it. -/
theorem Lane.reg_cutPower (x : Lane) (v : Bool) {r : Rg.Reg} (ne : r.addr ≠ Rg.gdStat.addr) :
    (x.cutPower v).reg r = (x.seeTerminals v).cutGates.reg r := by
  have other : r.addr ∉ [Rg.gdStat.addr] := by simpa using ne
  calc (x.cutPower v).reg r = (x.seeTerminals v).powerCut.ceaseSteer.openBrakes.reg r := Lane.strike_regs _ 1 r other
    _ = (x.seeTerminals v).powerCut.ceaseSteer.reg r := by rw [Lane.reg, Lane.openBrakes_regs, ← Lane.reg]
    _ = (x.seeTerminals v).powerCut.reg r := Lane.ceaseStage_regsKept _ .steer r other
    _ = (x.seeTerminals v).cutGates.reg r := by rw [Lane.powerCut_eq]; rfl

theorem Lane.regsKept_cutPower (x : Lane) (v : Bool) : RegsKept [Rg.gdStat.addr, Rg.gdCtl.addr, Rg.sumpEvict.addr] x (x.cutPower v) :=
  fun r hr => by
    obtain ⟨-, -, -, kept⟩ := (x.seeTerminals v).cutGates_regs
    exact (x.reg_cutPower v fun e => hr (by simp [e])).trans (kept r hr)

theorem Lane.gateCut_cutPower (x : Lane) (v : Bool) : (x.cutPower v).gateCut = true := by
  obtain ⟨latched, -⟩ := (x.seeTerminals v).cutGates_regs
  rw [Lane.cutPower, Lane.gateCut_strike, Lane.gateCut_stop, Lane.powerCut_eq]
  exact latched

theorem Lane.objs_cutPower (x : Lane) (v : Bool) : (x.cutPower v).objs = (x.inc16 O.gpwrCuts).objs := by
  rw [Lane.cutPower, Lane.strike_objs, Lane.openBrakes_objs, Lane.ceaseSteer_objs, Lane.powerCut_eq, Lane.cutGates_reach]
  rfl

theorem Lane.gate_cutPower (x : Lane) (v : Bool) : (x.cutPower v).gate = { x.gate with emfHigh := v, emfAt := x.now, porSince := false } := by
  rw [Lane.cutPower, Lane.strike_gate, Lane.openBrakes_gate, Lane.ceaseSteer_gate, Lane.powerCut_eq, Lane.cutGates_reach]
  rfl

theorem Lane.lineOut_cutPower (x : Lane) (v : Bool) (p : Peer) : ((x.cutPower v).peer p).lineOut = false := by
  cases p
  · change (x.cutPower v).peerLo.lineOut = false
    rw [Lane.cutPower, Lane.strike_peerLo, Lane.openBrakes_peerLo, Lane.ceaseSteer_peerLo, Lane.powerCut_eq]
  · change (x.cutPower v).peerHi.lineOut = false
    rw [Lane.cutPower, Lane.strike_peerHi, Lane.openBrakes_peerHi, Lane.ceaseSteer_peerHi, Lane.powerCut_eq]

/-- With no other class before it, the cut is no second fault (R64, R65). -/
theorem Lane.cutPower_of_first {x : Lane} (v : Bool) (first : x.drive.firstClass = 0 ∨ x.drive.firstClass = 1) :
    ∃ os rs g a b lo hi, x.cutPower v = { x with
      drive := { x.drive with firstClass := 1 }, objs := os, regs := rs, gate := g, steer := a, brakes := b, peerLo := lo, peerHi := hi } := by
  have drive : (x.seeTerminals v).powerCut.ceaseSteer.openBrakes.drive = x.drive := by
    rw [Lane.openBrakes_drive, Lane.ceaseSteer_drive, Lane.powerCut_eq, Lane.cutGates_reach]
    rfl
  obtain ⟨rs, a, b, stop⟩ := (x.seeTerminals v).powerCut.stop_reach
  rw [Lane.cutPower, Lane.strike_of_first (by rwa [drive]), drive, stop, Lane.powerCut_eq, Lane.cutGates_reach]
  exact ⟨_, _, _, _, _, _, _, rfl⟩

/-- A rearm: the latch and the bit of the failed gates go, and every stage owes its diagnostics (R57, R263, R264). -/
def Lane.rearmed (x : Lane) : Lane := ((x.setRbit Rg.gdStat 0 false).setRbit Rg.gdStat 14 false).diagDueAll

theorem Lane.rearmed_reach (x : Lane) : ∃ a b c, x.rearmed =
    { ((x.setRbit Rg.gdStat 0 false).setRbit Rg.gdStat 14 false).setRbit Rg.gdStat 13 c with steer := a, brakes := b } :=
  Lane.diagDueAll_only _

theorem Lane.rearmed_regs (x : Lane) : x.rearmed.gateCut = false ∧ x.rearmed.rbit Rg.gdStat 14 = false ∧
    RegsKept [Rg.gdStat.addr] x x.rearmed := by
  obtain ⟨a, b, c, e⟩ := x.rearmed_reach
  rw [e]
  generalize hy : x.setRbit Rg.gdStat 0 false = y
  generalize hz : y.setRbit Rg.gdStat 14 false = z
  have latch : y.rbit Rg.gdStat 0 = false := hy ▸ x.rbit_setRbit Rg.gdStat false (by decide)
  have kept : z.rbit Rg.gdStat 0 = y.rbit Rg.gdStat 0 := hz ▸ y.rbit_setRbit_beside Rg.gdStat false (by decide) (by decide)
  have failed : z.rbit Rg.gdStat 14 = false := hz ▸ y.rbit_setRbit Rg.gdStat false (by decide)
  have regs : ∀ {r : Rg.Reg}, r.addr ≠ Rg.gdStat.addr → z.reg r = x.reg r := fun ne =>
    (hz ▸ y.reg_setRbit_of_ne 14 false ne : z.reg _ = y.reg _).trans (hy ▸ x.reg_setRbit_of_ne 0 false ne)
  refine ⟨?_, ?_, fun r hr => ?_⟩
  · exact (z.rbit_setRbit_beside Rg.gdStat c (i := 13) (j := 0) (by decide) (by decide)).trans (kept.trans latch)
  · exact (z.rbit_setRbit_beside Rg.gdStat c (i := 13) (j := 14) (by decide) (by decide)).trans failed
  · have ne : r.addr ≠ Rg.gdStat.addr := by simpa using hr
    exact (z.reg_setRbit_of_ne 13 c ne).trans (regs ne)

theorem Lane.diagRuns_rearmed (x : Lane) : DiagRuns x (fun st => (x.stg st).owesDiag) x.rearmed := by
  refine diagRuns_diagDueAll (fun st => ?_) (fun st => ?_) (fun st => ?_) rfl
  · cases st <;> rfl
  · cases st with
    | steer =>
      unfold Lane.diagMet Lane.hvClosed Lane.ctState Lane.fld
      dsimp only
      rw [Lane.reg_setRbit_of_ne _ _ _ (by decide), Lane.reg_setRbit_of_ne _ _ _ (by decide)]
    | brake n => rfl
  · cases st <;> rfl

end

/-- Settles O38, command by command: the claim frame, the windows and the status frame read off their equations, a comparison of feedback lane
by lane, and of the gate power what the cut and the re-arming leave. -/
theorem lanesClaimAndEvictionLinesCutPower : Obligations.LanesClaimAndEvictionLinesCutPower := by
  refine ⟨fun s l t x h => ⟨exec_claimFrameSend_of_down h, fun up => ?claimFrame, fun inside => ?inside, fun ends => ?window,
    fun f c => ⟨fun wrong => ?wrong, fun right => ?status⟩, fun n v => ⟨fun other => ?refused, fun zero => ?clear⟩, fun n idle => ?idle,
    fun n rs bad claims waited lenRun lenOut hrs hbad => ?compare⟩,
    fun s l t x h => ⟨fun p v => ?line, fun v off => ?uncut, fun v lo hi fed => ?cut, fun t0 low since fed => ?release, fun held => ?held,
      fun por lo hi => ?rearm, fun barred => ?barred⟩⟩
  case claimFrame =>
    have exec_eq := exec_claimFrameSend_of_up h up
    have healthy : (x.claimSent l).claim.winHealthy = true ↔
        x.claim.winHealthy = true ∧ x.claim.claiming = true ∧ bitOf (x.score l) 7 = true := by
      simp [Lane.claimSent, and_assoc]
    by_cases answers : (x.upd.answerDue && decide ((x.claimFrame l).claim = 0)) = true
    · rw [if_pos answers] at exec_eq
      obtain ⟨claim, answered⟩ := (x.claimSent l).asideAnswered_kept
      simp only [Bool.and_eq_true, decide_eq_true_eq] at answers
      refine ⟨_, x.claimFrame l, exec_eq, by rw [claim]; rfl, rfl, rfl, Lane.claim_claimFrame_of_none l, Lane.claim_claimFrame_of_claiming l,
        by rw [claim]; exact healthy, fun _ _ => answered, fun none => ?_⟩
      rcases none with none | none
      · simp [none] at answers
      · exact absurd answers.2 none
    · rw [if_neg answers] at exec_eq
      exact ⟨_, x.claimFrame l, exec_eq, rfl, rfl, rfl, Lane.claim_claimFrame_of_none l, Lane.claim_claimFrame_of_claiming l, healthy,
        fun due zero => absurd (by simp [due, zero]) answers,
        fun _ => ⟨(countedBy_inc _ O.claimFrames).of_obj_eq rfl rfl, fun o ho => Lane.obj_inc_of_ne _ (by simpa using ho), rfl⟩⟩
  case inside => rw [exec_claimWindowEnd h, if_pos inside]
  case window =>
    rw [exec_claimWindowEnd h, if_neg (not_not.mpr ends)]
    refine ⟨_, rfl, rfl, fun claims healthy wins => ?_, fun claims healthy loses => ?_, fun none => ?_⟩
    · simp [ClaimSt.windowTenure, claims, healthy, wins]
    · simp [ClaimSt.windowTenure, claims, healthy, loses]
    · rcases none with none | none <;> simp [ClaimSt.windowTenure, none]
  case wrong => rw [exec_arbiterStatusFrame h, if_neg wrong]
  case status =>
    have taken := statusTaken_statusCounted x l f
    obtain ⟨tenure, -, only⟩ := Lane.statusTaken_kept taken
    obtain ⟨winner, flags, disregard, stop⟩ := x.obj_takeArbiter f
    have low : ∀ {o : O.Obj}, o.key < 0x221000 → (x.takeStatus l f).obj o = (x.takeArbiter f).obj o := x.obj_statusCounted_of_low l f
    obtain ⟨agree, differ⟩ := x.disagreements_takeArbiter f
    refine ⟨x.takeStatus l f, by rw [exec_arbiterStatusFrame h, if_pos right], (low (by decide)).trans winner, (low (by decide)).trans flags,
      (low (by decide)).trans disregard, (low (by decide)).trans stop, fun n hn => x.showsOutput_statusCounted l f hn, ?_, ?_,
      fun set => (low (by decide)).trans (agree set), fun clear => (differ clear).of_obj_eq rfl (low (by decide)), taken.1, only _⟩
    · simp [Lane.takeStatus_eq_counted, namesWinner]
    · rw [Lane.takeStatus_eq_counted, tenure]
  case refused => rw [exec_outFaultClear h, if_neg other]
  case clear =>
    rw [exec_outFaultClear h, if_pos zero]
    exact ⟨_, rfl, rfl, fun i outside => x.claim.endReadings_outside outside, fun i low high => x.claim.endReadings_inside low high⟩
  case idle =>
    rw [exec_contactorFeedbackCompare h, if_neg (by rcases idle with i | i <;> simp [i])]
  case compare =>
    rw [exec_contactorFeedbackCompare h, if_pos (by simp [claims, waited]), Lane.compared_eq, ← hrs, ← hbad]
    have own := fun {ln : Nat} => ClaimSt.compareAll_own (c := x.claim) l (oddReadings rs) lenRun lenOut n.isLt (ln := ln)
    refine ⟨_, rfl, rfl, ?_, fun i outside => x.claim.compareAll_outside l _ outside, rfl, fun ln b low high three mem alone => ?_,
      fun ln b low high mem others => ?_, fun few ln low high => ?_⟩
    · obtain ⟨low, high⟩ : 1 ≤ laneNo l ∧ laneNo l ≤ 3 := by cases l <;> decide
      rw [ClaimSt.fbEvents_compareAll, (own low high).1]
    · obtain ⟨run, out⟩ := own low high
      rw [run, out]
      exact ⟨if_pos (any_oddReadings_of_alone (hrs ▸ x.length_fbReadings_le l n) three mem (hbad ▸ alone)), rfl⟩
    · rw [(own low high).1]
      exact if_neg (by rw [any_oddReadings_of_others (hrs ▸ x.fbReadings_nodup l n) mem (hbad ▸ others)]; decide)
    · rw [(own low high).1]
      exact if_neg (by simp [oddReadings_of_few few])
  case line =>
    rw [exec_evictionLine h]
    refine ⟨_, rfl, ?_, ?_, ?_, ?_, ?_⟩
    · cases p <;> rfl
    · cases p <;> rfl
    · cases p <;> exact Lane.rbit_setRbit _ _ v (by decide)
    · cases p <;> exact fun r hr => Lane.reg_setRbit_of_ne _ _ v (by simpa using hr)
    · cases p <;> rfl
  case uncut =>
    rw [exec_gatePowerLatch h, if_neg (by rcases off with o | o | o <;> simp [o])]
  case cut =>
    rw [exec_gatePowerLatch h, if_pos (by simp [lo, hi, fed]), ← Lane.cutPower]
    obtain ⟨-, disabled, sump, -⟩ := (x.seeTerminals v).cutGates_regs
    have objs := x.objs_cutPower v
    refine ⟨_, rfl, x.gateCut_cutPower v, ?_, ?_, fun below => ?_, Lane.steer_strike_off 1 (by simp),
      Lane.brakes_strike_off 1 fun n => Lane.openBrakes_driving _ n, x.lineOut_cutPower v, x.gate_cutPower v, fun first => ?_, fun o ho => ?_,
      x.regsKept_cutPower v⟩
    · rw [Lane.fld, x.reg_cutPower v (by decide)]
      exact disabled
    · rw [Lane.fld, x.reg_cutPower v (by decide)]
      exact sump
    · rw [Lane.obj, objs]
      exact (Lane.obj_setObj x O.gpwrCuts _).trans (countUp_of_lt below)
    · obtain ⟨os, rs, g, a, b, plo, phi, e⟩ := Lane.cutPower_of_first v first
      rw [e]
      exact ⟨rfl, rfl, rfl⟩
    · rw [Lane.obj, objs]
      exact x.obj_setObj_of_ne _ (by simpa using ho)
  case release =>
    rw [exec_shortRelease h, if_pos (by simp [low, since, fed])]
  case held =>
    rw [exec_shortRelease h, if_neg ?_]
    rcases held with early | cut
    · cases e : x.gate.emfLowSince with
      | none => simp
      | some t0 => simp [Nat.not_le.mpr (early t0 e)]
    · simp [cut]
  case rearm =>
    rw [exec_rearm h, if_pos (by simp [por, lo, hi]), ← Lane.rearmed]
    obtain ⟨latch, failed, kept⟩ := x.rearmed_regs
    obtain ⟨a, b, c, e⟩ := x.rearmed_reach
    exact ⟨_, rfl, latch, failed, x.diagRuns_rearmed, kept, by rw [e]; rfl⟩
  case barred =>
    rw [exec_rearm h, if_neg (by rcases barred with b | b | b <;> simp [b])]

end Sys2Proof.Machine
end

section
/-!
SUPPORT. The outputs of the arbiter tile (R71, R74, R85, R87): what stands at one output, and what each operation does at it. An operation
at one output is a write of what stands there, and an operation at all of them is the same function at each.
-/
namespace Sys2Proof.Machine

/-- What stands at an output of the arbiter: its duty, the ramp that it follows, whether its channel is held, and the cause. -/
@[ext] structure OutSt where
  duty : Nat
  ramp : Option (Nat × Nat)
  held : Bool
  cause : Nat

namespace OutSt

/-- Off, or ramping down (R71). -/
def Down (o : OutSt) : Prop := o.duty = 0 ∨ o.ramp.isSome = true

/-- A held output is down, and only a held one has a cause (R87). -/
structure Ok (o : OutSt) : Prop where
  held : o.held = true → o.Down
  cause : o.held = false → o.cause = 0

/-- An output follows its ramp (R71). -/
def follow (now : Nat) (o : OutSt) : OutSt :=
  { o with duty := match o.ramp with
    | some (d, t0) => rampDuty d t0 now
    | none => o.duty }

/-- Output `n` goes to its safe state (R71, R85). -/
def vent (a : Arbiter) (n : Nat) (o : OutSt) : OutSt :=
  if o.ramp.isSome then o
  else if bitOf a.safeMode n && o.duty ≠ 0 then { o with ramp := some (o.duty, a.now) }
  else { o with duty := 0, ramp := none }

/-- Output `n` is held with a cause (R87). -/
def hold (a : Arbiter) (n cause : Nat) (o : OutSt) : OutSt :=
  if o.held then o else vent a n { o with held := true, cause := cause }

/-- CHAN_CLEAR releases held output `n` (R87). -/
def release (f : ClaimFrame) (sense : ArbSense) (n : Nat) (o : OutSt) : OutSt :=
  if o.held && bitOf f.chanClear.toNat n && bitOf sense.checkPass.toNat n && !bitOf f.chanHold.toNat n then
    { o with held := false, cause := 0 } else o

/-- CHAN_HOLD holds output `n` (R87). -/
def holdBy (f : ClaimFrame) (a : Arbiter) (n : Nat) (o : OutSt) : OutSt :=
  if bitOf f.chanHold.toNat n then o.hold a n 5 else o

/-- An output that is not held takes the duty of a command; a degraded arbiter raises none (R74). -/
def drive (f : ClaimFrame) (a : Arbiter) (n : Nat) (o : OutSt) : OutSt :=
  if o.held then o
  else if a.degraded && o.duty < (f.outCmd.getD n 0).toNat then o
  else { o with duty := (f.outCmd.getD n 0).toNat, ramp := none }

/-- The command of a winner at output `n` (R74, R85, R87). -/
def take (f : ClaimFrame) (sense : ArbSense) (a : Arbiter) (n : Nat) (o : OutSt) : OutSt :=
  ((o.release f sense n).holdBy f a n).drive f a n

section
variable (a : Arbiter) (n cause : Nat) (o : OutSt) (f : ClaimFrame) (sense : ArbSense)

@[simp] theorem held_vent : (o.vent a n).held = o.held := by unfold vent; split_ifs <;> rfl

@[simp] theorem cause_vent : (o.vent a n).cause = o.cause := by unfold vent; split_ifs <;> rfl

variable {a n cause o f sense}

theorem follow_of_none (h : o.ramp = none) (now : Nat) : o.follow now = o :=
  OutSt.ext (by rw [follow, h]) rfl rfl rfl

theorem Down.follow (h : o.Down) (now : Nat) : (o.follow now).Down := by
  cases e : o.ramp with
  | none => rwa [follow_of_none e]
  | some r => exact .inr (congrArg Option.isSome (show (o.follow now).ramp = some r from e))

/-- The safe state is off, or a ramp from the duty that stands. -/
theorem vent_off_or_ramps : (o.vent a n).duty = 0 ∨ (o.vent a n).ramp.isSome = true ∧ (o.vent a n).duty = o.duty := by
  unfold vent
  split_ifs with ramps ramped
  · exact .inr ⟨ramps, rfl⟩
  · exact .inr ⟨rfl, rfl⟩
  · exact .inl rfl

theorem down_vent : (o.vent a n).Down := vent_off_or_ramps.imp_right And.left

theorem duty_vent_le : (o.vent a n).duty ≤ o.duty := by
  rcases vent_off_or_ramps (a := a) (n := n) (o := o) with h | ⟨-, h⟩ <;> omega

/-- Without a ramped vent, an output that has none is off in its safe state. -/
theorem duty_vent_of_immediate (mode : bitOf a.safeMode n = false) (none : o.ramp = none) : (o.vent a n).duty = 0 := by
  simp [vent, mode, none]

theorem hold_of_held (h : o.held = true) : o.hold a n cause = o := if_pos h

theorem hold_of_free (h : o.held = false) : o.hold a n cause = vent a n { o with held := true, cause := cause } :=
  if_neg (by simp [h])

theorem held_hold : (o.hold a n cause).held = true := by
  cases h : o.held with
  | true => rw [hold_of_held h, h]
  | false => rw [hold_of_free h, held_vent]

theorem duty_hold_le : (o.hold a n cause).duty ≤ o.duty := by
  cases h : o.held with
  | true => rw [hold_of_held h]
  | false =>
    rw [hold_of_free h]
    exact duty_vent_le

theorem drive_of_held (h : o.held = true) : o.drive f a n = o := if_pos h

@[simp] theorem held_drive : (o.drive f a n).held = o.held := by unfold drive; split_ifs <;> rfl

/-- A degraded arbiter raises no duty (R74). -/
theorem duty_drive_le (degraded : a.degraded = true) : (o.drive f a n).duty ≤ o.duty := by
  unfold drive
  split_ifs with held above
  · exact le_rfl
  · exact le_rfl
  · simpa [degraded] using above

theorem release_of_kept (h : bitOf f.chanClear.toNat n = false ∨ bitOf f.chanHold.toNat n = true ∨ o.held = false) :
    o.release f sense n = o :=
  if_neg (by rcases h with h | h | h <;> simp [h])

theorem duty_release : (o.release f sense n).duty = o.duty := by unfold release; split_ifs <;> rfl

theorem holdBy_of_clear (h : bitOf f.chanHold.toNat n = false) : o.holdBy f a n = o := if_neg (by simp [h])

theorem holdBy_of_set (h : bitOf f.chanHold.toNat n = true) : o.holdBy f a n = o.hold a n 5 := if_pos h

/-! A command at one output, case by case. -/

theorem take_of_free (free : o.held = false) (clear : bitOf f.chanHold.toNat n = false)
    (low : a.degraded = false ∨ (f.outCmd.getD n 0).toNat ≤ o.duty) :
    o.take f sense a n = { o with duty := (f.outCmd.getD n 0).toNat, ramp := none } := by
  rw [take, release_of_kept (.inr (.inr free)), holdBy_of_clear clear, drive, if_neg (by simp [free]), if_neg ?_]
  rcases low with low | low
  · simp [low]
  · rw [Bool.and_eq_true, decide_eq_true_eq]
    exact fun above => Nat.not_lt.mpr low above.2

theorem held_take_of_hold (h : bitOf f.chanHold.toNat n = true) : (o.take f sense a n).held = true := by
  rw [take, release_of_kept (.inr (.inl h)), holdBy_of_set h, held_drive, held_hold]

theorem held_take_of_release (held : o.held = true) (clear : bitOf f.chanHold.toNat n = false)
    (asked : bitOf f.chanClear.toNat n = true) (pass : bitOf sense.checkPass.toNat n = true) : (o.take f sense a n).held = false := by
  rw [take, holdBy_of_clear clear, held_drive, release, if_pos (by simp [held, clear, asked, pass])]

theorem take_of_held (held : o.held = true) (kept : bitOf f.chanClear.toNat n = false) : o.take f sense a n = o := by
  have stays : o.holdBy f a n = o := by
    unfold holdBy
    split_ifs
    · exact hold_of_held held
    · rfl
  rw [take, release_of_kept (.inl kept), stays, drive_of_held held]

theorem duty_take_le (degraded : a.degraded = true) : (o.take f sense a n).duty ≤ o.duty := by
  have holds : ((o.release f sense n).holdBy f a n).duty ≤ o.duty := by
    unfold holdBy
    split_ifs
    · exact duty_hold_le.trans_eq duty_release
    · exact duty_release.le
  exact (duty_drive_le degraded).trans holds

/-! What keeps an output as R87 asks. -/

theorem Ok.follow (h : o.Ok) (now : Nat) : (o.follow now).Ok := ⟨fun held => (h.held held).follow now, h.cause⟩

theorem Ok.vent (h : o.Ok) : (o.vent a n).Ok where
  held _ := down_vent
  cause free := (o.cause_vent a n).trans (h.cause (by simpa using free))

theorem Ok.hold (h : o.Ok) : (o.hold a n cause).Ok where
  held _ := by
    cases e : o.held with
    | true => simpa [hold_of_held e] using h.held e
    | false => simpa [hold_of_free e] using down_vent
  cause free := by simp [held_hold] at free

theorem Ok.release (h : o.Ok) : (o.release f sense n).Ok := by
  unfold OutSt.release
  split_ifs
  · exact ⟨fun held => absurd held (by simp), fun _ => rfl⟩
  · exact h

theorem Ok.holdBy (h : o.Ok) : (o.holdBy f a n).Ok := by
  unfold OutSt.holdBy
  split_ifs
  · exact h.hold
  · exact h

theorem Ok.drive (h : o.Ok) : (o.drive f a n).Ok := by
  unfold OutSt.drive
  split_ifs with held
  · exact h
  · exact h
  · exact ⟨fun held' => absurd held' held, h.cause⟩

theorem Ok.take (h : o.Ok) : (o.take f sense a n).Ok := h.release.holdBy.drive

end

end OutSt

/-- What stands at output `n`. -/
def Arbiter.output (a : Arbiter) (n : Nat) : OutSt := ⟨nth a.outState n, a.ramp.getD n none, nthB a.chanFault n, nth a.chanCause n⟩

/-- The arbiter with another state at output `n`. -/
def Arbiter.setOutput (a : Arbiter) (n : Nat) (o : OutSt) : Arbiter :=
  { a with outState := a.outState.set n o.duty, ramp := a.ramp.set n o.ramp, chanFault := a.chanFault.set n o.held,
           chanCause := a.chanCause.set n o.cause }

/-- The arbiter with a function applied at every output. -/
def Arbiter.mapOutputs (a : Arbiter) (g : Nat → OutSt → OutSt) : Arbiter :=
  { a with
    outState := (List.range 8).map fun n => (g n (a.output n)).duty
    ramp := (List.range 8).map fun n => (g n (a.output n)).ramp
    chanFault := (List.range 8).map fun n => (g n (a.output n)).held
    chanCause := (List.range 8).map fun n => (g n (a.output n)).cause }

/-- Every list of the outputs has eight entries. -/
structure Arbiter.Fits (a : Arbiter) : Prop where
  outs : a.outState.length = 8
  ramps : a.ramp.length = 8
  faults : a.chanFault.length = 8
  causes : a.chanCause.length = 8

/-- `b` is `a` but for the outputs. -/
def Arbiter.OutputsOnly (a b : Arbiter) : Prop :=
  b = { a with chanFault := b.chanFault, chanCause := b.chanCause, outState := b.outState, ramp := b.ramp }

theorem set_getD_self {α : Type} (l : List α) (n : Nat) (d : α) : l.set n (l.getD n d) = l := by
  by_cases h : n < l.length
  · simp [h]
  · exact List.set_eq_of_length_le (by omega)

theorem getD_set {α : Type} (l : List α) (i j : Nat) (v d : α) : (l.set i v).getD j d = if j = i ∧ i < l.length then v else l.getD j d := by
  rw [List.getD_eq_getElem?_getD, List.getD_eq_getElem?_getD, List.getElem?_set]
  split_ifs <;> simp_all

section
variable {a b : Arbiter} {m n : Nat} (o : OutSt)

theorem Arbiter.Fits.setOutput (fits : a.Fits) : (a.setOutput n o).Fits :=
  ⟨(List.length_set ..).trans fits.outs, (List.length_set ..).trans fits.ramps, (List.length_set ..).trans fits.faults,
    (List.length_set ..).trans fits.causes⟩

@[simp] theorem Arbiter.setOutput_output (a : Arbiter) (n : Nat) : a.setOutput n (a.output n) = a := by
  simp [Arbiter.setOutput, Arbiter.output, nth, nthB, -List.getD_eq_getElem?_getD, set_getD_self]

@[simp] theorem Arbiter.setOutput_setOutput (p : OutSt) : (a.setOutput n o).setOutput n p = a.setOutput n p := by
  simp [Arbiter.setOutput]

theorem Arbiter.output_setOutput (fits : a.Fits) (hn : n < 8) : (a.setOutput n o).output n = o := by
  obtain ⟨outs, ramps, faults, causes⟩ := fits
  simp only [Arbiter.output, Arbiter.setOutput, nth_set, nthB_set, getD_set, outs, ramps, faults, causes, hn, and_self, if_true]

theorem Arbiter.output_setOutput_of_ne (h : m ≠ n) : (a.setOutput n o).output m = a.output m := by
  simp only [Arbiter.output, Arbiter.setOutput, nth_set, nthB_set, getD_set, h, false_and, if_false]

theorem Arbiter.outputsOnly_setOutput : a.OutputsOnly (a.setOutput n o) := rfl

theorem Arbiter.OutputsOnly.trans {c : Arbiter} (h : a.OutputsOnly b) (k : b.OutputsOnly c) : a.OutputsOnly c := by
  rw [Arbiter.OutputsOnly] at h k
  rw [h] at k
  exact k

theorem Arbiter.fits_mapOutputs (a : Arbiter) (g : Nat → OutSt → OutSt) : (a.mapOutputs g).Fits := by
  constructor <;> simp [Arbiter.mapOutputs]

theorem Arbiter.output_mapOutputs (a : Arbiter) (g : Nat → OutSt → OutSt) (hn : n < 8) :
    (a.mapOutputs g).output n = g n (a.output n) := by
  simp [Arbiter.output, Arbiter.mapOutputs, nth, nthB, hn]

/-- Two lists of eight entries are equal where each entry of the one is that of the other. -/
theorem eq_of_getD {α : Type} {l k : List α} (d : α) (hl : l.length = 8) (hk : k.length = 8) (h : ∀ n < 8, l.getD n d = k.getD n d) : l = k :=
  List.ext_getElem (hl.trans hk.symm) fun n h1 h2 => by simpa [h1, h2] using h n (hl ▸ h1)

/-- The arbiter is what stands at its outputs and the rest. -/
theorem Arbiter.eq_of_outputs {c : Arbiter} (hb : a.OutputsOnly b) (hc : a.OutputsOnly c) (fb : b.Fits) (fc : c.Fits)
    (h : ∀ n < 8, b.output n = c.output n) : b = c := by
  have outs : b.outState = c.outState := eq_of_getD 0 fb.outs fc.outs fun n hn => congrArg OutSt.duty (h n hn)
  have ramps : b.ramp = c.ramp := eq_of_getD none fb.ramps fc.ramps fun n hn => congrArg OutSt.ramp (h n hn)
  have faults : b.chanFault = c.chanFault := eq_of_getD false fb.faults fc.faults fun n hn => congrArg OutSt.held (h n hn)
  have causes : b.chanCause = c.chanCause := eq_of_getD 0 fb.causes fc.causes fun n hn => congrArg OutSt.cause (h n hn)
  rw [Arbiter.OutputsOnly] at hb hc
  rw [hb, hc, outs, ramps, faults, causes]

/-- A fold over the outputs of which each step writes its own output, by a function that the outputs do not touch, applies that
function at every output. -/
theorem Arbiter.foldl_eq_mapOutputs {F : Arbiter → Nat → Arbiter} {g : Arbiter → Nat → OutSt → OutSt} (fits : a.Fits)
    (step : ∀ b n, b.Fits → n < 8 → F b n = b.setOutput n (g b n (b.output n)))
    (stable : ∀ b : Arbiter, a.OutputsOnly b → g b = g a) : (List.range 8).foldl F a = a.mapOutputs (g a) := by
  have upTo : ∀ k ≤ 8, a.OutputsOnly ((List.range k).foldl F a) ∧ ((List.range k).foldl F a).Fits ∧
      ∀ n < 8, ((List.range k).foldl F a).output n = if n < k then g a n (a.output n) else a.output n := by
    intro k hk
    induction k with
    | zero => exact ⟨rfl, fits, fun n _ => rfl⟩
    | succ k ih =>
      obtain ⟨only, fit, out⟩ := ih (by omega)
      have own : ((List.range k).foldl F a).output k = a.output k := (out k (by omega)).trans (if_neg (by omega))
      rw [List.range_succ, List.foldl_append, List.foldl_cons, List.foldl_nil, step _ k fit (by omega), stable _ only, own]
      refine ⟨only.trans (Arbiter.outputsOnly_setOutput _), fit.setOutput _, fun n hn => ?_⟩
      obtain e | e := eq_or_ne n k
      · rw [e, Arbiter.output_setOutput _ fit (by omega), if_pos (by omega)]
      · rw [Arbiter.output_setOutput_of_ne _ e, out n hn]
        exact if_congr (by omega) rfl rfl
  obtain ⟨only, fit, out⟩ := upTo 8 le_rfl
  refine Arbiter.eq_of_outputs only rfl fit (a.fits_mapOutputs _) fun n hn => ?_
  rw [out n hn, if_pos hn, a.output_mapOutputs _ hn]

end

/-! The operations at one output. -/

section
variable {a : Arbiter} {n : Nat}

/-- A new ramp at an output. -/
theorem Arbiter.setOutput_ramp (a : Arbiter) (n : Nat) (r : Option (Nat × Nat)) :
    a.setOutput n { a.output n with ramp := r } = { a with ramp := a.ramp.set n r } := by
  simp only [Arbiter.setOutput, Arbiter.output, nth, nthB, set_getD_self]

/-- A new duty at an output, with its ramp. -/
theorem Arbiter.setOutput_duty (a : Arbiter) (n d : Nat) (r : Option (Nat × Nat)) :
    a.setOutput n { a.output n with duty := d, ramp := r } = { a with outState := a.outState.set n d, ramp := a.ramp.set n r } := by
  simp only [Arbiter.setOutput, Arbiter.output, nth, nthB, set_getD_self]

/-- A channel held or released, with its cause. -/
theorem Arbiter.setOutput_held (a : Arbiter) (n : Nat) (h : Bool) (c : Nat) :
    a.setOutput n { a.output n with held := h, cause := c } = { a with chanFault := a.chanFault.set n h, chanCause := a.chanCause.set n c } := by
  simp only [Arbiter.setOutput, Arbiter.output, nth, set_getD_self]

theorem Arbiter.vent_eq (a : Arbiter) (n : Nat) : a.vent n = a.setOutput n ((a.output n).vent a n) := by
  have shape : a.vent n = if (a.output n).ramp.isSome then a
      else if bitOf a.safeMode n && (a.output n).duty ≠ 0 then { a with ramp := a.ramp.set n (some ((a.output n).duty, a.now)) }
      else { a with outState := a.outState.set n 0, ramp := a.ramp.set n none } := rfl
  rw [shape, OutSt.vent]
  split_ifs
  · exact (a.setOutput_output n).symm
  · exact (a.setOutput_ramp n _).symm
  · exact (a.setOutput_duty n _ _).symm

theorem Arbiter.hold_eq (fits : a.Fits) (hn : n < 8) (cause : Nat) :
    a.hold n cause = a.setOutput n ((a.output n).hold a n cause) := by
  have shape : a.hold n cause = if (a.output n).held then a
      else { a with chanFault := a.chanFault.set n true, chanCause := a.chanCause.set n cause }.vent n := rfl
  rw [shape, OutSt.hold]
  split_ifs
  · exact (a.setOutput_output n).symm
  · rw [← a.setOutput_held, Arbiter.vent_eq, Arbiter.output_setOutput _ fits hn, Arbiter.setOutput_setOutput]
    rfl

/-! A winner's command at one output, in its three steps. -/

/-- CHAN_CLEAR at output `n` (R87). -/
def Arbiter.releaseOut (f : ClaimFrame) (sense : ArbSense) (a : Arbiter) (n : Nat) : Arbiter :=
  if (a.output n).held && bitOf f.chanClear.toNat n && bitOf sense.checkPass.toNat n && !bitOf f.chanHold.toNat n then
    { a with chanFault := a.chanFault.set n false, chanCause := a.chanCause.set n 0 } else a

/-- CHAN_HOLD at output `n` (R87). -/
def Arbiter.holdOut (f : ClaimFrame) (a : Arbiter) (n : Nat) : Arbiter := if bitOf f.chanHold.toNat n then a.hold n 5 else a

/-- OUT_CMD at output `n` (R74). -/
def Arbiter.driveOut (f : ClaimFrame) (a : Arbiter) (n : Nat) : Arbiter :=
  if (a.output n).held then a
  else if a.degraded && (a.output n).duty < (f.outCmd.getD n 0).toNat then a
  else { a with outState := a.outState.set n (f.outCmd.getD n 0).toNat, ramp := a.ramp.set n none }

theorem Arbiter.applyOut_steps (f : ClaimFrame) (sense : ArbSense) (a : Arbiter) (n : Nat) :
    a.applyOut f sense n = ((a.releaseOut f sense n).holdOut f n).driveOut f n := rfl

theorem Arbiter.releaseOut_eq (f : ClaimFrame) (sense : ArbSense) (a : Arbiter) (n : Nat) :
    a.releaseOut f sense n = a.setOutput n ((a.output n).release f sense n) := by
  rw [Arbiter.releaseOut, OutSt.release, apply_ite (a.setOutput n), a.setOutput_held, a.setOutput_output]

theorem Arbiter.holdOut_eq (fits : a.Fits) (hn : n < 8) (f : ClaimFrame) :
    a.holdOut f n = a.setOutput n ((a.output n).holdBy f a n) := by
  rw [Arbiter.holdOut, OutSt.holdBy, apply_ite (a.setOutput n), ← a.hold_eq fits hn, a.setOutput_output]

theorem Arbiter.driveOut_eq (f : ClaimFrame) (a : Arbiter) (n : Nat) :
    a.driveOut f n = a.setOutput n ((a.output n).drive f a n) := by
  rw [Arbiter.driveOut, OutSt.drive]
  split_ifs
  · exact (a.setOutput_output n).symm
  · exact (a.setOutput_output n).symm
  · exact (a.setOutput_duty n _ _).symm

theorem Arbiter.applyOut_eq (f : ClaimFrame) (sense : ArbSense) (fits : a.Fits) (hn : n < 8) :
    a.applyOut f sense n = a.setOutput n ((a.output n).take f sense a n) := by
  rw [Arbiter.applyOut_steps, Arbiter.releaseOut_eq, Arbiter.holdOut_eq (fits.setOutput _) hn, Arbiter.output_setOutput _ fits hn,
    Arbiter.setOutput_setOutput, Arbiter.driveOut_eq, Arbiter.output_setOutput _ fits hn, Arbiter.setOutput_setOutput]
  rfl

/-! The operations at every output. -/

theorem Arbiter.Fits.at_ (fits : a.Fits) (t : Nat) : (a.at_ t).Fits :=
  ⟨by simp [Arbiter.at_, fits.outs], fits.ramps, fits.faults, fits.causes⟩

theorem nth_map_zipIdx (l : List Nat) (g : Nat × Nat → Nat) {n : Nat} (hn : n < l.length) :
    nth (l.zipIdx.map g) n = g (nth l n, n) := by
  simp [nth, hn]

theorem Arbiter.output_at_ (fits : a.Fits) (t : Nat) (hn : n < 8) : (a.at_ t).output n = (a.output n).follow (max a.now t) :=
  OutSt.ext (nth_map_zipIdx a.outState _ (fits.outs ▸ hn)) rfl rfl rfl

theorem Arbiter.allToSafe_eq (fits : a.Fits) :
    a.allToSafe = { a.mapOutputs fun n o => o.vent a n with allSafe := true, stopCmd := false, winner := 0 } := by
  have folded : (List.range 8).foldl Arbiter.vent a = a.mapOutputs fun n o => o.vent a n :=
    Arbiter.foldl_eq_mapOutputs (g := fun b n o => o.vent b n) fits (fun b n _ _ => b.vent_eq n) fun b only => by rw [only]; rfl
  rw [Arbiter.allToSafe, folded]

theorem Arbiter.apply_eq (f : ClaimFrame) (sense : ArbSense) (fits : a.Fits) : a.apply f sense
    = { a.mapOutputs fun n o => o.take f sense { a with safeMode := f.safeMode.toNat } n with
        safeMode := f.safeMode.toNat, winner := f.claim.toNat, cmdCounter := f.counter.toNat,
        stopCmd := bitOf f.control.toNat 0 && (!a.degraded || a.stopCmd) } := by
  generalize hc : ({ a with safeMode := f.safeMode.toNat } : Arbiter) = c
  have fit : c.Fits := hc ▸ ⟨fits.outs, fits.ramps, fits.faults, fits.causes⟩
  have folded : (List.range 8).foldl (Arbiter.applyOut f sense) c = c.mapOutputs fun n o => o.take f sense c n :=
    Arbiter.foldl_eq_mapOutputs (g := fun b n o => o.take f sense b n) fit (fun b n fits hn => Arbiter.applyOut_eq f sense fits hn)
      fun b only => by rw [only]; rfl
  rw [Arbiter.apply, hc, folded, ← hc]
  rfl

end

end Sys2Proof.Machine
end

section
/-!
SUPPORT. What the operations of the arbiter tile keep of its invariant (R71, R74, R82, R85 to R87).
-/
namespace Sys2Proof.Machine

theorem OutSt.Down.hold {o : OutSt} (h : o.Down) (a : Arbiter) (n cause : Nat) : (o.hold a n cause).Down := by
  cases e : o.held with
  | true => rwa [OutSt.hold_of_held e]
  | false =>
    rw [OutSt.hold_of_free e]
    exact OutSt.down_vent

section
variable {a b : Arbiter} {n : Nat}

/-- The outputs are vented where each is down, with the stop line open and no winner (R85). -/
theorem Arbiter.vented_iff : a.vented ↔ a.stopCmd = false ∧ a.winner = 0 ∧ ∀ n < 8, (a.output n).Down := Iff.rfl

theorem Arbiter.vented.of_down (h : a.vented) (line : b.stopCmd = a.stopCmd) (winner : b.winner = a.winner)
    (down : ∀ n < 8, (a.output n).Down → (b.output n).Down) : b.vented := by
  obtain ⟨line0, winner0, down0⟩ := Arbiter.vented_iff.mp h
  exact Arbiter.vented_iff.mpr ⟨line.trans line0, winner.trans winner0, fun n hn => down n hn (down0 n hn)⟩

theorem Arbiter.Inv.fits (h : a.Inv) : a.Fits := ⟨h.outs, h.ramps, h.faults, h.causes⟩

theorem Arbiter.Inv.output_ok (h : a.Inv) (hn : n < 8) : (a.output n).Ok := ⟨h.held n hn, h.cause n hn⟩

/-- The invariant, said of what stands at each output. -/
theorem Arbiter.inv_of_outputs (fits : a.Fits) (safe : a.allSafe = true → a.vented) (ok : ∀ n < 8, (a.output n).Ok)
    (half : (a.halfA.fault || a.halfB.fault) = true → a.degraded = true) : a.Inv :=
  ⟨fits.outs, fits.ramps, fits.faults, fits.causes, safe, fun n hn => (ok n hn).held, fun n hn => (ok n hn).cause, half⟩

/-- The invariant speaks of the outputs, of the safe state and of the halves' failures alone. -/
theorem Arbiter.Inv.setHalf (h : a.Inv) (k : ArbHalf) {x : HalfSt} (fault : x.fault = (a.half k).fault) : (a.setHalf k x).Inv := by
  obtain ⟨outs, ramps, faults, causes, safe, held, cause, half⟩ := h
  cases k with
  | halfA => exact ⟨outs, ramps, faults, causes, safe, held, cause, (congrArg (· || a.halfB.fault) fault) ▸ half⟩
  | halfB => exact ⟨outs, ramps, faults, causes, safe, held, cause, (congrArg (a.halfA.fault || ·) fault) ▸ half⟩

/-! Time, and one output. -/

theorem Arbiter.Inv.at_ (h : a.Inv) (t : Nat) : (a.at_ t).Inv := by
  have follows : ∀ n < 8, (a.at_ t).output n = (a.output n).follow (max a.now t) := fun n hn => Arbiter.output_at_ h.fits t hn
  refine Arbiter.inv_of_outputs (h.fits.at_ t) (fun safe => ?_) (fun n hn => ?_) h.half
  · exact (h.safe safe).of_down rfl rfl fun n hn down => (follows n hn).symm ▸ down.follow _
  · exact (follows n hn).symm ▸ (h.output_ok hn).follow _

theorem Arbiter.Inv.setOutput (h : a.Inv) (hn : n < 8) {o : OutSt} (ok : o.Ok) (down : (a.output n).Down → o.Down) :
    (a.setOutput n o).Inv := by
  have own := Arbiter.output_setOutput o h.fits hn
  have others : ∀ {m}, m ≠ n → (a.setOutput n o).output m = a.output m := Arbiter.output_setOutput_of_ne o
  refine Arbiter.inv_of_outputs (h.fits.setOutput _) (fun safe => ?_) (fun m hm => ?_) h.half
  · refine (h.safe safe).of_down rfl rfl fun m _ was => ?_
    obtain rfl | e := eq_or_ne m n
    · exact own.symm ▸ down was
    · exact (others e).symm ▸ was
  · obtain rfl | e := eq_or_ne m n
    · exact own.symm ▸ ok
    · exact (others e).symm ▸ h.output_ok hm

theorem Arbiter.Inv.hold (h : a.Inv) (hn : n < 8) (cause : Nat) : (a.hold n cause).Inv := by
  rw [Arbiter.hold_eq h.fits hn]
  exact h.setOutput hn (h.output_ok hn).hold fun down => down.hold a n cause

/-! Every output to its safe state (R85), and a winner's command at every output (R74). -/

theorem Arbiter.allToSafe_spec (fits : a.Fits) :
    a.allToSafe.Fits ∧ a.allToSafe.vented ∧ ∀ n < 8, a.allToSafe.output n = (a.output n).vent a n := by
  have outs : ∀ n < 8, a.allToSafe.output n = (a.output n).vent a n := fun n hn => by
    rw [Arbiter.allToSafe_eq fits]
    exact a.output_mapOutputs _ hn
  refine ⟨?_, Arbiter.vented_iff.mpr ⟨rfl, rfl, fun n hn => (outs n hn).symm ▸ OutSt.down_vent⟩, outs⟩
  obtain ⟨outs, ramps, faults, causes⟩ := a.fits_mapOutputs fun n o => o.vent a n
  rw [Arbiter.allToSafe_eq fits]
  exact ⟨outs, ramps, faults, causes⟩

theorem Arbiter.Inv.allToSafe (h : a.Inv) : a.allToSafe.Inv := by
  obtain ⟨fits, vented, outs⟩ := Arbiter.allToSafe_spec h.fits
  refine Arbiter.inv_of_outputs fits (fun _ => vented) (fun n hn => (outs n hn).symm ▸ (h.output_ok hn).vent) ?_
  rw [Arbiter.allToSafe_eq h.fits]
  exact h.half

theorem Arbiter.output_apply (fits : a.Fits) (f : ClaimFrame) (sense : ArbSense) (hn : n < 8) :
    (a.apply f sense).output n = (a.output n).take f sense { a with safeMode := f.safeMode.toNat } n := by
  rw [Arbiter.apply_eq f sense fits]
  exact a.output_mapOutputs _ hn

theorem Arbiter.Inv.apply (h : a.Inv) (driven : a.allSafe = false) (f : ClaimFrame) (sense : ArbSense) : (a.apply f sense).Inv := by
  have outs : ∀ n < 8, ((a.apply f sense).output n).Ok := fun n hn =>
    (Arbiter.output_apply h.fits f sense hn).symm ▸ (h.output_ok hn).take
  obtain ⟨lo, lr, lf, lc⟩ := a.fits_mapOutputs fun n o => o.take f sense { a with safeMode := f.safeMode.toNat } n
  rw [Arbiter.apply_eq f sense h.fits] at outs ⊢
  exact Arbiter.inv_of_outputs ⟨lo, lr, lf, lc⟩ (fun safe => absurd (driven.symm.trans safe) (by decide)) outs h.half

/-! Timers and failures (R74, R85). -/

/-- Has the safe-state timer of a half expired that has not acted (R85)? -/
def Arbiter.timedOut (a : Arbiter) (k : ArbHalf) : Prop :=
  (a.half k).fault = false ∧ (a.half k).safe = false ∧ (a.half k).timer + 500000 ≤ a.now

theorem Arbiter.expire_of_timedOut {k : ArbHalf} (h : a.timedOut k) :
    a.expire k = (a.setHalf k { a.half k with safe := true }).allToSafe := by
  obtain ⟨fault, safe, late⟩ := h
  rw [Arbiter.expire, if_neg (by simp [fault, safe, late])]

theorem Arbiter.expire_of_not_timedOut {k : ArbHalf} (h : ¬ a.timedOut k) : a.expire k = a := by
  rw [Arbiter.expire]
  split_ifs with quiet
  · rfl
  · simp only [Bool.or_eq_true, decide_eq_true_eq, not_or, Bool.not_eq_true, not_lt, and_assoc] at quiet
    exact absurd quiet h

theorem Arbiter.Inv.expire (h : a.Inv) (k : ArbHalf) : (a.expire k).Inv := by
  by_cases late : a.timedOut k
  · rw [Arbiter.expire_of_timedOut late]
    have aside : (a.setHalf k { a.half k with safe := true }).Inv := h.setHalf k rfl
    exact aside.allToSafe
  · rwa [Arbiter.expire_of_not_timedOut late]

theorem Arbiter.fits_openAll : a.chanFault.length = 8 → a.chanCause.length = 8 → a.openAll.Fits := fun lf lc => ⟨rfl, rfl, lf, lc⟩

theorem Arbiter.duty_openAll (hn : n < 8) : (a.openAll.output n).duty = 0 := by
  exact List.getD_replicate _ hn

theorem Arbiter.vented_openAll : a.openAll.vented := Arbiter.vented_iff.mpr ⟨rfl, rfl, fun _ hn => .inl (Arbiter.duty_openAll hn)⟩

theorem Arbiter.Inv.openAll (h : a.Inv) : a.openAll.Inv :=
  Arbiter.inv_of_outputs (Arbiter.fits_openAll h.faults h.causes) (fun _ => Arbiter.vented_openAll)
    (fun _ hn => ⟨fun _ => .inl (Arbiter.duty_openAll hn), h.cause _ hn⟩) h.half

/-- The arbiter with one half failed (R74). -/
def Arbiter.freeze (a : Arbiter) (k : ArbHalf) : Arbiter := { a.setHalf k { a.half k with fault := true } with degraded := true }

theorem Arbiter.failHalf_eq (a : Arbiter) (k : ArbHalf) :
    a.failHalf k = if (a.freeze k).halfA.fault && (a.freeze k).halfB.fault then (a.freeze k).openAll else a.freeze k := rfl

theorem Arbiter.Inv.failHalf (h : a.Inv) (k : ArbHalf) : (a.failHalf k).Inv := by
  have frozen : (a.freeze k).Inv := by
    obtain ⟨outs, ramps, faults, causes, safe, held, cause, -⟩ := h
    cases k <;> exact ⟨outs, ramps, faults, causes, safe, held, cause, fun _ => rfl⟩
  rw [Arbiter.failHalf_eq]
  split_ifs
  · exact frozen.openAll
  · exact frozen

theorem HalfSt.fault_receive (x : HalfSt) (link : LaneId) (t : Nat) (f : ClaimFrame) (c : BitVec 16) :
    (x.receive link t f c).fault = x.fault := by
  unfold HalfSt.receive
  dsimp only
  split
  · rfl
  · split
    · rfl
    · split_ifs <;> rfl

end

end Sys2Proof.Machine
end

section
/-!
SUPPORT. An evaluation of the arbiter tile in its parts (R72, R74, R81, R82, R85): the timers, each half's judgement, what the two candidates
settle, and the status frame.
-/
namespace Sys2Proof.Machine

/-- The arbiter at an instant, its timers first (R83). -/
def Arbiter.timed (a : Arbiter) (t : Nat) : Arbiter := ((a.at_ t).expire .halfA).expire .halfB

/-- A half that works judges its disregards (R82). -/
def HalfSt.judged (x : HalfSt) (t : Nat) : HalfSt := if x.fault then x else x.judgeDisregard t

/-- The lanes whose non-zero claim is current at both halves (R75, R85). -/
def claimsOfBoth (t : Nat) (x y : HalfSt) : List Bool := allLanes.map fun l => x.claimsNow t l && y.claimsNow t l

/-- The halves' judgements, and what the evaluation records of them (R72, R82). -/
def Arbiter.judge (a : Arbiter) (t : Nat) (sense : ArbSense) : Arbiter :=
  let ha := a.halfA.judged t
  let hb := a.halfB.judged t
  { a with
    halfA := ha, halfB := hb, evalCount := (a.evalCount + 1) % 65536
    current := allLanes.map fun l => (a.halfA.fault || ha.current t l) && (a.halfB.fault || hb.current t l)
      && !(a.halfA.fault && a.halfB.fault)
    claimed := claimsOfBoth t ha hb, stopSensed := sense.stopClosed }

/-- A half alone has a candidate, or none (R74). -/
def Arbiter.settleAlone (a : Arbiter) (c : Option ClaimFrame) (sense : ArbSense) : Arbiter :=
  match c with
  | some f => if a.allSafe then { a with agreed := false } else { a with agreed := false }.apply f sense
  | none => { a with agreed := false }

/-- Both halves agree on a candidate, or on none (R72, R85). -/
def Arbiter.settleAgreed (a : Arbiter) (c : Option ClaimFrame) (was : List Bool) (sense : ArbSense) : Arbiter :=
  match c with
  | some f => { a with agreed := true, disagreeRun := 0 }.win f was sense
  | none => { a with agreed := true, disagreeRun := 0, winner := 0 }

/-- The halves disagree (R72). -/
def Arbiter.disagree (a : Arbiter) : Arbiter :=
  { a with agreed := false, disagreeRun := a.disagreeRun + 1, degraded := a.degraded || decide (3 ≤ a.disagreeRun + 1) }

/-- What the candidates of the halves settle (R72, R74). -/
def Arbiter.settle (a : Arbiter) (ca cb : Option ClaimFrame) (was : List Bool) (sense : ArbSense) : Arbiter :=
  if a.halfA.fault && a.halfB.fault then { a with agreed := false }
  else if a.halfA.fault || a.halfB.fault then a.settleAlone (if a.halfA.fault then cb else ca) sense
  else if agree ca cb then a.settleAgreed ca was sense
  else a.disagree

/-- The sending half returns the status frame (R81). -/
def Arbiter.report (a : Arbiter) : Arbiter :=
  { a with status := if (if a.evalCount % 2 = 0 then a.halfA.fault else a.halfB.fault) then a.status else some a.statusFrame }

theorem Arbiter.evaluate_eq (a : Arbiter) (t : Nat) (sense : ArbSense) : a.evaluate t sense
    = (((a.timed t).judge t sense).settle (((a.timed t).halfA.judged t).candidate t) (((a.timed t).halfB.judged t).candidate t)
        (a.timed t).claimed sense).report := by
  unfold Arbiter.evaluate
  rw [← Arbiter.timed]
  generalize a.timed t = b
  rfl

/-! The parts of an evaluation, case by case. -/

@[simp] theorem HalfSt.fault_judged (x : HalfSt) (t : Nat) : (x.judged t).fault = x.fault := by unfold HalfSt.judged; split_ifs <;> rfl

/-- The arbiter with its outputs out of their safe state (R85). -/
def Arbiter.awake (a : Arbiter) : Arbiter :=
  { a with allSafe := false, halfA := { a.halfA with safe := false }, halfB := { a.halfB with safe := false } }

/-- The arbiter with a note of the agreement, of the run of disagreements, of the winner and of a degradation (R72, R74). -/
def Arbiter.noted (a : Arbiter) (g : Bool) (r w : Nat) (d : Bool) : Arbiter :=
  { a with agreed := g, disagreeRun := r, winner := w, degraded := d }

section
variable {a : Arbiter} {ca cb : Option ClaimFrame} {was : List Bool} {f : ClaimFrame} {sense : ArbSense}

theorem Arbiter.win_of_driven (driven : a.allSafe = false) : a.win f was sense = a.apply f sense := if_neg (by simp [driven])

theorem Arbiter.win_of_was (safe : a.allSafe = true) (current : nthB was (bits f.claim.toNat 0 2 - 1) = true) :
    a.win f was sense = a.awake.apply f sense := (if_pos safe).trans (if_pos current)

theorem Arbiter.win_of_new (safe : a.allSafe = true) (new : nthB was (bits f.claim.toNat 0 2 - 1) = false) :
    a.win f was sense = a := (if_pos safe).trans (if_neg (by simp [new]))

theorem Arbiter.settle_of_failed (fa : a.halfA.fault = true) (fb : a.halfB.fault = true) :
    a.settle ca cb was sense = { a with agreed := false } := if_pos (by simp [fa, fb])

theorem Arbiter.settle_of_alone (h : a.halfA.fault ≠ a.halfB.fault) :
    a.settle ca cb was sense = a.settleAlone (if a.halfA.fault then cb else ca) sense := by
  refine (if_neg ?_).trans (if_pos ?_)
  · intro both
    obtain ⟨fa, fb⟩ := Bool.and_eq_true_iff.mp both
    exact h (fa.trans fb.symm)
  · cases fa : a.halfA.fault with
    | true => rfl
    | false => simpa [fa] using h

theorem Arbiter.settle_of_agree (fa : a.halfA.fault = false) (fb : a.halfB.fault = false) (h : agree ca cb = true) :
    a.settle ca cb was sense = a.settleAgreed ca was sense :=
  (if_neg (by simp [fa])).trans ((if_neg (by simp [fa, fb])).trans (if_pos h))

theorem Arbiter.settle_of_disagree (fa : a.halfA.fault = false) (fb : a.halfB.fault = false) (h : agree ca cb = false) :
    a.settle ca cb was sense = a.disagree :=
  (if_neg (by simp [fa])).trans ((if_neg (by simp [fa, fb])).trans (if_neg (by simp [h])))

theorem Arbiter.settleAlone_of_safe (safe : a.allSafe = true) (c : Option ClaimFrame) :
    a.settleAlone c sense = { a with agreed := false } := by
  cases c with
  | none => rfl
  | some f => exact if_pos safe

theorem Arbiter.settleAlone_of_driven (driven : a.allSafe = false) :
    a.settleAlone (some f) sense = { a with agreed := false }.apply f sense := if_neg (by simp [driven])

/-- What becomes of an arbiter whose candidates are settled: a note of it and no more, or a command applied, out of the safe state too. -/
theorem Arbiter.settle_cases (a : Arbiter) (ca cb : Option ClaimFrame) (was : List Bool) (sense : ArbSense) :
    (∃ g r w d, (w = a.winner ∨ w = 0) ∧ (a.degraded = true → d = true) ∧
      a.settle ca cb was sense = a.noted g r w d) ∨
    (∃ g r f, a.allSafe = false ∧ a.settle ca cb was sense = (a.noted g r a.winner a.degraded).apply f sense) ∨
    ∃ g r f, a.settle ca cb was sense = (a.noted g r a.winner a.degraded).awake.apply f sense := by
  have only {g : Bool} (e : a.settle ca cb was sense = { a with agreed := g }) : ∃ g r w d, (w = a.winner ∨ w = 0) ∧
      (a.degraded = true → d = true) ∧ a.settle ca cb was sense = a.noted g r w d :=
    ⟨g, a.disagreeRun, a.winner, a.degraded, .inl rfl, id, e⟩
  by_cases alone : a.halfA.fault = a.halfB.fault
  · cases fa : a.halfA.fault with
    | true => exact .inl (only (Arbiter.settle_of_failed fa (alone ▸ fa)))
    | false =>
      have fb : a.halfB.fault = false := alone ▸ fa
      cases agreed : agree ca cb with
      | false => exact .inl ⟨false, a.disagreeRun + 1, a.winner, a.degraded || decide (3 ≤ a.disagreeRun + 1), .inl rfl,
          fun degraded => by rw [degraded, Bool.true_or], Arbiter.settle_of_disagree fa fb agreed⟩
      | true =>
        rw [Arbiter.settle_of_agree fa fb agreed]
        cases ca with
        | none => exact .inl ⟨true, 0, 0, a.degraded, .inr rfl, id, rfl⟩
        | some f =>
          cases safe : a.allSafe with
          | false => exact .inr (.inl ⟨true, 0, f, rfl, Arbiter.win_of_driven safe⟩)
          | true =>
            cases current : nthB was (bits f.claim.toNat 0 2 - 1) with
            | true => exact .inr (.inr ⟨true, 0, f, Arbiter.win_of_was safe current⟩)
            | false => exact .inl ⟨true, 0, a.winner, a.degraded, .inl rfl, id, Arbiter.win_of_new safe current⟩
  · have settled := Arbiter.settle_of_alone (ca := ca) (cb := cb) (was := was) (sense := sense) alone
    cases safe : a.allSafe with
    | true => exact .inl (only (settled.trans (Arbiter.settleAlone_of_safe safe _)))
    | false =>
      cases c : (if a.halfA.fault then cb else ca) with
      | none => exact .inl (only (settled.trans (by rw [c]; rfl)))
      | some f => exact .inr (.inl ⟨false, a.disagreeRun, f, rfl, settled.trans (by rw [c, Arbiter.settleAlone_of_driven safe]; rfl)⟩)

end

/-! What an evaluation keeps. -/

section
variable {a : Arbiter}

theorem Arbiter.Fits.noted (fits : a.Fits) (g : Bool) (r w : Nat) (d : Bool) : (a.noted g r w d).Fits := by
  obtain ⟨outs, ramps, faults, causes⟩ := fits
  exact ⟨outs, ramps, faults, causes⟩

theorem Arbiter.Fits.awake (fits : a.Fits) : a.awake.Fits := by
  obtain ⟨outs, ramps, faults, causes⟩ := fits
  exact ⟨outs, ramps, faults, causes⟩

theorem Arbiter.Inv.timed (h : a.Inv) (t : Nat) : (a.timed t).Inv := ((h.at_ t).expire .halfA).expire .halfB

theorem Arbiter.Inv.judge (h : a.Inv) (t : Nat) (sense : ArbSense) : (a.judge t sense).Inv := by
  obtain ⟨outs, ramps, faults, causes, safe, held, cause, half⟩ := h
  exact ⟨outs, ramps, faults, causes, safe, held, cause, fun failed => half (by simpa [Arbiter.judge] using failed)⟩

theorem Arbiter.Inv.noted (h : a.Inv) (g : Bool) (r : Nat) {w : Nat} {d : Bool} (winner : w = a.winner ∨ w = 0)
    (degraded : a.degraded = true → d = true) : (a.noted g r w d).Inv := by
  obtain ⟨outs, ramps, faults, causes, safe, held, cause, half⟩ := h
  refine ⟨outs, ramps, faults, causes, fun vented => ?_, held, cause, fun failed => degraded (half failed)⟩
  obtain ⟨line, none, down⟩ := safe vented
  exact ⟨line, winner.elim (·.trans none) id, down⟩

theorem Arbiter.Inv.awake (h : a.Inv) : a.awake.Inv := by
  obtain ⟨outs, ramps, faults, causes, -, held, cause, half⟩ := h
  exact ⟨outs, ramps, faults, causes, fun safe => absurd safe Bool.false_ne_true, held, cause, half⟩

theorem Arbiter.Inv.settle (h : a.Inv) (ca cb : Option ClaimFrame) (was : List Bool) (sense : ArbSense) : (a.settle ca cb was sense).Inv := by
  obtain ⟨g, r, w, d, hw, hd, e⟩ | ⟨g, r, f, driven, e⟩ | ⟨g, r, f, e⟩ := a.settle_cases ca cb was sense
  · exact e ▸ h.noted g r hw hd
  · exact e ▸ (h.noted g r (.inl rfl) id).apply driven f sense
  · exact e ▸ (h.noted g r (.inl rfl) id).awake.apply rfl f sense

theorem Arbiter.Inv.report (h : a.Inv) : a.report.Inv := by
  obtain ⟨outs, ramps, faults, causes, safe, held, cause, half⟩ := h
  exact ⟨outs, ramps, faults, causes, safe, held, cause, half⟩

theorem Arbiter.Inv.evaluate (h : a.Inv) (t : Nat) (sense : ArbSense) : (a.evaluate t sense).Inv := by
  rw [Arbiter.evaluate_eq]
  exact (((h.timed t).judge t sense).settle _ _ _ _).report

/-- What the candidates settle leaves the count, the claims and the last status frame. -/
theorem Arbiter.record_settle (fits : a.Fits) (ca cb : Option ClaimFrame) (was : List Bool) (sense : ArbSense) :
    (a.settle ca cb was sense).evalCount = a.evalCount ∧ (a.settle ca cb was sense).claimed = a.claimed ∧
    (a.settle ca cb was sense).status = a.status := by
  obtain ⟨g, r, w, d, -, -, e⟩ | ⟨g, r, f, -, e⟩ | ⟨g, r, f, e⟩ := a.settle_cases ca cb was sense
  · rw [e]
    exact ⟨rfl, rfl, rfl⟩
  · rw [e, Arbiter.apply_eq f sense (fits.noted ..)]
    exact ⟨rfl, rfl, rfl⟩
  · rw [e, Arbiter.apply_eq f sense (fits.noted ..).awake]
    exact ⟨rfl, rfl, rfl⟩

/-- The half whose turn it is sends its status frame unless it has failed (R81). -/
theorem Arbiter.status_report {k : ArbHalf} (turn : k = if a.evalCount % 2 = 0 then .halfA else .halfB) :
    ((a.half k).fault = false → a.report.status = some a.report.statusFrame) ∧ ((a.half k).fault = true → a.report.status = a.status) := by
  have fault : (a.half k).fault = if a.evalCount % 2 = 0 then a.halfA.fault else a.halfB.fault := by
    rw [turn]
    split_ifs <;> rfl
  rw [fault]
  exact ⟨fun works => if_neg (by simp [works]), fun failed => if_pos failed⟩

end

end Sys2Proof.Machine
end

section
/-!
SUPPORT. The commands of the arbiter tile, and what every step keeps of its invariant (R69, R72, R74, R82, R83, R85 to R87).
-/
namespace Sys2Proof.Machine

/-- The other half. -/
def otherHalf : ArbHalf → ArbHalf
  | .halfA => .halfB
  | .halfB => .halfA

/-- A half takes a claim frame, its timer first (R79, R83). -/
def Arbiter.takeFrame (a : Arbiter) (k : ArbHalf) (link : LaneId) (t : Nat) (f : ClaimFrame) (c : BitVec 16) : Arbiter :=
  (a.expire k).setHalf k (((a.expire k).half k).receive link t f c)

/-- A half misses the other's handshake; a failed half's miss is the other one's failure (R74). -/
def Arbiter.missHandshake (a : Arbiter) (k : ArbHalf) : Arbiter :=
  if (a.half k).fault then a.failHalf (otherHalf k) else a.failHalf k

/-- The cause of a switch that stays high (R87). -/
def highCause : ArbHalf → Nat
  | .halfA => 3
  | .halfB => 4

/-- The slot in which a half's test of an output is to be repeated, or none (R87). -/
def Arbiter.setRepeat (a : Arbiter) (k : ArbHalf) (out : Nat) (r : Option Nat) : Arbiter :=
  { a with offPulse := a.offPulse.set (slotOfTest k out) r }

/-- A half tests its switch of an output (R83, R87). -/
def Arbiter.testSwitch (a : Arbiter) (k : ArbHalf) (out : Nat) (high cut : Bool) : Arbiter :=
  if nth a.outState out = 0 then (if high then a.hold out (highCause k) else a)
  else if !a.testDue k out then a
  else if cut then a.setRepeat k out (some (a.now / 31250000 + 1))
  else if high then (a.setRepeat k out none).hold out (highCause k)
  else a.setRepeat k out none

section
variable {s : State}

theorem exec_claimFrame (k : ArbHalf) (link : LaneId) (t : Nat) (f : ClaimFrame) (c : BitVec 16) :
    exec (.claimFrame k link t f c) s = onArb s fun a => (a.at_ t).takeFrame k link t f c := rfl

theorem exec_arbiterEvaluation (t : Nat) (sense : ArbSense) :
    exec (.arbiterEvaluation t sense) s = onArb s fun a => a.evaluate t sense := rfl

theorem exec_halfFault (k : ArbHalf) (t : Nat) : exec (.halfFault k t) s = onArb s fun a => (a.at_ t).failHalf k := rfl

theorem exec_handshakeTimeout (k : ArbHalf) (t : Nat) :
    exec (.handshakeTimeout k t) s = onArb s fun a => (a.at_ t).missHandshake k := by
  cases k <;> rfl

theorem exec_safeStateTimer (k : ArbHalf) (t : Nat) : exec (.safeStateTimer k t) s = onArb s fun a => (a.at_ t).expire k := rfl

theorem exec_offPulseTest (k : ArbHalf) (out : Fin 8) (t : Nat) (high cut : Bool) :
    exec (.offPulseTest k out t high cut) s = onArb s fun a => (a.at_ t).testSwitch k out high cut := by
  cases k <;> rfl

theorem exec_openLoad (out : Fin 8) (i ms : Nat) : exec (.openLoad out i ms) s = onArb s fun a =>
    if decide (nth a.outState out = 255) && decide (i < 30) && decide (10 ≤ ms) then a.hold out 1 else a := rfl

theorem exec_overcurrent (out : Fin 8) (i ms : Nat) : exec (.overcurrent out i ms) s = onArb s fun a =>
    if (decide (4500 < i) && decide (20 ≤ ms)) || decide (12000 < i) then a.hold out 2 else a := rfl

theorem exec_outputNotFollowingDuty (out : Fin 8) (m : BitVec 8) (ms : Nat) : exec (.outputNotFollowingDuty out m ms) s = onArb s fun a =>
    if (decide (nth a.outState out + 4 < m.toNat) || decide (m.toNat + 4 < nth a.outState out)) && decide (10 ≤ ms) then a.hold out 6
    else a := rfl

end

/-! What each keeps. -/

section
variable {a : Arbiter}

theorem Arbiter.Inv.takeFrame (h : a.Inv) (k : ArbHalf) (link : LaneId) (t : Nat) (f : ClaimFrame) (c : BitVec 16) :
    (a.takeFrame k link t f c).Inv := (h.expire k).setHalf k (HalfSt.fault_receive ..)

theorem Arbiter.Inv.missHandshake (h : a.Inv) (k : ArbHalf) : (a.missHandshake k).Inv := by
  unfold Arbiter.missHandshake
  split_ifs
  · exact h.failHalf (otherHalf k)
  · exact h.failHalf k

theorem Arbiter.Inv.setRepeat (h : a.Inv) (k : ArbHalf) (out : Nat) (r : Option Nat) : (a.setRepeat k out r).Inv := by
  obtain ⟨outs, ramps, faults, causes, safe, held, cause, half⟩ := h
  exact ⟨outs, ramps, faults, causes, safe, held, cause, half⟩

theorem Arbiter.Inv.testSwitch (h : a.Inv) (k : ArbHalf) {out : Nat} (hn : out < 8) (high cut : Bool) : (a.testSwitch k out high cut).Inv := by
  unfold Arbiter.testSwitch
  split_ifs
  · exact h.hold hn _
  · exact h
  · exact h
  · exact h.setRepeat k out _
  · exact (h.setRepeat k out none).hold hn _
  · exact h.setRepeat k out none

theorem Arbiter.Inv.hold_if (h : a.Inv) (c : Bool) (n : Fin 8) (cause : Nat) : (if c then a.hold n cause else a).Inv := by
  split_ifs
  · exact h.hold n.isLt cause
  · exact h

/-- After a power-up every output is off, the stop line open, and the invariant holds (R86). -/
theorem Arbiter.inv_powerUp (t : Nat) : ({ powered := true, now := t, halfA := { timer := t }, halfB := { timer := t } } : Arbiter).Inv := by
  have off : ∀ n < 8, nth (List.replicate 8 0) n = 0 := fun n hn => List.getD_replicate _ hn
  exact ⟨rfl, rfl, rfl, rfl, fun _ => ⟨rfl, rfl, fun n hn => .inl (off n hn)⟩, fun n hn _ => .inl (off n hn), fun n hn _ => off n hn,
    fun failed => absurd failed Bool.false_ne_true⟩

end

theorem onArb_inv {s t : State} {f : Arbiter → Arbiter} (inv : s.arb.Inv) (run : onArb s f = .next t)
    (keeps : ∀ a : Arbiter, a.Inv → (f a).Inv) : t.arb.Inv := by
  have next : t = if s.arb.powered then { s with arb := f s.arb } else s := (Host.Outcome.next.inj run).symm
  rw [next]
  split_ifs
  · exact keeps _ inv
  · exact inv

/-- A command that belongs to no lane keeps the invariant of the arbiter: one of the tile by what it does there, a power request
to the module because it reaches the lanes alone. -/
theorem arb_inv_of_homeLane_none {c : Instr} (home : homeLane c = none) {s t : State} (inv : s.arb.Inv) (run : exec c s = .next t) :
    t.arb.Inv := by
  cases c with
  | claimFrame k link at_ f crc =>
    rw [exec_claimFrame] at run
    exact onArb_inv inv run fun a h => (h.at_ at_).takeFrame k link at_ f crc
  | arbiterEvaluation at_ sense =>
    rw [exec_arbiterEvaluation] at run
    exact onArb_inv inv run fun a h => h.evaluate at_ sense
  | halfFault k at_ =>
    rw [exec_halfFault] at run
    exact onArb_inv inv run fun a h => (h.at_ at_).failHalf k
  | handshakeTimeout k at_ =>
    rw [exec_handshakeTimeout] at run
    exact onArb_inv inv run fun a h => (h.at_ at_).missHandshake k
  | safeStateTimer k at_ =>
    rw [exec_safeStateTimer] at run
    exact onArb_inv inv run fun a h => (h.at_ at_).expire k
  | offPulseTest k out at_ high cut =>
    rw [exec_offPulseTest] at run
    exact onArb_inv inv run fun a h => (h.at_ at_).testSwitch k out.isLt high cut
  | openLoad out i ms =>
    rw [exec_openLoad] at run
    exact onArb_inv inv run fun a h => h.hold_if _ out 1
  | overcurrent out i ms =>
    rw [exec_overcurrent] at run
    exact onArb_inv inv run fun a h => h.hold_if _ out 2
  | outputNotFollowingDuty out m ms =>
    rw [exec_outputNotFollowingDuty] at run
    exact onArb_inv inv run fun a h => h.hold_if _ out 6
  | arbiterPowerUp at_ =>
    obtain rfl := Host.Outcome.next.inj run
    exact Arbiter.inv_powerUp at_
  | pwrModuleRequest g at_ =>
    obtain ⟨x, y, z, e⟩ := exec_pwrModuleRequest_onlyLanes g at_ s
    obtain rfl := Host.Outcome.next.inj (e.symm.trans run)
    exact inv
  | _ => cases home

/-- Settles O4: a command of a lane leaves the arbiter tile, and each of the tile's own commands keeps the invariant by what it does to
the outputs, to the safe state and to the halves. -/
theorem arbiterInvariantKeptByEveryStep : Obligations.ArbiterInvariantKeptByEveryStep := by
  unfold Obligations.ArbiterInvariantKeptByEveryStep
  intro s t inv run
  unfold step at run
  split at run
  next => exact Host.Outcome.next.inj run ▸ inv
  next c rest _ =>
    cases home : homeLane c with
    | none => exact arb_inv_of_homeLane_none (s := { s with pending := rest }) home inv run
    | some l =>
      obtain ⟨x, e⟩ := exec_actsIn_of_homeLane home { s with pending := rest }
      obtain rfl := Host.Outcome.next.inj (e.symm.trans run)
      rwa [State.arb_setLane]

/-- Settles O5: the reset state is the one after a power-up at instant 0. -/
theorem arbiterInvariantHoldsAtReset : Obligations.ArbiterInvariantHoldsAtReset := Arbiter.inv_powerUp 0

end Sys2Proof.Machine
end

section
/-!
SUPPORT. An evaluation of the arbiter tile clause by clause (R72, R74, R81, R85).
-/
namespace Sys2Proof.Machine

section
variable {a : Arbiter} {n : Nat} (f : ClaimFrame) (sense : ArbSense)

/-- A winner's command at each output (R74, R85, R87). -/
theorem Arbiter.apply_at_output (fits : a.Fits) (hn : n < 8) :
    (nthB a.chanFault n = false → bitOf f.chanHold.toNat n = false →
      (a.degraded = false ∨ (f.outCmd.getD n 0).toNat ≤ nth a.outState n) →
      nth (a.apply f sense).outState n = (f.outCmd.getD n 0).toNat ∧ (a.apply f sense).ramp.getD n none = none) ∧
    (bitOf f.chanHold.toNat n = true → nthB (a.apply f sense).chanFault n = true) ∧
    (nthB a.chanFault n = true → bitOf f.chanHold.toNat n = false → bitOf f.chanClear.toNat n = true →
      bitOf sense.checkPass.toNat n = true → nthB (a.apply f sense).chanFault n = false) ∧
    (nthB a.chanFault n = true → bitOf f.chanClear.toNat n = false → nthB (a.apply f sense).chanFault n = true ∧
      nth (a.apply f sense).outState n = nth a.outState n) := by
  have out := Arbiter.output_apply fits f sense hn
  have held : nthB (a.apply f sense).chanFault n = ((a.output n).take f sense { a with safeMode := f.safeMode.toNat } n).held :=
    congrArg OutSt.held out
  refine ⟨fun free clear low => ?_, fun hold => held.trans (OutSt.held_take_of_hold hold), fun was clear asked pass =>
    held.trans (OutSt.held_take_of_release was clear asked pass), fun was kept => ?_⟩
  · have driven := out.trans (OutSt.take_of_free free clear low)
    exact ⟨congrArg OutSt.duty driven, congrArg OutSt.ramp driven⟩
  · have stays := out.trans (OutSt.take_of_held was kept)
    exact ⟨(congrArg OutSt.held stays).trans was, congrArg OutSt.duty stays⟩

/-- A degraded arbiter only lowers duties (R74). -/
theorem Arbiter.apply_lowers (fits : a.Fits) (degraded : a.degraded = true) (hn : n < 8) :
    nth (a.apply f sense).outState n ≤ nth a.outState n :=
  (congrArg OutSt.duty (Arbiter.output_apply fits f sense hn)).trans_le (OutSt.duty_take_le degraded)

/-- What a winner's command sets beside the outputs (R72, R86). -/
theorem Arbiter.apply_rest (fits : a.Fits) : (a.apply f sense).winner = f.claim.toNat ∧ (a.apply f sense).cmdCounter = f.counter.toNat ∧
    (a.apply f sense).safeMode = f.safeMode.toNat ∧ (a.apply f sense).allSafe = a.allSafe ∧ (a.apply f sense).agreed = a.agreed ∧
    (a.apply f sense).disagreeRun = a.disagreeRun ∧
    (a.apply f sense).stopCmd = (bitOf f.control.toNat 0 && (!a.degraded || a.stopCmd)) := by
  rw [Arbiter.apply_eq f sense fits]
  exact ⟨rfl, rfl, rfl, rfl, rfl, rfl, rfl⟩

/-- From `a`, the command of frame `f` is in force in `b` (R72, R74, R85, R87). -/
structure Arbiter.Commanded (a : Arbiter) (f : ClaimFrame) (sense : ArbSense) (b : Arbiter) : Prop where
  winner : b.winner = f.claim.toNat
  counter : b.cmdCounter = f.counter.toNat
  safeMode : b.safeMode = f.safeMode.toNat
  driven : b.allSafe = false
  line : a.degraded = false → b.stopCmd = bitOf f.control.toNat 0
  outputs : ∀ n < 8, (nthB a.chanFault n = false → bitOf f.chanHold.toNat n = false →
      (a.degraded = false ∨ (f.outCmd.getD n 0).toNat ≤ nth a.outState n) →
      nth b.outState n = (f.outCmd.getD n 0).toNat ∧ b.ramp.getD n none = none) ∧
    (bitOf f.chanHold.toNat n = true → nthB b.chanFault n = true) ∧
    (nthB a.chanFault n = true → bitOf f.chanHold.toNat n = false → bitOf f.chanClear.toNat n = true →
      bitOf sense.checkPass.toNat n = true → nthB b.chanFault n = false) ∧
    (nthB a.chanFault n = true → bitOf f.chanClear.toNat n = false → nthB b.chanFault n = true ∧ nth b.outState n = nth a.outState n)

end

section
variable {a : Arbiter} {f : ClaimFrame} {ca cb : Option ClaimFrame} {was : List Bool} {sense : ArbSense}

theorem Arbiter.commanded_apply (fits : a.Fits) (driven : a.allSafe = false) : a.Commanded f sense (a.apply f sense) := by
  obtain ⟨winner, counter, mode, safe, -, -, line⟩ := Arbiter.apply_rest f sense fits
  exact ⟨winner, counter, mode, safe.trans driven, fun sound => by rw [line, sound]; simp, fun n hn => Arbiter.apply_at_output f sense fits hn⟩

/-- An agreed candidate wins where the outputs are driven or its claim was current before (R72, R85). -/
theorem Arbiter.win_commanded (fits : a.Fits) (h : a.allSafe = false ∨ nthB was (bits f.claim.toNat 0 2 - 1) = true) :
    a.Commanded f sense (a.win f was sense) := by
  cases safe : a.allSafe with
  | false =>
    rw [Arbiter.win_of_driven safe]
    exact Arbiter.commanded_apply fits safe
  | true =>
    rw [Arbiter.win_of_was safe (h.resolve_left (by simp [safe]))]
    obtain ⟨winner, counter, mode, driven, line, outputs⟩ := Arbiter.commanded_apply (f := f) (sense := sense) fits.awake rfl
    exact ⟨winner, counter, mode, driven, line, outputs⟩

theorem Arbiter.win_note (fits : a.Fits) : (a.win f was sense).agreed = a.agreed ∧ (a.win f was sense).disagreeRun = a.disagreeRun := by
  cases safe : a.allSafe with
  | false =>
    rw [Arbiter.win_of_driven safe, Arbiter.apply_eq f sense fits]
    exact ⟨rfl, rfl⟩
  | true =>
    cases current : nthB was (bits f.claim.toNat 0 2 - 1) with
    | true =>
      rw [Arbiter.win_of_was safe current, Arbiter.apply_eq f sense fits.awake]
      exact ⟨rfl, rfl⟩
    | false =>
      rw [Arbiter.win_of_new safe current]
      exact ⟨rfl, rfl⟩

/-- Two working halves agree on a candidate (R72, R85). -/
theorem Arbiter.settle_candidate (fits : a.Fits) (fa : a.halfA.fault = false) (fb : a.halfB.fault = false) (agreed : agree (some f) cb = true) :
    (a.settle (some f) cb was sense).agreed = true ∧ (a.settle (some f) cb was sense).disagreeRun = 0 ∧
    (a.allSafe = false ∨ nthB was (bits f.claim.toNat 0 2 - 1) = true → a.Commanded f sense (a.settle (some f) cb was sense)) ∧
    (a.allSafe = true → nthB was (bits f.claim.toNat 0 2 - 1) = false → (a.settle (some f) cb was sense).outState = a.outState ∧
      (a.settle (some f) cb was sense).allSafe = true) := by
  have fits : (a.noted true 0 a.winner a.degraded).Fits := fits.noted ..
  have won : a.settle (some f) cb was sense = (a.noted true 0 a.winner a.degraded).win f was sense := Arbiter.settle_of_agree fa fb agreed
  rw [won]
  obtain ⟨noted, run⟩ := Arbiter.win_note (f := f) (was := was) (sense := sense) fits
  refine ⟨noted, run, fun h => ?_, fun safe new => ?_⟩
  · obtain ⟨winner, counter, mode, driven, line, outputs⟩ := Arbiter.win_commanded (sense := sense) fits h
    exact ⟨winner, counter, mode, driven, line, outputs⟩
  · rw [Arbiter.win_of_new (a := a.noted true 0 a.winner a.degraded) safe new]
    exact ⟨rfl, safe⟩

/-- A half alone (R74). -/
theorem Arbiter.settleAlone_spec (inv : a.Inv) (degraded : a.degraded = true) (c : Option ClaimFrame) :
    (a.settleAlone c sense).agreed = false ∧ (∀ n < 8, nth (a.settleAlone c sense).outState n ≤ nth a.outState n) ∧
    (c = none ∨ a.allSafe = true → (a.settleAlone c sense).outState = a.outState ∧ (a.settleAlone c sense).stopCmd = a.stopCmd ∧
      (a.settleAlone c sense).winner = a.winner) ∧
    (∀ f, c = some f → a.allSafe = false → (a.settleAlone c sense).winner = f.claim.toNat ∧
      (a.settleAlone c sense).cmdCounter = f.counter.toNat ∧ (a.settleAlone c sense).safeMode = f.safeMode.toNat ∧
      (a.settleAlone c sense).stopCmd = (bitOf f.control.toNat 0 && a.stopCmd)) := by
  by_cases idle : c = none ∨ a.allSafe = true
  · have still : a.settleAlone c sense = { a with agreed := false } := by
      rcases idle with rfl | safe
      · rfl
      · exact Arbiter.settleAlone_of_safe safe c
    rw [still]
    refine ⟨rfl, fun n _ => le_rfl, fun _ => ⟨rfl, rfl, rfl⟩, fun f some driven => ?_⟩
    rcases idle with none | safe
    · exact absurd (none.symm.trans some) (by simp)
    · exact absurd (driven.symm.trans safe) Bool.false_ne_true
  · obtain ⟨some, driven⟩ := not_or.mp idle
    obtain ⟨f, rfl⟩ := Option.ne_none_iff_exists'.mp some
    have fits : (a.noted false a.disagreeRun a.winner a.degraded).Fits := inv.fits.noted ..
    have applied : a.settleAlone (.some f) sense = (a.noted false a.disagreeRun a.winner a.degraded).apply f sense :=
      Arbiter.settleAlone_of_driven (by simpa using driven)
    obtain ⟨winner, counter, mode, -, agreed, -, line⟩ := Arbiter.apply_rest f sense fits
    rw [applied]
    refine ⟨agreed, fun n hn => Arbiter.apply_lowers f sense fits degraded hn, fun h => absurd h idle, fun g same _ => ?_⟩
    obtain rfl := Option.some.inj same
    refine ⟨winner, counter, mode, line.trans ?_⟩
    have note : (a.noted false a.disagreeRun a.winner a.degraded).degraded = true := degraded
    rw [note]
    rfl

/-- What an evaluation settles, and what it leaves of that (R72, R81). -/
theorem exec_arbiterEvaluation_of_powered {s : State} {a : Arbiter} (powered : s.arb.powered = true) (t : Nat) (ha : a = s.arb.timed t) :
    exec (.arbiterEvaluation t sense) s = .next { s with arb := ((a.judge t sense).settle ((a.halfA.judged t).candidate t)
      ((a.halfB.judged t).candidate t) a.claimed sense).report } := by
  rw [exec_arbiterEvaluation, onArb_of_powered powered, ha, Arbiter.evaluate_eq]

end

/-- Settles O36: the timers first, then each half's judgement; what the two candidates settle is read off by whether the halves work and
agree, and a winner's command off what it does at each output. -/
theorem arbiterEvaluationAppliesTheAgreedClaim : Obligations.ArbiterEvaluationAppliesTheAgreedClaim := by
  unfold Obligations.ArbiterEvaluationAppliesTheAgreedClaim
  intro s t sense a ha hb powered inv timed hA hB
  have ainv : a.Inv := by
    rw [timed]
    exact inv.timed t
  have cinv : (a.judge t sense).Inv := ainv.judge t sense
  obtain rfl : ha = a.halfA.judged t := hA
  obtain rfl : hb = a.halfB.judged t := hB
  have judgedA : (a.judge t sense).halfA.fault = a.halfA.fault := HalfSt.fault_judged ..
  have judgedB : (a.judge t sense).halfB.fault = a.halfB.fault := HalfSt.fault_judged ..
  have run := exec_arbiterEvaluation_of_powered (sense := sense) powered t timed
  generalize hr : (a.judge t sense).settle ((a.halfA.judged t).candidate t) ((a.halfB.judged t).candidate t) a.claimed sense = r at run
  obtain ⟨count, claimed, status⟩ := Arbiter.record_settle cinv.fits ((a.halfA.judged t).candidate t) ((a.halfB.judged t).candidate t)
    a.claimed sense
  rw [hr] at count claimed status
  refine ⟨r.report, run, count, ?inv, ?some, ?none, ?differ, ?alone, ?claims, ?turn, ?failed⟩
  case inv =>
    rw [← hr]
    exact (cinv.settle _ _ _ _).report
  case some =>
    intro f fa fb cand agreed
    rw [cand] at hr
    obtain ⟨noted, run, command, new⟩ := Arbiter.settle_candidate (f := f) (was := a.claimed) (sense := sense) cinv.fits (judgedA.trans fa)
      (judgedB.trans fb) agreed
    rw [hr] at noted run command new
    refine ⟨noted, run, fun h => ?_, new⟩
    obtain ⟨winner, counter, mode, driven, line, outputs⟩ := command h
    exact ⟨winner, counter, mode, driven, line, outputs⟩
  case none =>
    intro fa fb candA candB
    rw [candA, candB, Arbiter.settle_of_agree (judgedA.trans fa) (judgedB.trans fb) rfl] at hr
    rw [← hr]
    exact ⟨rfl, rfl, rfl, rfl, rfl⟩
  case differ =>
    intro fa fb differ
    rw [Arbiter.settle_of_disagree (judgedA.trans fa) (judgedB.trans fb) differ] at hr
    rw [← hr]
    exact ⟨rfl, rfl, rfl, rfl, rfl, rfl⟩
  case alone =>
    rintro c alone rfl
    have failed : (a.halfA.fault || a.halfB.fault) = true := by
      by_contra none
      obtain ⟨fa, fb⟩ := Bool.or_eq_false_iff.mp (Bool.eq_false_of_not_eq_true none)
      exact alone (fa.trans fb.symm)
    rw [Arbiter.settle_of_alone (by rwa [judgedA, judgedB]), judgedA] at hr
    have spec := Arbiter.settleAlone_spec (sense := sense) cinv (ainv.half failed)
      (if a.halfA.fault then (a.halfB.judged t).candidate t else (a.halfA.judged t).candidate t)
    rw [hr] at spec
    exact spec
  case claims => exact fun n _ => congrArg (fun l => nthB l n) claimed
  case turn =>
    rintro k turn
    obtain ⟨sends, quiet⟩ := Arbiter.status_report (a := r) turn
    exact ⟨sends, fun failed => (quiet failed).trans status⟩
  case failed =>
    intro fa fb
    rw [Arbiter.settle_of_failed (judgedA.trans fa) (judgedB.trans fb)] at hr
    rw [← hr]
    exact ⟨rfl, rfl, rfl⟩

end Sys2Proof.Machine
end

section
/-!
SUPPORT. The arbiter's claim frames, its timers and its failures, and the checks of its outputs (R74, R79, R82, R83, R85 to R87).
-/
namespace Sys2Proof.Machine

/-! A half receives a frame (R79). -/

section
variable {x : HalfSt} {link : LaneId} {t : Nat} {f : ClaimFrame} {c : BitVec 16}

theorem HalfSt.receive_of_refused (h : x.fault = true ∨ frameIds (laneNo link) f c = false) : x.receive link t f c = x := by
  unfold HalfSt.receive
  exact if_pos (by rcases h with h | h <;> simp [h])

/-- The first frame after 500 µs without one sets the counter reference alone. -/
theorem HalfSt.receive_of_first (works : x.fault = false) (ids : frameIds (laneNo link) f c = true)
    (first : (x.links.of link).ref = none ∨ ∃ r, (x.links.of link).ref = some r ∧ r.2 + 500000 ≤ t) :
    x.receive link t f c = { x with links := x.links.upd link { x.links.of link with ref := some (f.counter.toNat, t) } } := by
  unfold HalfSt.receive
  dsimp only
  rw [if_neg (by simp [works, ids])]
  rcases first with none | ⟨⟨c0, t0⟩, some, late⟩
  · rw [none]
  · rw [some]
    exact if_pos late

theorem HalfSt.receive_of_soon {r : Nat × Nat} (works : x.fault = false) (ids : frameIds (laneNo link) f c = true)
    (ref : (x.links.of link).ref = some r) (soon : t < r.2 + 500000) :
    x.receive link t f c = if 1 ≤ (f.counter.toNat + 65536 - r.1) % 65536 ∧ (f.counter.toNat + 65536 - r.1) % 65536 ≤ 15 then
      { x with links := x.links.upd link ((x.links.of link).take link t f)
               timer := if f.claim ≠ 0 && !nthB x.disregard (laneNo link - 1) then t else x.timer } else x := by
  obtain ⟨c0, t0⟩ := r
  unfold HalfSt.receive
  dsimp only
  rw [if_neg (by simp [works, ids]), ref]
  dsimp only
  rw [if_neg (by simpa using soon)]
  simp only [decide_eq_true_eq]

end

@[simp] theorem Tri.of_upd {α : Type} (x : Tri α) (l : LaneId) (v : α) : (x.upd l v).of l = v := by cases l <;> rfl

theorem Tri.of_upd_of_ne {α : Type} (x : Tri α) {l m : LaneId} (v : α) (h : m ≠ l) : (x.upd l v).of m = x.of m := by
  cases l <;> cases m <;> simp [Tri.of, Tri.upd] at h ⊢

@[simp] theorem Arbiter.setHalf_half (a : Arbiter) (k : ArbHalf) : a.setHalf k (a.half k) = a := by cases k <;> rfl

theorem exec_claimFrame_of_powered {s : State} (powered : s.arb.powered = true) (k : ArbHalf) (link : LaneId) (t : Nat) (f : ClaimFrame)
    (c : BitVec 16) {a : Arbiter} (ha : a = (s.arb.at_ t).expire k) :
    exec (.claimFrame k link t f c) s = .next { s with arb := a.setHalf k ((a.half k).receive link t f c) } := by
  rw [exec_claimFrame, onArb_of_powered powered, ha]
  rfl

/-! A timer that has run, and a half that fails (R74, R85). -/

section
variable {a : Arbiter} {k : ArbHalf}

theorem Arbiter.half_allToSafe (fits : a.Fits) : a.allToSafe.half k = a.half k := by
  rw [Arbiter.allToSafe_eq fits]
  cases k <;> rfl

/-- Every output to its safe state leaves the holds, their causes and SAFE_MODE (R85). -/
theorem Arbiter.allToSafe_rest (fits : a.Fits) : a.allToSafe.allSafe = true ∧ a.allToSafe.chanFault = a.chanFault ∧
    a.allToSafe.chanCause = a.chanCause ∧ a.allToSafe.safeMode = a.safeMode := by
  have safe := a.fits_mapOutputs fun n o => o.vent a n
  have out : ∀ n < 8, (a.mapOutputs fun n o => o.vent a n).output n = (a.output n).vent a n := fun n hn => a.output_mapOutputs _ hn
  rw [Arbiter.allToSafe_eq fits]
  exact ⟨rfl, eq_of_getD false safe.faults fits.faults fun n hn => (congrArg OutSt.held (out n hn)).trans (OutSt.held_vent ..),
    eq_of_getD 0 safe.causes fits.causes fun n hn => (congrArg OutSt.cause (out n hn)).trans (OutSt.cause_vent ..), rfl⟩

theorem Arbiter.Fits.setHalf (fits : a.Fits) (x : HalfSt) : (a.setHalf k x).Fits := by
  obtain ⟨outs, ramps, faults, causes⟩ := fits
  cases k <;> exact ⟨outs, ramps, faults, causes⟩

theorem Arbiter.duty_output (a : Arbiter) (n : Nat) : (a.output n).duty = nth a.outState n := rfl

/-- An expired timer takes every output to its safe state (R85). -/
theorem Arbiter.expire_spec (fits : a.Fits) (late : a.timedOut k) : (a.expire k).allSafe = true ∧ (a.expire k).vented ∧
    ((a.expire k).half k).safe = true ∧
    (∀ n < 8, bitOf a.safeMode n = false → a.ramp.getD n none = none → nth (a.expire k).outState n = 0) ∧
    (a.expire k).chanFault = a.chanFault ∧ (a.expire k).chanCause = a.chanCause ∧ (a.expire k).safeMode = a.safeMode := by
  generalize hb : a.setHalf k { a.half k with safe := true } = b
  have same : b.output = a.output ∧ b.safeMode = a.safeMode ∧ b.chanFault = a.chanFault ∧ b.chanCause = a.chanCause ∧
      (b.half k).safe = true := by
    rw [← hb]
    cases k <;> exact ⟨rfl, rfl, rfl, rfl, rfl⟩
  obtain ⟨outputs, modes, faults, causes, aside⟩ := same
  have fit : b.Fits := hb ▸ fits.setHalf _
  obtain ⟨-, vented, vents⟩ := Arbiter.allToSafe_spec fit
  obtain ⟨safe, faultsKept, causesKept, modesKept⟩ := Arbiter.allToSafe_rest fit
  rw [Arbiter.expire_of_timedOut late, hb]
  refine ⟨safe, vented, ?_, fun n hn mode still => ?_, faultsKept.trans faults, causesKept.trans causes, modesKept.trans modes⟩
  · rw [Arbiter.half_allToSafe fit]
    exact aside
  · have off : ((b.output n).vent b n).duty = 0 := OutSt.duty_vent_of_immediate (by rwa [modes]) (by rw [outputs]; exact still)
    rw [← Arbiter.duty_output, vents n hn, off]

theorem Arbiter.freeze_faults (a : Arbiter) (k : ArbHalf) :
    ((a.freeze k).halfA.fault && (a.freeze k).halfB.fault) = (a.half (otherHalf k)).fault := by
  cases k with
  | halfA => rfl
  | halfB => exact Bool.and_true _

theorem Arbiter.failHalf_of_sound (sound : (a.half (otherHalf k)).fault = false) : a.failHalf k = a.freeze k := by
  rw [Arbiter.failHalf_eq, Arbiter.freeze_faults, sound]
  rfl

theorem Arbiter.failHalf_of_failed (failed : (a.half (otherHalf k)).fault = true) : a.failHalf k = (a.freeze k).openAll := by
  rw [Arbiter.failHalf_eq, Arbiter.freeze_faults, failed]
  rfl

end

section
variable {s : State} {a : Arbiter} {k : ArbHalf} {t : Nat}

theorem exec_safeStateTimer_of_powered (powered : s.arb.powered = true) (ha : a = s.arb.at_ t) :
    exec (.safeStateTimer k t) s = .next { s with arb := a.expire k } := by
  rw [exec_safeStateTimer, onArb_of_powered powered, ha]

/-- Each way in which half `k` is found failed (R74). -/
theorem exec_failure_of_powered {i : Instr} (powered : s.arb.powered = true) (ha : a = s.arb.at_ t)
    (h : i = .halfFault k t ∨ i = .handshakeTimeout k t ∧ (a.half k).fault = false ∨
      i = .handshakeTimeout (otherHalf k) t ∧ (a.half (otherHalf k)).fault = true) :
    exec i s = .next { s with arb := a.failHalf k } := by
  rcases h with rfl | ⟨rfl, works⟩ | ⟨rfl, failed⟩
  · rw [exec_halfFault, onArb_of_powered powered, ha]
  · rw [exec_handshakeTimeout, onArb_of_powered powered, ← ha, Arbiter.missHandshake, if_neg (by simp [works])]
  · rw [exec_handshakeTimeout, onArb_of_powered powered, ← ha, Arbiter.missHandshake, if_pos failed]
    cases k <;> rfl

theorem Arbiter.freeze_spec (a : Arbiter) (k : ArbHalf) : ((a.freeze k).half k).fault = true ∧ (a.freeze k).degraded = true ∧
    (a.freeze k).outState = a.outState := by
  cases k <;> exact ⟨rfl, rfl, rfl⟩

theorem Arbiter.half_openAll (a : Arbiter) (k : ArbHalf) : a.openAll.half k = a.half k := by cases k <;> rfl

/-- A half that fails degrades the arbiter, and both failed switch everything off (R74). -/
theorem Arbiter.failHalf_spec (a : Arbiter) (k : ArbHalf) : ((a.failHalf k).half k).fault = true ∧ (a.failHalf k).degraded = true ∧
    ((a.half (otherHalf k)).fault = false → (a.failHalf k).outState = a.outState ∧ a.failHalf k = a.freeze k) ∧
    ((a.half (otherHalf k)).fault = true → (a.failHalf k).outState = List.replicate 8 0 ∧ (a.failHalf k).vented ∧
      (a.failHalf k).allSafe = true) := by
  obtain ⟨fault, degraded, outs⟩ := a.freeze_spec k
  cases e : (a.half (otherHalf k)).fault with
  | false =>
    rw [Arbiter.failHalf_of_sound e]
    exact ⟨fault, degraded, fun _ => ⟨outs, rfl⟩, fun failed => absurd failed Bool.false_ne_true⟩
  | true =>
    rw [Arbiter.failHalf_of_failed e, Arbiter.half_openAll]
    exact ⟨fault, degraded, fun works => absurd works.symm Bool.false_ne_true, fun _ => ⟨rfl, Arbiter.vented_openAll, rfl⟩⟩

end

/-- Settles O35: a frame by what the half makes of it, a timer by whether it has run, a failure by whether the other half works, and a
power-up by its state. -/
theorem arbiterTakesFramesAndWatchesTimers : Obligations.ArbiterTakesFramesAndWatchesTimers := by
  unfold Obligations.ArbiterTakesFramesAndWatchesTimers
  refine ⟨?frame, ?timer, ?failure, ?powerUp⟩
  case frame =>
    intro s h k t f c a powered ha
    rw [exec_claimFrame_of_powered powered h k t f c ha]
    refine ⟨fun refused => ?_, fun works ids first => ?_, fun r works ids ref soon => ⟨fun advance => ?_, fun stale => ?_⟩⟩
    · rw [HalfSt.receive_of_refused refused, Arbiter.setHalf_half]
    · rw [HalfSt.receive_of_first works ids first]
    · rw [HalfSt.receive_of_soon works ids ref soon, if_pos advance]
      refine ⟨_, rfl, rfl, ?_, ?_, ?_, fun j other => Tri.of_upd_of_ne _ _ other, ?_⟩
      · rw [Tri.of_upd]; rfl
      · rw [Tri.of_upd]; rfl
      · rw [Tri.of_upd]; rfl
      · simp
    · rw [HalfSt.receive_of_soon works ids ref soon, if_neg (by omega), Arbiter.setHalf_half]
  case timer =>
    intro s h t a powered inv ha
    have fits : a.Fits := ha ▸ (inv.at_ t).fits
    rw [exec_safeStateTimer_of_powered powered ha]
    refine ⟨fun quiet => ?_, fun works driven late => ⟨_, rfl, Arbiter.expire_spec fits ⟨works, driven, late⟩⟩⟩
    rw [Arbiter.expire_of_not_timedOut]
    rintro ⟨works, driven, late⟩
    rcases quiet with failed | safe | early
    · simp [works] at failed
    · simp [driven] at safe
    · omega
  case failure =>
    intro s h t a i powered ha found
    have run : exec i s = .next { s with arb := a.failHalf h } := exec_failure_of_powered powered ha (by cases h <;> exact found)
    have spec := a.failHalf_spec h
    cases h <;> exact ⟨_, run, spec⟩
  case powerUp =>
    intro s t
    have inv := Arbiter.inv_powerUp t
    exact ⟨_, rfl, rfl, rfl, rfl, inv.safe rfl, inv, fun h => by cases h <;> exact ⟨rfl, rfl⟩⟩

end Sys2Proof.Machine
end

section
/-!
SUPPORT. The checks of the arbiter's outputs (R83, R87): what a hold does, and when a switch is tested.
-/
namespace Sys2Proof.Machine

section
variable {a : Arbiter} {n : Nat}

/-- A hold at an output, said once (R87). -/
theorem Arbiter.heldAt_hold (fits : a.Fits) (hn : n < 8) (cause : Nat) : a.HeldAt n cause (a.hold n cause) := by
  have out : (a.hold n cause).output n = (a.output n).hold a n cause := by
    rw [Arbiter.hold_eq fits hn, Arbiter.output_setOutput _ fits hn]
  have others : ∀ {m}, m ≠ n → (a.hold n cause).output m = a.output m := fun ne => by
    rw [Arbiter.hold_eq fits hn, Arbiter.output_setOutput_of_ne _ ne]
  refine ⟨fun held => if_pos held, (congrArg OutSt.held out).trans OutSt.held_hold, fun free => ?_, fun m ne => ?_, ?_⟩
  · have began := out.trans (OutSt.hold_of_free free)
    refine ⟨(congrArg OutSt.cause began).trans (OutSt.cause_vent ..), ?_⟩
    rw [← Arbiter.duty_output, ← Arbiter.duty_output, began]
    exact (OutSt.vent_off_or_ramps (a := a) (n := n) (o := { a.output n with held := true, cause := cause })).imp_right
      (.imp_left fun ramps => (congrArg (fun o => o.ramp.isSome) began).trans ramps)
  · have same := others ne
    exact ⟨congrArg OutSt.held same, congrArg OutSt.cause same, congrArg OutSt.duty same, congrArg OutSt.ramp same⟩
  · rw [Arbiter.hold_eq fits hn]
    rfl

/-- A switch is tested in its half's slot or in the one to which a cut test was put off; half A tests an output at duty 255 alone (R83, R87). -/
theorem Arbiter.testDue_iff (k : ArbHalf) (on : nth a.outState n ≠ 0) : a.testDue k n = true ↔
    (a.now % 500000000 / 31250000 = slotOfTest k n ∨ a.offPulse.getD (slotOfTest k n) none = some (a.now / 31250000)) ∧
    (k = .halfA → nth a.outState n = 255) := by
  unfold Arbiter.testDue
  rw [Bool.and_eq_true, Bool.or_eq_true, decide_eq_true_eq, decide_eq_true_eq]
  refine and_congr Iff.rfl ?_
  cases k <;> simp [on]

theorem Arbiter.testSwitch_of_off (off : nth a.outState n = 0) (k : ArbHalf) (high cut : Bool) :
    a.testSwitch k n high cut = if high then a.hold n (highCause k) else a := if_pos off

theorem Arbiter.testSwitch_of_not_due {k : ArbHalf} (on : nth a.outState n ≠ 0) (due : a.testDue k n = false) (high cut : Bool) :
    a.testSwitch k n high cut = a := (if_neg on).trans (if_pos (by simp [due]))

theorem Arbiter.testSwitch_of_due {k : ArbHalf} (on : nth a.outState n ≠ 0) (due : a.testDue k n = true) (high cut : Bool) :
    a.testSwitch k n high cut = if cut then a.setRepeat k n (some (a.now / 31250000 + 1))
      else if high then (a.setRepeat k n none).hold n (highCause k) else a.setRepeat k n none :=
  (if_neg on).trans (if_neg (by simp [due]))

theorem exec_offPulseTest_of_powered {s : State} (powered : s.arb.powered = true) {t : Nat} (ha : a = s.arb.at_ t) (k : ArbHalf) (out : Fin 8)
    (high cut : Bool) : exec (.offPulseTest k out t high cut) s = .next { s with arb := a.testSwitch k out high cut } := by
  rw [exec_offPulseTest, onArb_of_powered powered, ha]

/-- A check holds its channel where its condition is met, and leaves the module where it is not. -/
theorem onArb_hold_if {s : State} (powered : s.arb.powered = true) (inv : s.arb.Inv) (hn : n < 8) (cause : Nat) {c : Arbiter → Bool} {p : Prop}
    (met : c s.arb = true ↔ p) :
    (p → ∃ b, onArb s (fun a => if c a then a.hold n cause else a) = .next { s with arb := b } ∧ s.arb.HeldAt n cause b) ∧
    (¬ p → onArb s (fun a => if c a then a.hold n cause else a) = .next s) := by
  rw [onArb_of_powered powered]
  refine ⟨fun h => ⟨_, rfl, ?_⟩, fun h => ?_⟩
  · rw [if_pos (met.mpr h)]
    exact Arbiter.heldAt_hold inv.fits hn cause
  · rw [if_neg (mt met.mp h)]

end

/-- Settles O37: a switch's test by the duty and by whether it is due, and the other checks by their conditions. -/
theorem arbiterOutputChecksHoldTheirChannel : Obligations.ArbiterOutputChecksHoldTheirChannel := by
  unfold Obligations.ArbiterOutputChecksHoldTheirChannel
  refine ⟨fun s h n t v w a slot cause powered inv ha hslot hcause => ?_, fun s n i ms powered inv => ?_⟩
  · have fits : a.Fits := ha ▸ (inv.at_ t).fits
    obtain rfl : slot = slotOfTest h n := hslot.trans (by cases h <;> rfl)
    obtain rfl : cause = highCause h := hcause.trans (by cases h <;> rfl)
    rw [exec_offPulseTest_of_powered powered ha]
    refine ⟨fun off low => ?_, fun off high => ?_, fun on idle => ?_, fun on full due => ?_⟩
    · rw [Arbiter.testSwitch_of_off off, low]
      rfl
    · rw [Arbiter.testSwitch_of_off off, high]
      exact ⟨_, rfl, Arbiter.heldAt_hold fits n.isLt _⟩
    · have notDue : a.testDue h n = false := by
        rw [← Bool.not_eq_true, Arbiter.testDue_iff h on]
        rintro ⟨due, full⟩
        rcases idle with ⟨other, fresh⟩ | ⟨isA, below⟩
        · exact due.elim other fresh
        · exact below (full isA)
      rw [Arbiter.testSwitch_of_not_due on notDue]
    · rw [Arbiter.testSwitch_of_due on ((Arbiter.testDue_iff h on).mpr ⟨due, full⟩)]
      refine ⟨fun cut => ?_, fun whole low => ?_, fun whole high => ?_⟩
      · rw [cut]
        rfl
      · rw [whole, low]
        rfl
      · rw [whole, high]
        have repeats : (a.setRepeat h n none).Inv := Arbiter.Inv.setRepeat (ha ▸ inv.at_ t) h n none
        exact ⟨_, rfl, Arbiter.heldAt_hold repeats.fits n.isLt _⟩
  · obtain ⟨opened, loaded⟩ := onArb_hold_if powered inv n.isLt 1
      (c := fun a => decide (nth a.outState n = 255) && decide (i < 30) && decide (10 ≤ ms))
      (p := (nth s.arb.outState n = 255 ∧ i < 30) ∧ 10 ≤ ms) (by simp)
    obtain ⟨exceeded, within⟩ := onArb_hold_if powered inv n.isLt 2
      (c := fun _ => (decide (4500 < i) && decide (20 ≤ ms)) || decide (12000 < i))
      (p := 4500 < i ∧ 20 ≤ ms ∨ 12000 < i) (by simp)
    have follows := fun m : BitVec 8 => onArb_hold_if powered inv n.isLt 6
      (c := fun a => (decide (nth a.outState n + 4 < m.toNat) || decide (m.toNat + 4 < nth a.outState n)) && decide (10 ≤ ms))
      (p := (nth s.arb.outState n + 4 < m.toNat ∨ m.toNat + 4 < nth s.arb.outState n) ∧ 10 ≤ ms) (by simp)
    simp only [exec_openLoad, exec_overcurrent, exec_outputNotFollowingDuty]
    exact ⟨fun full low long => opened ⟨⟨full, low⟩, long⟩, fun h => loaded (by omega), exceeded, fun low short => within (by omega),
      fun m off long => (follows m).1 ⟨off, long⟩, fun m h => (follows m).2 (by omega)⟩

end Sys2Proof.Machine
end

section
/-!
SUPPORT. The protective trips of the sensor supplies and their clearing (R77, R271, R274, R295).
-/
namespace Sys2Proof.Machine

/-- A supply goes off with a cause: its state, its count, and its bits in SIO_STAT and SIO_CTL (R274). -/
def Lane.supplyOff (x : Lane) (n c : Nat) : Lane :=
  (((x.setObj (O.supplyState n) c).inc (O.supTrips n)).setRbit Rg.sioStat n true).setRbit Rg.sioCtl n false

/-- The lane with supply `n` tripped, before what an exhausted trip asserts (R77, R274). -/
def Lane.supplyTripped (x : Lane) (n c tries : Nat) : Lane :=
  let y := (x.supplyOff n c).setSup n { x.sup n with tripped := true, causeAt := x.now, exhausted := decide (3 ≤ tries) }
  { y with claim := { y.claim with winHealthy := false } }

/-- A supply comes on: its state, and its bits (R274). -/
def Lane.supplyOn (x : Lane) (n : Nat) : Lane := ((x.setObj (O.supplyState n) 0).setRbit Rg.sioStat n false).setRbit Rg.sioCtl n true

/-- Supply `n` with its trip cleared (R274). -/
def Lane.supCleared (x : Lane) (n : Nat) : SupplySt :=
  { x.sup n with tripped := false, exhausted := false, clears := (x.now :: (x.sup n).clears).take 4 }

/-- The lane with supply `n` back (R274, R295). -/
def Lane.supplyBack (x : Lane) (n : Nat) : Lane := ((x.supplyOn n).setSup n (x.supCleared n)).spoilSupply n

/-- May the trip of supply `n` clear? (R274) -/
def Lane.supplyMayClear (x : Lane) (n : Nat) : Prop :=
  (x.sup n).tripped = true ∧ (x.sup n).causeAt + 10000000 ≤ x.now ∧ ((x.sup n).exhausted = false ∨ x.coll.error = false)

section
variable {x : Lane} {n c tries : Nat}

theorem Lane.supTrip_of_tripped (h : (x.sup n).tripped = true) :
    x.supTrip n c = (x.setObj (O.supplyState n) c).setSup n { x.sup n with causeAt := x.now } := if_pos h

theorem Lane.supTrip_of_untripped (h : (x.sup n).tripped = false)
    (ht : tries = ((x.sup n).clears.filter fun c => x.now < c + 1000000000).length) :
    x.supTrip n c = (x.supplyTripped n c tries).raiseIf (3 ≤ tries) (0x38 + n) c := by
  rw [Lane.supTrip, if_neg (by simp [h]), ← ht]
  rfl

theorem supTrips_key_ne (n : Nat) : (O.supplyState n).key ≠ (O.supTrips n).key := by
  simp [O.supplyState, O.supTrips]

theorem Lane.obj_supplyTripped (o : O.Obj) :
    (x.supplyTripped n c tries).obj o = ((x.setObj (O.supplyState n) c).inc (O.supTrips n)).obj o := by
  have objs : (x.supplyTripped n c tries).objs = ((x.setObj (O.supplyState n) c).inc (O.supTrips n)).objs := by
    simp only [Lane.supplyTripped, Lane.supplyOff, Lane.setSup, Lane.setRbit_objs]
  rw [Lane.obj, objs, Lane.obj]

theorem Lane.reg_supplyTripped (r : Rg.Reg) : (x.supplyTripped n c tries).reg r = (x.supplyOff n c).reg r := by
  rw [Lane.reg, Lane.supplyTripped, Lane.setSup, Lane.reg]

theorem Lane.obj_supplyBack (o : O.Obj) : (x.supplyBack n).obj o = (x.setObj (O.supplyState n) 0).obj o := rfl

theorem Lane.reg_supplyBack (r : Rg.Reg) : (x.supplyBack n).reg r = (x.supplyOn n).reg r := rfl

theorem Lane.state_supplyTripped : (x.supplyTripped n c tries).obj (O.supplyState n) = c := by
  rw [Lane.obj_supplyTripped, Lane.obj_inc_of_ne _ (supTrips_key_ne n), Lane.obj_setObj]

theorem Lane.trips_supplyTripped : CountedBy (O.supTrips n) 1 x (x.supplyTripped n c tries) :=
  (countedBy_inc (x.setObj (O.supplyState n) c) (O.supTrips n)).of_obj_eq (x.obj_setObj_of_ne c (supTrips_key_ne n).symm).symm
    (Lane.obj_supplyTripped _)

theorem Lane.supplyTripped_objsKept : ObjsKept [(O.supplyState n).key, (O.supTrips n).key] x (x.supplyTripped n c tries) := by
  have kept : ObjsKept [(O.supplyState n).key, (O.supTrips n).key] x ((x.setObj (O.supplyState n) c).inc (O.supTrips n)) :=
    (objsKept_setObj (by simp) x c).trans (objsKept_inc (by simp) _)
  exact fun o ho => (Lane.obj_supplyTripped o).trans (kept o ho)

/-- Writes of a supply's bits change SIO_STAT and SIO_CTL alone. -/
theorem supplyBits_regsKept (z : Lane) (n : Nat) (a b : Bool) :
    RegsKept [Rg.sioStat.addr, Rg.sioCtl.addr] z ((z.setRbit Rg.sioStat n a).setRbit Rg.sioCtl n b) :=
  (regsKept_setRbit (r := Rg.sioStat) (by simp) z n a).trans (regsKept_setRbit (r := Rg.sioCtl) (by simp) _ n b)

/-- The bits of a supply in SIO_STAT and SIO_CTL after a write of both. -/
theorem Lane.bits_of_supply (z : Lane) (a b : Bool) (hn : n < 32) : ((z.setRbit Rg.sioStat n a).setRbit Rg.sioCtl n b).rbit Rg.sioStat n = a ∧
    ((z.setRbit Rg.sioStat n a).setRbit Rg.sioCtl n b).rbit Rg.sioCtl n = b := by
  rw [Lane.rbit_setRbit_of_ne _ (r := Rg.sioCtl) n n b (by decide), Lane.rbit_setRbit _ _ a hn, Lane.rbit_setRbit _ _ b hn]
  exact ⟨rfl, rfl⟩

theorem Lane.supplyTripped_regsKept : RegsKept [Rg.sioStat.addr, Rg.sioCtl.addr] x (x.supplyTripped n c tries) := fun r hr =>
  (Lane.reg_supplyTripped r).trans (supplyBits_regsKept _ n true false r hr)

theorem Lane.bits_supplyTripped (hn : n < 32) : (x.supplyTripped n c tries).rbit Rg.sioStat n = true ∧
    (x.supplyTripped n c tries).rbit Rg.sioCtl n = false := by
  rw [Lane.rbit_of_reg_eq (Lane.reg_supplyTripped _), Lane.rbit_of_reg_eq (Lane.reg_supplyTripped _)]
  exact Lane.bits_of_supply _ true false hn

theorem Lane.bits_supplyBack (hn : n < 32) : (x.supplyBack n).rbit Rg.sioStat n = false ∧ (x.supplyBack n).rbit Rg.sioCtl n = true := by
  rw [Lane.rbit_of_reg_eq (Lane.reg_supplyBack _), Lane.rbit_of_reg_eq (Lane.reg_supplyBack _)]
  exact Lane.bits_of_supply _ false true hn

theorem Lane.supplyBack_objsKept : ObjsKept [(O.supplyState n).key] x (x.supplyBack n) := fun o ho =>
  (Lane.obj_supplyBack o).trans (objsKept_setObj (by simp) x 0 o ho)

theorem Lane.supplyBack_regsKept : RegsKept [Rg.sioStat.addr, Rg.sioCtl.addr] x (x.supplyBack n) := fun r hr =>
  (Lane.reg_supplyBack r).trans (supplyBits_regsKept _ n false true r hr)

theorem Lane.two_setRbit_reach (z : Lane) (r q : Rg.Reg) (i j : Nat) (a b : Bool) :
    ∃ rs, (z.setRbit r i a).setRbit q j b = { z with regs := rs } := ⟨_, rfl⟩

theorem Lane.supplyOff_reach (x : Lane) (n c : Nat) : ∃ os rs, x.supplyOff n c = { x with objs := os, regs := rs } := by
  obtain ⟨rs, e⟩ := ((x.setObj (O.supplyState n) c).inc (O.supTrips n)).two_setRbit_reach Rg.sioStat Rg.sioCtl n n true false
  exact ⟨_, rs, e⟩

theorem Lane.supplyTripped_reach : x.supplyTripped n c tries = { x with
    objs := (x.supplyTripped n c tries).objs, regs := (x.supplyTripped n c tries).regs, sio := (x.supplyTripped n c tries).sio,
    claim := { x.claim with winHealthy := false } } := by
  obtain ⟨os, rs, e⟩ := x.supplyOff_reach n c
  rw [Lane.supplyTripped, e]
  rfl

/-- A trip is an error where the tries are exhausted, and none where they are not. -/
theorem Lane.raiseIf_exhausted (z : Lane) (src data : Nat) : (tries < 3 → z.raiseIf (3 ≤ tries) src data = z) ∧
    (3 ≤ tries → ErrorOf z src data (z.raiseIf (3 ≤ tries) src data)) := by
  refine ⟨fun few => if_neg (by simpa using few), fun many => ?_⟩
  rw [Lane.raiseIf, if_pos (by simpa using many)]
  exact z.raise_errorOf src data

/-- Which points a supply feeds does not hang on the supplies' states. -/
theorem Lane.sio_spoilSupply_congr {y z : Lane} (sio : y.sio = z.sio) (feeds : ∀ i, y.obj (O.anaSupply i) = z.obj (O.anaSupply i)) (n : Nat) :
    (y.spoilSupply n).sio = (z.spoilSupply n).sio := by
  simp only [Lane.spoilSupply, sio, feeds]

theorem anaSupply_key_ne (hn : n < 4) (i : Nat) : (O.anaSupply i).key ≠ (O.supplyState n).key := by
  simp only [O.anaSupply, O.supplyState]
  omega

theorem Lane.sio_supplyBack (hn : n < 4) : (x.supplyBack n).sio = ((x.setSup n (x.supCleared n)).spoilSupply n).sio :=
  Lane.sio_spoilSupply_congr (y := (x.supplyOn n).setSup n (x.supCleared n)) (z := x.setSup n (x.supCleared n)) rfl
    (fun i => x.obj_setObj_of_ne 0 (anaSupply_key_ne hn i)) n

end

section
variable {s : State} {l : LaneId} {t : Nat} {x : Lane} {n : Fin 4}

/-- A cause of a supply's trip, by its code (R274). -/
theorem exec_supplyCause (h : Sees s l t x) {c : Nat} {i : Instr}
    (hi : c = 1 ∧ i = .supplyOutOfBand l n t ∨ c = 2 ∧ i = .supplyOvercurrent l n t) :
    exec i s = .next (s.setLane l (if x.started then x.supTrip n c else x)) := by
  rcases hi with ⟨rfl, rfl⟩ | ⟨rfl, rfl⟩
  · exact (onLaneAt_of_sees h _ : execSupplyOutOfBand l n t s = _)
  · exact (onLaneAt_of_sees h _ : execSupplyOvercurrent l n t s = _)

theorem exec_supplyTripClear_of_may (h : Sees s l t x) (may : x.supplyMayClear n) :
    exec (.supplyTripClear l n t) s = .next (s.setLane l (x.supplyBack n)) := by
  obtain ⟨tripped, waited, clear⟩ := may
  refine (onLaneAt_of_sees h _ : execSupplyTripClear l n t s = _).trans ?_
  dsimp only
  rw [if_pos (by rcases clear with c | c <;> simp [tripped, waited, c])]
  rfl

theorem exec_supplyTripClear_of_not (h : Sees s l t x) (not : ¬ x.supplyMayClear n) :
    exec (.supplyTripClear l n t) s = .next (s.setLane l x) := by
  refine (onLaneAt_of_sees h _ : execSupplyTripClear l n t s = _).trans ?_
  dsimp only
  rw [if_neg]
  rw [Lane.supplyMayClear] at not
  simpa [and_assoc] using not

end

/-- Settles O30: a cause by whether the lane has started and the supply is tripped already, a clearing by whether it may. -/
theorem sensorSuppliesTripAndComeBack : Obligations.SensorSuppliesTripAndComeBack := by
  unfold Obligations.SensorSuppliesTripAndComeBack
  intro s l n t x h
  have small : n.val < 4 := n.isLt
  refine ⟨fun c i hi => ⟨fun off => ?_, fun started tripped => ?_, fun tries started untripped ht => ?_⟩, fun tripped waited clear => ?_,
    fun stays => ?_⟩
  · rw [exec_supplyCause h hi, if_neg (by simp [off])]
  · rw [exec_supplyCause h hi, if_pos started, Lane.supTrip_of_tripped tripped]
  · rw [exec_supplyCause h hi, if_pos started, Lane.supTrip_of_untripped untripped ht]
    obtain ⟨stat, ctl⟩ := Lane.bits_supplyTripped (x := x) (n := n) (c := c) (tries := tries) (by omega)
    obtain ⟨few, many⟩ := (x.supplyTripped n c tries).raiseIf_exhausted (tries := tries) (0x38 + n) c
    exact ⟨_, x.supplyTripped n c tries, rfl, Lane.state_supplyTripped, Lane.trips_supplyTripped, stat, ctl, rfl,
      Lane.supplyTripped_objsKept, Lane.supplyTripped_regsKept, Lane.supplyTripped_reach, few, many⟩
  · obtain ⟨stat, ctl⟩ := Lane.bits_supplyBack (x := x) (n := n) (by omega)
    exact ⟨x.supplyBack n, exec_supplyTripClear_of_may h ⟨tripped, waited, clear⟩, (Lane.obj_supplyBack _).trans (x.obj_setObj _ 0), stat,
      ctl, Lane.sio_supplyBack small, Lane.supplyBack_objsKept, Lane.supplyBack_regsKept, rfl⟩
  · refine exec_supplyTripClear_of_not h fun ⟨tripped, waited, clear⟩ => ?_
    rcases stays with untripped | early | ⟨exhausted, error⟩
    · exact absurd (untripped.symm.trans tripped) Bool.false_ne_true
    · omega
    · simp [exhausted, error] at clear

end Sys2Proof.Machine
end

section
/-!
SUPPORT. What an error's reaction does to each stage and to the other bits of GD_STAT (R95, R306): every stage is stopped, and the comparator
may set its bit alone.
-/
namespace Sys2Proof.Machine

/-- A stage that is stopped twice at an instant is stopped as it was. -/
theorem StageSt.stop_stop (g : StageSt) (t : Nat) : (g.stop t).stop t = g.stop t := by
  change ({ g with driving := false, gate := if g.softRuns t then (if g.softRuns t then g.gate else .off) else .off } : StageSt) = _
  rw [StageSt.stop]
  cases g.softRuns t <;> rfl

theorem Lane.stg_ceaseStage (l : Lane) (st : Stage) : (l.ceaseStage st).stg st = (l.stg st).stop l.now := by
  cases st with
  | steer => exact l.ceaseSteer_steer
  | brake n => exact Vector.getElem_set_self _

theorem Lane.now_ceaseStage (l : Lane) (st : Stage) : (l.ceaseStage st).now = l.now := by
  cases st with
  | steer => exact l.ceaseSteer_now
  | brake n => rfl

/-- The reaction stops the stages one by one, and withdraws the claim (R306). -/
theorem Lane.react_eq_foldl (l : Lane) : l.react = (allStages.foldl Lane.ceaseStage l).dropClaim := by
  rw [allStages, List.foldl_cons, List.foldl_map]
  rfl

theorem Lane.stg_dropClaim (l : Lane) (st : Stage) : l.dropClaim.stg st = l.stg st := by
  cases st <;> rfl

theorem Lane.stg_react (l : Lane) (st : Stage) : l.react.stg st = (l.stg st).stop l.now := by
  have all := Lane.stg_foldl_local (next := fun l st => (l.stg st).stop l.now) Lane.stg_ceaseStage (fun l _ _ h => l.stg_ceaseStage_of_ne h)
    (fun l p q h => by rw [l.stg_ceaseStage_of_ne h, l.now_ceaseStage]) nodup_allStages l st
  rw [if_pos (mem_allStages st)] at all
  rw [Lane.react_eq_foldl, Lane.stg_dropClaim, all]

theorem Lane.stg_withColl (l : Lane) (c : Coll) (st : Stage) : ({ l with coll := c } : Lane).stg st = l.stg st := by
  cases st <;> rfl

theorem Lane.stg_withDrive (l : Lane) (d : DriveSt) (st : Stage) : ({ l with drive := d } : Lane).stg st = l.stg st := by
  cases st <;> rfl

/-- A class that strikes leaves a stage as it is, or stops it (R64, R65). -/
theorem Lane.stg_strike (l : Lane) (cls : Nat) (st : Stage) :
    (l.strike cls).stg st = l.stg st ∨ (l.strike cls).stg st = (l.stg st).stop l.now := by
  rcases l.strike_cases cls with ⟨d, e⟩ | ⟨c, e⟩
  · exact .inl (e ▸ l.stg_withDrive d st)
  · have stopped := Lane.stg_react { l with coll := c } st
    rw [l.stg_withColl] at stopped
    exact .inr (e ▸ stopped)

/-- An error source that asserts stops every stage, once (R306). -/
theorem Lane.stg_raise (l : Lane) (src data : Nat) (st : Stage) : (l.raise src data).stg st = (l.stg st).stop l.now := by
  have latched : (l.latch src data).stg st = (l.stg st).stop l.now := by
    rw [Lane.latch, Lane.latchAs, Lane.stg_react, Lane.stg_withColl]
  rcases (l.latch src data).stg_strike 1 st with e | e
  · exact e.trans latched
  · refine e.trans ?_
    rw [latched, Lane.latch_now, StageSt.stop_stop]

section
variable (l : Lane) {j : Nat} (hj : j < 32) (ne : j ≠ 12)
include hj ne

/-- The choice of the comparator leaves every bit of GD_STAT but its own (R95). -/
theorem Lane.rbit_chooseSafe : l.chooseSafe.rbit Rg.gdStat j = l.rbit Rg.gdStat j := by
  rw [Lane.chooseSafe, Lane.raiseBit]
  split
  · exact l.rbit_setRbit_beside Rg.gdStat true hj ne
  · rfl

theorem Lane.rbit_ceaseStage (st : Stage) : (l.ceaseStage st).rbit Rg.gdStat j = l.rbit Rg.gdStat j := by
  cases st with
  | steer => exact Lane.rbit_chooseSafe { l with steer := l.steer.stop l.now } hj ne
  | brake n => rfl

theorem Lane.rbit_react : l.react.rbit Rg.gdStat j = l.rbit Rg.gdStat j := by
  have dropped : ∀ m : Lane, m.dropClaim.rbit Rg.gdStat j = m.rbit Rg.gdStat j := fun _ => rfl
  rw [Lane.react_eq_foldl, dropped]
  exact List.foldlRecOn (motive := fun m : Lane => m.rbit Rg.gdStat j = l.rbit Rg.gdStat j) allStages _ rfl
    fun m hm st _ => (Lane.rbit_ceaseStage m hj ne st).trans hm

theorem Lane.rbit_strike (cls : Nat) : (l.strike cls).rbit Rg.gdStat j = l.rbit Rg.gdStat j := by
  rcases l.strike_cases cls with ⟨d, e⟩ | ⟨c, e⟩ <;> rw [e]
  · rfl
  · exact Lane.rbit_react { l with coll := c } hj ne

theorem Lane.rbit_raise (src data : Nat) : (l.raise src data).rbit Rg.gdStat j = l.rbit Rg.gdStat j :=
  ((l.latch src data).rbit_strike hj ne 1).trans (Lane.rbit_react { l with coll := _ } hj ne)

end

end Sys2Proof.Machine
end

section
/-!
SUPPORT. Protective trips (R256 to R262, R268 to R270): what a new trip does to its stage, its record and its counters, and what a further
cause does to a stage that is in a trip already.
-/
namespace Sys2Proof.Machine

theorem gdTrip_addr_lt (st : Stage) : 0x40020018 ≤ (Rg.gdTrip st).addr ∧ (Rg.gdTrip st).addr < 0x40020200 := by
  cases st with
  | steer => decide
  | brake n =>
    have := n.isLt
    simp only [Rg.gdTrip]
    omega

theorem gdTrip_addr_ne_gdStat (st : Stage) : (Rg.gdTrip st).addr ≠ Rg.gdStat.addr := by
  have := (gdTrip_addr_lt st).1
  simp only [Rg.gdStat]
  omega

theorem gdTripTime_addr (st : Stage) : (Rg.gdTripTime st).addr = (Rg.gdTrip st).addr + 4 := by
  cases st with
  | steer => rfl
  | brake n =>
    simp only [Rg.gdTripTime, Rg.gdTrip]
    omega

theorem gdTripTime_addr_ne_gdStat (st : Stage) : (Rg.gdTripTime st).addr ≠ Rg.gdStat.addr := by
  have := (gdTrip_addr_lt st).1
  rw [gdTripTime_addr]
  simp only [Rg.gdStat]
  omega

/-- A trip's word and its time lie in other registers than the word and the time of another stage's trip. -/
theorem gdTrip_addr_apart {st q : Stage} (h : q ≠ st) : (Rg.gdTrip q).addr + 4 < (Rg.gdTrip st).addr ∨
    (Rg.gdTrip st).addr + 4 < (Rg.gdTrip q).addr := by
  cases st with
  | steer => cases q with
    | steer => exact absurd rfl h
    | brake m => simp only [Rg.gdTrip]; omega
  | brake n => cases q with
    | steer => simp only [Rg.gdTrip]; omega
    | brake m =>
      have ne : n.val ≠ m.val := fun e => h (congrArg Stage.brake (Fin.ext e).symm)
      simp only [Rg.gdTrip]
      omega

theorem tripBit_lt (st : Stage) : tripBit st < 12 := by
  cases st with
  | steer => decide
  | brake n =>
    have := n.isLt
    simp only [tripBit]
    omega

theorem tripsObj_key_ne (st : Stage) : (tripsObj st).key ≠ (tripsLifeObj st).key := by
  cases st with
  | steer => decide
  | brake n => simp only [tripsObj, tripsLifeObj, O.bgTrips, O.bgTripsLife]; omega

/-- The variant is none of the counters of trips. -/
theorem variantCode_not_trips (st : Stage) : O.variantCode.key ∉ [(tripsObj st).key, (tripsLifeObj st).key] := by
  cases st with
  | steer => decide
  | brake n =>
    simp only [tripsObj, tripsLifeObj, O.bgTrips, O.bgTripsLife, O.variantCode, List.mem_cons, List.not_mem_nil, or_false, not_or]
    omega

theorem bits_lt (v lo w : Nat) : bits v lo w < 2 ^ w := Nat.mod_lt _ (Nat.two_pow_pos w)

/-- A field of a register whose word is written. -/
theorem Lane.fld_setReg (l : Lane) (r : Rg.Reg) (v : Nat) {lo w : Nat} (h : lo + w ≤ 32) : (l.setReg r v).fld r lo w = bits v lo w := by
  rw [Lane.fld, Lane.reg_setReg, bits_mod_two_pow v h]

theorem Lane.rbit_of_fld_eq {x y : Lane} {r : Rg.Reg} {i : Nat} (h : y.fld r i 1 = x.fld r i 1) : y.rbit r i = x.rbit r i :=
  congrArg (fun v => decide (v = 1)) h

theorem Lane.fld_of_reg_eq {x y : Lane} {r : Rg.Reg} (h : y.reg r = x.reg r) (lo w : Nat) : y.fld r lo w = x.fld r lo w :=
  congrArg (bits · lo w) h

/-! A new trip. -/

/-- The registers of a new trip: its word, its time and its bit (R260, R268). -/
def Lane.tripShown (x : Lane) (st : Stage) (word : Nat) : Lane :=
  ((x.setReg (Rg.gdTrip st) word).setReg (Rg.gdTripTime st) x.now).setRbit Rg.gdStat (tripBit st) true

/-- The record of a new trip and its counters, and the healthy windows ended (R77, R260, R268, R270). -/
def Lane.tripNoted (x : Lane) (st : Stage) (word : Nat) : Lane :=
  let l := ((x.tripShown st word).inc (tripsObj st)).inc (tripsLifeObj st)
  { l with claim := { l.claim with winHealthy := false } }

/-- A stage whose trip begins (R258, R260). -/
def StageSt.tripBegun (g : StageSt) (t : Nat) (soft held : Bool) : StageSt :=
  { g with tripAt := t, causeAt := t, causeHeld := held, railOk := false, truncRun := 0,
           afterTrip := true, softFrom := if soft then some t else none, gate := if soft && g.driving then .plateau else .off }

/-- The lane with a stage in a new trip, before what an exhausted trip asserts (R258, R260). -/
def Lane.tripEntered (x : Lane) (st : Stage) (word : Nat) (soft held : Bool) : Lane :=
  let l := (x.tripNoted st word).updStg st fun g => g.tripBegun x.now soft held
  if soft then l.updStg st fun g => { g with driving := false } else l.ceaseStage st

theorem Lane.newTrip_eq (x : Lane) (st : Stage) (cause legs switches : Nat) (inBlank soft held : Bool) {y : Lane}
    (hy : y = x.tripEntered st (tripWord cause legs switches ((x.stg st).tries x.now) inBlank) soft held) :
    x.newTrip st cause legs switches inBlank soft held = if 3 ≤ (x.stg st).tries x.now then y.exhaust st else y := by
  subst hy
  delta Lane.newTrip Lane.tripEntered Lane.tripNoted Lane.tripShown StageSt.tripBegun
  rfl

section
variable (x : Lane) (st : Stage) (word : Nat)

theorem Lane.tripNoted_reach : ∃ os rs, x.tripNoted st word = { x with objs := os, regs := rs, claim := { x.claim with winHealthy := false } } := by
  obtain ⟨rs, shown⟩ : ∃ rs, x.tripShown st word = { x with regs := rs } := ⟨_, rfl⟩
  have counted : ∀ y : Lane, ∃ os, (y.inc (tripsObj st)).inc (tripsLifeObj st) = { y with objs := os } := fun y => ⟨_, rfl⟩
  obtain ⟨os, e⟩ := counted (x.tripShown st word)
  rw [Lane.tripNoted, e, shown]
  exact ⟨os, rs, rfl⟩

theorem Lane.stg_tripNoted (q : Stage) : (x.tripNoted st word).stg q = x.stg q := by
  obtain ⟨_, _, e⟩ := x.tripNoted_reach st word
  rw [e]
  cases q <;> rfl

theorem Lane.reg_tripNoted (r : Rg.Reg) : (x.tripNoted st word).reg r = (x.tripShown st word).reg r := by
  rw [Lane.reg, Lane.tripNoted, Lane.reg]
  rfl

theorem Lane.obj_tripNoted (o : O.Obj) : (x.tripNoted st word).obj o = (((x.tripShown st word).inc (tripsObj st)).inc (tripsLifeObj st)).obj o := by
  rw [Lane.obj, Lane.tripNoted, Lane.obj]

theorem Lane.tripNoted_regs : (x.tripNoted st word).reg (Rg.gdTrip st) = word % 2 ^ 32 ∧
    (x.tripNoted st word).reg (Rg.gdTripTime st) = x.now % 2 ^ 32 ∧ (x.tripNoted st word).rbit Rg.gdStat (tripBit st) = true ∧
    RegsKept [(Rg.gdTrip st).addr, (Rg.gdTripTime st).addr, Rg.gdStat.addr] x (x.tripNoted st word) := by
  have time := gdTripTime_addr st
  have stat := gdTrip_addr_ne_gdStat st
  have timeStat := gdTripTime_addr_ne_gdStat st
  have small := tripBit_lt st
  have reg := x.reg_tripNoted st word
  refine ⟨?_, ?_, ?_, fun r hr => ?_⟩
  · rw [reg, Lane.tripShown, Lane.reg_setRbit_of_ne _ _ _ stat, Lane.reg_setReg_of_ne _ _ (by omega), Lane.reg_setReg]
  · rw [reg, Lane.tripShown, Lane.reg_setRbit_of_ne _ _ _ timeStat, Lane.reg_setReg]
  · rw [Lane.rbit_of_reg_eq (reg _), Lane.tripShown, Lane.rbit_setRbit _ _ _ (by omega)]
  · simp only [List.mem_cons, List.not_mem_nil, or_false, not_or] at hr
    obtain ⟨notTrip, notTime, notStat⟩ := hr
    rw [reg, Lane.tripShown, Lane.reg_setRbit_of_ne _ _ _ notStat, Lane.reg_setReg_of_ne _ _ notTime, Lane.reg_setReg_of_ne _ _ notTrip]

theorem Lane.tripNoted_objs : CountedBy (tripsObj st) 1 x (x.tripNoted st word) ∧ CountedBy (tripsLifeObj st) 1 x (x.tripNoted st word) ∧
    ObjsKept [(tripsObj st).key, (tripsLifeObj st).key] x (x.tripNoted st word) := by
  have ne := tripsObj_key_ne st
  have obj := x.obj_tripNoted st word
  have shown : ∀ o, (x.tripShown st word).obj o = x.obj o := fun _ => rfl
  refine ⟨?_, ?_, fun o ho => ?_⟩
  · refine (countedBy_inc (x.tripShown st word) (tripsObj st)).of_obj_eq (shown _).symm ?_
    rw [obj, Lane.obj_inc_of_ne _ ne]
  · refine (countedBy_inc ((x.tripShown st word).inc (tripsObj st)) (tripsLifeObj st)).of_obj_eq ?_ (obj _)
    rw [Lane.obj_inc_of_ne _ ne.symm, shown]
  · simp only [List.mem_cons, List.not_mem_nil, or_false, not_or] at ho
    rw [obj, Lane.obj_inc_of_ne _ ho.2, Lane.obj_inc_of_ne _ ho.1, shown]

variable (soft held : Bool)

/-- Its stage aside, a trip that begins changes what its record does, and GD_STAT as the comparator's choice does. -/
theorem Lane.tripEntered_reach : ∃ rs a b, x.tripEntered st word soft held = { x.tripNoted st word with regs := rs, steer := a, brakes := b } := by
  unfold Lane.tripEntered
  generalize x.tripNoted st word = y
  obtain ⟨a, b, e⟩ := y.updStg_only st fun g => g.tripBegun x.now soft held
  rw [e]
  cases soft with
  | false =>
    obtain ⟨rs, a, b, e⟩ := Lane.ceaseStage_reach { y with steer := a, brakes := b } st
    exact ⟨rs, a, b, e⟩
  | true =>
    obtain ⟨a, b, e⟩ := Lane.updStg_only { y with steer := a, brakes := b } st fun g => { g with driving := false }
    exact ⟨_, a, b, e⟩

theorem Lane.stg_tripEntered : (x.tripEntered st word soft held).stg st = { (x.stg st).tripBegun x.now soft held with driving := false } := by
  rw [Lane.tripEntered]
  cases soft with
  | false =>
    refine (Lane.stg_ceaseStage _ st).trans ?_
    rw [Lane.stg_updStg, Lane.stg_tripNoted]
    rfl
  | true =>
    rw [if_pos rfl, Lane.stg_updStg, Lane.stg_updStg, Lane.stg_tripNoted]

theorem Lane.stg_tripEntered_of_ne {q : Stage} (h : q ≠ st) : (x.tripEntered st word soft held).stg q = x.stg q := by
  have begun : ((x.tripNoted st word).updStg st fun g => g.tripBegun x.now soft held).stg q = x.stg q := by
    rw [Lane.stg_updStg_of_ne _ _ _ _ h, Lane.stg_tripNoted]
  rw [Lane.tripEntered]
  cases soft with
  | false => exact (Lane.stg_ceaseStage_of_ne _ h).trans begun
  | true =>
    rw [if_pos rfl, Lane.stg_updStg_of_ne _ _ _ _ h, begun]

theorem Lane.tripEntered_regs : RegsKept [Rg.gdStat.addr] (x.tripNoted st word) (x.tripEntered st word soft held) ∧
    ∀ j < 12, (x.tripEntered st word soft held).rbit Rg.gdStat j = (x.tripNoted st word).rbit Rg.gdStat j := by
  have begun : ∀ r, ((x.tripNoted st word).updStg st fun g => g.tripBegun x.now soft held).reg r = (x.tripNoted st word).reg r := fun r => by
    rw [Lane.reg, Lane.updStg_regs, Lane.reg]
  rw [Lane.tripEntered]
  cases soft with
  | false => exact ⟨fun r hr => (Lane.ceaseStage_regsKept _ st r hr).trans (begun r),
      fun j hj => (Lane.rbit_ceaseStage _ (by omega) (by omega) st).trans (Lane.rbit_of_reg_eq (begun _) j)⟩
  | true =>
    have stopped : ∀ y : Lane, ∀ r, (y.updStg st fun g => { g with driving := false }).reg r = y.reg r := fun y r => by
      rw [Lane.reg, Lane.updStg_regs, Lane.reg]
    exact ⟨fun r _ => (stopped _ r).trans (begun r), fun j _ => Lane.rbit_of_reg_eq ((stopped _ _).trans (begun _)) j⟩

end

/-! A trip that is exhausted. -/

section
variable (x : Lane) (st : Stage)

theorem Lane.exhaust_regs : RegsKept [Rg.gdStat.addr] x (x.exhaust st) ∧ ∀ j < 12, (x.exhaust st).rbit Rg.gdStat j = x.rbit Rg.gdStat j := by
  have same : ∀ r, (x.updStg st fun g => { g with exhausted := true }).reg r = x.reg r := fun r => by
    rw [Lane.reg, Lane.updStg_regs, Lane.reg]
  exact ⟨fun r hr => ((Lane.raise_errorOf _ _ _).regs r hr).trans (same r),
    fun j hj => (Lane.rbit_raise _ (by omega) (by omega) _ _).trans (Lane.rbit_of_reg_eq (same _) j)⟩

theorem Lane.exhaust_objs : (x.exhaust st).objs = x.objs := (Lane.raise_objs _ _ _).trans (Lane.updStg_objs _ _ _)

theorem Lane.now_exhaust : (x.exhaust st).now = x.now := (Lane.raise_now _ _ _).trans (Lane.updStg_now _ _ _)

theorem Lane.stg_exhaust : (x.exhaust st).stg st = ({ x.stg st with exhausted := true } : StageSt).stop x.now := by
  rw [Lane.exhaust, Lane.stg_raise, Lane.stg_updStg, Lane.updStg_now]

theorem Lane.stg_exhaust_of_ne {q : Stage} (h : q ≠ st) : (x.exhaust st).stg q = (x.stg q).stop x.now := by
  rw [Lane.exhaust, Lane.stg_raise, Lane.stg_updStg_of_ne _ _ _ _ h, Lane.updStg_now]

end

/-- A stage whose trip has begun is stopped, with its soft turn-off under way where one runs (R258). -/
theorem StageSt.stop_tripBegun (g : StageSt) (t : Nat) (soft held e : Bool) :
    ({ g.tripBegun t soft held with driving := false, exhausted := e } : StageSt).stop t
      = { g.tripBegun t soft held with driving := false, exhausted := e } := by
  cases soft <;> simp [StageSt.stop, StageSt.softRuns, StageSt.tripBegun]

theorem tripWord_lt {cause : Nat} (h : cause < 16) (legs switches tries : Nat) (inBlank : Bool) :
    tripWord cause legs switches tries inBlank < 2 ^ 32 := by
  have : b2n inBlank ≤ 1 := by cases inBlank <;> decide
  unfold tripWord
  omega

section
variable (x : Lane) (st : Stage) (cause legs switches : Nat) (inBlank soft held : Bool)

/-- A new trip: the one that has begun, or the one that is exhausted with it (R262). -/
theorem Lane.newTrip_cases : ∃ y, y = x.tripEntered st (tripWord cause legs switches ((x.stg st).tries x.now) inBlank) soft held ∧
    ((x.stg st).tries x.now < 3 → x.newTrip st cause legs switches inBlank soft held = y) ∧
    (3 ≤ (x.stg st).tries x.now → x.newTrip st cause legs switches inBlank soft held = y.exhaust st) := by
  refine ⟨_, rfl, fun few => ?_, fun many => ?_⟩
  · rw [x.newTrip_eq st cause legs switches inBlank soft held rfl, if_neg (Nat.not_le.mpr few)]
  · rw [x.newTrip_eq st cause legs switches inBlank soft held rfl, if_pos many]

theorem Lane.now_tripEntered (word : Nat) : (x.tripEntered st word soft held).now = x.now := by
  obtain ⟨_, _, _, e⟩ := x.tripEntered_reach st word soft held
  obtain ⟨_, _, noted⟩ := x.tripNoted_reach st word
  rw [e, noted]

theorem Lane.objs_tripEntered (word : Nat) : (x.tripEntered st word soft held).objs = (x.tripNoted st word).objs := by
  obtain ⟨_, _, _, e⟩ := x.tripEntered_reach st word soft held
  rw [e]

/-- The stage of a new trip. -/
theorem Lane.stg_newTrip : (x.newTrip st cause legs switches inBlank soft held).stg st = { (x.stg st).tripBegun x.now soft held with
    driving := false, exhausted := decide (3 ≤ (x.stg st).tries x.now) || (x.stg st).exhausted } := by
  obtain ⟨y, hy, few, many⟩ := x.newTrip_cases st cause legs switches inBlank soft held
  have stg : y.stg st = { (x.stg st).tripBegun x.now soft held with driving := false } := hy ▸ x.stg_tripEntered st _ soft held
  have now : y.now = x.now := hy ▸ x.now_tripEntered st soft held _
  by_cases h : (x.stg st).tries x.now < 3
  · rw [few h, stg, decide_eq_false (Nat.not_le.mpr h), Bool.false_or]
    rfl
  · rw [many (Nat.not_lt.mp h), Lane.stg_exhaust, stg, now, decide_eq_true (Nat.not_lt.mp h), Bool.true_or]
    exact StageSt.stop_tripBegun _ _ _ _ true

theorem Lane.now_newTrip : (x.newTrip st cause legs switches inBlank soft held).now = x.now := by
  obtain ⟨y, hy, few, many⟩ := x.newTrip_cases st cause legs switches inBlank soft held
  have now : y.now = x.now := hy ▸ x.now_tripEntered st soft held _
  rcases Nat.lt_or_ge ((x.stg st).tries x.now) 3 with h | h
  · rw [few h, now]
  · rw [many h, Lane.now_exhaust, now]

/-- Another stage than that of a new trip stays as it is, or stops where the trip is exhausted. -/
theorem Lane.stg_newTrip_of_ne {q : Stage} (ne : q ≠ st) : (x.newTrip st cause legs switches inBlank soft held).stg q = x.stg q ∨
    (x.newTrip st cause legs switches inBlank soft held).stg q = (x.stg q).stop x.now := by
  obtain ⟨y, hy, few, many⟩ := x.newTrip_cases st cause legs switches inBlank soft held
  have stg : y.stg q = x.stg q := hy ▸ x.stg_tripEntered_of_ne st _ soft held ne
  have now : y.now = x.now := hy ▸ x.now_tripEntered st soft held _
  rcases Nat.lt_or_ge ((x.stg st).tries x.now) 3 with h | h
  · exact .inl (few h ▸ stg)
  · rw [many h, Lane.stg_exhaust_of_ne _ _ ne, stg, now]
    exact .inr rfl

/-- A new trip leaves the record that it has noted: the registers but for GD_STAT, and the objects. -/
theorem Lane.newTrip_record {word : Nat} (hw : word = tripWord cause legs switches ((x.stg st).tries x.now) inBlank) :
    RegsKept [Rg.gdStat.addr] (x.tripNoted st word) (x.newTrip st cause legs switches inBlank soft held) ∧
    (∀ j < 12, (x.newTrip st cause legs switches inBlank soft held).rbit Rg.gdStat j = (x.tripNoted st word).rbit Rg.gdStat j) ∧
    (x.newTrip st cause legs switches inBlank soft held).objs = (x.tripNoted st word).objs := by
  obtain ⟨y, hy, few, many⟩ := x.newTrip_cases st cause legs switches inBlank soft held
  rw [← hw] at hy
  obtain ⟨kept, bits⟩ := x.tripEntered_regs st word soft held
  have objs := x.objs_tripEntered st soft held word
  rw [← hy] at kept bits objs
  rcases Nat.lt_or_ge ((x.stg st).tries x.now) 3 with h | h
  · rw [few h]
    exact ⟨kept, bits, objs⟩
  · obtain ⟨kept', bits'⟩ := y.exhaust_regs st
    rw [many h]
    exact ⟨kept.trans kept', fun j hj => (bits' j hj).trans (bits j hj), (Lane.exhaust_objs _ st).trans objs⟩

theorem Lane.winHealthy_newTrip : (x.newTrip st cause legs switches inBlank soft held).claim.winHealthy = false := by
  obtain ⟨y, hy, few, many⟩ := x.newTrip_cases st cause legs switches inBlank soft held
  rcases Nat.lt_or_ge ((x.stg st).tries x.now) 3 with h | h
  · obtain ⟨_, _, _, e⟩ := x.tripEntered_reach st (tripWord cause legs switches ((x.stg st).tries x.now) inBlank) soft held
    rw [few h, hy, e]
    rfl
  · rw [many h]
    exact (Lane.raise_stopped _ _ _).windows

/-- A new trip that is not exhausted reaches its stage, its record and its counters alone (R260). -/
theorem Lane.newTrip_alone (h : (x.stg st).tries x.now < 3) :
    (∀ o, o ≠ st → (x.newTrip st cause legs switches inBlank soft held).stg o = x.stg o) ∧ ∃ os rs a b,
      x.newTrip st cause legs switches inBlank soft held
        = { x with objs := os, regs := rs, steer := a, brakes := b, claim := { x.claim with winHealthy := false } } := by
  obtain ⟨y, hy, few, _⟩ := x.newTrip_cases st cause legs switches inBlank soft held
  rw [few h, hy]
  refine ⟨fun o ho => x.stg_tripEntered_of_ne st _ soft held ho, ?_⟩
  obtain ⟨rs, a, b, e⟩ := x.tripEntered_reach st (tripWord cause legs switches ((x.stg st).tries x.now) inBlank) soft held
  obtain ⟨os, _, noted⟩ := x.tripNoted_reach st (tripWord cause legs switches ((x.stg st).tries x.now) inBlank)
  rw [e, noted]
  exact ⟨os, rs, a, b, rfl⟩

/-- Everything that a new trip does, said once (R258, R260, R262, R268, R270). -/
theorem Lane.tripOf_newTrip (hc : cause < 16) :
    TripOf x st cause legs switches inBlank soft held (x.newTrip st cause legs switches inBlank soft held) := by
  obtain ⟨word, hw⟩ : ∃ word, word = tripWord cause legs switches ((x.stg st).tries x.now) inBlank := ⟨_, rfl⟩
  obtain ⟨kept, bit, objs⟩ := x.newTrip_record st cause legs switches inBlank soft held hw
  obtain ⟨wordNoted, timeNoted, bitNoted, regsNoted⟩ := x.tripNoted_regs st word
  obtain ⟨countedNoted, lifeNoted, objsNoted⟩ := x.tripNoted_objs st word
  have stg := x.stg_newTrip st cause legs switches inBlank soft held
  have alone := x.newTrip_alone st cause legs switches inBlank soft held
  have healthy := x.winHealthy_newTrip st cause legs switches inBlank soft held
  obtain ⟨_, _, _, many⟩ := x.newTrip_cases st cause legs switches inBlank soft held
  have stopped : 3 ≤ (x.stg st).tries x.now → (x.newTrip st cause legs switches inBlank soft held).Stopped :=
    fun h => many h ▸ Lane.raise_stopped _ _ _
  generalize x.newTrip st cause legs switches inBlank soft held = y at kept bit objs stg alone healthy stopped ⊢
  have obj : ∀ o, y.obj o = (x.tripNoted st word).obj o := fun o => by rw [Lane.obj, objs, Lane.obj]
  exact {
    word := by
      rw [kept _ (by simp [gdTrip_addr_ne_gdStat]), wordNoted, Nat.mod_eq_of_lt (hw ▸ tripWord_lt hc _ _ _ _), hw]
    time := by rw [kept _ (by simp [gdTripTime_addr_ne_gdStat]), timeNoted]
    bit := by rw [bit _ (tripBit_lt st), bitNoted]
    counted := ⟨countedNoted.of_obj_eq rfl (obj _), lifeNoted.of_obj_eq rfl (obj _)⟩
    off := by rw [stg]
    healthy := healthy
    began := by rw [stg]; exact ⟨rfl, rfl, rfl, rfl, rfl⟩
    gate := by rw [stg]; rfl
    alone := fun few => ⟨(alone few).1, by obtain ⟨_, _, _, _, _, e⟩ := alone few; rw [e]⟩
    exhausted := fun h => ⟨stopped h, by rw [stg]; simp [h]⟩
    objs := fun o ho => (obj o).trans (objsNoted o ho)
    regs := regsNoted.trans fun r hr => kept r fun h => hr (by simp [List.mem_singleton.mp h]) }

end

/-! A further cause. -/

/-- Does a detector that turns softly off join the trip of a stage at an instant (R258)? -/
def StageSt.joined (g : StageSt) (t : Nat) : Bool := match g.softFrom with | some t0 => decide (t ≤ t0 + 2000) | none => false

/-- The cause that a further cause leaves in the record: where it joins the trip, gross current of the same switch in the same tick makes
it 2 and any other leaves the first (R257, R258). -/
def Lane.furtherCause (x : Lane) (st : Stage) (cause switches : Nat) (joins : Bool) : Nat :=
  if joins then
    (if decide (cause = 2) && decide (x.now < (x.stg st).tripAt + 4) && (bits (x.reg (Rg.gdTrip st)) 7 6 == switches) then 2
     else bits (x.reg (Rg.gdTrip st)) 0 4)
  else cause

/-- The word of a trip that a further detector joins (R258, R268). -/
def joinedWord (w legs switches : Nat) (inBlank : Bool) : Nat :=
  putBits (putBits (putBits w 4 3 (bits w 4 3 ||| legs)) 7 6 (bits w 7 6 ||| switches)) 13 1 (b2n (bitOf w 13 || inBlank))

/-- A further cause of a stage in a trip: it joins the trip, or the wait runs from it (R258, R269). -/
def Lane.tripAgain (x : Lane) (st : Stage) (cause legs switches : Nat) (inBlank held joins : Bool) : Lane :=
  let w := putBits (x.reg (Rg.gdTrip st)) 0 4 (x.furtherCause st cause switches joins)
  (x.setReg (Rg.gdTrip st) (if joins then joinedWord w legs switches inBlank else w)).updStg st fun g =>
    { g with causeAt := x.now, causeHeld := g.causeHeld || held, railOk := if joins then g.railOk else false }

theorem Lane.trip_of_untripped {x : Lane} {st : Stage} (h : x.tripped st = false) (cause legs switches : Nat) (inBlank soft held : Bool) :
    x.trip st cause legs switches inBlank soft held = x.newTrip st cause legs switches inBlank soft held := by
  rw [Lane.trip, if_pos (by simp [h])]

theorem Lane.trip_of_tripped {x : Lane} {st : Stage} (h : x.tripped st = true) (cause legs switches : Nat) (inBlank soft held : Bool) :
    x.trip st cause legs switches inBlank soft held
      = x.tripAgain st cause legs switches inBlank held (soft && (x.stg st).joined x.now) := by
  rw [Lane.trip, if_neg (by simp [h])]
  delta Lane.tripAgain joinedWord Lane.furtherCause StageSt.joined
  rfl

/-- The fields of a word that a further detector joins. -/
theorem bits_joinedWord (w : Nat) {legs switches : Nat} (inBlank : Bool) (hl : legs < 8) (hs : switches < 64) :
    bits (joinedWord w legs switches inBlank) 0 4 = bits w 0 4 ∧ bits (joinedWord w legs switches inBlank) 4 3 = bits w 4 3 ||| legs ∧
    bits (joinedWord w legs switches inBlank) 7 6 = bits w 7 6 ||| switches ∧
    bitOf (joinedWord w legs switches inBlank) 13 = (bitOf w 13 || inBlank) ∧
    bits (joinedWord w legs switches inBlank) 14 3 = bits w 14 3 := by
  have legsSmall : bits w 4 3 ||| legs < 2 ^ 3 := Nat.or_lt_two_pow (bits_lt w 4 3) hl
  have switchesSmall : bits w 7 6 ||| switches < 2 ^ 6 := Nat.or_lt_two_pow (bits_lt w 7 6) hs
  unfold joinedWord
  refine ⟨?_, ?_, ?_, ?_, ?_⟩
  · rw [bits_putBits_beside _ _ (by decide), bits_putBits_beside _ _ (by decide), bits_putBits_beside _ _ (by decide)]
  · rw [bits_putBits_beside _ _ (by decide), bits_putBits_beside _ _ (by decide), bits_putBits, Nat.mod_eq_of_lt legsSmall]
  · rw [bits_putBits_beside _ _ (by decide), bits_putBits, Nat.mod_eq_of_lt switchesSmall]
  · rw [bitOf, bits_putBits]
    cases bitOf w 13 || inBlank <;> rfl
  · rw [bits_putBits_beside _ _ (by decide), bits_putBits_beside _ _ (by decide), bits_putBits_beside _ _ (by decide)]

section
variable (x : Lane) (st : Stage) (cause legs switches : Nat) (inBlank held joins : Bool)

theorem Lane.stg_tripAgain : (x.tripAgain st cause legs switches inBlank held joins).stg st
    = { x.stg st with causeAt := x.now, causeHeld := (x.stg st).causeHeld || held, railOk := if joins then (x.stg st).railOk else false } := by
  rw [Lane.tripAgain, Lane.stg_updStg]
  cases st <;> rfl

theorem Lane.stg_tripAgain_of_ne {q : Stage} (ne : q ≠ st) : (x.tripAgain st cause legs switches inBlank held joins).stg q = x.stg q := by
  rw [Lane.tripAgain, Lane.stg_updStg_of_ne _ _ _ _ ne]
  cases q <;> rfl

theorem Lane.tripAgain_reach : ∃ rs a b, x.tripAgain st cause legs switches inBlank held joins = { x with regs := rs, steer := a, brakes := b } := by
  unfold Lane.tripAgain
  extract_lets w
  obtain ⟨a, b, e⟩ := (x.setReg (Rg.gdTrip st) (if joins then joinedWord w legs switches inBlank else w)).updStg_only st fun g =>
    { g with causeAt := x.now, causeHeld := g.causeHeld || held, railOk := if joins then g.railOk else false }
  exact ⟨_, a, b, e⟩

theorem Lane.reg_tripAgain {w : Nat} (hw : w = putBits (x.reg (Rg.gdTrip st)) 0 4 (x.furtherCause st cause switches joins)) (r : Rg.Reg) :
    (x.tripAgain st cause legs switches inBlank held joins).reg r
      = (x.setReg (Rg.gdTrip st) (if joins then joinedWord w legs switches inBlank else w)).reg r := by
  rw [Lane.reg, Lane.tripAgain, Lane.updStg_regs, hw]
  rfl

theorem Lane.tripAgain_regsKept : RegsKept [(Rg.gdTrip st).addr] x (x.tripAgain st cause legs switches inBlank held joins) := fun r hr =>
  (x.reg_tripAgain st cause legs switches inBlank held joins rfl r).trans (regsKept_setReg (by simp) x _ r hr)

/-- A further cause from which the wait runs is the cause of the record, and the only thing there that changes (R269). -/
theorem Lane.fld_tripAgain_of_waiting (hc : cause < 16) : (x.tripAgain st cause legs switches inBlank held false).fld (Rg.gdTrip st) 0 4 = cause ∧
    ∀ {lo n : Nat}, 4 ≤ lo → lo + n ≤ 32 →
      (x.tripAgain st cause legs switches inBlank held false).fld (Rg.gdTrip st) lo n = x.fld (Rg.gdTrip st) lo n := by
  have reg := x.reg_tripAgain st cause legs switches inBlank held false rfl (Rg.gdTrip st)
  refine ⟨?_, fun above fits => ?_⟩
  · rw [Lane.fld_of_reg_eq reg, Lane.fld_setReg _ _ _ (by decide)]
    exact (bits_putBits _ 0 4 _).trans (Nat.mod_eq_of_lt hc)
  · rw [Lane.fld_of_reg_eq reg, Lane.fld_setReg _ _ _ fits]
    exact bits_putBits_above _ _ _ _ _ _ above

/-- A further detector that joins the trip adds its leg and its switch to the record (R257, R258). -/
theorem Lane.fld_tripAgain_of_joins (hl : legs < 8) (hs : switches < 64) {y : Lane}
    (hy : y = x.tripAgain st cause legs switches inBlank held true) :
    y.fld (Rg.gdTrip st) 0 4 = (if cause = 2 ∧ x.now < (x.stg st).tripAt + 4 ∧ x.fld (Rg.gdTrip st) 7 6 = switches then 2
      else x.fld (Rg.gdTrip st) 0 4) ∧
    y.fld (Rg.gdTrip st) 4 3 = x.fld (Rg.gdTrip st) 4 3 ||| legs ∧ y.fld (Rg.gdTrip st) 7 6 = x.fld (Rg.gdTrip st) 7 6 ||| switches ∧
    y.rbit (Rg.gdTrip st) 13 = (x.rbit (Rg.gdTrip st) 13 || inBlank) ∧ y.fld (Rg.gdTrip st) 14 3 = x.fld (Rg.gdTrip st) 14 3 := by
  obtain ⟨c, hcause⟩ : ∃ c, c = x.furtherCause st cause switches true := ⟨_, rfl⟩
  have small : c < 2 ^ 4 := by
    rw [hcause, Lane.furtherCause, if_pos rfl]
    split
    · decide
    · exact bits_lt _ 0 4
  obtain ⟨w, hw⟩ : ∃ w, w = putBits (x.reg (Rg.gdTrip st)) 0 4 c := ⟨_, rfl⟩
  have reg := x.reg_tripAgain st cause legs switches inBlank held true (hw.trans (by rw [hcause])) (Rg.gdTrip st)
  rw [← hy, if_pos rfl] at reg
  obtain ⟨f0, f4, f7, f13, f14⟩ := bits_joinedWord w inBlank hl hs
  have fld : ∀ {lo n : Nat}, lo + n ≤ 32 → y.fld (Rg.gdTrip st) lo n = bits (joinedWord w legs switches inBlank) lo n := fun h => by
    rw [Lane.fld_of_reg_eq reg, Lane.fld_setReg _ _ _ h]
  have beside : ∀ {lo n : Nat}, 4 ≤ lo → bits w lo n = x.fld (Rg.gdTrip st) lo n := fun h => by
    rw [hw, bits_putBits_above _ _ _ _ _ _ h, Lane.fld]
  refine ⟨?_, ?_, ?_, ?_, ?_⟩
  · rw [fld (by decide), f0, hw, bits_putBits, Nat.mod_eq_of_lt small, hcause, Lane.furtherCause, if_pos rfl]
    congr 1
    simp [Lane.fld, and_assoc]
  · rw [fld (by decide), f4, beside (by decide)]
  · rw [fld (by decide), f7, beside (by decide)]
  · have bit : bitOf w 13 = x.rbit (Rg.gdTrip st) 13 := congrArg (fun v => decide (v = 1)) (beside (lo := 13) (n := 1) (by decide))
    rw [← bit, ← f13]
    exact congrArg (fun v => decide (v = 1)) (fld (lo := 13) (n := 1) (by decide))
  · rw [fld (by decide), f14, beside (by decide)]

end

end Sys2Proof.Machine
end

section
/-!
SUPPORT. The detectors of a stage, the lock-outs of its supplies, the truncation of its current limit and the interlock of its legs (R105, R249,
R250, R254 to R260, R269): each command with the lane that it reaches.
-/
namespace Sys2Proof.Machine

theorem swBit_lt (sw : Switch) : swBit sw < 64 := by
  obtain ⟨leg, high⟩ := sw
  cases leg <;> cases high <;> decide

theorem legBit_lt (leg : Leg) : legBit leg < 8 := by
  cases leg <;> decide

section
variable {s : State} {l : LaneId} {t : Nat} {x : Lane} {st : Stage} {sw : Switch}

theorem exec_desaturation_of_held (h : Sees s l t x) (held : (x.stg st).held sw.leg = true) :
    exec (.desaturation l st sw t) s = .next (s.setLane l x) :=
  (onLaneAt_of_sees h _ : execDesaturation l st sw t s = _).trans (by rw [if_pos held])

theorem exec_desaturation_of_free (h : Sees s l t x) (free : (x.stg st).held sw.leg = false) :
    exec (.desaturation l st sw t) s = .next (s.setLane l (x.trip st 1 (legBit sw.leg) (swBit sw) false true false)) :=
  (onLaneAt_of_sees h _ : execDesaturation l st sw t s = _).trans (by rw [if_neg (by simp [free])])

theorem exec_grossCurrent (h : Sees s l t x) (b : Bool) :
    exec (.grossCurrent l st sw b t) s = .next (s.setLane l (x.trip st 2 (legBit sw.leg) (swBit sw) b true false)) :=
  (onLaneAt_of_sees h _ : execGrossCurrent l st sw b t s = _)

/-- A detector that turns a stage softly off, by its cause. -/
theorem exec_detector (h : Sees s l t x) {b k : Bool} {c : Nat} {i : Instr}
    (hi : i = .desaturation l st sw t ∧ c = 1 ∧ k = false ∧ (x.stg st).held sw.leg = false ∨
      i = .grossCurrent l st sw b t ∧ c = 2 ∧ k = b) :
    exec i s = .next (s.setLane l (x.trip st c (legBit sw.leg) (swBit sw) k true false)) ∧ c < 16 := by
  rcases hi with ⟨rfl, rfl, rfl, free⟩ | ⟨rfl, rfl, rfl⟩
  · exact ⟨exec_desaturation_of_free h free, by decide⟩
  · exact ⟨exec_grossCurrent h _, by decide⟩

/-- A lane with the bootstrap of a brake stage's leg locked out (R250). -/
def Lane.bootLocked (x : Lane) (n : Fin 8) (leg : Leg) : Lane :=
  { x with brakes := x.brakes.set n { x.brakes[n] with bootOut := x.brakes[n].bootOut.set (legIx leg) true } }

theorem exec_bootstrapLockout (h : Sees s l t x) (n : Fin 8) (leg : Leg) : exec (.bootstrapLockout l n leg t) s
    = .next (s.setLane l ((x.bootLocked n leg).trip (.brake n) 6 (legBit leg) (swBit ⟨leg, true⟩) false false false)) :=
  (onLaneAt_of_sees h _ : execBootstrapLockout l n leg t s = _)

/-- A lane with a gate supply locked out, as GD_STAT shows it (R248, R268). -/
def Lane.supplyLocked (x : Lane) (sup : Nat) : Lane :=
  ({ x with gate := { x.gate with supOut := x.gate.supOut.set sup true } }).uvBits

/-- The brake stages of the variant trip with their supply, one by one (R249). -/
def Lane.tripBrake (x : Lane) (n : Fin 8) : Lane := if n.val < x.nDrives then x.trip (.brake n) 5 7 63 false false true else x

theorem exec_gateSupplyLockout (h : Sees s l t x) (sup : Fin 7) : exec (.gateSupplyLockout l sup t) s = .next (s.setLane l
    (if sup.val < 6 then
      if !(x.supplyLocked sup).pwr.supplyOk then (x.supplyLocked sup).ceaseSteer
      else (x.supplyLocked sup).trip .steer 4 (supplySwitch sup).2 (supplySwitch sup).1 false false true
    else if (x.supplyLocked sup).drive.bsClass then (x.supplyLocked sup).openBrakes
    else (List.finRange 8).foldl Lane.tripBrake (x.supplyLocked sup))) :=
  (onLaneAt_of_sees h _ : execGateSupplyLockout l sup t s = _)

/-- A stage with a period in which its current limit cut a pulse of a leg (R105). -/
def StageSt.truncated (g : StageSt) (leg : Leg) : StageSt :=
  { g with plim := g.plim.set (legIx leg) true, truncNow := true, truncRun := g.truncRun + if g.truncNow then 0 else 1 }

/-- The lane that counts and shows a truncation (R105). -/
def Lane.limitSeen (x : Lane) (st : Stage) (sw : Switch) : Lane :=
  match st with
  | .steer => { x.inc O.plimEvents with drive := { x.drive with limFlags := x.drive.limFlags ||| swBit sw } }
  | .brake n => { x with brk := { x.brk with drv := x.brk.drv.set n { x.brk.drv[n] with trunc := x.brk.drv[n].trunc ||| swBit sw } } }

theorem StageSt.truncated_eq (g : StageSt) (leg : Leg) :
    ({ g with plim := g.plim.set (legIx leg) true, truncNow := true, truncRun := if g.truncNow then g.truncRun else g.truncRun + 1 } : StageSt)
      = g.truncated leg := by
  rw [StageSt.truncated]
  cases g.truncNow <;> rfl

theorem Lane.stg_limitSeen (x : Lane) (st q : Stage) (sw : Switch) : (x.limitSeen st sw).stg q = x.stg q := by
  cases st <;> cases q <;> rfl

theorem exec_limitTruncation (h : Sees s l t x) {y : Lane} (hy : y = (x.limitSeen st sw).setStg st ((x.stg st).truncated sw.leg)) :
    exec (.limitTruncation l st sw t) s = .next (s.setLane l
      (if 32 ≤ ((x.stg st).truncated sw.leg).truncRun && !y.tripped st then y.trip st 3 (legBit sw.leg) (swBit sw) false false false else y)) := by
  refine (onLaneAt_of_sees h _ : execLimitTruncation l st sw t s = _).trans (congrArg (fun z => Host.Outcome.next (s.setLane l z)) ?_)
  extract_lets counted drive brk seen cut
  have hseen : seen = x.limitSeen st sw := by
    cases st <;> rfl
  have hcut : cut = y := by
    rw [hy, ← hseen]
    refine congrArg (seen.setStg st) ?_
    rw [hseen, Lane.stg_limitSeen]
    exact (x.stg st).truncated_eq sw.leg
  have run : (cut.stg st).truncRun = ((x.stg st).truncated sw.leg).truncRun := by
    rw [hcut, hy, Lane.stg_setStg]
  rw [run, hcut]

/-- A lane in which the interlock holds a leg of a stage for its present period (R254, R269). -/
def Lane.legHeld (w : Lane) (st : Stage) (leg : Leg) : Lane :=
  w.setStg st { w.stg st with ilHold := (w.stg st).ilHold.set (legIx leg) (some (w.stg st).periods) }

/-- The consecutive periods with an interlock event of a leg, with the one of period `p` (R254). -/
def StageSt.ilRuns (g : StageSt) (leg : Leg) (p : Nat) : Nat :=
  if nth g.ilRun (legIx leg) ≠ 0 ∧ nth g.ilLast (legIx leg) + 1 = p then nth g.ilRun (legIx leg) + 1 else 1

/-- A lane that notes an interlock event of a leg in period `p` (R254, R268, R270). -/
def Lane.ilNoted (x : Lane) (st : Stage) (leg : Leg) (p : Nat) : Lane :=
  ((x.setStg st { x.stg st with ilLast := (x.stg st).ilLast.set (legIx leg) p
                                ilRun := (x.stg st).ilRun.set (legIx leg) ((x.stg st).ilRuns leg p) }).setRbit Rg.gdStat 15 true).inc (ilObj st)

/-- The source of a stage's interlock error (R254, R300). -/
def ilSrc : Stage → Nat
  | .steer => 0x15
  | .brake n => 0x28 + n.val

theorem exec_shootThroughInterlock {w : Lane} (h : Sees s l t w) {leg : Leg} {p : Nat} (hx : x = w.legHeld st leg) :
    exec (.shootThroughInterlock l st leg p t) s = .next (s.setLane l
      (if nth (x.stg st).ilRun (legIx leg) ≠ 0 ∧ nth (x.stg st).ilLast (legIx leg) = p then x
       else (x.ilNoted st leg p).raiseIf ((x.stg st).ilRuns leg p = 3) (ilSrc st) (legBit leg))) := by
  refine (onLaneAt_of_sees h _ : execShootThroughInterlock l st leg p t s = _).trans (congrArg (fun z => Host.Outcome.next (s.setLane l z)) ?_)
  extract_lets held g i run noted shown
  have hheld : held = x := hx.symm
  have hg : g = x.stg st := by rw [← hheld]
  have hrun : run = (x.stg st).ilRuns leg p := by
    rw [StageSt.ilRuns, ← hg]
    simp [run, i]
  have hshown : shown = x.ilNoted st leg p := by
    rw [Lane.ilNoted, ← hrun, ← hg, ← hheld]
    rfl
  have cond : (decide (nth g.ilRun i ≠ 0) && decide (nth g.ilLast i = p)) = true
      ↔ nth (x.stg st).ilRun (legIx leg) ≠ 0 ∧ nth (x.stg st).ilLast (legIx leg) = p := by
    rw [← hg]
    simp [i]
  rw [hshown, hheld, hrun]
  by_cases seen : nth (x.stg st).ilRun (legIx leg) ≠ 0 ∧ nth (x.stg st).ilLast (legIx leg) = p
  · rw [if_pos (cond.mpr seen), if_pos seen]
  · rw [if_neg fun c => seen (cond.mp c), if_neg seen]
    cases st <;> rfl

end

end Sys2Proof.Machine
end

section
/-!
SUPPORT. The brake stages of a lane trip with their gate supply (R249, R250): each trips once, and the others' trips leave its record.
-/
namespace Sys2Proof.Machine

/-- A fold over different things, of which all but one keep a relation, is around that one within the relation. -/
theorem foldl_around {α β : Type} {f : β → α → β} {R : β → β → Prop} (refl : ∀ b, R b b) (trans : ∀ {a b c}, R a b → R b c → R a c) {n : α}
    (keeps : ∀ b c, c ≠ n → R b (f b c)) {cs : List α} (nodup : cs.Nodup) (mem : n ∈ cs) (b : β) :
    ∃ m, R b m ∧ R (f m n) (cs.foldl f b) := by
  have others : ∀ {as : List α} (b : β), n ∉ as → R b (as.foldl f b) := fun {as} b fresh =>
    List.foldlRecOn as f (refl b) fun _ hm c hc => trans hm (keeps _ c fun e => fresh (e ▸ hc))
  obtain ⟨us, vs, rfl⟩ := List.append_of_mem mem
  obtain ⟨_, nodupVs, apart⟩ := List.nodup_append.mp nodup
  refine ⟨us.foldl f b, others b fun h => apart n h n List.mem_cons_self rfl, ?_⟩
  rw [List.foldl_append, List.foldl_cons]
  exact others _ (List.nodup_cons.mp nodupVs).1

/-- From `x` to `y`, the trip of stage `q` is as it was: its word, its time, and the stage but for a stop. -/
structure TripLeft (q : Stage) (x y : Lane) : Prop where
  stage : y.stg q = x.stg q ∨ y.stg q = (x.stg q).stop x.now
  now : y.now = x.now
  word : y.reg (Rg.gdTrip q) = x.reg (Rg.gdTrip q)
  time : y.reg (Rg.gdTripTime q) = x.reg (Rg.gdTripTime q)
  drives : y.nDrives = x.nDrives

theorem TripLeft.refl (q : Stage) (x : Lane) : TripLeft q x x := ⟨.inl rfl, rfl, rfl, rfl, rfl⟩

theorem TripLeft.trans {q : Stage} {x y z : Lane} (h : TripLeft q x y) (k : TripLeft q y z) : TripLeft q x z where
  stage := by
    rcases h.stage with e | e <;> rcases k.stage with f | f <;> rw [f, e]
    · exact .inl rfl
    · exact .inr (by rw [h.now])
    · exact .inr rfl
    · exact .inr (by rw [h.now, StageSt.stop_stop])
  now := k.now.trans h.now
  word := k.word.trans h.word
  time := k.time.trans h.time
  drives := k.drives.trans h.drives

theorem Lane.nDrives_of_objs {x y : Lane} (h : y.obj O.variantCode = x.obj O.variantCode) : y.nDrives = x.nDrives :=
  congrArg drivesOf h

section
variable (x : Lane) (st : Stage) {cause : Nat} (legs switches : Nat) (inBlank soft held : Bool)

theorem Lane.nDrives_trip (hc : cause < 16) : (x.trip st cause legs switches inBlank soft held).nDrives = x.nDrives := by
  cases h : x.tripped st with
  | false =>
    rw [Lane.trip_of_untripped h]
    exact Lane.nDrives_of_objs ((x.tripOf_newTrip st cause legs switches inBlank soft held hc).objs _ (variantCode_not_trips st))
  | true =>
    obtain ⟨_, _, _, e⟩ := x.tripAgain_reach st cause legs switches inBlank held (soft && (x.stg st).joined x.now)
    rw [Lane.trip_of_tripped h, e]
    rfl

/-- A trip of another stage leaves the trip of a stage. -/
theorem Lane.tripLeft_trip (hc : cause < 16) {q : Stage} (ne : q ≠ st) : TripLeft q x (x.trip st cause legs switches inBlank soft held) := by
  have apart := gdTrip_addr_apart ne
  have time := gdTripTime_addr st
  have time' := gdTripTime_addr q
  have stat := gdTrip_addr_ne_gdStat q
  have stat' := gdTripTime_addr_ne_gdStat q
  have drives := x.nDrives_trip st legs switches inBlank soft held hc
  cases h : x.tripped st with
  | false =>
    have regs := (x.tripOf_newTrip st cause legs switches inBlank soft held hc).regs
    rw [Lane.trip_of_untripped h] at drives ⊢
    exact ⟨x.stg_newTrip_of_ne st cause legs switches inBlank soft held ne, x.now_newTrip st cause legs switches inBlank soft held,
      regs _ (by simp only [List.mem_cons, List.not_mem_nil, or_false, not_or]; omega),
      regs _ (by simp only [List.mem_cons, List.not_mem_nil, or_false, not_or]; omega), drives⟩
  | true =>
    have regs := x.tripAgain_regsKept st cause legs switches inBlank held (soft && (x.stg st).joined x.now)
    have stage := x.stg_tripAgain_of_ne st cause legs switches inBlank held (soft && (x.stg st).joined x.now) ne
    obtain ⟨_, _, _, e⟩ := x.tripAgain_reach st cause legs switches inBlank held (soft && (x.stg st).joined x.now)
    rw [Lane.trip_of_tripped h] at drives ⊢
    exact ⟨.inl stage, e ▸ rfl, regs _ (by simp only [List.mem_singleton]; omega), regs _ (by simp only [List.mem_singleton]; omega), drives⟩

end

theorem Lane.tripLeft_tripBrake (x : Lane) {n m : Fin 8} (ne : m ≠ n) : TripLeft (.brake n) x (x.tripBrake m) := by
  rw [Lane.tripBrake]
  split
  · exact x.tripLeft_trip (.brake m) 7 63 false false true (by decide) fun e => ne (Stage.brake.inj e).symm
  · exact TripLeft.refl _ x

/-- A stage whose brake supply is locked out: in a trip of cause 5 that is held, which began now or goes on (R249, R250). -/
structure SupplyTripOf (x : Lane) (q : Stage) (y : Lane) : Prop where
  tripped : y.tripped q = true
  held : (y.stg q).causeHeld = true
  cause : y.fld (Rg.gdTrip q) 0 4 = 5
  began : x.tripped q = false → (y.stg q).driving = false ∧ y.reg (Rg.gdTripTime q) = x.now % 2 ^ 32
  goesOn : x.tripped q = true → y.fld (Rg.gdTrip q) 4 13 = x.fld (Rg.gdTrip q) 4 13

/-- A new trip's word shows its cause and that the stage is in a trip (R268). -/
theorem bits_tripWord (legs switches tries : Nat) (inBlank : Bool) : bits (tripWord 5 legs switches tries inBlank) 0 4 = 5 ∧
    bitOf (tripWord 5 legs switches tries inBlank) 16 = true := by
  have : b2n inBlank ≤ 1 := by cases inBlank <;> decide
  refine ⟨?_, decide_eq_true ?_⟩ <;> simp only [bits, tripWord] <;> omega

theorem Lane.supplyTripOf_trip (x : Lane) (q : Stage) : SupplyTripOf x q (x.trip q 5 7 63 false false true) := by
  cases h : x.tripped q with
  | false =>
    have trip := x.tripOf_newTrip q 5 7 63 false false true (by decide)
    obtain ⟨cause, bit⟩ := bits_tripWord 7 63 ((x.stg q).tries x.now) false
    rw [Lane.trip_of_untripped h]
    exact { tripped := (congrArg (bitOf · 16) trip.word).trans bit, held := trip.began.2.2.1
            cause := (congrArg (bits · 0 4) trip.word).trans cause, began := fun _ => ⟨trip.off, trip.time⟩
            goesOn := fun k => absurd (h.symm.trans k) Bool.false_ne_true }
  | true =>
    have stage := x.stg_tripAgain q 5 7 63 false true false
    obtain ⟨cause, rest⟩ := x.fld_tripAgain_of_waiting q 5 7 63 false true (by decide)
    rw [Lane.trip_of_tripped h, Bool.false_and]
    exact { tripped := (Lane.rbit_of_fld_eq (rest (by decide) (by decide))).trans h, held := by rw [stage, Bool.or_true], cause := cause
            began := fun k => absurd (k.symm.trans h) Bool.false_ne_true, goesOn := fun _ => rest (by decide) (by decide) }

/-- What a supply's lock-out makes of a stage stands whatever the others' trips do before and after. -/
theorem SupplyTripOf.around {q : Stage} {x a b y : Lane} (before : TripLeft q x a) (trip : SupplyTripOf a q b) (after : TripLeft q b y) :
    SupplyTripOf x q y := by
  have sameTripped : a.tripped q = x.tripped q := Lane.rbit_of_reg_eq before.word 16
  have held : (y.stg q).causeHeld = (b.stg q).causeHeld := by
    rcases after.stage with e | e
    · rw [e]
    · rw [e]
      rfl
  exact {
    tripped := (Lane.rbit_of_reg_eq after.word 16).trans trip.tripped
    held := held.trans trip.held
    cause := (Lane.fld_of_reg_eq after.word 0 4).trans trip.cause
    began := fun h => by
      obtain ⟨off, time⟩ := trip.began (sameTripped.trans h)
      refine ⟨?_, by rw [after.time, time, before.now]⟩
      rcases after.stage with e | e <;> rw [e]
      · exact off
      · rfl
    goesOn := fun h => by
      rw [Lane.fld_of_reg_eq after.word, trip.goesOn (sameTripped.trans h), Lane.fld_of_reg_eq before.word] }

/-- Every brake stage of the variant is in a trip of its supply after they have tripped one by one. -/
theorem Lane.supplyTripOf_tripBrakes (x : Lane) {n : Fin 8} (fitted : n.val < x.nDrives) :
    SupplyTripOf x (.brake n) ((List.finRange 8).foldl Lane.tripBrake x) := by
  obtain ⟨m, before, after⟩ := foldl_around (R := TripLeft (.brake n)) (TripLeft.refl _) TripLeft.trans
    (fun x _ ne => x.tripLeft_tripBrake ne) (List.nodup_finRange 8) (List.mem_finRange n) x
  have trips : m.tripBrake n = m.trip (.brake n) 5 7 63 false false true := if_pos (before.drives.symm ▸ fitted)
  exact .around before (m.supplyTripOf_trip (.brake n)) (trips ▸ after)

/-- Trips of the brake stages none of which is exhausted reach the fitted brake stages, and what their records and counters do. -/
structure BrakesTripped (x y : Lane) : Prop where
  unfitted : ∀ n : Fin 8, x.nDrives ≤ n.val → y.brakes[n] = x.brakes[n]
  clears : ∀ n : Fin 8, y.brakes[n].clears = x.brakes[n].clears
  drives : y.nDrives = x.nDrives
  reach : ∃ os rs bs w, y = { x with objs := os, regs := rs, brakes := bs, claim := { x.claim with winHealthy := w } }

theorem BrakesTripped.refl (x : Lane) : BrakesTripped x x := ⟨fun _ _ => rfl, fun _ => rfl, rfl, _, _, _, _, rfl⟩

theorem BrakesTripped.trans {x y z : Lane} (h : BrakesTripped x y) (k : BrakesTripped y z) : BrakesTripped x z where
  unfitted n hn := (k.unfitted n (h.drives.symm ▸ hn)).trans (h.unfitted n hn)
  clears n := (k.clears n).trans (h.clears n)
  drives := k.drives.trans h.drives
  reach := by
    obtain ⟨_, _, _, _, e⟩ := h.reach
    obtain ⟨os, rs, bs, w, f⟩ := k.reach
    rw [f, e]
    exact ⟨os, rs, bs, w, rfl⟩

/-- A fitted brake stage alone changes, but for its clears. -/
theorem brakesTripped_of {x y : Lane} {m : Fin 8} (fitted : m.val < x.nDrives) (others : ∀ o, o ≠ .brake m → y.stg o = x.stg o)
    (clears : (y.stg (.brake m)).clears = (x.stg (.brake m)).clears) (drives : y.nDrives = x.nDrives)
    (reach : ∃ os rs a bs w, y = { x with objs := os, regs := rs, steer := a, brakes := bs, claim := { x.claim with winHealthy := w } }) :
    BrakesTripped x y where
  unfitted n hn := others (.brake n) fun e => by
    have := congrArg Fin.val (Stage.brake.inj e)
    omega
  clears n := by
    by_cases e : n = m
    · exact e ▸ clears
    · exact congrArg StageSt.clears (others (.brake n) fun c => e (Stage.brake.inj c))
  drives := drives
  reach := by
    have steer : y.steer = x.steer := others .steer Stage.noConfusion
    obtain ⟨os, rs, a, bs, w, e⟩ := reach
    have ha : a = x.steer := (congrArg Lane.steer e).symm.trans steer
    exact ⟨os, rs, bs, w, ha ▸ e⟩

theorem Lane.brakesTripped_tripBrake (x : Lane) (m : Fin 8) (few : x.brakes[m].tries x.now < 3) : BrakesTripped x (x.tripBrake m) := by
  have drives := x.nDrives_trip (.brake m) 7 63 false false true (cause := 5) (by decide)
  rw [Lane.tripBrake]
  split
  next fitted =>
    cases h : x.tripped (.brake m) with
    | false =>
      rw [Lane.trip_of_untripped h] at drives ⊢
      obtain ⟨others, os, rs, a, b, e⟩ := x.newTrip_alone (.brake m) 5 7 63 false false true few
      exact brakesTripped_of fitted others (by rw [x.stg_newTrip]; rfl) drives ⟨os, rs, a, b, _, e⟩
    | true =>
      rw [Lane.trip_of_tripped h, Bool.false_and] at drives ⊢
      obtain ⟨rs, a, b, e⟩ := x.tripAgain_reach (.brake m) 5 7 63 false true false
      exact brakesTripped_of fitted (fun o ho => x.stg_tripAgain_of_ne _ _ _ _ _ _ _ ho) (by rw [x.stg_tripAgain]) drives
        ⟨_, rs, a, b, _, e⟩
  next => exact BrakesTripped.refl x

theorem Lane.brakesTripped_tripBrakes (x : Lane) (few : ∀ n : Fin 8, x.brakes[n].tries x.now < 3) :
    BrakesTripped x ((List.finRange 8).foldl Lane.tripBrake x) := by
  refine List.foldlRecOn (motive := fun y => BrakesTripped x y) (List.finRange 8) _ (BrakesTripped.refl x) fun y h m _ => ?_
  have tries : y.brakes[m].tries y.now = x.brakes[m].tries x.now := by
    obtain ⟨_, _, _, _, e⟩ := h.reach
    have now : y.now = x.now := e ▸ rfl
    rw [StageSt.tries, StageSt.tries, h.clears, now]
  exact h.trans (y.brakesTripped_tripBrake m (tries ▸ few m))

end Sys2Proof.Machine
end

section
/-!
O26. The detectors of a stage put it in a protective trip (R105, R249, R250, R254 to R260).
-/
namespace Sys2Proof.Machine

theorem StageSt.joined_of_soft {g : StageSt} {t t0 : Nat} (soft : g.softFrom = some t0) (runs : t ≤ t0 + 2000) : g.joined t = true := by
  simp [StageSt.joined, soft, runs]

theorem StageSt.joined_of_ended {g : StageSt} {t : Nat} (ended : ∀ t0, g.softFrom = some t0 → t0 + 2000 < t) : g.joined t = false := by
  rw [StageSt.joined]
  split
  next t0 soft => simpa using ended t0 soft
  next => rfl

section
variable {x : Lane} {st : Stage} {cause legs switches : Nat} {inBlank soft held : Bool}

theorem Lane.tripOf_trip (untripped : x.tripped st = false) (hc : cause < 16) :
    TripOf x st cause legs switches inBlank soft held (x.trip st cause legs switches inBlank soft held) := by
  rw [Lane.trip_of_untripped untripped]
  exact x.tripOf_newTrip st cause legs switches inBlank soft held hc

end

section
variable {x : Lane} {n : Fin 8} {leg : Leg}

@[simp] theorem Lane.bootLocked_now : (x.bootLocked n leg).now = x.now := rfl
@[simp] theorem Lane.bootLocked_reg (r : Rg.Reg) : (x.bootLocked n leg).reg r = x.reg r := rfl

end

section
variable {x : Lane} {sup : Nat}

/-- A lock-out of a gate supply reaches the supplies and GD_STAT. -/
theorem Lane.supplyLocked_reach : ∃ rs, x.supplyLocked sup = { x with regs := rs, gate := { x.gate with supOut := x.gate.supOut.set sup true } } :=
  Lane.two_setRbit_reach { x with gate := { x.gate with supOut := x.gate.supOut.set sup true } } Rg.gdStat Rg.gdStat 16 17 _ _

theorem Lane.supplyLocked_kept : (x.supplyLocked sup).now = x.now ∧ (x.supplyLocked sup).nDrives = x.nDrives ∧
    (x.supplyLocked sup).pwr = x.pwr ∧ (x.supplyLocked sup).drive = x.drive ∧ (x.supplyLocked sup).claim = x.claim ∧
    (x.supplyLocked sup).steer = x.steer ∧ (x.supplyLocked sup).brakes = x.brakes := by
  obtain ⟨rs, e⟩ := x.supplyLocked_reach (sup := sup)
  rw [e]
  exact ⟨rfl, rfl, rfl, rfl, rfl, rfl, rfl⟩

theorem Lane.supplyLocked_regsKept : RegsKept [Rg.gdStat.addr] x (x.supplyLocked sup) :=
  (regsKept_setRbit (r := Rg.gdStat) (by simp) { x with gate := { x.gate with supOut := x.gate.supOut.set sup true } } 16 _).trans
    (regsKept_setRbit (r := Rg.gdStat) (by simp) _ 17 _)

theorem Lane.reg_gdTrip_supplyLocked (st : Stage) : (x.supplyLocked sup).reg (Rg.gdTrip st) = x.reg (Rg.gdTrip st) :=
  Lane.supplyLocked_regsKept _ (by simp [gdTrip_addr_ne_gdStat])

end

/-- A further cause of a brake stage from which its wait runs, and which does not last (R269). -/
theorem Lane.tripAgain_brake (x : Lane) (n : Fin 8) (cause legs switches : Nat) (inBlank : Bool) :
    x.tripAgain (.brake n) cause legs switches inBlank false false
      = { x with regs := (x.tripAgain (.brake n) cause legs switches inBlank false false).regs
                 brakes := x.brakes.set n { x.brakes[n] with causeAt := x.now, railOk := false } } := by
  have stage : ({ x.brakes[n] with causeAt := x.now, causeHeld := x.brakes[n].causeHeld || false, railOk := false } : StageSt)
      = { x.brakes[n] with causeAt := x.now, railOk := false } := by rw [Bool.or_false]
  rw [← stage]
  rfl

/-- A further cause of the steering stage that lasts (R269). -/
theorem Lane.tripAgain_steer (x : Lane) (cause legs switches : Nat) (inBlank : Bool) :
    x.tripAgain .steer cause legs switches inBlank true false
      = { x with regs := (x.tripAgain .steer cause legs switches inBlank true false).regs
                 steer := { x.steer with causeAt := x.now, causeHeld := true, railOk := false } } := by
  have stage : ({ x.steer with causeAt := x.now, causeHeld := x.steer.causeHeld || true, railOk := false } : StageSt)
      = { x.steer with causeAt := x.now, causeHeld := true, railOk := false } := by rw [Bool.or_true]
  rw [← stage]
  rfl

/-- Settles O26: a cause by whether its stage is in a trip already and whether it joins that trip, a brake supply's lock-out stage by stage, a
truncation by its run, and an interlock event by the period of the last one. -/
theorem detectorsTripTheirStage : Obligations.DetectorsTripTheirStage := by
  refine ⟨fun s l st sw b t x h => ⟨exec_desaturation_of_held h, fun untripped => ⟨fun free => ?_, ?_⟩, fun i c k hi tripped => ?_⟩,
    fun s l n leg t x x1 h hx => ?_, fun s l sup t x x1 h hx => ?_, fun s l st sw t x x1 g h hg hx => ?_,
    fun s l st leg p t w x run x1 h hx => ?_⟩
  · exact ⟨_, exec_desaturation_of_free h free, Lane.tripOf_trip untripped (by decide)⟩
  · exact ⟨_, exec_grossCurrent h b, Lane.tripOf_trip untripped (by decide)⟩
  · obtain ⟨run, hc⟩ := exec_detector h hi
    rw [Lane.trip_of_tripped tripped, Bool.true_and] at run
    refine ⟨fun t0 soft runs => ⟨_, run, ?_⟩, fun ended => ⟨_, run, ?_⟩⟩
    · rw [StageSt.joined_of_soft soft runs]
      obtain ⟨cause, leg, switch, blank, tries⟩ := x.fld_tripAgain_of_joins st c (legBit sw.leg) (swBit sw) k false (legBit_lt _) (swBit_lt _) rfl
      obtain ⟨_, _, _, e⟩ := x.tripAgain_reach st c (legBit sw.leg) (swBit sw) k false true
      refine ⟨cause, leg, switch, blank, tries, ?_, fun o ho => x.stg_tripAgain_of_ne _ _ _ _ _ _ _ ho, x.tripAgain_regsKept _ _ _ _ _ _ _, ?_⟩
      · rw [x.stg_tripAgain, Bool.or_false]
        rfl
      · rw [e]
    · rw [StageSt.joined_of_ended ended]
      obtain ⟨cause, rest⟩ := x.fld_tripAgain_of_waiting st c (legBit sw.leg) (swBit sw) k false hc
      obtain ⟨_, _, _, e⟩ := x.tripAgain_reach st c (legBit sw.leg) (swBit sw) k false false
      refine ⟨cause, rest (by decide) (by decide), ?_, fun o ho => x.stg_tripAgain_of_ne _ _ _ _ _ _ _ ho, x.tripAgain_regsKept _ _ _ _ _ _ _, ?_⟩
      · rw [x.stg_tripAgain, Bool.or_false]
        rfl
      · rw [e]
  · replace hx : x1 = x.bootLocked n leg := hx
    have now : x1.now = x.now := hx ▸ Lane.bootLocked_now
    have reg : ∀ r, x1.reg r = x.reg r := fun r => hx ▸ Lane.bootLocked_reg r
    have lockout := exec_bootstrapLockout h n leg
    rw [← hx] at lockout
    refine ⟨_, lockout, fun untripped => ?_, fun tripped => ?_⟩
    · exact Lane.tripOf_trip ((Lane.rbit_of_reg_eq (reg _) 16).trans untripped) (by decide)
    · rw [Lane.trip_of_tripped ((Lane.rbit_of_reg_eq (reg _) 16).trans tripped), Bool.false_and]
      obtain ⟨cause, rest⟩ := x1.fld_tripAgain_of_waiting (.brake n) 6 (legBit leg) (swBit ⟨leg, true⟩) false false (by decide)
      have kept := x1.tripAgain_regsKept (.brake n) 6 (legBit leg) (swBit ⟨leg, true⟩) false false false
      refine ⟨cause, (rest (by decide) (by decide)).trans (Lane.fld_of_reg_eq (reg _) 4 13), fun r hr => (kept r hr).trans (reg r), ?_⟩
      rw [← now]
      exact x1.tripAgain_brake n 6 _ _ false
  · replace hx : x1 = x.supplyLocked sup := hx
    have word : ∀ st, x1.reg (Rg.gdTrip st) = x.reg (Rg.gdTrip st) := fun st => hx ▸ Lane.reg_gdTrip_supplyLocked st
    have same : ∀ st, x1.tripped st = x.tripped st := fun st => Lane.rbit_of_reg_eq (word st) 16
    obtain ⟨now, drives, power, drive, claim, steer, brakes⟩ := x.supplyLocked_kept (sup := sup)
    rw [← hx] at now drives power drive claim steer brakes
    have lockout := exec_gateSupplyLockout h sup
    rw [← hx, power, drive] at lockout
    refine ⟨fun steers on untripped => ?_, fun steers on tripped => ?_, fun steers off => ?_, fun last bs => ?_, fun last bs => ?_,
      fun last bs few => ?_⟩
    · rw [if_pos steers, if_neg (by simp [on])] at lockout
      exact ⟨_, lockout, Lane.tripOf_trip ((same _).trans untripped) (by decide)⟩
    · rw [if_pos steers, if_neg (by simp [on]), Lane.trip_of_tripped ((same _).trans tripped), Bool.false_and] at lockout
      obtain ⟨cause, rest⟩ := x1.fld_tripAgain_of_waiting .steer 4 (supplySwitch sup).2 (supplySwitch sup).1 false true (by decide)
      refine ⟨_, lockout, cause, (rest (by decide) (by decide)).trans (Lane.fld_of_reg_eq (word _) 4 13), x1.tripAgain_regsKept _ _ _ _ _ _ _, ?_⟩
      rw [← now, ← steer]
      exact x1.tripAgain_steer 4 _ _ false
    · rw [lockout, if_pos steers, if_pos (by simp [off])]
    · rw [lockout, if_neg (by omega), if_pos bs]
    · rw [if_neg (by omega), if_neg (by simp [bs])] at lockout
      refine ⟨_, lockout, fun n fitted => ?_⟩
      obtain ⟨trips, held, cause, began, goesOn⟩ := x1.supplyTripOf_tripBrakes (n := n) (drives.symm ▸ fitted)
      rw [same] at began goesOn
      exact ⟨trips, held, cause, now ▸ began, fun on => (goesOn on).trans (Lane.fld_of_reg_eq (word _) 4 13)⟩
    · rw [if_neg (by omega), if_neg (by simp [bs])] at lockout
      obtain ⟨unfitted, _, _, os, rs, bs, w, e⟩ := x1.brakesTripped_tripBrakes (by rw [brakes, now]; exact few)
      refine ⟨_, lockout, fun n hn => (unfitted n (drives.symm ▸ hn)).trans (by rw [brakes]), ?_⟩
      rw [e, ← claim]
  · replace hg : g = (x.stg st).truncated sw.leg := hg
    replace hx : x1 = (x.limitSeen st sw).setStg st ((x.stg st).truncated sw.leg) := by
      rw [hx, hg]
      cases st <;> rfl
    have same : x1.tripped st = x.tripped st := by
      rw [hx]
      cases st <;> rfl
    have run := exec_limitTruncation h hx
    rw [← hg, same] at run
    refine ⟨fun stays => ?_, fun many untripped => ⟨_, ?_, Lane.tripOf_trip (same.trans untripped) (by decide)⟩⟩
    · rw [run, if_neg]
      rcases stays with few | tripped
      · simp [few]
      · simp [tripped]
    · rw [run, if_pos (by simp [many, untripped])]
  · replace hx : x = w.legHeld st leg := hx
    rintro ⟨-, hrun⟩ hx1
    replace hrun : run = (x.stg st).ilRuns leg p := hrun
    replace hx1 : x1 = x.ilNoted st leg p := by rw [hx1, hrun, Lane.ilNoted]
    have event := exec_shootThroughInterlock h (p := p) hx
    rw [← hx1, ← hrun] at event
    refine ⟨fun some same => ?_, fun new few => ?_, fun some new third => ?_⟩
    · rw [event, if_pos ⟨some, same⟩]
    · rw [event, if_neg fun c => new.elim c.1 fun d => d c.2, Lane.raiseIf, if_neg (by simpa using few)]
    · rw [if_neg fun c => new c.2, Lane.raiseIf, if_pos (by simpa using third)] at event
      exact ⟨_, event, x1.raise_errorOf (ilSrc st) (legBit leg)⟩

end Sys2Proof.Machine
end

section
/-!
SUPPORT. The off-state diagnostics of a stage (R264 to R268): how they start in every stage that does not drive, how a run ends and shows it,
and what a failed run does (R64, R266, R289).
-/
namespace Sys2Proof.Machine

theorem StagesReach.eq {x y : Lane} : StagesReach x y → y = { x with regs := y.regs, steer := y.steer, brakes := y.brakes } := by
  rintro ⟨_, _, _, rfl⟩
  rfl

theorem Lane.diagStart_regsKept (x : Lane) : RegsKept [Rg.gdStat.addr] x x.diagStart := by
  obtain ⟨a, b, c, e⟩ := x.diagStart_only
  rw [e]
  exact regsKept_setRbit (r := Rg.gdStat) (by simp) x 13 c

theorem stagesReach_diagStart (x : Lane) : StagesReach x x.diagStart := by
  obtain ⟨a, b, c, e⟩ := x.diagStart_only
  exact ⟨_, a, b, e⟩

/-- What starts in stages that a lane changes reaches the stages and GD_STAT of that lane. -/
theorem Lane.diagStart_of_stages {x z : Lane} (hz : ∃ a b, z = { x with steer := a, brakes := b }) :
    RegsKept [Rg.gdStat.addr] x z.diagStart ∧ z.diagStart = { x with regs := z.diagStart.regs, steer := z.diagStart.steer, brakes := z.diagStart.brakes } := by
  obtain ⟨a, b, rfl⟩ := hz
  have kept := Lane.diagStart_regsKept { x with steer := a, brakes := b }
  have reach : StagesReach x { x with steer := a, brakes := b } := ⟨_, a, b, rfl⟩
  exact ⟨kept, (reach.trans (stagesReach_diagStart _)).eq⟩

/-! DIAG_GO. -/

/-- A stage that DIAG_GO finds: unless it drives or has failed its diagnostics, it owes them (R264, R266). -/
def StageSt.madeDue (g : StageSt) : StageSt := if g.driving || g.diag = .failed then g else { g with diag := .due }

theorem StageSt.madeDue_eq (g : StageSt) : g.madeDue = if g.driving = false ∧ g.diag ≠ .failed then { g with diag := .due } else g := by
  rw [StageSt.madeDue]
  cases g.driving <;> simp

/-- The stages of the variant that do not drive owe their diagnostics (R268). -/
def Lane.allMadeDue (x : Lane) : Lane := (allStages.filter x.hasStage).foldl (fun l st => l.updStg st StageSt.madeDue) x

theorem Lane.startDiag_eq (x : Lane) : x.startDiag = x.allMadeDue.diagStart := rfl

theorem Lane.stg_allMadeDue (x : Lane) (st : Stage) : x.allMadeDue.stg st =
    if x.hasStage st = true ∧ (x.stg st).driving = false ∧ (x.stg st).diag ≠ .failed then { x.stg st with diag := .due } else x.stg st := by
  have own := Lane.stg_foldl_local (next := fun l st => (l.stg st).madeDue) (fun l st => l.stg_updStg st StageSt.madeDue)
    (fun l st q h => l.stg_updStg_of_ne st q StageSt.madeDue h) (fun l st q h => congrArg StageSt.madeDue (l.stg_updStg_of_ne st q _ h))
    (nodup_allStages.filter x.hasStage) x st
  rw [Lane.allMadeDue, own]
  cases fitted : x.hasStage st with
  | true => simp [mem_allStages, fitted, StageSt.madeDue_eq]
  | false => simp [fitted]

theorem Lane.allMadeDue_only (x : Lane) : ∃ a b, x.allMadeDue = { x with steer := a, brakes := b } :=
  List.foldlRecOn (motive := fun m => ∃ a b, m = { x with steer := a, brakes := b }) (allStages.filter x.hasStage) _ ⟨_, _, rfl⟩ fun m hm st _ => by
    obtain ⟨_, _, rfl⟩ := hm
    exact Lane.updStg_only _ st _

theorem Lane.diagRuns_startDiag (x : Lane) {g : Stage → StageSt} (hg : ∀ st, g st =
    if x.hasStage st = true ∧ (x.stg st).driving = false ∧ (x.stg st).diag ≠ .failed then { x.stg st with diag := .due } else x.stg st) :
    DiagRuns x g x.startDiag := by
  have stg : ∀ st, x.allMadeDue.stg st = g st := fun st => (x.stg_allMadeDue st).trans (hg st).symm
  obtain ⟨a, b, e⟩ := x.allMadeDue_only
  rw [Lane.startDiag_eq, e]
  rw [e] at stg
  exact diagRuns_diagStart stg (fun st => by cases st <;> rfl) (fun st => by cases st <;> rfl) rfl

/-! The end of a run. -/

theorem Lane.diagEnd_reach (x : Lane) : ∃ rs, x.diagEnd = { x with regs := rs } := by
  rw [Lane.diagEnd, Lane.showDiag, Lane.raiseBit]
  split <;> exact ⟨_, rfl⟩

theorem Lane.stg_diagEnd (x : Lane) (st : Stage) : x.diagEnd.stg st = x.stg st := by
  obtain ⟨rs, e⟩ := x.diagEnd_reach
  rw [e]
  cases st <;> rfl

theorem Lane.any_diagEnd (x : Lane) : (allStages.any fun o => (x.diagEnd.stg o).diagRun) = allStages.any fun o => (x.stg o).diagRun := by
  simp only [Lane.stg_diagEnd]

/-- The end of a run shows the runs that go on, and that none does (R268). -/
theorem Lane.diagEnd_regs (x : Lane) : x.diagEnd.rbit Rg.gdStat 13 = (allStages.any fun o => (x.diagEnd.stg o).diagRun) ∧
    x.diagEnd.rbit Rg.gdStat 14 = (x.rbit Rg.gdStat 14 || !(allStages.any fun o => (x.diagEnd.stg o).diagRun)) ∧
    RegsKept [Rg.gdStat.addr] x x.diagEnd := by
  rw [x.any_diagEnd, Lane.diagEnd, Lane.showDiag, Lane.raiseBit]
  generalize (allStages.any fun o => (x.stg o).diagRun) = runs
  have shown := x.rbit_setRbit Rg.gdStat (i := 13) runs (by decide)
  have beside := x.rbit_setRbit_beside Rg.gdStat (i := 13) (j := 14) runs (by decide) (by decide)
  have kept := regsKept_setRbit (r := Rg.gdStat) (as := [Rg.gdStat.addr]) (by simp) x 13 runs
  generalize x.setRbit Rg.gdStat 13 runs = y at shown beside kept ⊢
  cases runs with
  | true => exact ⟨shown, by simp [beside], kept⟩
  | false =>
    refine ⟨?_, ?_, kept.trans (regsKept_setRbit (r := Rg.gdStat) (by simp) y 14 true)⟩
    · exact (y.rbit_setRbit_beside Rg.gdStat true (by decide) (by decide)).trans shown
    · rw [Bool.not_false, Bool.or_true]
      exact y.rbit_setRbit Rg.gdStat true (by decide)

/-! A failed run. -/

theorem Lane.drv_reach (x : Lane) (d : CtDrive) (on : Bool) : ∃ rs c, x.drv d on = { x with regs := rs, sio := c } := by
  rw [Lane.drv]
  split
  · exact ⟨_, _, rfl⟩
  · cases d <;> exact ⟨_, _, rfl⟩

theorem Lane.drv_regsKept (x : Lane) (d : CtDrive) (on : Bool) : RegsKept [Rg.sioCt.addr] x (x.drv d on) := by
  rw [Lane.drv]
  split
  · exact regsKept_setRbit (r := Rg.sioCt) (by simp) x _ on
  · have same : ∀ (c : CtSt) (r : Rg.Reg), (x.setCt d c).reg r = x.reg r := fun c r => by cases d <;> rfl
    exact fun r hr => (regsKept_setRbit (r := Rg.sioCt) (by simp) (x.setCt d _) _ on r hr).trans (same _ r)

/-- The state of the contactors' sequence is a field of SIO_CT, whatever the drives are. -/
theorem Lane.reg_setCtState_withSio (z : Lane) (c : SioSt) (v : Nat) (r : Rg.Reg) :
    (({ z with sio := c } : Lane).setCtState v).reg r = (z.setFld Rg.sioCt 8 3 v).reg r := rfl

/-- Opening the contactors reaches their drives and SIO_CT, where it withdraws the command to close (R289, R294). -/
theorem Lane.openContactors_spec (x : Lane) : (∃ rs c, x.openContactors = { x with regs := rs, sio := c }) ∧
    RegsKept [Rg.sioCt.addr] x x.openContactors ∧ x.openContactors.rbit Rg.sioCt 0 = false := by
  rw [Lane.openContactors]
  split
  · exact ⟨⟨_, _, rfl⟩, regsKept_setRbit (r := Rg.sioCt) (by simp) x 0 false, x.rbit_setRbit Rg.sioCt false (by decide)⟩
  · obtain ⟨rs1, c1, e1⟩ := x.drv_reach .kp false
    obtain ⟨rs2, c2, e2⟩ := (x.drv .kp false).drv_reach .pre false
    have kept := (x.drv_regsKept .kp false).trans ((x.drv .kp false).drv_regsKept .pre false)
    have reach : ∃ rs c, (x.drv .kp false).drv .pre false = { x with regs := rs, sio := c } := ⟨rs2, c2, by rw [e2, e1]⟩
    generalize (x.drv .kp false).drv .pre false = y at kept reach ⊢
    have withdrawn : (y.setRbit Rg.sioCt 0 false).rbit Rg.sioCt 0 = false := y.rbit_setRbit Rg.sioCt false (by decide)
    have kept := kept.trans (regsKept_setRbit (r := Rg.sioCt) (by simp) y 0 false)
    have reach : ∃ rs c, y.setRbit Rg.sioCt 0 false = { x with regs := rs, sio := c } := by
      obtain ⟨rs, c, rfl⟩ := reach
      exact ⟨_, c, rfl⟩
    generalize y.setRbit Rg.sioCt 0 false = z at withdrawn kept reach ⊢
    refine ⟨?_, fun r hr => (z.reg_setCtState_withSio _ 5 r).trans ((kept.trans (regsKept_setFld (r := Rg.sioCt) (by simp) z 8 3 5)) r hr), ?_⟩
    · obtain ⟨rs, c, rfl⟩ := reach
      exact ⟨_, _, rfl⟩
    · rw [Lane.rbit_of_reg_eq (z.reg_setCtState_withSio _ 5 Rg.sioCt)]
      exact (Lane.rbit_of_fld_eq (z.fld_setFld_beside Rg.sioCt 5 (by decide) (by decide))).trans withdrawn

theorem Lane.hvClass_strike (x : Lane) (cls : Nat) : (x.strike cls).drive.hvClass = x.drive.hvClass := by
  unfold Lane.strike
  split
  · rfl
  split
  · rfl
  · rw [Lane.latchAfter, Lane.latchAs_drive]

/-- Class HV begins: it reaches the fault classes, and stops stages where it is the second class (R64, R65). -/
theorem Lane.hvFault_spec (x : Lane) : x.hvFault.drive.hvClass = true ∧ x.hvFault.objs = x.objs ∧ RegsKept [Rg.gdStat.addr] x x.hvFault ∧
    (∀ j < 32, j ≠ 12 → x.hvFault.rbit Rg.gdStat j = x.rbit Rg.gdStat j) ∧
    ∀ st, x.hvFault.stg st = x.stg st ∨ x.hvFault.stg st = (x.stg st).stop x.now := by
  rw [Lane.hvFault]
  by_cases had : x.drive.hvClass = true
  · rw [if_pos had]
    exact ⟨had, rfl, RegsKept.refl _ x, fun _ _ _ => rfl, fun _ => .inl rfl⟩
  · rw [if_neg had]
    have begun : ({ x with drive := { x.drive with hvClass := true } } : Lane).drive.hvClass = true := rfl
    have stg := x.stg_withDrive { x.drive with hvClass := true }
    have reg : ∀ r, ({ x with drive := { x.drive with hvClass := true } } : Lane).reg r = x.reg r := fun _ => rfl
    have objs : ({ x with drive := { x.drive with hvClass := true } } : Lane).objs = x.objs := rfl
    have now : ({ x with drive := { x.drive with hvClass := true } } : Lane).now = x.now := rfl
    generalize ({ x with drive := { x.drive with hvClass := true } } : Lane) = y at begun stg reg objs now ⊢
    refine ⟨(y.hvClass_strike 3).trans begun, (y.strike_objs 3).trans objs, fun r hr => (y.strike_regs 3 r hr).trans (reg r),
      fun j hj ne => (y.rbit_strike hj ne 3).trans (Lane.rbit_of_reg_eq (reg _) j), fun st => ?_⟩
    have struck := y.stg_strike 3 st
    rw [stg, now] at struck
    exact struck

end Sys2Proof.Machine
end

section
/-!
SUPPORT. What a run of the diagnostics finds and notes, the external capacitance, and the comparator (R95, R264 to R267).
-/
namespace Sys2Proof.Machine

theorem diagObj_key_ne (st : Stage) : (diagObj st).key ≠ (vnodeObj st).key := by
  cases st with
  | steer => decide
  | brake n => simp only [diagObj, vnodeObj, O.bgDiagResult, O.bgDiagVnode]; omega

theorem bdInService_key_ne (n m : Fin 8) : (diagObj (.brake m)).key ≠ (O.bdInService n.val).key ∧ (vnodeObj (.brake m)).key ≠ (O.bdInService n.val).key := by
  simp only [diagObj, vnodeObj, O.bgDiagResult, O.bgDiagVnode, O.bdInService]
  omega

theorem variantCode_key_ne_diagObj (st : Stage) : O.variantCode.key ≠ (diagObj st).key := by
  cases st with
  | steer => decide
  | brake n => simp only [diagObj, O.bgDiagResult, O.variantCode]; omega

/-- What the results of a stage's diagnostics say of its legs (R270). -/
def legCodes (st : Stage) (nodes : List Nat) (vPos : Nat) : Nat :=
  classifyLeg st nodes vPos 0 + 16 * classifyLeg st nodes vPos 1 + 256 * classifyLeg st nodes vPos 2

/-- A lane with the result and the node voltages of a stage's diagnostics (R265, R270). -/
def Lane.diagNoted (x : Lane) (st : Stage) (nodes : List Nat) (vPos : Nat) : Lane :=
  (x.setObj (diagObj st) (legCodes st nodes vPos)).setArr16 (vnodeObj st) ((List.range 9).map (nth nodes))

/-- Are all legs of a stage found sound (R265)? -/
def legsSound (st : Stage) (nodes : List Nat) (vPos : Nat) : Bool := ((List.range 3).map (classifyLeg st nodes vPos)).all (· = 0)

theorem legsSound_iff {st : Stage} {nodes : List Nat} {vPos : Nat} : legsSound st nodes vPos = true ↔ ∀ i < 3, classifyLeg st nodes vPos i = 0 := by
  simp [legsSound]

section
variable {s : State} {l : LaneId} {t : Nat} {x : Lane} {st : Stage} {nodes : List Nat} {vPos : Nat}

theorem exec_offStateDiagnostics_of_resting (h : Sees s l t x)
    (rests : (x.stg st).driving = true ∨ (x.stg st).diag = .failed ∨ x.hasStage st = false) :
    exec (.offStateDiagnostics l st t nodes vPos) s = .next (s.setLane l x) := by
  refine (onLaneAt_of_sees h _ : execOffStateDiagnostics l st t nodes vPos s = _).trans ?_
  dsimp only
  rw [if_pos (by rcases rests with c | c | c <;> simp [c])]

theorem exec_offStateDiagnostics (h : Sees s l t x) (off : (x.stg st).driving = false) (sound : (x.stg st).diag ≠ .failed)
    (fitted : x.hasStage st = true) : exec (.offStateDiagnostics l st t nodes vPos) s = .next (s.setLane l
      (if x.diagReady st vPos = false then ((x.setObj (diagObj st) 0x444).updStg st fun g => { g with diagRun := false }).diagEnd
       else ((x.diagNoted st nodes vPos).diagOutcome st (legsSound st nodes vPos)).diagEnd)) := by
  refine (onLaneAt_of_sees h _ : execOffStateDiagnostics l st t nodes vPos s = _).trans ?_
  dsimp only
  rw [if_neg (by simp [off, sound, fitted])]
  cases x.diagReady st vPos <;> rfl

end

/-! The outcome of a run. -/

section
variable (x : Lane) (st : Stage)

/-- A stage whose run of the diagnostics has ended (R266). -/
def StageSt.diagOver (g : StageSt) (d : Diag) : StageSt := { g with diag := d, diagRun := false }

/-- A drive that a failed run takes out of service, before its stage stops (R266). -/
def Lane.drivesOut (n : Fin 8) : Lane :=
  ({ x with brk := { x.brk with drv := x.brk.drv.set n { x.brk.drv[n] with inService := false, originOk := false } } }).setObj
    (O.bdInService n.val) 0

theorem Lane.diagOutcome_passed : x.diagOutcome st true = x.updStg st fun g => g.diagOver .passed := rfl

theorem Lane.diagOutcome_steer_failed : x.diagOutcome .steer false = (x.updStg .steer fun g => g.diagOver .failed).openContactors.hvFault := rfl

theorem Lane.diagOutcome_brake_failed (n : Fin 8) :
    x.diagOutcome (.brake n) false = ((x.updStg (.brake n) fun g => g.diagOver .failed).drivesOut n).ceaseStage (.brake n) := rfl

/-- The outcome of a run of the steering stage that failed: the stage, class HV, and the contactors' command (R64, R266, R289). -/
theorem Lane.steerFailed_spec {y : Lane} (hy : y = x.diagOutcome .steer false) (off : x.steer.driving = false) :
    y.steer.diag = .failed ∧ y.steer.driving = false ∧ y.steer.diagRun = false ∧ y.drive.hvClass = true ∧ y.rbit Rg.sioCt 0 = false ∧
    y.objs = x.objs ∧ y.rbit Rg.gdStat 14 = x.rbit Rg.gdStat 14 := by
  rw [Lane.diagOutcome_steer_failed] at hy
  obtain ⟨begun, hbegun⟩ : ∃ u, u = x.updStg .steer fun g => g.diagOver .failed := ⟨_, rfl⟩
  rw [← hbegun] at hy
  have stage : begun.steer = x.steer.diagOver .failed := by rw [hbegun]; rfl
  have objs : begun.objs = x.objs := by rw [hbegun]; rfl
  have bit : begun.rbit Rg.gdStat 14 = x.rbit Rg.gdStat 14 := by rw [hbegun]; rfl
  obtain ⟨⟨rs, c, opened⟩, openKept, withdrawn⟩ := begun.openContactors_spec
  have openSteer : begun.openContactors.steer = begun.steer := by rw [opened]
  have openObjs : begun.openContactors.objs = begun.objs := by rw [opened]
  have openBit : begun.openContactors.rbit Rg.gdStat 14 = begun.rbit Rg.gdStat 14 := Lane.rbit_of_reg_eq (openKept _ (by decide)) 14
  obtain ⟨hv, hvObjs, hvKept, hvBits, hvStages⟩ := begun.openContactors.hvFault_spec
  rw [← hy] at hv hvObjs hvKept hvBits hvStages
  have out : y.steer = x.steer.diagOver .failed ∨ y.steer = (x.steer.diagOver .failed).stop begun.openContactors.now := by
    rw [← stage, ← openSteer]
    exact hvStages .steer
  refine ⟨?_, ?_, ?_, hv, ?_, hvObjs.trans (openObjs.trans objs), (hvBits 14 (by decide) (by decide)).trans (openBit.trans bit)⟩
  · rcases out with e | e <;> rw [e] <;> rfl
  · rcases out with e | e <;> rw [e]
    · exact off
    · rfl
  · rcases out with e | e <;> rw [e] <;> rfl
  · exact (Lane.rbit_of_reg_eq (hvKept _ (by decide)) 0).trans withdrawn

/-- The outcome of a run of a brake stage that failed: its drive is out of service, and its stage is off (R266). -/
theorem Lane.brakeFailed_spec (n : Fin 8) {y : Lane} (hy : y = x.diagOutcome (.brake n) false) :
    y.stg (.brake n) = ((x.stg (.brake n)).diagOver .failed).stop x.now ∧ (∀ o, o ≠ .brake n → y.stg o = x.stg o) ∧
    y.objs = (x.setObj (O.bdInService n.val) 0).objs ∧
    y.brk = { x.brk with drv := x.brk.drv.set n { x.brk.drv[n] with inService := false, originOk := false } } ∧
    y.regs = x.regs ∧ ∃ os bs k, y = { x with objs := os, brakes := bs, brk := k } := by
  rw [Lane.diagOutcome_brake_failed] at hy
  subst hy
  have out : ∀ (u : Lane) (o : Stage), (u.drivesOut n).stg o = u.stg o := fun u o => by cases o <;> rfl
  refine ⟨?_, fun o ho => ?_, rfl, rfl, rfl, _, _, _, rfl⟩
  · rw [Lane.stg_ceaseStage, out, Lane.stg_updStg]
    rfl
  · rw [Lane.stg_ceaseStage_of_ne _ ho, out, Lane.stg_updStg_of_ne _ _ _ _ ho]

end

section
variable (x : Lane) (st : Stage) (nodes : List Nat) (vPos : Nat)

/-- What the noted results leave and make of the objects (R265, R270). -/
theorem Lane.diagNoted_spec : (x.diagNoted st nodes vPos).obj (diagObj st) = legCodes st nodes vPos ∧
    (x.diagNoted st nodes vPos).obj (vnodeObj st) = (List.range 9).foldl (fun a i => a * 65536 + nth nodes i % 65536) 0 ∧
    ObjsKept [(diagObj st).key, (vnodeObj st).key] x (x.diagNoted st nodes vPos) ∧ ∃ os, x.diagNoted st nodes vPos = { x with objs := os } := by
  refine ⟨?_, ?_, ?_, _, rfl⟩
  · rw [Lane.diagNoted, Lane.setArr16, Lane.obj_setObj_of_ne _ _ (diagObj_key_ne st), Lane.obj_setObj]
  · rw [Lane.diagNoted, Lane.setArr16, Lane.obj_setObj, List.foldl_map]
  · exact (objsKept_setObj (by simp) x _).trans (objsKept_setObj (by simp) _ _)

end

/-! The external capacitance. -/

/-- A lane whose first injection has measured an external capacitance of each leg (R102, R267). -/
def Lane.cextNoted (x : Lane) (v : Nat) : Lane :=
  let y := ((((List.range 3).foldl (fun x i => x.setReg (Rg.etCext i) v) x).setRbit Rg.etStat 9 true).setRbit Rg.etStat 10 false)
  { y with gate := { y.gate with cextOk := [true, true, true] } }

/-- A lane whose first injection has measured none within the bounds (R102, R267). -/
def Lane.cextFailed (x : Lane) (ramped : Bool) : Lane :=
  let y := (x.raiseBit Rg.etStat 9 ramped).setRbit Rg.etStat 10 true
  { y with gate := { y.gate with cextOk := [false, false, false] } }

/-- The capacitance of a leg from the time of the ramp, in pF (R102, R267). -/
def Lane.cextOf (x : Lane) (dt : Nat) : Int := roundDiv ((dt : Int) - 48 * Config.cStageLow x.cal) 48

theorem etCext_addr_ne_etStat (i : Nat) : (Rg.etCext i).addr ≠ Rg.etStat.addr := by
  simp only [Rg.etCext, Rg.etStat]
  omega

section
variable (x : Lane)

theorem Lane.cextNoted_spec {v : Nat} (small : v < 2 ^ 32) : (∀ i < 3, (x.cextNoted v).reg (Rg.etCext i) = v) ∧
    (x.cextNoted v).rbit Rg.etStat 9 = true ∧ (x.cextNoted v).rbit Rg.etStat 10 = false ∧
    (x.cextNoted v).gate = { x.gate with cextOk := [true, true, true] } ∧ ∃ rs g, x.cextNoted v = { x with regs := rs, gate := g } := by
  have legs : ∀ i < 3, ((List.range 3).foldl (fun x i => x.setReg (Rg.etCext i) v) x).reg (Rg.etCext i) = v := fun i hi =>
    foldl_establishes (fun _ => True) (fun y : Lane => y.reg (Rg.etCext i) = v) (fun _ _ _ _ => trivial)
      (fun y j _ hy => by
        by_cases e : i = j
        · rw [e, Lane.reg_setReg, Nat.mod_eq_of_lt small]
        · rw [Lane.reg_setReg_of_ne _ _ (by simp only [Rg.etCext]; omega), hy])
      (fun y _ => by rw [Lane.reg_setReg, Nat.mod_eq_of_lt small]) (List.mem_range.mpr hi) trivial
  have reach : ∃ rs, (List.range 3).foldl (fun x i => x.setReg (Rg.etCext i) v) x = { x with regs := rs } :=
    List.foldlRecOn (motive := fun y : Lane => ∃ rs, y = { x with regs := rs }) (List.range 3) _ ⟨_, rfl⟩ fun y hy _ _ => by
      obtain ⟨_, rfl⟩ := hy
      exact ⟨_, rfl⟩
  unfold Lane.cextNoted
  generalize (List.range 3).foldl (fun x i => x.setReg (Rg.etCext i) v) x = y at legs reach ⊢
  refine ⟨fun i hi => ?_, ?_, ?_, ?_, ?_⟩
  · have kept := ((y.setRbit Rg.etStat 9 true).reg_setRbit_of_ne 10 false (etCext_addr_ne_etStat i)).trans
      (y.reg_setRbit_of_ne 9 true (etCext_addr_ne_etStat i))
    exact kept.trans (legs i hi)
  · exact (Lane.rbit_setRbit_beside _ Rg.etStat false (i := 10) (j := 9) (by decide) (by decide)).trans (y.rbit_setRbit Rg.etStat true (by decide))
  · exact Lane.rbit_setRbit (y.setRbit Rg.etStat 9 true) Rg.etStat false (by decide)
  · obtain ⟨_, rfl⟩ := reach
    rfl
  · obtain ⟨_, rfl⟩ := reach
    exact ⟨_, _, rfl⟩

theorem Lane.cextFailed_spec (ramped : Bool) : (ramped = true → (x.cextFailed ramped).rbit Rg.etStat 9 = true) ∧
    (x.cextFailed ramped).rbit Rg.etStat 10 = true ∧ (x.cextFailed ramped).gate = { x.gate with cextOk := [false, false, false] } ∧
    RegsKept [Rg.etStat.addr] x (x.cextFailed ramped) ∧
    x.cextFailed ramped = { x with regs := (x.cextFailed ramped).regs, gate := (x.cextFailed ramped).gate } := by
  have gate : (x.raiseBit Rg.etStat 9 ramped).gate = x.gate := x.raiseBit_gate _ _ _
  have bit : ramped = true → (x.raiseBit Rg.etStat 9 ramped).rbit Rg.etStat 9 = true := fun h => by
    rw [h]
    exact x.rbit_setRbit Rg.etStat true (by decide)
  have kept : RegsKept [Rg.etStat.addr] x (x.raiseBit Rg.etStat 9 ramped) := by
    cases ramped
    · exact RegsKept.refl _ x
    · exact regsKept_setRbit (r := Rg.etStat) (by simp) x 9 true
  have reach : ∃ rs, x.raiseBit Rg.etStat 9 ramped = { x with regs := rs } := by cases ramped <;> exact ⟨_, rfl⟩
  unfold Lane.cextFailed
  generalize x.raiseBit Rg.etStat 9 ramped = y at gate bit kept reach ⊢
  refine ⟨fun h => ?_, y.rbit_setRbit Rg.etStat true (by decide), ?_, kept.trans (regsKept_setRbit (r := Rg.etStat) (by simp) y 10 true), ?_⟩
  · exact (y.rbit_setRbit_beside Rg.etStat true (by decide) (by decide)).trans (bit h)
  · obtain ⟨_, rfl⟩ := reach
    rfl
  · obtain ⟨_, rfl⟩ := reach
    rfl

end

section
variable {s : State} {l : LaneId} {t : Nat} {x : Lane}

theorem exec_cextGo_of_none (h : Sees s l t x) (none : x.steer.diagRun = false ∨ x.steer.diagFrom + 2000000 ≤ x.now) (r : Option Nat) :
    exec (.cextGo l t r) s = .next (s.setLane l x) := by
  refine (onLaneAt_of_sees h _ : execCextGo l t r s = _).trans ?_
  rw [if_neg]
  rw [Lane.firstInjection]
  rcases none with c | c <;> simp [c]

theorem exec_cextGo (h : Sees s l t x) (runs : x.steer.diagRun = true) (first : x.now < x.steer.diagFrom + 2000000) (r : Option Nat) :
    exec (.cextGo l t r) s = .next (s.setLane l (match r with
      | some dt => if dt ≤ 1000000 ∧ 0 ≤ x.cextOf dt ∧ x.cextOf dt ≤ 10000 then x.cextNoted (x.cextOf dt).toNat else x.cextFailed true
      | none => x.cextFailed false)) := by
  refine (onLaneAt_of_sees h _ : execCextGo l t r s = _).trans ?_
  rw [if_pos (by simp [Lane.firstInjection, runs, first])]
  cases r with
  | none => rfl
  | some dt =>
    refine congrArg (fun z => Host.Outcome.next (s.setLane l z)) ?_
    by_cases fits : dt ≤ 1000000 ∧ 0 ≤ x.cextOf dt ∧ x.cextOf dt ≤ 10000
    · refine (if_pos ?_).trans (if_pos fits).symm
      simpa [Lane.cextOf, and_assoc] using fits
    · refine (if_neg fun c => fits ?_).trans (if_neg fits).symm
      simpa [Lane.cextOf, and_assoc] using c

end

/-! The commands of a diagnosis, and the comparator. -/

/-- A lane whose stage ran no diagnostics, its precondition not being met (R264). -/
def Lane.diagUnmet (x : Lane) (st : Stage) : Lane := ((x.setObj (diagObj st) 0x444).updStg st fun g => { g with diagRun := false }).diagEnd

theorem Lane.diagUnmet_spec (x : Lane) (st : Stage) : (x.diagUnmet st).obj (diagObj st) = 0x444 ∧
    (x.diagUnmet st).stg st = { x.stg st with diagRun := false } ∧ (∀ o, o ≠ st → (x.diagUnmet st).stg o = x.stg o) ∧
    (x.diagUnmet st).rbit Rg.gdStat 13 = (allStages.any fun o => ((x.diagUnmet st).stg o).diagRun) ∧
    (x.diagUnmet st).rbit Rg.gdStat 14 = (x.rbit Rg.gdStat 14 || !(allStages.any fun o => ((x.diagUnmet st).stg o).diagRun)) ∧
    ObjsKept [(diagObj st).key] x (x.diagUnmet st) ∧ RegsKept [Rg.gdStat.addr] x (x.diagUnmet st) ∧
    ∃ os rs a b, x.diagUnmet st = { x with objs := os, regs := rs, steer := a, brakes := b } := by
  have noted : ∀ o, (x.setObj (diagObj st) 0x444).stg o = x.stg o := fun o => by cases o <;> rfl
  obtain ⟨a, b, ended⟩ := (x.setObj (diagObj st) 0x444).updStg_only st fun g => { g with diagRun := false }
  have own : ((x.setObj (diagObj st) 0x444).updStg st fun g => { g with diagRun := false }).stg st = { x.stg st with diagRun := false } := by
    rw [Lane.stg_updStg, noted]
  have others : ∀ o, o ≠ st → ((x.setObj (diagObj st) 0x444).updStg st fun g => { g with diagRun := false }).stg o = x.stg o := fun o ho => by
    rw [Lane.stg_updStg_of_ne _ _ _ _ ho, noted]
  unfold Lane.diagUnmet
  rw [ended] at own others ⊢
  obtain ⟨rs, shown⟩ := Lane.diagEnd_reach { x.setObj (diagObj st) 0x444 with steer := a, brakes := b }
  obtain ⟨runs, done, kept⟩ := Lane.diagEnd_regs { x.setObj (diagObj st) 0x444 with steer := a, brakes := b }
  have obj : ∀ o, (Lane.diagEnd { x.setObj (diagObj st) 0x444 with steer := a, brakes := b }).obj o = (x.setObj (diagObj st) 0x444).obj o := fun o => by
    rw [shown]
    rfl
  refine ⟨(obj _).trans (Lane.obj_setObj _ _ _), (Lane.stg_diagEnd _ st).trans own, fun o ho => (Lane.stg_diagEnd _ o).trans (others o ho),
    runs, done, fun o ho => (obj o).trans (objsKept_setObj (by simp) x _ o ho), kept, ?_⟩
  rw [shown]
  exact ⟨_, rs, a, b, rfl⟩

theorem exec_backEmfAboveLink (s : State) (l : LaneId) (t : Nat) {x y : Lane} (hx : x = s.laneAt l t)
    (hy : y = { x with gate := { x.gate with emfHigh := true, emfAt := x.now, emfLowSince := none } }) :
    exec (.backEmfAboveLink l t) s = .next (s.setLane l (if x.steer.driving = true then y else y.chooseSafe)) := by
  subst hx hy
  rfl

end Sys2Proof.Machine
end

section
/-!
SUPPORT. What a run of the diagnostics leaves: its stage, the results, and the consequences of a failure (R64, R265, R266).
-/
namespace Sys2Proof.Machine

/-- Whatever a run has found, its stage runs no diagnostics after it, and their results and the end of earlier runs stay shown. -/
theorem Lane.diagOutcome_spec (x : Lane) (st : Stage) (ok : Bool) (off : (x.stg st).driving = false) :
    (x.diagOutcome st ok).obj (diagObj st) = x.obj (diagObj st) ∧ (x.diagOutcome st ok).obj (vnodeObj st) = x.obj (vnodeObj st) ∧
    ((x.diagOutcome st ok).stg st).diagRun = false ∧ (x.diagOutcome st ok).rbit Rg.gdStat 14 = x.rbit Rg.gdStat 14 := by
  cases ok with
  | true =>
    have stage := x.stg_updStg st fun g => g.diagOver .passed
    obtain ⟨a, b, e⟩ := x.updStg_only st fun g => g.diagOver .passed
    rw [x.diagOutcome_passed, stage, e]
    exact ⟨rfl, rfl, rfl, rfl⟩
  | false =>
    cases st with
    | steer =>
      obtain ⟨_, _, run, _, _, objs, done⟩ := x.steerFailed_spec rfl off
      exact ⟨by rw [Lane.obj, objs, Lane.obj], by rw [Lane.obj, objs, Lane.obj], run, done⟩
    | brake n =>
      obtain ⟨stage, _, objs, _, regs, _⟩ := x.brakeFailed_spec n rfl
      obtain ⟨result, volts⟩ := bdInService_key_ne n n
      have obj : ∀ o, (x.diagOutcome (.brake n) false).obj o = (x.setObj (O.bdInService n.val) 0).obj o := fun o => by rw [Lane.obj, objs, Lane.obj]
      refine ⟨(obj _).trans (Lane.obj_setObj_of_ne _ _ result), (obj _).trans (Lane.obj_setObj_of_ne _ _ volts), ?_, ?_⟩
      · rw [stage]
        rfl
      · rw [Lane.rbit, Lane.reg, regs, Lane.rbit, Lane.reg]

section
variable {x : Lane} {st : Stage} {nodes : List Nat} {vPos : Nat}

/-- A lane whose stage has run its diagnostics (R265, R266). -/
def Lane.diagnosed (x : Lane) (st : Stage) (nodes : List Nat) (vPos : Nat) : Lane :=
  ((x.diagNoted st nodes vPos).diagOutcome st (legsSound st nodes vPos)).diagEnd

/-- The noted results are objects alone. -/
theorem Lane.diagNoted_kept {y : Lane} (hy : y = x.diagNoted st nodes vPos) : (∀ o, y.stg o = x.stg o) ∧ (∀ r, y.reg r = x.reg r) ∧ y.brk = x.brk := by
  obtain ⟨_, _, _, os, e⟩ := x.diagNoted_spec st nodes vPos
  rw [hy, e]
  exact ⟨fun o => by cases o <;> rfl, fun _ => rfl, rfl⟩

theorem Lane.obj_diagEnd (x : Lane) (o : O.Obj) : x.diagEnd.obj o = x.obj o := by
  obtain ⟨rs, e⟩ := x.diagEnd_reach
  rw [e]
  rfl

theorem Lane.diagnosed_spec (off : (x.stg st).driving = false) : (x.diagnosed st nodes vPos).obj (diagObj st) = legCodes st nodes vPos ∧
    (x.diagnosed st nodes vPos).obj (vnodeObj st) = (List.range 9).foldl (fun a i => a * 65536 + nth nodes i % 65536) 0 ∧
    ((x.diagnosed st nodes vPos).stg st).diagRun = false ∧
    (x.diagnosed st nodes vPos).rbit Rg.gdStat 13 = (allStages.any fun o => ((x.diagnosed st nodes vPos).stg o).diagRun) ∧
    (x.diagnosed st nodes vPos).rbit Rg.gdStat 14
      = (x.rbit Rg.gdStat 14 || !(allStages.any fun o => ((x.diagnosed st nodes vPos).stg o).diagRun)) := by
  obtain ⟨result, volts, _⟩ := x.diagNoted_spec st nodes vPos
  obtain ⟨stg, reg, _⟩ := Lane.diagNoted_kept (x := x) (st := st) (nodes := nodes) (vPos := vPos) rfl
  obtain ⟨keptResult, keptVolts, run, done⟩ := (x.diagNoted st nodes vPos).diagOutcome_spec st (legsSound st nodes vPos)
    ((congrArg StageSt.driving (stg st)).trans off)
  obtain ⟨runs, shown, _⟩ := ((x.diagNoted st nodes vPos).diagOutcome st (legsSound st nodes vPos)).diagEnd_regs
  unfold Lane.diagnosed
  refine ⟨?_, ?_, ?_, runs, ?_⟩
  · rw [Lane.obj_diagEnd, keptResult, result]
  · rw [Lane.obj_diagEnd, keptVolts, volts]
  · rw [Lane.stg_diagEnd, run]
  · rw [shown, done, Lane.rbit_of_reg_eq (reg _)]

/-- A run that finds every leg sound (R266). -/
theorem Lane.diagnosed_of_sound (sound : legsSound st nodes vPos = true) :
    (x.diagnosed st nodes vPos).stg st = (x.stg st).diagOver .passed ∧ (∀ o, o ≠ st → (x.diagnosed st nodes vPos).stg o = x.stg o) ∧
    ObjsKept [(diagObj st).key, (vnodeObj st).key] x (x.diagnosed st nodes vPos) ∧
    RegsKept [Rg.gdStat.addr] x (x.diagnosed st nodes vPos) ∧
    ∃ os rs a b, x.diagnosed st nodes vPos = { x with objs := os, regs := rs, steer := a, brakes := b } := by
  obtain ⟨_, _, kept, os, noted⟩ := x.diagNoted_spec st nodes vPos
  obtain ⟨stg, regs, _⟩ := Lane.diagNoted_kept (x := x) (st := st) (nodes := nodes) (vPos := vPos) rfl
  unfold Lane.diagnosed
  rw [sound, Lane.diagOutcome_passed]
  generalize x.diagNoted st nodes vPos = w at kept noted regs stg ⊢
  have own := w.stg_updStg st fun g => g.diagOver .passed
  have others := fun o ho => w.stg_updStg_of_ne st o (fun g => g.diagOver .passed) ho
  obtain ⟨a, b, e⟩ := w.updStg_only st fun g => g.diagOver .passed
  rw [e] at own others ⊢
  obtain ⟨rs, shown⟩ := Lane.diagEnd_reach { w with steer := a, brakes := b }
  refine ⟨?_, fun o ho => ?_, fun o ho => ?_, fun r hr => ?_, ?_⟩
  · rw [Lane.stg_diagEnd, own, stg]
  · rw [Lane.stg_diagEnd, others o ho, stg]
  · exact (Lane.obj_diagEnd _ o).trans (kept o ho)
  · exact ((Lane.diagEnd_regs _).2.2 r hr).trans (regs r)
  · rw [shown, noted]
    exact ⟨os, rs, a, b, rfl⟩

/-- A run of the steering stage that fails (R64, R266). -/
theorem Lane.diagnosed_of_steerFailed (failed : legsSound .steer nodes vPos = false) (off : x.steer.driving = false) :
    (x.diagnosed .steer nodes vPos).steer.diag = .failed ∧ (x.diagnosed .steer nodes vPos).steer.driving = false ∧
    (x.diagnosed .steer nodes vPos).drive.hvClass = true ∧ (x.diagnosed .steer nodes vPos).rbit Rg.sioCt 0 = false := by
  obtain ⟨stg, _⟩ := Lane.diagNoted_kept (x := x) (st := .steer) (nodes := nodes) (vPos := vPos) rfl
  obtain ⟨diag, still, _, hv, withdrawn, _⟩ := (x.diagNoted .steer nodes vPos).steerFailed_spec rfl
    ((congrArg StageSt.driving (stg .steer)).trans off)
  unfold Lane.diagnosed
  rw [failed]
  generalize (x.diagNoted .steer nodes vPos).diagOutcome .steer false = y at diag still hv withdrawn ⊢
  obtain ⟨_, _, kept⟩ := y.diagEnd_regs
  obtain ⟨rs, e⟩ := y.diagEnd_reach
  refine ⟨?_, ?_, ?_, (Lane.rbit_of_reg_eq (kept _ (by decide)) 0).trans withdrawn⟩
  · rw [e]
    exact diag
  · rw [e]
    exact still
  · rw [e]
    exact hv

/-- A run of a brake stage that fails (R266). -/
theorem Lane.diagnosed_of_brakeFailed {n : Fin 8} {y : Lane} (hy : y = x.diagnosed (.brake n) nodes vPos)
    (failed : legsSound (.brake n) nodes vPos = false) :
    (y.stg (.brake n)).diag = .failed ∧ (y.stg (.brake n)).driving = false ∧ y.obj (O.bdInService n.val) = 0 ∧
    y.brk = { x.brk with drv := x.brk.drv.set n { x.brk.drv[n] with inService := false, originOk := false } } ∧
    (∀ o, o ≠ .brake n → y.stg o = x.stg o) ∧ RegsKept [Rg.gdStat.addr] x y ∧
    ObjsKept [(diagObj (.brake n)).key, (vnodeObj (.brake n)).key, (O.bdInService n.val).key] x y ∧
    ∃ os rs bs k, y = { x with objs := os, regs := rs, brakes := bs, brk := k } := by
  obtain ⟨_, _, kept, _, noted⟩ := x.diagNoted_spec (.brake n) nodes vPos
  obtain ⟨stg, regs, brk⟩ := Lane.diagNoted_kept (x := x) (st := .brake n) (nodes := nodes) (vPos := vPos) rfl
  unfold Lane.diagnosed at hy
  rw [failed] at hy
  obtain ⟨stage, others, outObjs, outBrk, outRegs, _, bs, k, out⟩ := (x.diagNoted (.brake n) nodes vPos).brakeFailed_spec n rfl
  generalize (x.diagNoted (.brake n) nodes vPos).diagOutcome (.brake n) false = z at hy stage others outObjs outBrk outRegs out
  generalize x.diagNoted (.brake n) nodes vPos = w at kept noted regs brk stg stage others outObjs outBrk outRegs out
  obtain ⟨_, _, endKept⟩ := z.diagEnd_regs
  obtain ⟨rs, e⟩ := z.diagEnd_reach
  rw [← hy] at endKept e
  have ended : ∀ o, y.stg o = z.stg o := fun o => hy ▸ z.stg_diagEnd o
  have obj : ∀ o, y.obj o = (w.setObj (O.bdInService n.val) 0).obj o := fun o => by
    rw [hy, Lane.obj_diagEnd, Lane.obj, outObjs, Lane.obj]
  refine ⟨?_, ?_, ?_, ?_, fun o ho => ?_, fun r hr => ?_, fun o ho => ?_, ?_⟩
  · rw [ended, stage]
    rfl
  · rw [ended, stage]
    rfl
  · rw [obj, Lane.obj_setObj]
  · rw [e, ← brk]
    exact outBrk
  · rw [ended, others o ho, stg]
  · rw [endKept r hr, Lane.reg, outRegs]
    exact regs r
  · simp only [List.mem_cons, List.not_mem_nil, or_false, not_or] at ho
    obtain ⟨notResult, notVolts, notService⟩ := ho
    rw [obj, Lane.obj_setObj_of_ne _ _ notService]
    exact kept o (by simp [notResult, notVolts])
  · rw [e, out, noted]
    exact ⟨_, rs, bs, k, rfl⟩

end

/-- A stage whose result is written 0 owes its diagnostics again (R266). -/
theorem Lane.diagRepeated_spec (x : Lane) (st : Stage) {y : Lane}
    (hy : y = ((x.setObj (diagObj st) 0).updStg st fun g => { g with diag := .due, diagRun := false }).diagStart) :
    y.obj (diagObj st) = 0 ∧ DiagRuns x (fun o => if o = st then { x.stg st with diag := .due, diagRun := false } else x.stg o) y ∧
    ObjsKept [(diagObj st).key] x y ∧ RegsKept [Rg.gdStat.addr] x y ∧
    y = { x with objs := y.objs, regs := y.regs, steer := y.steer, brakes := y.brakes } := by
  obtain ⟨w, hw⟩ : ∃ w, w = x.setObj (diagObj st) 0 := ⟨_, rfl⟩
  have result : w.obj (diagObj st) = 0 := hw ▸ x.obj_setObj _ 0
  have kept : ObjsKept [(diagObj st).key] x w := hw ▸ objsKept_setObj (by simp) x 0
  have drives : w.nDrives = x.nDrives := Lane.nDrives_of_objs (kept _ (by simp [variantCode_key_ne_diagObj]))
  have reach : ∃ os, w = { x with objs := os } := ⟨_, hw⟩
  have now : w.now = x.now := hw ▸ x.setObj_now _ _
  have stg : ∀ o, w.stg o = x.stg o := fun o => by
    obtain ⟨os, rfl⟩ := reach
    cases o <;> rfl
  rw [← hw] at hy
  have own := w.stg_updStg st fun g => { g with diag := .due, diagRun := false }
  have others := fun o ho => w.stg_updStg_of_ne st o (fun g => { g with diag := .due, diagRun := false }) ho
  obtain ⟨a, b, e⟩ := w.updStg_only st fun g => { g with diag := .due, diagRun := false }
  rw [e] at hy own others
  obtain ⟨regs, start⟩ := Lane.diagStart_of_stages ⟨a, b, rfl⟩
  rw [← hy] at regs start
  have obj : ∀ o, y.obj o = w.obj o := fun o => by
    rw [start]
    rfl
  refine ⟨(obj _).trans result, ?_, fun o ho => (obj o).trans (kept o ho), ?_, ?_⟩
  · rw [hy]
    have met : ∀ o, w.diagMet o = x.diagMet o := fun o => by
      obtain ⟨os, rfl⟩ := reach
      cases o <;> rfl
    have fitted : ∀ o, w.hasStage o = x.hasStage o := fun o => by
      cases o with
      | steer => rfl
      | brake n => rw [Lane.hasStage, Lane.hasStage, drives]
    refine diagRuns_diagStart (fun o => ?_) (fun o => (by cases o <;> rfl : _ = w.diagMet o).trans (met o))
      (fun o => (by cases o <;> rfl : _ = w.hasStage o).trans (fitted o)) now
    by_cases h : o = st
    · rw [if_pos h, h, own, stg]
    · rw [if_neg h, others o h, stg]
  · obtain ⟨os, rfl⟩ := reach
    exact regs
  · rw [start]
    obtain ⟨os, rfl⟩ := reach
    rfl

end Sys2Proof.Machine
end

section
/-!
O29. Off-state diagnostics, the external capacitance, the refresh of a bootstrap, and the short of an open set (R95, R250, R264 to R267).
-/
namespace Sys2Proof.Machine

/-- An event shown by a bit and counted changes that register and that counter alone. -/
theorem Lane.shownCounted_spec (x : Lane) (r : Rg.Reg) {i : Nat} (hi : i < 32) (o : O.Obj) {y : Lane} (hy : y = (x.setRbit r i true).inc o) :
    y.rbit r i = true ∧ CountedBy o 1 x y ∧ ObjsKept [o.key] x y ∧ RegsKept [r.addr] x y ∧
    ∃ os rs, y = { x with objs := os, regs := rs } := by
  subst hy
  exact ⟨x.rbit_setRbit r true hi, countedBy_inc (x.setRbit r i true) o, objsKept_inc (by simp) (x.setRbit r i true),
    regsKept_setRbit (by simp) x i true, _, _, rfl⟩

/-- A bootstrap warning forces the refresh of the leg in its next period, is shown and is counted (R250). -/
theorem Lane.bootWarned_spec (x : Lane) (n : Fin 8) (leg : Leg) {y : Lane}
    (hy : y = ((x.updStg (.brake n) fun g => { g with forced := g.forced.set (legIx leg) true }).setRbit Rg.gdStat 18 true).inc
      (O.bgBootWarns n.val)) :
    y.stg (.brake n) = { x.stg (.brake n) with forced := (x.stg (.brake n)).forced.set (legIx leg) true } ∧ y.rbit Rg.gdStat 18 = true ∧
    CountedBy (O.bgBootWarns n.val) 1 x y ∧ (∀ o, o ≠ .brake n → y.stg o = x.stg o) ∧ ObjsKept [(O.bgBootWarns n.val).key] x y ∧
    RegsKept [Rg.gdStat.addr] x y ∧ y = { x with objs := y.objs, regs := y.regs, brakes := y.brakes } := by
  have own := x.stg_updStg (.brake n) fun g => { g with forced := g.forced.set (legIx leg) true }
  have others := fun o ho => x.stg_updStg_of_ne (.brake n) o (fun g => { g with forced := g.forced.set (legIx leg) true }) ho
  obtain ⟨bs, reach⟩ : ∃ bs, (x.updStg (.brake n) fun g => { g with forced := g.forced.set (legIx leg) true }) = { x with brakes := bs } :=
    ⟨_, rfl⟩
  rw [reach] at hy own others
  obtain ⟨shown, counted, objs, regs, os, rs, e⟩ := Lane.shownCounted_spec _ Rg.gdStat (by decide) _ hy
  have stg : ∀ o, y.stg o = ({ x with brakes := bs } : Lane).stg o := fun o => by
    rw [e]
    cases o <;> rfl
  refine ⟨(stg _).trans own, shown, counted, fun o ho => (stg o).trans (others o ho), objs, regs, ?_⟩
  rw [e]

/-- The comparator leaves a set open whose soft turn-off still runs (R95, R259). -/
theorem Lane.chooseSafe_of_soft {x : Lane} (soft : x.steer.softRuns x.now = true) : x.chooseSafe = x := by
  rw [Lane.chooseSafe, Lane.raiseBit, if_neg (by simp [soft])]

theorem Lane.chooseSafe_of_above {x : Lane} (above : x.terminalsAbove = true) (ended : x.steer.softRuns x.now = false) :
    x.chooseSafe = x.setRbit Rg.gdStat 12 true := by
  rw [Lane.chooseSafe, Lane.raiseBit, if_pos (by simp [above, ended])]

section
variable {s : State} {l : LaneId} {t : Nat} {x : Lane} {st : Stage}

theorem exec_diagResultWrite_of_refused (h : Sees s l t x) {v : BitVec 16} (refused : v ≠ 0 ∨ x.obj O.lcStateObj ≠ 4 ∨ x.hasStage st = false) :
    exec (.diagResultWrite l st v t) s = .next (s.setLane l x) := by
  refine (onLaneAt_of_sees h _ : execDiagResultWrite l st v t s = _).trans ?_
  rw [if_neg fun c => ?_]
  simp only [Bool.and_eq_true, decide_eq_true_eq] at c
  obtain ⟨⟨zero, workshop⟩, fitted⟩ := c
  rcases refused with c | c | c
  · exact c zero
  · exact c workshop
  · simp [c] at fitted

theorem exec_diagResultWrite_of_zero (h : Sees s l t x) (workshop : x.obj O.lcStateObj = 4) (fitted : x.hasStage st = true) :
    exec (.diagResultWrite l st 0 t) s = .next (s.setLane l
      ((x.setObj (diagObj st) 0).updStg st fun g => { g with diag := .due, diagRun := false }).diagStart) := by
  refine (onLaneAt_of_sees h _ : execDiagResultWrite l st 0 t s = _).trans ?_
  rw [if_pos (by simp [workshop, fitted])]

theorem exec_bootstrapWarning (h : Sees s l t x) (n : Fin 8) (leg : Leg) : exec (.bootstrapWarning l n leg t) s = .next (s.setLane l
    (((x.updStg (.brake n) fun g => { g with forced := g.forced.set (legIx leg) true }).setRbit Rg.gdStat 18 true).inc
      (O.bgBootWarns n.val))) :=
  (onLaneAt_of_sees h _ : execBootstrapWarning l n leg t s = _)

end

/-- Settles O29: a run by whether its stage rests, whether its precondition is met and what it finds, the capacitance by whether the ramp and
the leg lie within their bounds, and the comparator by whether a soft turn-off runs. -/
theorem offStateDiagnosticsAndShort : Obligations.OffStateDiagnosticsAndShort := by
  refine ⟨fun s l t x h => ⟨⟨_, (onLaneAt_of_sees h _ : execDiagGo l t s = _), fun g hg => x.diagRuns_startDiag hg, ?_⟩,
    fun st nodes vPos => ⟨exec_offStateDiagnostics_of_resting h, fun off owes fitted unmet => ?_, fun off owes fitted met => ?_⟩,
    fun st v => ⟨exec_diagResultWrite_of_refused h, fun zero workshop fitted => ?_⟩, exec_cextGo_of_none h, fun dt runs first => ?_,
    fun runs first => ?_, fun n leg => ⟨_, exec_bootstrapWarning h n leg, x.bootWarned_spec n leg rfl⟩⟩,
    fun s l t x hx => ?_⟩
  · exact Lane.diagStart_of_stages x.allMadeDue_only
  · have run := exec_offStateDiagnostics (nodes := nodes) (vPos := vPos) h off owes fitted
    rw [if_pos unmet] at run
    obtain ⟨result, own, others, going, done, objs, regs, _, _, _, _, e⟩ := x.diagUnmet_spec st
    refine ⟨x.diagUnmet st, run, result, own, others, going, done, objs, regs, ?_⟩
    rw [e]
  · have run := exec_offStateDiagnostics (nodes := nodes) (vPos := vPos) h off owes fitted
    rw [if_neg (by simp [met])] at run
    obtain ⟨result, volts, ended, going, done⟩ := x.diagnosed_spec (nodes := nodes) (vPos := vPos) off
    refine ⟨x.diagnosed st nodes vPos, run, result, volts, ended, going, done, fun sound => ?_, fun ⟨i, hi, bad⟩ => ?_⟩
    · obtain ⟨own, others, objs, regs, _, _, _, _, e⟩ := x.diagnosed_of_sound (legsSound_iff.mpr sound)
      refine ⟨own, others, objs, regs, ?_⟩
      rw [e]
    · have failed : legsSound st nodes vPos = false := Bool.eq_false_iff.mpr fun c => bad (legsSound_iff.mp c i hi)
      cases st with
      | steer =>
        obtain ⟨diag, still, hv, withdrawn⟩ := x.diagnosed_of_steerFailed failed off
        exact ⟨diag, still, fun _ => ⟨hv, withdrawn⟩, fun n c => nomatch c⟩
      | brake n =>
        obtain ⟨diag, still, service, brk, others, regs, objs, _, _, _, _, e⟩ := x.diagnosed_of_brakeFailed rfl failed
        refine ⟨diag, still, (fun c => nomatch c), fun m c => ?_⟩
        cases c
        refine ⟨service, brk, others, regs, objs, ?_⟩
        rw [e]
  · subst zero
    exact ⟨_, exec_diagResultWrite_of_zero h workshop fitted, x.diagRepeated_spec st rfl⟩
  · have run := exec_cextGo h runs first (some dt)
    dsimp only at run
    by_cases fits : dt ≤ 1000000 ∧ 0 ≤ x.cextOf dt ∧ x.cextOf dt ≤ 10000
    · rw [if_pos fits] at run
      obtain ⟨legs, ramped, none, gate, _, _, e⟩ := x.cextNoted_spec (v := (x.cextOf dt).toNat) (by omega)
      refine ⟨_, x.cextOf dt, run, rfl, ramped, fun _ _ _ => ⟨legs, none, gate⟩, fun c => by omega, ?_⟩
      rw [e]
    · rw [if_neg fits] at run
      obtain ⟨ramped, failed, gate, regs, reach⟩ := x.cextFailed_spec true
      exact ⟨_, x.cextOf dt, run, rfl, ramped rfl, fun a b c => absurd ⟨a, b, c⟩ fits, fun _ => ⟨regs, failed, gate⟩, reach⟩
  · obtain ⟨_, failed, gate, regs, reach⟩ := x.cextFailed_spec false
    exact ⟨_, exec_cextGo h runs first none, failed, gate, regs, reach⟩
  · obtain ⟨y, hy⟩ : ∃ y : Lane, y = { x with gate := { x.gate with emfHigh := true, emfAt := x.now, emfLowSince := none } } := ⟨_, rfl⟩
    have seen := exec_backEmfAboveLink s l t hx hy
    have steer : y.steer = x.steer := by rw [hy]
    have now : y.now = x.now := by rw [hy]
    have above : y.terminalsAbove = true := by
      rw [hy]
      simp [Lane.terminalsAbove]
    rw [← hy, seen]
    refine ⟨fun stays => ?_, fun off ended => ?_⟩
    · split
      next => rfl
      next off => rw [Lane.chooseSafe_of_soft (by rw [steer, now]; exact stays.resolve_left off)]
    · rw [if_neg (by simp [off]), Lane.chooseSafe_of_above above (by rw [steer, now, ended])]

end Sys2Proof.Machine
end

section
/-!
O3. The words of E1 (R131): each field of a word as the operand that it stands for, and the two directions between words and instructions.
-/
namespace Sys2Proof

/-! An operand read from a word is the number in its field. -/

theorem wbyte_eq_iff {w lo : Nat} {b : BitVec 8} : wbyte w lo = b ↔ wfield w lo 8 = b.toNat := by
  rw [← BitVec.toNat_inj, wbyte, BitVec.toNat_ofNat, wfield]

theorem wbit_eq_iff {w i : Nat} {b : Bool} : wbit w i = b ↔ wfield w i 1 = bitN b := by
  have below : wfield w i 1 < 2 := Nat.mod_lt _ (by decide)
  rw [wbit]
  cases b with
  | true => simp [bitN]
  | false =>
    simp only [bitN, decide_eq_false_iff_not, Bool.false_eq_true, if_false]
    omega

theorem wbit_eq_false_iff {w i : Nat} : wbit w i = false ↔ wfield w i 1 = 0 := wbit_eq_iff

theorem bitN_wbit (w i : Nat) : bitN (wbit w i) = wfield w i 1 := (wbit_eq_iff.mp rfl).symm

theorem toNat_wbyte (w lo : Nat) : (wbyte w lo).toNat = wfield w lo 8 := (wbyte_eq_iff.mp rfl).symm

/-- The number of a bit with its bound, as arithmetic needs it. -/
def bitFin (b : Bool) : Fin 2 := ⟨bitN b, by cases b <;> decide⟩

theorem bitN_eq_bitFin (b : Bool) : bitN b = (bitFin b).val := rfl

theorem bitFin_false : (bitFin false).val = 0 := rfl

/-- A word that the decoder accepts stands for an admitted instruction, and its fields make up the word again. -/
theorem encodeE1_of_decodeE1 {w : Nat} {i : E1Ins} (h : decodeE1 w = some i) : i.wf = true ∧ encodeE1 i = w := by
  unfold decodeE1 at h
  split at h
  · cases h
  next small =>
    dsimp only at h
    split at h <;> try split_ifs at h with fields
    all_goals cases h
    all_goals
      refine ⟨by simp_all [E1Ins.wf, or_assoc], ?_⟩
      simp only [encodeE1, bitN_wbit, toNat_wbyte, wbit_eq_false_iff, wlen, wmode, wfield] at *
      omega

/-- The opcode of an instruction (R131). -/
def E1Ins.opcode : E1Ins → Nat
  | .endI => 0
  | .mvm .. => 1
  | .vadd .. => 2
  | .vsub .. => 3
  | .sat .. => 4
  | .lim .. => 5
  | .sel .. => 6
  | .ld .. => 7
  | .st .. => 8
  | .ldc .. => 9
  | .tube .. => 10
  | .prep .. => 11
  | .commit .. => 12
  | .post .. => 13

theorem encodeE1_opcode (i : E1Ins) : encodeE1 i / 2 ^ 26 = i.opcode := by
  cases i <;> simp only [encodeE1, bitN_eq_bitFin, E1Ins.opcode] <;> omega

theorem encodeE1_lt (i : E1Ins) : encodeE1 i < 2 ^ 32 := by
  have op := encodeE1_opcode i
  cases i <;> simp only [E1Ins.opcode] at op <;> omega

/-- The decoder reads an admitted instruction back from its word: the opcode leads to its case, the reserved fields are 0, and each operand
lies in its field. -/
theorem decodeE1_encodeE1 {i : E1Ins} (h : i.wf = true) : decodeE1 (encodeE1 i) = some i := by
  have op := encodeE1_opcode i
  have small := Nat.not_le.mpr (encodeE1_lt i)
  generalize hw : encodeE1 i = w at op small ⊢
  rw [decodeE1, if_neg small, op]
  cases i
  all_goals simp only [encodeE1, bitN_eq_bitFin] at hw
  case endI => exact if_pos (by rw [← hw]; rfl)
  case mvm | sel =>
    simp only [E1Ins.opcode, Option.some.injEq, E1Ins.mvm.injEq, E1Ins.sel.injEq, wbit_eq_iff, wbyte_eq_iff, wlen, Fin.ext_iff,
      wfield, bitN_eq_bitFin]
    omega
  all_goals
    simp only [E1Ins.wf, Bool.or_eq_true, Bool.and_eq_true, decide_eq_true_eq, ne_eq, Fin.ext_iff] at h
    refine (if_pos ?_).trans ?_
    all_goals
      simp only [Option.some.injEq, E1Ins.vadd.injEq, E1Ins.vsub.injEq, E1Ins.sat.injEq, E1Ins.lim.injEq, E1Ins.ld.injEq, E1Ins.st.injEq,
        E1Ins.ldc.injEq, E1Ins.tube.injEq, E1Ins.prep.injEq, E1Ins.commit.injEq, E1Ins.post.injEq, wbit_eq_iff,
        wbyte_eq_iff, wlen, wmode, Fin.ext_iff, ne_eq, wfield, bitN_eq_bitFin, bitFin_false]
      omega

/-- Settles O3: the two directions, each along the opcodes of R131. -/
theorem e1WordsAndInstructionsCorrespond : Obligations.E1WordsAndInstructionsCorrespond := by
  unfold Obligations.E1WordsAndInstructionsCorrespond
  exact ⟨fun i h => ⟨encodeE1_lt i, decodeE1_encodeE1 h⟩, fun _ _ => encodeE1_of_decodeE1⟩

end Sys2Proof
end

section
/-!
SUPPORT. One instruction of the loop whose entry is open (R131, R132): the cycles that it takes, and the forms in which it reaches the lane, in the
loop's window with or without a count.
-/
namespace Sys2Proof.Machine

/-- A loop after `c` cycles (R132). -/
def LoopSt.spend (p : LoopSt) (c : Nat) : LoopSt := { p with cyc := p.cyc + c, cycEntry := p.cycEntry + c }

@[simp] theorem LoopSt.rd_spend (p : LoopSt) (c a : Nat) : (p.spend c).rd a = p.rd a := rfl
@[simp] theorem LoopSt.rdI_spend (p : LoopSt) (c a : Nat) : (p.spend c).rdI a = p.rdI a := rfl
@[simp] theorem LoopSt.vecI_spend (p : LoopSt) (c a n : Nat) : (p.spend c).vecI a n = p.vecI a n := rfl
@[simp] theorem LoopSt.vec_spend (p : LoopSt) (c a n : Nat) : (p.spend c).vec a n = p.vec a n := rfl

/-- A lane after the cycles of an instruction of loop `k`. -/
def Lane.spent (x : Lane) (k : Fin 9) (i : E1Ins) : Lane := x.updLoop k fun p => p.spend (x.insCost k i)

@[simp] theorem Lane.loop_spent (x : Lane) (k : Fin 9) (i : E1Ins) : (x.spent k i).loop k = (x.loop k).spend (x.insCost k i) :=
  x.loop_updLoop k _

/-- The instruction of the open entry: its cycles, then its operation. -/
theorem Lane.e1_of_cur {x : Lane} {k : Fin 9} (h : x.mx.cur = some k) (i : E1Ins) : x.e1 i = (x.spent k i).e1op k i := by
  rw [Lane.e1, h]
  rfl

/-! A lane that changes in one loop and in objects. -/

theorem LoopOnly.trans {k : Fin 9} {x y z : Lane} (h : LoopOnly k x y) (g : LoopOnly k y z) : LoopOnly k x z := by
  obtain ⟨ey, hy⟩ := h
  obtain ⟨ez, hz⟩ := g
  exact ⟨by rw [ez, ey], fun j hj => (hz j hj).trans (hy j hj)⟩

theorem loopOnly_updLoop (k : Fin 9) (x : Lane) (f : LoopSt → LoopSt) : LoopOnly k x (x.updLoop k f) :=
  ⟨rfl, fun j hj => x.loop_updLoop_of_ne k j f hj⟩

theorem loopOnly_incBy (k : Fin 9) (x : Lane) (o : O.Obj) (n : Nat) : LoopOnly k x (x.incBy o n) :=
  ⟨by rw [Lane.incBy_only], fun j _ => by rw [Lane.loop, Lane.incBy_mx, Lane.loop]⟩

theorem objsKept_incBy (x : Lane) (o : O.Obj) (n : Nat) : ObjsKept [o.key] x (x.incBy o n) :=
  fun p hp => x.incBy_obj_ne o p n (by simpa using hp)

theorem countedBy_incBy (x : Lane) (o : O.Obj) (n : Nat) : CountedBy o n x (x.incBy o n) := x.incBy_obj o n

@[simp] theorem Lane.loop_incBy (x : Lane) (o : O.Obj) (n : Nat) (k : Fin 9) : (x.incBy o n).loop k = x.loop k := by
  rw [Lane.loop, Lane.incBy_mx, Lane.loop]

/-- The loop `k` of `x` after `c` cycles and `f`, with `n` more counts in `o`: the shape of the operations of R126. -/
def Lane.loopStep (x : Lane) (k : Fin 9) (i : E1Ins) (o : O.Obj) (n : Nat) (f : LoopSt → LoopSt) : Lane :=
  ((x.spent k i).incBy o n).updLoop k f

section
variable (x : Lane) (k : Fin 9) (i : E1Ins) (o : O.Obj) (n : Nat) (f : LoopSt → LoopSt)

theorem Lane.loopStep_only : LoopOnly k x (x.loopStep k i o n f) :=
  (loopOnly_updLoop k x _).trans ((loopOnly_incBy k _ o n).trans (loopOnly_updLoop k _ f))

@[simp] theorem Lane.loop_loopStep : (x.loopStep k i o n f).loop k = f ((x.loop k).spend (x.insCost k i)) := by
  rw [Lane.loopStep, Lane.loop_updLoop, Lane.loop_incBy, Lane.loop_spent]

theorem Lane.loopStep_objsKept : ObjsKept [o.key] x (x.loopStep k i o n f) := objsKept_incBy (x.spent k i) o n

theorem Lane.loopStep_countedBy : CountedBy o n x (x.loopStep k i o n f) := countedBy_incBy (x.spent k i) o n

end

/-- Words written from an address up by a step of a loop. -/
theorem Lane.wroteWords_loopStep {x : Lane} {k : Fin 9} {i : E1Ins} {o : O.Obj} {n a m : Nat} {f : LoopSt → LoopSt} {w g : Nat → Nat}
    (writes : ∀ c, f ((x.loop k).spend c) = ((x.loop k).spend c).wrAll a ((List.range m).map w)) (words : ∀ j < m, w j % 2 ^ 32 = g j) :
    WroteWords (x.loop k) ((x.loopStep k i o n f).loop k) a m g := by
  rw [Lane.loop_loopStep, writes]
  exact wroteWords_wrAll ((x.loop k).spend _) a m g _ (by simp) fun j h => by simpa using words j (by simpa using h)

/-- An operation that writes words and counts nothing. -/
theorem Lane.wordStep_spec {x y : Lane} {k : Fin 9} {i : E1Ins} {a m : Nat} {f : LoopSt → LoopSt} {w g : Nat → Nat}
    (hy : y = (x.spent k i).updLoop k f)
    (writes : ∀ c, f ((x.loop k).spend c) = ((x.loop k).spend c).wrAll a ((List.range m).map w)) (words : ∀ j < m, w j % 2 ^ 32 = g j) :
    LoopOnly k x y ∧ y.objs = x.objs ∧ WroteWords (x.loop k) (y.loop k) a m g := by
  subst hy
  exact ⟨x.loopStep_only k i (O.satEvents k) 0 f, rfl, Lane.wroteWords_loopStep (o := O.satEvents k) (n := 0) writes words⟩

/-- A command that is an instruction of the open entry. -/
theorem onLane_e1 {s : State} {l : LaneId} {x : Lane} {k : Fin 9} (h : Has s l x) (cur : x.mx.cur = some k) (i : E1Ins) :
    onLane l s (fun x => x.e1 i) = .next (s.setLane l ((x.spent k i).e1op k i)) := by
  rw [onLane_of_has h, Lane.e1_of_cur cur]

end Sys2Proof.Machine
end

section
/-!
O8. VADD and VSUB (R126, R131).
-/
namespace Sys2Proof.Machine

theorem Lane.e1op_vecOp (x : Lane) (k : Fin 9) (i : E1Ins) (wrap : Bool) (op : Int → Int → Int) (n src dst : Nat) (f : Nat → Int)
    (hf : ∀ j, f j = op ((x.loop k).rdI (dst + j)) ((x.loop k).rdI (src + j))) :
    (x.spent k i).vecOp k wrap op n src dst = x.loopStep k i (O.satEvents k)
      (if wrap then 0 else ((List.range n).filter fun j => satI 32 (f j) ≠ f j).length)
      fun p => p.wrAll dst ((List.range n).map fun j => ofI 32 (if wrap then f j else satI 32 (f j))) := by
  obtain rfl : f = fun j => op ((x.loop k).rdI (dst + j)) ((x.loop k).rdI (src + j)) := funext hf
  simp only [Lane.vecOp, Lane.loop_spent, LoopSt.rdI_spend, Lane.loopStep, Lane.countSats, List.filter_map, List.length_map, List.map_map]
  rfl

/-- What VADD and VSUB do, with the operation open (R126). -/
theorem Lane.vecOp_spec (x : Lane) (k : Fin 9) (i : E1Ins) (wrap : Bool) (op : Int → Int → Int) (n src dst : Nat) (f : Nat → Int)
    (hf : ∀ j, f j = op ((x.loop k).rdI (dst + j)) ((x.loop k).rdI (src + j))) {y : Lane} (hy : y = (x.spent k i).vecOp k wrap op n src dst) :
    LoopOnly k x y ∧ WroteWords (x.loop k) (y.loop k) dst n (fun j => ofI 32 (if wrap then f j else satI 32 (f j))) ∧
      ObjsKept [(O.satEvents k).key] x y ∧
      CountedBy (O.satEvents k) (if wrap then 0 else ((List.range n).filter fun j => satI 32 (f j) ≠ f j).length) x y := by
  rw [hy, x.e1op_vecOp k i wrap op n src dst f hf]
  exact ⟨x.loopStep_only .., Lane.wroteWords_loopStep (fun _ => rfl) fun j _ => ofI_mod _, Lane.loopStep_objsKept x k i _ _ _,
    Lane.loopStep_countedBy x k i _ _ _⟩

/-- Settles O8: the elements' sums or differences as one step of the loop with its count, and the words of a copy. -/
theorem vectorSumsSaturateOrWrap : Obligations.VectorSumsSaturateOrWrap := by
  unfold Obligations.VectorSumsSaturateOrWrap
  intro s l x k len src dst has cur
  refine ⟨fun wrap f hf => ?_, fun wrap f hf => ?_, fun wrap small => ?_⟩
  · exact ⟨_, onLane_e1 has cur (.vadd wrap false len src dst), x.vecOp_spec k _ wrap _ _ _ _ f hf rfl⟩
  · exact ⟨_, onLane_e1 has cur (.vsub wrap len src dst), x.vecOp_spec k _ wrap _ _ _ _ f hf rfl⟩
  · exact ⟨_, onLane_e1 has cur (.vadd wrap true len src dst), Lane.wordStep_spec (f := fun p => p.wrAll dst.toNat (p.vec src.toNat (len.val + 1)))
      rfl (fun _ => rfl) fun j _ => Nat.mod_eq_of_lt (small _)⟩

end Sys2Proof.Machine
end

section
/-!
O9. SAT, LIM and SEL (R124, R126, R131).
-/
namespace Sys2Proof.Machine

theorem map_range_nth {vs : List Nat} {n : Nat} (length : vs.length = n) : (List.range n).map (nth vs) = vs := by
  subst length
  exact List.ext_getElem (by simp) fun j _ h => by simp [nth, h]

theorem length_circleLim (a b c : Int) : (circleLim a b c).length = 2 := by
  unfold circleLim
  dsimp only
  split_ifs <;> rfl

theorem length_priorityLim (a b c : Int) : (priorityLim a b c).length = 2 := by
  unfold priorityLim
  split_ifs <;> rfl

theorem clampI_mod (a lo hi : Int) : clampI a lo hi % 2 ^ 32 = clampI a lo hi := by
  unfold clampI
  split_ifs
  · exact Nat.mod_mod _ _
  · exact ofI_mod _

theorem Lane.satVec_eq_loopStep (x : Lane) (k : Fin 9) (i : E1Ins) (n sh dst : Nat) (f : Nat → Int)
    (hf : ∀ j, f j = max (-(2 ^ (31 - sh))) (min (2 ^ (31 - sh) - 1) ((x.loop k).rdI (dst + j)))) :
    (x.spent k i).satVec k n sh dst = x.loopStep k i (O.satEvents k)
      ((List.range n).filter fun j => (x.loop k).rdI (dst + j) ≠ f j).length
      fun p => p.wrAll dst ((List.range n).map fun j => ofI 32 (f j)) := by
  obtain rfl : f = _ := funext hf
  simp only [Lane.satVec, Lane.loop_spent, LoopSt.vecI, Lane.loopStep, Lane.countSats, List.filter_map, List.length_map,
    List.map_map]
  rfl

/-! The words that LIM writes, mode by mode (R131). -/

theorem Lane.limVec_each (x : Lane) (k : Fin 9) (n bnd dst : Nat) : x.limVec k 0 n bnd dst = x.updLoop k fun p =>
    p.wrAll dst ((List.range n).map fun j => clampI (p.rdI (dst + j)) (p.rdI (bnd + j)) (p.rdI (bnd + n + j))) := rfl

theorem Lane.limVec_circle (x : Lane) (k : Fin 9) (n bnd dst : Nat) : x.limVec k 1 n bnd dst = x.updLoop k fun p =>
    p.wrAll dst (circleLim (p.rdI dst) (p.rdI (dst + 1)) (p.rdI bnd)) := rfl

theorem Lane.limVec_priority (x : Lane) (k : Fin 9) (n bnd dst : Nat) : x.limVec k 2 n bnd dst = x.updLoop k fun p =>
    p.wrAll dst (priorityLim (p.rdI dst) (p.rdI (dst + 1)) (p.rdI bnd)) := rfl

/-- SEL with the polarity asked for, and without. -/
theorem Lane.selVec_spec (x : Lane) (k : Fin 9) (i : E1Ins) (bit : Nat) (pol : Bool) (n src dst : Nat) {y : Lane}
    (hy : y = (x.spent k i).selVec k bit pol n src dst) :
    LoopOnly k x y ∧ y.objs = x.objs ∧ WroteWords (x.loop k) (y.loop k) dst n
      (fun j => if bitOf (x.loop k).cr bit = pol then (x.loop k).rd (src + j) % 2 ^ 32 else (x.loop k).rd (dst + j)) := by
  by_cases polar : bitOf (x.loop k).cr bit = pol
  · refine Lane.wordStep_spec hy (w := fun j => (x.loop k).rd (src + j)) (fun c => if_pos polar) fun j _ => ?_
    rw [if_pos polar]
  · subst hy
    refine ⟨x.loopStep_only k i (O.satEvents k) 0 _, rfl, ?_⟩
    have stays : (((x.spent k i).selVec k bit pol n src dst).loop k) = (x.loop k).spend (x.insCost k i) := by
      rw [Lane.selVec, Lane.loop_updLoop, Lane.loop_spent]
      exact if_neg polar
    rw [stays]
    exact ⟨fun j _ => by simp [polar], fun _ _ => rfl⟩

/-- Settles O9: SAT as one step of the loop with its count, each mode of LIM by the words that it writes, and SEL by its polarity. -/
theorem limitsAndSelectionWriteTheirWords : Obligations.LimitsAndSelectionWriteTheirWords := by
  unfold Obligations.LimitsAndSelectionWriteTheirWords
  intro s l x k len src dst has cur
  refine ⟨fun sh f hf => ⟨_, onLane_e1 has cur (.sat len sh dst), ?_⟩, ⟨_, onLane_e1 has cur (.lim 0 len src dst), ?_⟩,
    ⟨_, onLane_e1 has cur (.lim 1 1 src dst), ?_⟩, ⟨_, onLane_e1 has cur (.lim 2 1 src dst), ?_⟩,
    fun bit pol => ⟨_, onLane_e1 has cur (.sel bit pol len src dst), x.selVec_spec k _ _ _ _ _ _ rfl⟩⟩
  · have step := x.satVec_eq_loopStep k (.sat len sh dst) (len.val + 1) sh.val dst.toNat f hf
    rw [Lane.e1op, step]
    exact ⟨x.loopStep_only .., Lane.wroteWords_loopStep (fun _ => rfl) fun j _ => ofI_mod _, Lane.loopStep_objsKept x k _ _ _ _,
      Lane.loopStep_countedBy x k _ _ _ _⟩
  · exact Lane.wordStep_spec (Lane.limVec_each _ k _ _ _) (fun _ => rfl) fun j _ => clampI_mod _ _ _
  · exact Lane.wordStep_spec (Lane.limVec_circle _ k 2 _ _)
      (fun _ => congrArg (LoopSt.wrAll _ _) (map_range_nth (length_circleLim _ _ _)).symm) fun j _ => rfl
  · exact Lane.wordStep_spec (Lane.limVec_priority _ k 2 _ _)
      (fun _ => congrArg (LoopSt.wrAll _ _) (map_range_nth (length_priorityLim _ _ _)).symm) fun j _ => rfl

end Sys2Proof.Machine
end

section
/-!
O11. MVM (R124, R125, R131).
-/
namespace Sys2Proof.Machine

/-- The words of the rows of a product, rounded (R125). -/
def rowWord (row : Nat → Int × Nat) (i : Nat) : Nat := ofI 32 (satI 32 (roundDiv (row i).1 (2 ^ 17)))

theorem Lane.mvm_eq_loopStep (x : Lane) (k : Fin 9) (i : E1Ins) (acc wb : Bool) (mat src dst : Nat) {d : MatDesc} {row : Nat → Int × Nat}
    (hd : d = matDesc x.activeBank k mat)
    (hrow : ∀ j, row j = mvmRow x.activeBank k (x.blockOf k) d ((x.loop k).vecI src d.cols) (if acc then (x.loop k).acc.getD j 0 else 0) j) :
    ∃ sats, (x.spent k i).mvm k acc wb mat src dst = x.loopStep k i (O.satEvents k) sats fun p =>
      if wb then { p.wrAll dst ((List.range d.rows).map (rowWord row)) with acc := [] }
      else { p with acc := (List.range d.rows).map fun j => (row j).1 } := by
  subst hd
  obtain rfl : row = _ := funext hrow
  cases wb
  all_goals
    simp only [Lane.mvm, Lane.loop_spent, List.map_map, Lane.countSats]
    exact ⟨_, rfl⟩

/-- Settles O11: the product is one step of the loop, which writes its rows or leaves them in the accumulator. -/
theorem matrixProductFillsRows : Obligations.MatrixProductFillsRows := by
  unfold Obligations.MatrixProductFillsRows
  intro s l x k acc mat src dst d row has cur hd hrow
  refine ⟨⟨_, onLane_e1 has cur (.mvm acc true mat src dst), ?_⟩, ⟨_, onLane_e1 has cur (.mvm acc false mat src dst), ?_⟩⟩
  · obtain ⟨sats, e⟩ := x.mvm_eq_loopStep k (.mvm acc true mat src dst) acc true mat.toNat src.toNat dst.toNat hd hrow
    rw [Lane.e1op, e]
    refine ⟨x.loopStep_only .., Lane.loopStep_objsKept x k _ _ _ _, by rw [Lane.loop_loopStep]; rfl, ?_⟩
    rw [Lane.loop_loopStep]
    exact wroteWords_wrAll ((x.loop k).spend _) _ _ _ ((List.range d.rows).map (rowWord row)) (by simp)
      fun j _ => by simpa [rowWord] using ofI_mod _
  · obtain ⟨sats, e⟩ := x.mvm_eq_loopStep k (.mvm acc false mat src dst) acc false mat.toNat src.toNat dst.toNat hd hrow
    rw [Lane.e1op, e]
    refine ⟨x.loopStep_only .., Lane.loopStep_objsKept x k _ _ _ _, ?_, fun b => ?_⟩
    all_goals
      rw [Lane.loop_loopStep]
      rfl

end Sys2Proof.Machine
end

section
/-!
SUPPORT. Posts (R109, R130, R209): what a run of posts from a slot up leaves in the post slots, in the exchange frame and of the rest of a loop.
-/
namespace Sys2Proof.Machine

theorem mem_insertAsc (a b : Nat) (ns : List Nat) : a ∈ insertAsc b ns ↔ a = b ∨ a ∈ ns := by
  induction ns with
  | nil => simp [insertAsc]
  | cons n ns ih =>
    unfold insertAsc
    split_ifs with below same
    · simp
    · subst same
      simp
    · simp only [List.mem_cons, ih]
      tauto

/-- Slots after a store to one of them, a reserved slot of loop `k` excepted (R209). -/
def putPost (k : Fin 9) (m : List (Nat × Nat)) (slot w : Nat) : List (Nat × Nat) := if postSlotOk k slot then kvSet 0 m slot w else m

/-- Slots after `n` stores from slot `ps` up. -/
def putPosts (k : Fin 9) (m : List (Nat × Nat)) (ps : Nat) (v : Nat → Nat) (n : Nat) : List (Nat × Nat) :=
  (List.range n).foldl (fun m i => putPost k m (ps + i) (v i)) m

/-- A loop after `n` posts from slot `ps` up (R130). -/
def LoopSt.postFrom (k : Fin 9) (ok : Bool) (p : LoopSt) (ps : Nat) (v : Nat → Nat) (n : Nat) : LoopSt :=
  (List.range n).foldl (fun q i => q.post k ok (ps + i) (v i)) p

section
variable (k : Fin 9) (ok : Bool) (p : LoopSt) (m : List (Nat × Nat)) (ps : Nat) (v : Nat → Nat) (n : Nat)

/-! One post. -/

theorem kvGet_putPost (slot w b : Nat) :
    kvGet 0 (putPost k m slot w) b = if b = slot ∧ postSlotOk k b = true then w else kvGet 0 m b := by
  unfold putPost
  by_cases same : b = slot
  · subst same
    by_cases may : postSlotOk k b = true <;> simp [may, kvGet_kvSet_same]
  · simp only [same, false_and, if_false]
    split_ifs
    · exact kvGet_kvSet_of_ne 0 0 m w same
    · rfl

/-- A post changes its slot, and where it is in time the slot's value in the exchange frame. -/
theorem LoopSt.post_eq (slot w : Nat) : p.post k ok slot w = { p with
    posts := putPost k p.posts slot w, postsF := if ok then putPost k p.postsF slot w else p.postsF,
    postedBy := if ok && postSlotOk k slot then insertAsc slot p.postedBy else p.postedBy } := by
  unfold LoopSt.post putPost
  by_cases may : postSlotOk k slot = true <;> cases ok <;> simp [may]

/-! Posts from a slot up. -/

theorem putPosts_succ : putPosts k m ps v (n + 1) = putPost k (putPosts k m ps v n) (ps + n) (v n) := by
  simp [putPosts, List.range_succ]

theorem LoopSt.postFrom_succ : p.postFrom k ok ps v (n + 1) = (p.postFrom k ok ps v n).post k ok (ps + n) (v n) := by
  simp [LoopSt.postFrom, List.range_succ]

theorem kvGet_putPosts (b : Nat) : kvGet 0 (putPosts k m ps v n) b
    = if ps ≤ b ∧ b < ps + n ∧ postSlotOk k b = true then v (b - ps) else kvGet 0 m b := by
  induction n with
  | zero =>
    rw [if_neg (by omega)]
    rfl
  | succ n ih =>
    rw [putPosts_succ, kvGet_putPost, ih]
    by_cases last : b = ps + n
    · subst last
      simp
    · have bounds : b < ps + (n + 1) ↔ b < ps + n := by omega
      simp [last, bounds]

/-- Posts change the slots posted to, and where they are in time the exchange frame. -/
theorem LoopSt.postFrom_eq : ∃ ms fs bs, p.postFrom k ok ps v n = { p with posts := ms, postsF := fs, postedBy := bs } ∧
    ms = putPosts k p.posts ps v n ∧ fs = (if ok then putPosts k p.postsF ps v n else p.postsF) ∧ (ok = false → bs = p.postedBy) ∧
    (ok = true → ∀ b, ps ≤ b → b < ps + n → postSlotOk k b = true → b ∈ bs) := by
  induction n with
  | zero => exact ⟨_, _, _, rfl, rfl, by cases ok <;> rfl, fun _ => rfl, fun _ b _ _ => by omega⟩
  | succ n ih =>
    obtain ⟨ms, fs, bs, e, hms, hfs, late, inTime⟩ := ih
    rw [LoopSt.postFrom_succ, e, LoopSt.post_eq]
    refine ⟨_, _, _, rfl, ?_, ?_, fun no => ?_, fun yes b low high may => ?_⟩
    · rw [putPosts_succ, hms]
    · rw [putPosts_succ, hfs]
      cases ok <;> rfl
    · simp [no, late no]
    · by_cases last : b = ps + n
      · subst last
        simp [yes, may, mem_insertAsc]
      · have before := inTime yes b low (by omega) may
        dsimp only
        split_ifs
        · exact (mem_insertAsc _ _ _).mpr (.inr before)
        · exact before

end

end Sys2Proof.Machine
end

section
/-!
O10. LD, LDC, ST and POST (R127, R129 to R131, R134).
-/
namespace Sys2Proof.Machine

theorem codeI_mod (z : Int) : codeI 32 z % 2 ^ 32 = codeI 32 z := ofI_mod _

/-! The words that LD takes, mode by mode (R131). -/

theorem Lane.ldVec_fraction (x : Lane) (k : Fin 9) (n slot dst : Nat) : x.ldVec k 0 n slot dst = x.updLoop k fun p =>
    p.wrAll dst ((List.range n).map fun i => ofI 32 (toI 16 (kvGet 0 p.seen (slot + i)) * 65536)) := rfl

theorem Lane.ldVec_angle (x : Lane) (k : Fin 9) (n slot dst : Nat) : x.ldVec k 1 n slot dst = x.updLoop k fun p =>
    p.wrAll dst ((List.range n).map fun i => kvGet 0 p.seen (slot + i) * 32768) := rfl

theorem Lane.ldVec_dq (x : Lane) (k : Fin 9) (n slot dst : Nat) : x.ldVec k 2 n slot dst = x.updLoop k fun p =>
    p.wrAll dst ((List.range 2).map fun i => codeI 32 (roundRat (65536 *
      if i = 0 then (toDq ((List.range 3).map fun i => toI 16 (kvGet 0 p.seen (slot + i))) (turnOf p.ar)).1
      else (toDq ((List.range 3).map fun i => toI 16 (kvGet 0 p.seen (slot + i))) (turnOf p.ar)).2))) := rfl

/-- ST as posts from a slot up (R130). -/
theorem Lane.stVec_eq_postFrom (x : Lane) (k : Fin 9) (n src ps : Nat) : x.stVec k n src ps = x.updLoop k fun p =>
    p.postFrom k (p.postInTime x.smp.reloadAt) ps (fun i => toQ15 (p.rdI (src + i))) n := rfl

/-- What ST leaves (R109, R130, R209). -/
theorem Lane.stVec_spec (x : Lane) (k : Fin 9) (i : E1Ins) (n src ps : Nat) {y : Lane} (hy : y = (x.spent k i).stVec k (n + 1) src ps) :
    LoopOnly k x y ∧ y.objs = x.objs ∧ (y.loop k).cyc = (x.loop k).cyc + x.insCost k i ∧
      (∀ j ≤ n, postSlotOk k (ps + j) = true → (y.loop k).postInTime x.smp.reloadAt = true →
        kvGet 0 (y.loop k).postsF (ps + j) = toQ15 ((x.loop k).rdI (src + j)) ∧ ps + j ∈ (y.loop k).postedBy) ∧
      ((y.loop k).postInTime x.smp.reloadAt = false →
        (y.loop k).postsF = (x.loop k).postsF ∧ (y.loop k).postedBy = (x.loop k).postedBy) ∧
      (∀ j ≤ n, kvGet 0 (y.loop k).posts (ps + j)
        = if postSlotOk k (ps + j) then toQ15 ((x.loop k).rdI (src + j)) else kvGet 0 (x.loop k).posts (ps + j)) ∧
      (∀ b, b < ps ∨ ps + n < b → kvGet 0 (y.loop k).posts b = kvGet 0 (x.loop k).posts b) ∧
      ∀ b, (y.loop k).rd b = (x.loop k).rd b := by
  have only : LoopOnly k x y := hy ▸ x.loopStep_only k i (O.satEvents k) 0 _
  have objs : y.objs = x.objs := by rw [hy]; rfl
  have own : y.loop k = ((x.loop k).spend (x.insCost k i)).postFrom k (((x.loop k).spend (x.insCost k i)).postInTime x.smp.reloadAt) ps
      (fun j => toQ15 ((x.loop k).rdI (src + j))) (n + 1) := by
    rw [hy, Lane.stVec_eq_postFrom, Lane.loop_updLoop, Lane.loop_spent]
    rfl
  obtain ⟨ms, fs, bs, e, hms, hfs, late, inTime⟩ := LoopSt.postFrom_eq k _ ((x.loop k).spend (x.insCost k i)) ps _ (n + 1)
  rw [own, e]
  refine ⟨only, objs, rfl, fun j hj may ok => ⟨?_, ?_⟩, fun no => ⟨?_, late no⟩, fun j hj => ?_, fun b out => ?_, fun b => rfl⟩
  · dsimp only
    rw [hfs, if_pos (by exact ok), kvGet_putPosts, if_pos ⟨by omega, by omega, may⟩, Nat.add_sub_cancel_left]
  · exact inTime ok _ (by omega) (by omega) may
  · exact hfs.trans (if_neg (by exact Bool.eq_false_iff.mp no))
  · dsimp only
    rw [hms, kvGet_putPosts, Nat.add_sub_cancel_left]
    exact if_congr ⟨fun h => h.2.2, fun h => ⟨by omega, by omega, h⟩⟩ rfl rfl
  · dsimp only
    rw [hms, kvGet_putPosts, if_neg (by omega)]
    rfl

/-! POST (R134). -/

section
variable (x : Lane) (k : Fin 9) (i : E1Ins) {eng : Fin 8} (src : Nat)

/-- A post to a full mailbox, or behind a word that is held for it, is dropped and counted. -/
theorem Lane.postWord_of_full (other : eng ≠ 1) (full : x.mbxFull 1 eng = true ∨ ∃ w ∈ x.eng.held, w.1 = 1 ∧ w.2.1 = eng.val) :
    (x.spent k i).postWord k eng src = (x.spent k i).inc (O.postDrops k) := by
  have engine : eng.val ≠ 1 := fun e => other (Fin.ext e)
  have barred : (x.mbxFull 1 eng || x.eng.held.any fun w => w.1 = 1 && w.2.1 = eng.val) = true := by
    simpa [List.any_eq_true] using full
  rw [Lane.postWord, if_neg engine]
  exact if_pos barred

theorem Lane.postWord_of_free (other : eng ≠ 1) (free : x.mbxFull 1 eng = false) (none : ∀ w ∈ x.eng.held, ¬(w.1 = 1 ∧ w.2.1 = eng.val)) :
    (x.spent k i).postWord k eng src = (x.spent k i).mbxSend 1 eng ((x.loop k).rd src) := by
  have engine : eng.val ≠ 1 := fun e => other (Fin.ext e)
  have open_ : ¬(x.mbxFull 1 eng || x.eng.held.any fun w => w.1 = 1 && w.2.1 = eng.val) = true := by
    simp only [free, Bool.false_or, List.any_eq_true, not_exists, not_and]
    exact fun w hw same => none w hw (by simpa using same)
  rw [Lane.postWord, if_neg engine, Lane.loop_spent, LoopSt.rd_spend]
  exact if_neg open_

end

/-- Settles O10: the words of a load as one step of the loop, a store as posts from a slot up, and a post by what it finds in the mailbox. -/
theorem loadsStoresAndPostsMoveWords : Obligations.LoadsStoresAndPostsMoveWords := by
  unfold Obligations.LoadsStoresAndPostsMoveWords
  intro s l x k len slot dst has cur
  refine ⟨⟨_, onLane_e1 has cur (.ld 0 len slot dst), ?_⟩, ⟨_, onLane_e1 has cur (.ld 1 len slot dst), ?_⟩,
    fun dq hdq => ⟨_, onLane_e1 has cur (.ld 2 2 slot dst), ?_⟩, fun tgt space v hv => ⟨_, onLane_e1 has cur (.ldc tgt space slot), ?_⟩,
    fun ps => ⟨_, onLane_e1 has cur (.st len slot ps), x.stVec_spec k (.st len slot ps) len.val slot.toNat ps.toNat rfl⟩,
    fun eng other free none running => ⟨_, onLane_e1 has cur (.post eng slot), ?_⟩,
    fun eng other free none stopped => ⟨_, onLane_e1 has cur (.post eng slot), ?_⟩,
    fun eng other full => ⟨_, onLane_e1 has cur (.post eng slot), ?_⟩⟩
  · exact Lane.wordStep_spec (Lane.ldVec_fraction _ k _ _ _) (fun _ => rfl) fun j _ => ofI_mod _
  · exact Lane.wordStep_spec (Lane.ldVec_angle _ k _ _ _) (fun _ => rfl) fun j _ => rfl
  · subst hdq
    exact Lane.wordStep_spec (Lane.ldVec_dq _ k 3 _ _) (fun _ => rfl) fun j _ => codeI_mod _
  · subst hv
    refine ⟨x.loopStep_only k _ (O.satEvents k) 0 _, rfl, ?_⟩
    rw [Lane.e1op, Lane.ldc, Lane.loop_updLoop, Lane.loop_spent]
    cases tgt <;> exact ⟨rfl, rfl, fun _ => rfl⟩
  · rw [Lane.e1op, x.postWord_of_free k _ _ other free none, Lane.mbxSend_of_running (by exact running), Lane.mbxArrive_of_empty (by exact free)]
    exact ⟨rfl, Lane.reg_data_mbxPut _ (by decide) eng.isLt _, Lane.mbxFull_mbxPut _ (by decide) eng.isLt _,
      Lane.inbox_mbxPut _ (by decide) _ _, Lane.mbxPut_regsKept (x.spent k _) 1 eng _⟩
  · rw [Lane.e1op, x.postWord_of_free k _ _ other free none, Lane.mbxSend_of_stopped (by exact stopped)]
    rfl
  · rw [Lane.e1op, x.postWord_of_full k _ _ other full]
    exact ⟨(loopOnly_updLoop k x _).trans ⟨rfl, fun _ _ => rfl⟩, objsKept_inc (by simp) (x.spent k _), countedBy_inc (x.spent k _) _⟩

end Sys2Proof.Machine
end

section
/-!
O14. RUN, SPEC_EN and the forced bench (R5, R144, R146, R149, R158, R159).
-/
namespace Sys2Proof.Machine

/-! Every loop changed in the same way. -/

theorem foldl_updLoop_reach (f : LoopSt → LoopSt) (ks : List (Fin 9)) (x : Lane) :
    ∃ ls, ks.foldl (fun x k => x.updLoop k f) x = { x with mx := { x.mx with loops := ls } } :=
  List.foldlRecOn ks _ (motive := fun y => ∃ ls, y = { x with mx := { x.mx with loops := ls } }) ⟨_, rfl⟩ fun _ ⟨_, e⟩ _ _ => by
    subst e
    exact ⟨_, rfl⟩

theorem loop_foldl_updLoop_of_not_mem (f : LoopSt → LoopSt) {ks : List (Fin 9)} {j : Fin 9} (h : j ∉ ks) (x : Lane) :
    (ks.foldl (fun x k => x.updLoop k f) x).loop j = x.loop j :=
  List.foldlRecOn ks _ (motive := fun y : Lane => y.loop j = x.loop j) rfl fun y hy k hk =>
    (y.loop_updLoop_of_ne k j f fun e => h (e ▸ hk)).trans hy

theorem loop_foldl_updLoop (f : LoopSt → LoopSt) {ks : List (Fin 9)} (nodup : ks.Nodup) {j : Fin 9} (h : j ∈ ks) (x : Lane) :
    (ks.foldl (fun x k => x.updLoop k f) x).loop j = f (x.loop j) := by
  induction ks generalizing x with
  | nil => simp at h
  | cons k ks ih =>
    obtain ⟨fresh, nodup⟩ := List.nodup_cons.mp nodup
    rw [List.foldl_cons]
    by_cases e : j = k
    · subst e
      rw [loop_foldl_updLoop_of_not_mem f fresh, Lane.loop_updLoop]
    · rw [ih nodup ((List.mem_cons.mp h).resolve_left e), Lane.loop_updLoop_of_ne _ _ _ _ e]

theorem loop_allLoops_updLoop (f : LoopSt → LoopSt) (j : Fin 9) (x : Lane) :
    (allLoops.foldl (fun x k => x.updLoop k f) x).loop j = f (x.loop j) :=
  loop_foldl_updLoop f (List.nodup_finRange 9) (List.mem_finRange j) x

/-! CONFIG causes that wait. -/

theorem mem_configCause (x : Lane) (k j : Nat) : j ∈ (x.configCause k).mx.config ↔ j = k ∨ j ∈ x.mx.config := mem_insertAsc j k _

/-- A CONFIG cause of every loop waits. -/
def Lane.configCauses (x : Lane) : Lane := allLoops.foldl (fun (x : Lane) (k : Fin 9) => x.configCause k) x

theorem Lane.configCauses_reach (x : Lane) : ∃ cs, x.configCauses = { x with mx := { x.mx with config := cs } } :=
  List.foldlRecOn allLoops _ (motive := fun y => ∃ cs, y = { x with mx := { x.mx with config := cs } }) ⟨_, rfl⟩ fun _ ⟨_, e⟩ _ _ => by
    subst e
    exact ⟨_, rfl⟩

theorem Lane.mem_configCauses (x : Lane) (k : Fin 9) : k.val ∈ x.configCauses.mx.config :=
  foldl_establishes (f := fun (x : Lane) (k : Fin 9) => x.configCause k) (a := k) (fun _ => True) (fun y : Lane => k.val ∈ y.mx.config)
    (fun _ _ _ _ => trivial)
    (fun y j _ h => (mem_configCause y j k).mpr (.inr h)) (fun y _ => (mem_configCause y k k).mpr (.inl rfl)) (List.mem_finRange k) trivial

/-! RUN (R5, R159). -/

/-- A loop that has no entry open and nothing to commit. -/
def LoopSt.idle (p : LoopSt) : LoopSt := { p with started := false, entry := .none, committed := true, owes := false }

/-- A lane whose RUN is written. -/
def Lane.runWritten (x : Lane) (run : Bool) : Lane := (x.setRbit Rg.mxCtl 0 run).setRbit Rg.mxStat 0 run

theorem Lane.runWritten_spec (x : Lane) (run : Bool) : (x.runWritten run).rbit Rg.mxCtl 0 = run ∧ (x.runWritten run).rbit Rg.mxStat 0 = run ∧
    RegsKept [Rg.mxCtl.addr, Rg.mxStat.addr] x (x.runWritten run) := by
  refine ⟨?_, Lane.rbit_setRbit _ _ _ (by omega), (regsKept_setRbit (by simp) x 0 run).trans (regsKept_setRbit (by simp) _ 0 run)⟩
  rw [Lane.runWritten, Lane.rbit_setRbit_of_ne _ _ _ _ (by decide), Lane.rbit_setRbit _ _ _ (by omega)]

/-- A lane whose loops are all idle. -/
def Lane.allIdle (x : Lane) : Lane := allLoops.foldl (fun x k => x.updLoop k LoopSt.idle) x

theorem Lane.allIdle_reach (x : Lane) : ∃ ls, x.allIdle = { x with mx := { x.mx with loops := ls } } := foldl_updLoop_reach _ _ x

theorem Lane.loop_allIdle (x : Lane) (k : Fin 9) : x.allIdle.loop k = (x.loop k).idle := loop_allLoops_updLoop _ k x

/-- The lane of a write of RUN: loops that start or stop are idle, and a stop leaves no work. -/
def Lane.runSet (x : Lane) (run : Bool) : Lane :=
  let fresh := run && !x.rbit Rg.mxCtl 0
  let y := if fresh || !run then (x.runWritten run).allIdle else x.runWritten run
  if run then y else { y with mx := { y.mx with cur := none, pc := none, waiting := [] } }

theorem Lane.runSet_spec (x : Lane) (run : Bool) : (x.runSet run).rbit Rg.mxCtl 0 = run ∧ (x.runSet run).rbit Rg.mxStat 0 = run ∧
    (∀ k, (x.runSet run).loop k = if run = true ∧ x.rbit Rg.mxCtl 0 = true then x.loop k else (x.loop k).idle) ∧
    (run = false → (x.runSet run).mx.cur = none ∧ (x.runSet run).mx.pc = none ∧ (x.runSet run).mx.waiting = []) ∧
    (run = true → (x.runSet run).mx.cur = x.mx.cur ∧ (x.runSet run).mx.pc = x.mx.pc ∧ (x.runSet run).mx.waiting = x.mx.waiting) ∧
    RegsKept [Rg.mxCtl.addr, Rg.mxStat.addr] x (x.runSet run) ∧ (x.runSet run) = { x with mx := (x.runSet run).mx, regs := (x.runSet run).regs } := by
  obtain ⟨ctl, stat, regs⟩ := x.runWritten_spec run
  obtain ⟨ls, idle⟩ := (x.runWritten run).allIdle_reach
  have loops := (x.runWritten run).loop_allIdle
  rw [idle] at loops
  unfold Lane.runSet
  rw [idle]
  cases run with
  | false => exact ⟨ctl, stat, loops, fun _ => ⟨rfl, rfl, rfl⟩, (fun c => nomatch c), regs, rfl⟩
  | true =>
    cases on : x.rbit Rg.mxCtl 0 with
    | true => exact ⟨ctl, stat, fun _ => rfl, (fun c => nomatch c), fun _ => ⟨rfl, rfl, rfl⟩, regs, rfl⟩
    | false => exact ⟨ctl, stat, loops, (fun c => nomatch c), fun _ => ⟨rfl, rfl, rfl⟩, regs, rfl⟩

section
variable {s : State} {l : LaneId} {t : Nat} {x : Lane}

theorem exec_mxRun_of_barred (h : FindsE1 s l t x) (barred : x.started = false) : exec (.mxRun l true t) s = .next (s.setLane l x) := by
  have arm : exec (.mxRun l true t) s = execMxRun l true t s := rfl
  rw [arm, execMxRun, onE1_of_findsE1 h, if_pos (by simp [barred])]

theorem exec_mxRun (h : FindsE1 s l t x) {run : Bool} (may : run = true → x.started = true) :
    exec (.mxRun l run t) s = .next (s.setLane l (x.runSet run)) := by
  have arm : exec (.mxRun l run t) s = execMxRun l run t s := rfl
  rw [arm, execMxRun, onE1_of_findsE1 h]
  have goes : ¬(run && !x.started) = true := by
    cases run with
    | false => simp
    | true => simp [may rfl]
  rw [if_neg goes]
  rfl

theorem exec_specEn (h : Sees s l t x) (en : Bool) : exec (.specEn l en t) s
    = .next (s.setLane l ((x.setRbit Rg.mxCtl 1 en).setFlag O.specEnable en).configCauses) := by
  have arm : exec (.specEn l en t) s = execSpecEn l en t s := rfl
  rw [arm, execSpecEn, onLaneAt_of_sees h]
  rfl

theorem exec_benchForce (h : Sees s l t x) (k : Fin 9) (v : BitVec 8) : exec (.benchForce l k v t) s
    = .next (s.setLane l (if x.loopExists k then x.writeBenchForce k v.toNat else x)) := by
  have arm : exec (.benchForce l k v t) s = execBenchForce l k v t s := rfl
  rw [arm, execBenchForce, onLaneAt_of_sees h]

end

/-! SPEC_EN and the forced bench. -/

theorem Lane.writeBenchForce_of_refused (x : Lane) (k : Fin 9) (v : Nat)
    (h : (x.obj O.lcStateObj ≠ 1 ∧ x.obj O.lcStateObj ≠ 4) ∨ (64 ≤ v ∧ v ≠ 255)) : x.writeBenchForce k v = x := by
  rw [Lane.writeBenchForce]
  exact if_neg (by simp; omega)

theorem Lane.writeBenchForce_of_taken (x : Lane) (k : Fin 9) (v : Nat) (life : x.obj O.lcStateObj = 1 ∨ x.obj O.lcStateObj = 4)
    (hv : v < 64 ∨ v = 255) : x.writeBenchForce k v
      = if v = 255 ∧ x.obj (O.benchForce k) ≠ 255 then (x.setObj (O.benchForce k) v).configCause k else x.setObj (O.benchForce k) v := by
  rw [Lane.writeBenchForce]
  dsimp only
  rw [if_pos (by simp; omega)]
  exact if_congr (by simp) rfl rfl

/-- Settles O14: RUN by whether the loops start, stop or go on, SPEC_EN by the causes of all loops, a forced block by whether it is taken and
whether it is a release. -/
theorem engineControlActsOnEveryLoop : Obligations.EngineControlActsOnEveryLoop := by
  unfold Obligations.EngineControlActsOnEveryLoop
  refine ⟨fun s l t x h => ⟨exec_mxRun_of_barred h, fun run may => ⟨_, exec_mxRun h may, x.runSet_spec run⟩⟩, fun s l t x h => ⟨fun en => ?_,
    fun k v exists_ life hv => ?_, fun k v refused => ?_⟩⟩
  · obtain ⟨cs, e⟩ := ((x.setRbit Rg.mxCtl 1 en).setFlag O.specEnable en).configCauses_reach
    have all := ((x.setRbit Rg.mxCtl 1 en).setFlag O.specEnable en).mem_configCauses
    rw [e] at all
    rw [exec_specEn h, e]
    exact ⟨_, rfl, Lane.rbit_setRbit _ _ _ (by omega), rfl, Lane.obj_setObj _ _ _, all, objsKept_setObj (by simp) (x.setRbit Rg.mxCtl 1 en) _,
      regsKept_setRbit (by simp) x _ _, rfl⟩
  · rw [exec_benchForce h, if_pos exists_, x.writeBenchForce_of_taken k _ life hv]
    have kept : ObjsKept [(O.benchForce k).key] x (x.setObj (O.benchForce k) v.toNat) := objsKept_setObj (by simp) x _
    split_ifs with release
    · refine ⟨_, rfl, Lane.obj_setObj _ _ _, fun _ _ => (mem_configCause _ _ _).mpr (.inl rfl), fun j hj => ?_, rfl, kept⟩
      have other : j ≠ k.val := hj.resolve_right fun c => c.elim (absurd release.1) release.2
      exact (mem_configCause _ _ _).trans ⟨fun c => c.resolve_left other, .inr⟩
    · exact ⟨_, rfl, Lane.obj_setObj _ _ _, fun a b => absurd ⟨a, b⟩ release, fun _ _ => Iff.rfl, rfl, kept⟩
  · rw [exec_benchForce h]
    by_cases exists_ : x.loopExists k = true
    · rw [if_pos exists_, x.writeBenchForce_of_refused k _ (refused.resolve_left (by simp [exists_]))]
    · rw [if_neg exists_]

end Sys2Proof.Machine
end

section
/-!
O15. The standby bank (R138, R139) and its swap (R140, R158, R159).
-/
namespace Sys2Proof.Machine

/-! Which bank is which depends on BANK of MX_STAT and on the two banks alone. -/

theorem Lane.bank1Active_setFld (x : Lane) {lo w : Nat} (v : Nat) (h : 2 ≤ lo) :
    (x.setFld Rg.mxStat lo w v).bank1Active = x.bank1Active :=
  congrArg (fun n => decide (n = 1)) (x.fld_setFld_beside Rg.mxStat v (lo' := 1) (w' := 1) (by omega) (by omega))

/-- The banks that lane `y` reads are those of `x`, and so are which of them is active. -/
structure BanksKept (x y : Lane) : Prop where
  active : y.bank1Active = x.bank1Active
  bank0 : y.mx.bank0 = x.mx.bank0
  bank1 : y.mx.bank1 = x.mx.bank1

theorem BanksKept.trans {x y z : Lane} (h : BanksKept x y) (g : BanksKept y z) : BanksKept x z :=
  ⟨g.active.trans h.active, g.bank0.trans h.bank0, g.bank1.trans h.bank1⟩

theorem BanksKept.activeBank {x y : Lane} (h : BanksKept x y) : y.activeBank = x.activeBank := by
  rw [Lane.activeBank, Lane.activeBank, h.active, h.bank0, h.bank1]

theorem BanksKept.standbyBank {x y : Lane} (h : BanksKept x y) : y.standbyBank = x.standbyBank := by
  rw [Lane.standbyBank, Lane.standbyBank, h.active, h.bank0, h.bank1]

/-- The eligibility of the standby bank, said once. -/
theorem Lane.setStandbyEligible_spec (x : Lane) (b : Bool) :
    BanksKept x (x.setStandbyEligible b) ∧ (x.setStandbyEligible b).standbyEligible = b ∧
      RegsKept [Rg.mxStat.addr] x (x.setStandbyEligible b) ∧
      ∃ e0 e1 rs, x.setStandbyEligible b = { x with mx := { x.mx with eligible0 := e0, eligible1 := e1 }, regs := rs } := by
  obtain ⟨e0, e1, hm, heq⟩ : ∃ e0 e1, (if x.bank1Active then { x.mx with eligible0 := b } else { x.mx with eligible1 := b })
      = { x.mx with eligible0 := e0, eligible1 := e1 } ∧ (if x.bank1Active then e0 else e1) = b := by
    by_cases one : x.bank1Active = true
    · exact ⟨b, x.mx.eligible1, by simp [one], by simp [one]⟩
    · exact ⟨x.mx.eligible0, b, by simp [one], by simp [one]⟩
  have active : ({ x with mx := { x.mx with eligible0 := e0, eligible1 := e1 } }.setRbit Rg.mxStat 3 b).bank1Active = x.bank1Active :=
    Lane.bank1Active_setFld _ _ (by omega)
  rw [Lane.setStandbyEligible, hm]
  refine ⟨⟨active, rfl, rfl⟩, ?_, regsKept_setRbit (by simp) x 3 b, _, _, _, rfl⟩
  rw [Lane.standbyEligible, active]
  exact heq

/-- A pending swap that is refused (R140). -/
theorem Lane.refuseSwap_spec (x : Lane) (code : Nat) : BanksKept x (x.refuseSwap code) ∧ (x.refuseSwap code).mx = { x.mx with swap := none } ∧
    (x.refuseSwap code).obj O.swapResult = code ∧ ObjsKept [O.swapResult.key] x (x.refuseSwap code) ∧
    RegsKept [Rg.mxStat.addr] x (x.refuseSwap code) := by
  refine ⟨⟨?_, rfl, rfl⟩, rfl, Lane.obj_setObj _ _ _, objsKept_setObj (by simp) (x.setFld Rg.mxStat 8 8 code) code,
    (regsKept_setFld (by simp) x 8 8 code).trans (regsKept_setRbit (by simp) _ 2 false)⟩
  exact (Lane.bank1Active_setFld _ _ (by omega)).trans (Lane.bank1Active_setFld x _ (by omega))

/-- A lane with bytes written to its standby bank, and with nothing drawn from it yet. -/
def Lane.withStandby (x : Lane) (m : List (Nat × Byte)) : Lane :=
  { x with mx := if x.bank1Active then { x.mx with bank0 := m } else { x.mx with bank1 := m } }

theorem Lane.withStandby_spec (x : Lane) (m : List (Nat × Byte)) : (x.withStandby m).activeBank = x.activeBank ∧
    (x.withStandby m).standbyBank = m ∧ (x.withStandby m).mx.swap = x.mx.swap ∧ (x.withStandby m).mx.checking = x.mx.checking := by
  have active : (x.withStandby m).bank1Active = x.bank1Active := rfl
  rw [Lane.activeBank, Lane.standbyBank, active, Lane.activeBank, Lane.withStandby]
  by_cases one : x.bank1Active = true <;> simp [one]

/-- A lane that notes a write to its standby bank (R138, R158): the check under way has failed, or the bank counts as not checked. -/
def Lane.standbyTouched (x : Lane) : Lane :=
  if x.mx.checking then { x with mx := { x.mx with modified := true } } else x.setObj O.standbyState 0

theorem Lane.standbyTouched_spec (x : Lane) : BanksKept x x.standbyTouched ∧ x.standbyTouched.standbyEligible = x.standbyEligible ∧
    x.standbyTouched.mx.swap = x.mx.swap ∧ x.standbyTouched.regs = x.regs ∧ (x.mx.checking = true → x.standbyTouched.mx.modified = true) ∧
    (x.mx.checking = false → x.standbyTouched.obj O.standbyState = 0) ∧ ObjsKept [O.standbyState.key] x x.standbyTouched := by
  unfold Lane.standbyTouched
  cases x.mx.checking with
  | true => exact ⟨⟨rfl, rfl, rfl⟩, rfl, rfl, rfl, fun _ => rfl, (fun c => nomatch c), .refl _ x⟩
  | false => exact ⟨⟨rfl, rfl, rfl⟩, rfl, rfl, rfl, (fun c => nomatch c), fun _ => Lane.obj_setObj _ _ _, objsKept_setObj (by simp) x 0⟩

/-- A lane whose swap does not wait any more: one that did is refused (R140). -/
def Lane.swapDropped (x : Lane) : Lane := if x.mx.swap.isSome then x.refuseSwap 4 else x

theorem Lane.swapDropped_spec (x : Lane) : BanksKept x x.swapDropped ∧ x.swapDropped.mx = { x.mx with swap := none } ∧
    (x.mx.swap.isSome = true → x.swapDropped.obj O.swapResult = 4) ∧ ObjsKept [O.swapResult.key] x x.swapDropped ∧
    RegsKept [Rg.mxStat.addr] x x.swapDropped := by
  unfold Lane.swapDropped
  cases waits : x.mx.swap with
  | none =>
    have same : x.mx = { x.mx with swap := none } := by rw [← waits]
    exact ⟨⟨rfl, rfl, rfl⟩, same, (fun c => nomatch c), .refl _ x, .refl _ x⟩
  | some w =>
    obtain ⟨banks, mx, result, objs, regs⟩ := x.refuseSwap_spec 4
    exact ⟨banks, mx, fun _ => result, objs, regs⟩

/-- A write to the standby bank as its steps: the bytes, the eligibility, the check or the state, and the swap that waits. -/
theorem Lane.writeStandby_eq (x : Lane) {off : Nat} {bs : List Byte} (fits : off + bs.length ≤ bankSize) : x.writeStandby off bs
    = ((x.withStandby (memWriteAll x.standbyBank off bs)).setStandbyEligible false).standbyTouched.swapDropped := by
  rw [Lane.writeStandby, List.take_of_length_le (by omega)]
  rfl

/-- What a write to the standby bank leaves (R138, R158). -/
theorem Lane.writeStandby_spec (x : Lane) {off : Nat} {data : List Byte} (fits : off + data.length ≤ bankSize) {y : Lane}
    (hy : y = x.writeStandby off data) :
    y.activeBank = x.activeBank ∧ y.standbyBank = memWriteAll x.standbyBank off data ∧
      y.standbyEligible = false ∧ y.mx.swap = none ∧ (x.mx.swap.isSome = true → y.obj O.swapResult = 4) ∧
      (x.mx.checking = true → y.mx.modified = true) ∧ (x.mx.checking = false → y.obj O.standbyState = 0) ∧
      ObjsKept [O.standbyState.key, O.swapResult.key] x y ∧ RegsKept [Rg.mxStat.addr] x y := by
  obtain ⟨w, hw⟩ : ∃ w, w = x.withStandby (memWriteAll x.standbyBank off data) := ⟨_, rfl⟩
  obtain ⟨v, hv⟩ : ∃ v, v = w.setStandbyEligible false := ⟨_, rfl⟩
  obtain ⟨active, standby, wSwap, wChecking⟩ := x.withStandby_spec (memWriteAll x.standbyBank off data)
  obtain ⟨vBanks, vEligible, vRegs, _, _, _, vEq⟩ := w.setStandbyEligible_spec false
  obtain ⟨zBanks, zEligible, zSwap, zRegs, inCheck, state, zObjs⟩ := v.standbyTouched_spec
  obtain ⟨yBanks, mx, refused, yObjs, yRegs⟩ := v.standbyTouched.swapDropped_spec
  rw [x.writeStandby_eq fits, ← hw, ← hv] at hy
  rw [← hw] at active standby wSwap wChecking
  rw [← hv] at vBanks vEligible vRegs vEq
  rw [← hy] at yBanks mx refused yObjs yRegs
  have banks := vBanks.trans (zBanks.trans yBanks)
  have wObjs : ObjsKept [O.standbyState.key, O.swapResult.key] x v := fun _ _ => by rw [vEq, hw]; rfl
  have vSwap : v.mx.swap = x.mx.swap := by rw [vEq]; exact wSwap
  have vChecking : v.mx.checking = x.mx.checking := by rw [vEq]; exact wChecking
  refine ⟨banks.activeBank.trans active, banks.standbyBank.trans standby, ?_, by rw [mx], fun waits => refused (by rwa [zSwap, vSwap]),
    fun c => ?_, fun c => ?_, ?_, ?_⟩
  · rw [Lane.standbyEligible, yBanks.active, mx]
    exact zEligible.trans vEligible
  · rw [mx]
    exact inCheck (vChecking.trans c)
  · rw [yObjs _ (by decide)]
    exact state (vChecking.trans c)
  · exact wObjs.trans (.trans (fun o ho => zObjs o (by simp_all)) (fun o ho => yObjs o (by simp_all)))
  · have zRegsKept : RegsKept [Rg.mxStat.addr] v v.standbyTouched := fun r _ => by rw [Lane.reg, zRegs, Lane.reg]
    have start : RegsKept [Rg.mxStat.addr] x w := fun _ _ => by rw [hw]; rfl
    exact start.trans (vRegs.trans (zRegsKept.trans yRegs))

/-- The check of the standby bank ends (R139). -/
theorem Lane.standbyChecked_of_modified (x : Lane) (me : LaneId) (modified : x.mx.modified = true) {y : Lane} (hy : y = x.standbyChecked me) :
    y.obj O.standbyState = 3 ∧ y.standbyEligible = false ∧ y.mx.checking = false ∧ ObjsKept [O.standbyState.key] x y := by
  obtain ⟨_, eligible, _, e0, e1, rs, e⟩ := ({ x with mx := { x.mx with checking := false, modified := false } } : Lane).setStandbyEligible_spec false
  rw [Lane.standbyChecked] at hy
  dsimp only at hy
  rw [if_pos modified, e] at hy
  rw [e] at eligible
  subst hy
  exact ⟨Lane.obj_setObj _ _ _, eligible, rfl, fun o ho => (Lane.obj_setObj_of_ne _ _ (by simpa using ho)).trans rfl⟩

theorem Lane.standbyChecked_of_kept (x : Lane) (me : LaneId) (kept : x.mx.modified = false) {c : Nat}
    (hc : c = ({ x with mx := { x.mx with checking := false } } : Lane).checkBank me x.standbyBank) {y : Lane} (hy : y = x.standbyChecked me) :
    y.obj O.standbyState = (if c = 0 then 2 else 3) ∧ y.standbyEligible = decide (c = 0) ∧ y.mx.checking = false ∧
      (c ≠ 0 → y.obj O.standbyFail = c) ∧ ObjsKept [O.standbyState.key, O.standbyFail.key, O.imgVerifyLast.key] x y := by
  obtain ⟨z, hz⟩ : ∃ z : Lane, z = { x with mx := { x.mx with checking := false } } := ⟨_, rfl⟩
  obtain ⟨v, hv⟩ : ∃ v, v = if c = 0 ∨ 3 ≤ c then z.setObj O.imgVerifyLast (z.verifyBank me x.standbyBank) else z := ⟨_, rfl⟩
  obtain ⟨w, hw⟩ : ∃ w, w = if c = 0 then v else v.setObj O.standbyFail c := ⟨_, rfl⟩
  have steps : x.standbyChecked me = (w.setStandbyEligible (c = 0)).setObj O.standbyState (if c = 0 then 2 else 3) := by
    rw [hw, hv, hc, hz, Lane.standbyChecked]
    exact if_neg (by simp [kept])
  obtain ⟨vObjs, vMx⟩ : ObjsKept [O.imgVerifyLast.key] z v ∧ v.mx = z.mx := by
    rw [hv]
    split_ifs
    · exact ⟨objsKept_setObj (by simp) z _, rfl⟩
    · exact ⟨.refl _ z, rfl⟩
  obtain ⟨wObjs, wMx, code⟩ : ObjsKept [O.standbyFail.key] v w ∧ w.mx = v.mx ∧ (c ≠ 0 → w.obj O.standbyFail = c) := by
    rw [hw]
    split_ifs with passes
    · exact ⟨.refl _ v, rfl, fun no => absurd passes no⟩
    · exact ⟨objsKept_setObj (by simp) v _, rfl, fun _ => Lane.obj_setObj _ _ _⟩
  obtain ⟨_, eligible, _, e0, e1, rs, e⟩ := w.setStandbyEligible_spec (c = 0)
  rw [steps, e] at hy
  rw [e] at eligible
  subst hy
  refine ⟨Lane.obj_setObj _ _ _, eligible, ?_, fun no => ?_, fun o ho => ?_⟩
  · exact (congrArg MxSt.checking (wMx.trans vMx)).trans (by rw [hz])
  · exact (Lane.obj_setObj_of_ne _ _ (by decide)).trans (code no)
  · simp only [List.mem_cons, List.not_mem_nil, or_false, not_or] at ho
    refine (Lane.obj_setObj_of_ne _ _ ho.1).trans ((wObjs o (by simp [ho])).trans ((vObjs o (by simp [ho])).trans ?_))
    rw [hz]
    rfl

theorem Lane.requestSwap_spec (x : Lane) (host : Bool) (tgt : Option Nat) :
    (x.requestSwap host tgt).mx = { x.mx with swap := some (host, tgt), swapAt := x.now } ∧ (x.requestSwap host tgt).rbit Rg.mxStat 2 = true ∧
      (x.requestSwap host tgt).objs = x.objs ∧ RegsKept [Rg.mxStat.addr] x (x.requestSwap host tgt) :=
  ⟨rfl, Lane.rbit_setRbit _ _ _ (by omega), rfl, regsKept_setRbit (by simp) x 2 true⟩

section
variable {s : State} {l : LaneId} {t : Nat} {x : Lane}

theorem exec_coefStandbyImage (h : Sees s l t x) (off : Nat) (data : List Byte) :
    exec (.coefStandbyImage l off data t) s = .next (s.setLane l (x.writeStandby off data)) := by
  have arm : exec (.coefStandbyImage l off data t) s = execCoefStandbyImage l off data t s := rfl
  rw [arm, execCoefStandbyImage, onLaneAt_of_sees h]

theorem exec_coefStandbyCheck (h : Sees s l t x) (v : BitVec 8) : exec (.coefStandbyCheck l v t) s = .next (s.setLane l
    (if v = 1 then ({ x with mx := { x.mx with checking := true, modified := false } }).setObj O.standbyState 1 else x)) := by
  have arm : exec (.coefStandbyCheck l v t) s = execCoefStandbyCheck l v t s := rfl
  rw [arm, execCoefStandbyCheck, onLaneAt_of_sees h]

theorem exec_standbyCheckDone (h : Sees s l t x) (checking : x.mx.checking = true) :
    exec (.standbyCheckDone l t) s = .next (s.setLane l (x.standbyChecked l)) := by
  have arm : exec (.standbyCheckDone l t) s = execStandbyCheckDone l t s := rfl
  rw [arm, execStandbyCheckDone, onLaneAt_of_sees h, if_pos checking]

theorem exec_swapRequest (h : Sees s l t x) (target : BitVec 32) :
    exec (.swapRequest l target t) s = .next (s.setLane l (x.swapRequest target.toNat)) := by
  have arm : exec (.swapRequest l target t) s = execSwapRequest l target t s := rfl
  rw [arm, execSwapRequest, onLaneAt_of_sees h]

theorem exec_mxSwapReq (h : Sees s l t x) : exec (.mxSwapReq l t) s = .next (s.setLane l
    (x.requestSwap false (if x.reg Rg.mxSwapSample = 0 then none else some (x.reg Rg.mxSwapSample)))) := by
  have arm : exec (.mxSwapReq l t) s = execMxSwapReq l t s := rfl
  rw [arm, execMxSwapReq, onLaneAt_of_sees h]

theorem exec_mxSwapCancel (h : Sees s l t x) : exec (.mxSwapCancel l t) s
    = .next (s.setLane l (({ x with mx := { x.mx with swap := none } }).setRbit Rg.mxStat 2 false)) := by
  have arm : exec (.mxSwapCancel l t) s = execMxSwapCancel l t s := rfl
  rw [arm, execMxSwapCancel, onLaneAt_of_sees h]

end

/-- Settles O15: a write by its steps, the end of a check by whether a write has fallen into it, a request by how far its target lies ahead. -/
theorem standbyBankIsWrittenCheckedAndSwapped : Obligations.StandbyBankIsWrittenCheckedAndSwapped := by
  unfold Obligations.StandbyBankIsWrittenCheckedAndSwapped
  intro s l t x h
  have zero : ∀ target : BitVec 32, target ≠ 0 → target.toNat ≠ 0 := fun target h e => h (BitVec.eq_of_toNat_eq e)
  refine ⟨fun off data fits => ?_, ?_, fun v hv => ?_, fun checking modified => ?_, fun c checking kept hc => ?_,
    fun target some_ near far => ?_, ?_, fun target some_ late => ?_, ?_, ?_⟩
  · obtain ⟨active, standby, eligible, swap, refused, inCheck, state, objs, regs⟩ := x.writeStandby_spec fits rfl
    refine ⟨_, exec_coefStandbyImage h off data, active, fun i hi => ?_, fun a ha => ?_, eligible, swap, refused, inCheck, state, objs, regs⟩
    · rw [standby]
      exact memRead_memWriteAll_inside _ _ _ _ hi
    · rw [standby]
      exact memRead_memWriteAll_outside _ _ _ _ ha
  · rw [exec_coefStandbyCheck h, if_pos rfl]
  · rw [exec_coefStandbyCheck h, if_neg hv]
  · exact ⟨_, exec_standbyCheckDone h checking, x.standbyChecked_of_modified l modified rfl⟩
  · exact ⟨_, exec_standbyCheckDone h checking, x.standbyChecked_of_kept l kept hc rfl⟩
  · have ahead : x.swapRequest target.toNat = x.requestSwap true (some target.toNat) := by
      rw [Lane.swapRequest]
      rw [if_neg (zero target some_), if_neg (by omega)]
    obtain ⟨mx, pending, objs, regs⟩ := x.requestSwap_spec true (some target.toNat)
    rw [exec_swapRequest h, ahead]
    exact ⟨_, rfl, by rw [mx], pending, objs, regs⟩
  · obtain ⟨mx, pending, -⟩ := x.requestSwap_spec true (some ((x.smp.no + 16) % 2 ^ 32))
    rw [exec_swapRequest h]
    exact ⟨_, rfl, congrArg MxSt.swap mx, pending⟩
  · have passed : x.swapRequest target.toNat = (x.setFld Rg.mxStat 8 8 1).setObj O.swapResult 1 := by
      rw [Lane.swapRequest]
      rw [if_neg (zero target some_), if_pos late]
    rw [exec_swapRequest h, passed]
    exact ⟨_, rfl, rfl, Lane.obj_setObj _ _ _, Lane.fld_setFld x _ _ (by omega), objsKept_setObj (by simp) (x.setFld Rg.mxStat 8 8 1) _⟩
  · rw [exec_mxSwapReq h]
    obtain ⟨mx, pending, -⟩ := x.requestSwap_spec false (if x.reg Rg.mxSwapSample = 0 then none else some (x.reg Rg.mxSwapSample))
    exact ⟨_, rfl, pending, congrArg MxSt.swapAt mx, congrArg MxSt.swap mx⟩
  · rw [exec_mxSwapCancel h]
    exact ⟨_, rfl, rfl, Lane.rbit_setRbit _ _ _ (by omega), rfl, regsKept_setRbit (by simp) x _ _⟩

end Sys2Proof.Machine
end

section
/-!
SUPPORT. VALID of a speculative set (R147), squashes (R149) and the start of an entry (R127, R129): what each leaves.
-/
namespace Sys2Proof.Machine

theorem pwmStat_addr_lt (st : Stage) : (Rg.pwmStat st).addr < 0x40020000 := by
  cases st <;> simp only [Rg.pwmStat, Rg.pwmBase] <;> omega

/-- Which bank is active stays where the registers of a stage change alone. -/
theorem Lane.bank1Active_of_reg_eq {x y : Lane} (h : y.reg Rg.mxStat = x.reg Rg.mxStat) : y.bank1Active = x.bank1Active :=
  congrArg (fun n => decide (n = 1)) (Lane.fld_of_reg_eq h 1 1)

theorem Lane.blockOf_of_regsKept {x y : Lane} {as : List Nat} (h : RegsKept as x y) (low : ∀ a ∈ as, a < 0x400A0020) (k : Nat) :
    y.blockOf k = x.blockOf k :=
  Lane.fld_of_reg_eq (h _ fun m => by have := low _ m; simp only [Rg.bselLoop] at this; omega) 8 6

/-! VALID of a speculative set (R147, R231). -/

theorem Lane.setSpecValid_spec (x : Lane) (k : Fin 9) (b : Bool) : (x.setSpecValid k b).loop k = { x.loop k with specValid := b } ∧
    (x.setSpecValid k b).rbit (Rg.pwmStat (loopStage k)) 9 = b ∧ RegsKept [(Rg.pwmStat (loopStage k)).addr] x (x.setSpecValid k b) ∧
    ∀ j, j ≠ k → (x.setSpecValid k b).loop j = x.loop j :=
  ⟨x.loop_updLoop k fun p => { p with specValid := b }, Lane.rbit_setRbit _ _ _ (by omega), regsKept_setRbit (by simp) (x.updLoop k _) 9 b,
    fun j hj => x.loop_updLoop_of_ne k j (fun p => { p with specValid := b }) hj⟩

/-! Squashes (R149). -/

theorem squashObj_key (k c : Nat) : (O.squashTotal k).key < (squashObj k c).key ∧ (squashObj k c).key < (O.tubeViolMask k).key := by
  unfold squashObj O.squashTotal O.tubeViolMask
  split <;> simp only [O.squashTube, O.squashBench, O.squashBank, O.squashOther] <;> omega

/-- What a squash of loop `k` under a cause leaves. -/
structure Squashed (k : Fin 9) (c : Nat) (x y : Lane) : Prop where
  only : ∃ os rs ls, y = { x with objs := os, regs := rs, mx := { x.mx with loops := ls } }
  own : y.loop k = (x.loop k).discard
  others : ∀ j, j ≠ k → y.loop j = x.loop j
  total : CountedBy (O.squashTotal k) 1 x y
  cause : CountedBy (squashObj k c) 1 x y
  objs : ObjsKept [(O.squashTotal k).key, (squashObj k c).key] x y
  invalid : y.rbit (Rg.pwmStat (loopStage k)) 9 = false
  regs : RegsKept [(Rg.pwmStat (loopStage k)).addr, Rg.mxStat.addr] x y
  active : y.bank1Active = x.bank1Active

/-- The last step of a squash: LAST_SQUASH of MX_STAT, which shows the cause of the steering loop (R159). -/
theorem Squashed.shown {k : Fin 9} {c : Nat} {x y : Lane} (h : Squashed k c x y) (v : Nat) : Squashed k c x (y.setFld Rg.mxStat 4 4 v) := by
  obtain ⟨only, own, others, total, cause, objs, invalid, regs, active⟩ := h
  refine ⟨?_, own, others, total, cause, objs, ?_, regs.trans (regsKept_setFld (by simp) y 4 4 v), (Lane.bank1Active_setFld y v (by omega)).trans active⟩
  · obtain ⟨_, _, _, rfl⟩ := only
    exact ⟨_, _, _, rfl⟩
  · have apart : (Rg.pwmStat (loopStage k)).addr ≠ Rg.mxStat.addr := by have := pwmStat_addr_lt (loopStage k); simp only [Rg.mxStat]; omega
    exact (Lane.rbit_of_reg_eq (Lane.reg_setFld_of_ne _ _ _ _ apart) 9).trans invalid

theorem Lane.squash_squashed (x : Lane) (k : Fin 9) (c : Nat) : Squashed k c x (x.squash k c) := by
  have keys := squashObj_key k c
  have lt := pwmStat_addr_lt (loopStage k)
  obtain ⟨y, hy⟩ : ∃ y, y = (x.updLoop k LoopSt.discard).setRbit (Rg.pwmStat (loopStage k)) 9 false := ⟨_, rfl⟩
  have regs : RegsKept [(Rg.pwmStat (loopStage k)).addr, Rg.mxStat.addr] x y := hy ▸ regsKept_setRbit (by simp) (x.updLoop k _) 9 false
  have stat : y.reg Rg.mxStat = x.reg Rg.mxStat :=
    hy ▸ Lane.reg_setRbit_of_ne (x.updLoop k _) 9 false (by simp only [Rg.mxStat]; omega)
  have counted : Squashed k c x ((y.inc (O.squashTotal k)).inc (squashObj k c)) :=
    { only := ⟨_, _, _, by rw [hy]; rfl⟩
      own := by rw [hy]; exact x.loop_updLoop k _
      others := fun j hj => by rw [hy]; exact x.loop_updLoop_of_ne k j _ hj
      total := (countedBy_inc y _).of_obj_eq (by rw [hy]; rfl) (Lane.obj_inc_of_ne _ (by omega))
      cause := (countedBy_inc (y.inc (O.squashTotal k)) _).of_obj_eq
        ((show x.obj _ = y.obj _ by rw [hy]; rfl).trans (Lane.obj_inc_of_ne y (by omega)).symm) rfl
      objs := by
        have start : ObjsKept [(O.squashTotal k).key, (squashObj k c).key] x y := fun _ _ => by rw [hy]; rfl
        exact start.trans ((objsKept_inc (by simp) y).trans (objsKept_inc (by simp) _))
      invalid := by rw [hy]; exact Lane.rbit_setRbit (x.updLoop k _) _ _ (by omega)
      regs := regs
      active := Lane.bank1Active_of_reg_eq stat }
  unfold Lane.squash
  rw [← hy]
  split_ifs
  · exact counted.shown c
  · exact counted

/-! The start of an entry (R127, R129). -/

/-- Region P of a loop: the parameters of the bench block in force (R127). -/
def Lane.region (x : Lane) (k : Fin 9) : List Nat := (List.range 32).map (blockWord x.activeBank k (x.blockOf k))

theorem Lane.beginEntry_eq (x : Lane) (k : Fin 9) (e : EntryKind) :
    x.beginEntry k e = x.updLoop k fun p => { p with entry := e, cycEntry := 0, par := x.region k, seen := x.slotsOf k } := rfl

@[simp] theorem Lane.loop_beginEntry (x : Lane) (k : Fin 9) (e : EntryKind) :
    (x.beginEntry k e).loop k = { x.loop k with entry := e, cycEntry := 0, par := x.region k, seen := x.slotsOf k } := x.loop_updLoop k _

theorem Lane.loop_beginEntry_of_ne (x : Lane) (k : Fin 9) (e : EntryKind) {j : Fin 9} (h : j ≠ k) : (x.beginEntry k e).loop j = x.loop j :=
  x.loop_updLoop_of_ne k j _ h

theorem loopOnly_beginEntry (k : Fin 9) (x : Lane) (e : EntryKind) : LoopOnly k x (x.beginEntry k e) := by
  rw [Lane.beginEntry_eq]
  exact loopOnly_updLoop k x _

theorem Squashed.activeBank {k : Fin 9} {c : Nat} {x y : Lane} (h : Squashed k c x y) : y.activeBank = x.activeBank := by
  obtain ⟨_, _, _, only⟩ := h.only
  rw [Lane.activeBank, Lane.activeBank, h.active, only]

theorem Squashed.region {k : Fin 9} {c : Nat} {x y : Lane} (h : Squashed k c x y) (j : Fin 9) : y.region j = x.region j := by
  have low : ∀ a ∈ [(Rg.pwmStat (loopStage k)).addr, Rg.mxStat.addr], a < 0x400A0020 := by
    have := pwmStat_addr_lt (loopStage k)
    simp only [List.mem_cons, List.not_mem_nil, or_false, forall_eq_or_imp, forall_eq, Rg.mxStat]
    omega
  rw [Lane.region, Lane.region, h.activeBank, Lane.blockOf_of_regsKept h.regs low]

theorem Squashed.slotsOf {k : Fin 9} {c : Nat} {x y : Lane} (h : Squashed k c x y) (j : Nat) : y.slotsOf j = x.slotsOf j := by
  obtain ⟨_, _, _, only⟩ := h.only
  rw [only]
  rfl

end Sys2Proof.Machine
end

section
/-!
SUPPORT. TUBE, PREP and END on a loop (R122, R131, R132, R147, R148), and E1 where it has nothing to do (R154).
-/
namespace Sys2Proof.Machine

/-! The channels of a TUBE (R148). -/

theorem Lane.tubeOut_eq_nil (x : Lane) (k : Fin 9) (n tub src : Nat) : x.tubeOut k n tub src = [] ↔
    ∀ i < n, tubeWord x.activeBank k (tub + i) = 0 ∨ ((x.loop k).rdI (src + i)).natAbs ≤ tubeWord x.activeBank k (tub + i) := by
  simp only [Lane.tubeOut, List.filter_eq_nil_iff, List.mem_range, Bool.and_eq_true, decide_eq_true_eq, not_and, not_lt]
  exact forall₂_congr fun i _ => Decidable.imp_iff_not_or.trans (or_congr_left Decidable.not_not)

theorem Lane.tubeOut_spent (x : Lane) (k : Fin 9) (i : E1Ins) (n tub src : Nat) : (x.spent k i).tubeOut k n tub src = x.tubeOut k n tub src := by
  simp only [Lane.tubeOut, Lane.loop_spent, LoopSt.rdI_spend]
  rfl

section
variable {x : Lane} {k : Fin 9} {n tub src : Nat}

theorem Lane.tube_of_idle (other : (x.loop k).entry ≠ .corr) : x.tube k n tub src = x := if_pos other

theorem Lane.tube_of_inside (corr : (x.loop k).entry = .corr) (inside : x.tubeOut k n tub src = []) :
    x.tube k n tub src = x.setSpecValid k true := by
  rw [Lane.tube, if_neg (not_not.mpr corr)]
  exact if_pos (by rw [inside]; rfl)

theorem Lane.tube_of_outside (corr : (x.loop k).entry = .corr) (outside : x.tubeOut k n tub src ≠ []) : x.tube k n tub src
    = ((x.setObj (O.tubeViolMask k) (sumNat ((x.tubeOut k n tub src).map fun i => 2 ^ (tub + i)) % 2 ^ 32)).squash k 1).beginEntry k .full := by
  rw [Lane.tube, if_neg (not_not.mpr corr)]
  exact if_neg (by simpa using outside)

/-- A TUBE that a channel fails takes 4 cycles more, after which FULL starts (R147, R148). -/
theorem Lane.insCost_tube_of_outside {len : Fin 32} {tub src : BitVec 8} (corr : (x.loop k).entry = .corr)
    (outside : x.tubeOut k (len.val + 1) tub.toNat src.toNat ≠ []) : x.insCost k (.tube len tub src) = (len.val + 4) / 4 + 8 := by
  have fails : ((x.loop k).entry = .corr && !(x.tubeOut k (len.val + 1) tub.toNat src.toNat).isEmpty) = true := by simp [corr, outside]
  simp only [Lane.insCost, fails, if_true, insCycles, ceilDiv]
  omega

end

/-- What a failed TUBE leaves: the squash of its cause, and FULL begun anew (R148, R149). -/
theorem Lane.tubeFailed_spec {x z y : Lane} {k : Fin 9} {c v : Nat} (spent : z = x.updLoop k fun p => p.spend c)
    (hy : y = ((z.setObj (O.tubeViolMask k) v).squash k 1).beginEntry k .full) :
    y.loop k = { (x.loop k).spend c with shw := [], specValid := false, entry := .full, cycEntry := 0, par := x.region k, seen := x.slotsOf k } ∧
      y.rbit (Rg.pwmStat (loopStage k)) 9 = false ∧ CountedBy (O.squashTube k) 1 x y ∧ CountedBy (O.squashTotal k) 1 x y ∧
      ObjsKept [(O.tubeViolMask k).key, (O.squashTube k).key, (O.squashTotal k).key] x y ∧
      RegsKept [(Rg.pwmStat (loopStage k)).addr, Rg.mxStat.addr] x y ∧
      y = { x with mx := y.mx, objs := y.objs, regs := y.regs } ∧ ∀ j, j ≠ k → y.loop j = x.loop j := by
  have keys := squashObj_key k 1
  obtain ⟨w, hw⟩ : ∃ w, w = z.setObj (O.tubeViolMask k) v := ⟨_, rfl⟩
  have sq := w.squash_squashed k 1
  rw [← hw] at hy
  generalize w.squash k 1 = u at sq hy
  have kept : ObjsKept [(O.tubeViolMask k).key] x w := by
    rw [hw, spent]
    exact objsKept_setObj (by simp) (x.updLoop k _) v
  have start : RegsKept [(Rg.pwmStat (loopStage k)).addr, Rg.mxStat.addr] x w := fun _ _ => by rw [hw, spent]; rfl
  have own : w.loop k = (x.loop k).spend c := by rw [hw, spent]; exact x.loop_updLoop k fun p => p.spend c
  have region : w.region k = x.region k := by rw [hw, spent]; rfl
  have slots : w.slotsOf k = x.slotsOf k := by rw [hw, spent]; rfl
  have same : ∀ o : O.Obj, o.key < (O.tubeViolMask k).key → w.obj o = x.obj o := fun o lt => kept o (by simp; omega)
  obtain ⟨os, rs, ls, only⟩ := sq.only
  refine ⟨?_, ?_, ?_, ?_, fun o ho => ?_, fun r hr => ?_, ?_, fun j hj => ?_⟩
  · rw [hy, Lane.loop_beginEntry, sq.own, sq.region, sq.slotsOf, own, region, slots]
    rfl
  · rw [hy]
    exact sq.invalid
  · exact sq.cause.of_obj_eq (same _ keys.2).symm (by rw [hy]; rfl)
  · exact sq.total.of_obj_eq (same _ (keys.1.trans keys.2)).symm (by rw [hy]; rfl)
  · simp only [List.mem_cons, List.not_mem_nil, or_false, not_or] at ho
    obtain ⟨mask, tube, total⟩ := ho
    have := sq.objs o (by simpa using ⟨total, tube⟩)
    rw [hy]
    exact this.trans (kept o (by simpa using mask))
  · rw [hy]
    exact (sq.regs r hr).trans (start r hr)
  · rw [hy, only, hw, spent]
    rfl
  · rw [hy, Lane.loop_beginEntry_of_ne _ _ _ hj, sq.others j hj, hw, spent]
    exact x.loop_updLoop_of_ne k j (fun p => p.spend c) hj

/-! E1 with nothing to do (R154). -/

theorem Lane.e1Turn_of_free {x : Lane} (t : Nat) (free : x.mx.cur = none) (waiting : x.mx.waiting = []) : x.e1Turn t = none := by
  have nothing : x.nextWork = none := by simp [Lane.nextWork, waiting]
  rw [Lane.e1Turn, free]
  simp only [nothing]

theorem Lane.e1Turn_of_commanded {x : Lane} (t : Nat) {k : Fin 9} (cur : x.mx.cur = some k) (pc : x.mx.pc = none) : x.e1Turn t = none := by
  rw [Lane.e1Turn, cur, pc]

theorem Lane.e1Turns_of_stands {x : Lane} {t : Nat} (h : x.e1Turn t = none) (n : Nat) : x.e1Turns t n = x := by
  cases n with
  | zero => rfl
  | succ n => rw [Lane.e1Turns, h]

theorem Lane.e1Until_of_stands {x : Lane} {t : Nat} (h : x.e1Turn t = none) : x.e1Until t = x := Lane.e1Turns_of_stands h _

/-! END (R122, R131). -/

theorem Lane.endEntry_of_followed {x : Lane} {k : Fin 9} (brake : k ≠ 0) (entry : (x.loop k).entry ≠ .spec) (on : x.specOn = true) :
    x.endEntry k = x.beginEntry k .spec := if_pos (by simp [brake, entry, on])

/-- A lane whose open entry, of loop `k`, has ended. -/
def Lane.entryOver (x : Lane) (k : Fin 9) : Lane :=
  let z := x.updLoop k fun p => { p with entry := .none }
  { z with mx := { z.mx with cur := none, pc := none } }

@[simp] theorem Lane.loop_entryOver (x : Lane) (k : Fin 9) : (x.entryOver k).loop k = { x.loop k with entry := .none } :=
  x.loop_updLoop k fun p => { p with entry := .none }

theorem Lane.loop_entryOver_of_ne (x : Lane) {j k : Fin 9} (h : j ≠ k) : (x.entryOver k).loop j = x.loop j :=
  x.loop_updLoop_of_ne k j (fun p => { p with entry := .none }) h

theorem Lane.endEntry_of_done {x : Lane} {k : Fin 9} (done : k = 0 ∨ (x.loop k).entry = .spec ∨ x.specOn = false) :
    x.endEntry k = x.entryOver k := by
  refine if_neg ?_
  simp only [Bool.and_eq_true, decide_eq_true_eq, not_and, Bool.not_eq_true]
  exact fun open_ => (done.resolve_left open_.1).resolve_left open_.2

end Sys2Proof.Machine
end

section
/-!
SUPPORT. The delivery of leg voltages to a stage (R232, R233, R238): what a commit writes, and when its set takes its place.
-/
namespace Sys2Proof.Machine

/-! The update point takes a set (R232, R233). -/

/-- Lane `y` is `x` but for stage `st`, its PWM_CLAT and its PWM_STAT. -/
structure StagePlaced (st : Stage) (x y : Lane) : Prop where
  only : ∃ rs a b, y = { x with regs := rs, steer := a, brakes := b }
  regs : RegsKept [(Rg.pwmClat st).addr, (Rg.pwmStat st).addr] x y
  others : ∀ q, q ≠ st → y.stg q = x.stg q

theorem StagePlaced.refl (st : Stage) (x : Lane) : StagePlaced st x x := ⟨⟨_, _, _, rfl⟩, .refl _ x, fun _ _ => rfl⟩

theorem StagePlaced.trans {st : Stage} {x y z : Lane} (h : StagePlaced st x y) (g : StagePlaced st y z) : StagePlaced st x z := by
  refine ⟨?_, h.regs.trans g.regs, fun q hq => (g.others q hq).trans (h.others q hq)⟩
  obtain ⟨_, _, _, ey⟩ := h.only
  obtain ⟨rs, a, b, ez⟩ := g.only
  exact ⟨rs, a, b, by rw [ez, ey]⟩

theorem stagePlaced_updStg (st : Stage) (x : Lane) (f : StageSt → StageSt) : StagePlaced st x (x.updStg st f) := by
  refine ⟨?_, fun r _ => by rw [Lane.reg, Lane.updStg_regs, Lane.reg], fun q hq => x.stg_updStg_of_ne st q f hq⟩
  obtain ⟨a, b, e⟩ := x.updStg_only st f
  exact ⟨_, a, b, e⟩

theorem regsKept_raiseBit {as : List Nat} {r : Rg.Reg} (h : r.addr ∈ as) (x : Lane) (i : Nat) (b : Bool) : RegsKept as x (x.raiseBit r i b) := by
  cases b
  · exact .refl as x
  · exact regsKept_setRbit h x i true

theorem Lane.raiseBit_only (x : Lane) (r : Rg.Reg) (i : Nat) (b : Bool) : ∃ rs, x.raiseBit r i b = { x with regs := rs } := by
  cases b <;> exact ⟨_, rfl⟩

/-- The words that show a placement. -/
theorem stagePlaced_shown (st : Stage) (x : Lane) (v i : Nat) (b : Bool) :
    StagePlaced st x ((x.setReg (Rg.pwmClat st) v).raiseBit (Rg.pwmStat st) i b) := by
  obtain ⟨rs, e⟩ := (x.setReg (Rg.pwmClat st) v).raiseBit_only (Rg.pwmStat st) i b
  refine ⟨⟨rs, x.steer, x.brakes, e⟩, (regsKept_setReg (by simp) x v).trans (regsKept_raiseBit (by simp) _ i b), fun q _ => ?_⟩
  rw [e]
  cases q <;> rfl

theorem Lane.place_placed (x : Lane) (st : Stage) (count : Nat) (set : LgSet) : StagePlaced st x (x.place st count set) := by
  unfold Lane.place
  exact (stagePlaced_shown st x _ _ _).trans (stagePlaced_updStg st _ _)

/-- A placed set waits for one of the next two update points. -/
theorem Lane.place_pending (x : Lane) (st : Stage) (count : Nat) (set : LgSet) :
    ((x.place st count set).stg st).coming = (x.stg st).coming ∧
      (((x.place st count set).stg st).pendNow = some set ∨ ((x.place st count set).stg st).pendNext = some set) := by
  unfold Lane.place
  extract_lets p mid nextMid ok atMid midTick y z
  have same : z.stg st = x.stg st := by
    obtain ⟨rs, e⟩ := y.raiseBit_only (Rg.pwmStat st) 4 (!ok)
    rw [show z = { y with regs := rs } from e]
    cases st <;> rfl
  rw [Lane.stg_updStg, same]
  split_ifs
  · exact ⟨rfl, .inl rfl⟩
  · exact ⟨rfl, .inr rfl⟩

theorem Lane.settle_placed (x : Lane) (st : Stage) (t : Nat) : StagePlaced st x (x.settle st t) := by
  unfold Lane.settle
  split
  · split_ifs
    · exact (stagePlaced_updStg st x _).trans (Lane.place_placed _ st _ _)
    · exact .refl st x
  · exact .refl st x

theorem Lane.settle_of_none {x : Lane} {st : Stage} (t : Nat) (h : (x.stg st).coming = none) : x.settle st t = x := by
  rw [Lane.settle, h]

theorem Lane.settle_of_later {x : Lane} {st : Stage} {t a : Nat} {set : LgSet} (h : (x.stg st).coming = some (a, set)) (later : t < a) :
    x.settle st t = x := by
  rw [Lane.settle, h]
  exact if_neg (by omega)

theorem Lane.settle_of_come {x : Lane} {st : Stage} {t a : Nat} {set : LgSet} (h : (x.stg st).coming = some (a, set)) (come : a ≤ t) :
    ((x.settle st t).stg st).coming = none ∧ (((x.settle st t).stg st).pendNow = some set ∨ ((x.settle st t).stg st).pendNext = some set) := by
  rw [Lane.settle, h]
  dsimp only
  rw [if_pos come]
  obtain ⟨coming, pends⟩ := Lane.place_pending (x.updStg st fun s => { s with coming := none }) st (x.countAt st a) set
  exact ⟨coming.trans (by rw [Lane.stg_updStg]), pends⟩

/-! The shadow set that leg voltages make (R238). -/

/-- The duty that leg voltage `i` of a commit makes, and whether it saturates. -/
def Lane.dutyOf (x : Lane) (st : Stage) (u : List Nat) (i : Nat) : Nat × Bool := duty16 (x.per st) (x.fld (Rg.pwmVConv st) 0 16) (nth u i)

theorem Lane.per_lt (x : Lane) (st : Stage) : x.per st < 2 ^ 16 := bits_lt _ _ _

/-- A duty is at most the period. -/
theorem duty16_le (p v c : Nat) : (duty16 p v c).1 ≤ 16 * p := by
  unfold duty16
  split_ifs with out
  · dsimp only
    omega
  · dsimp only
    split_ifs with low high
    · exact Nat.zero_le _
    · exact Nat.le_refl _
    · exact Nat.le_of_not_lt high

theorem Lane.dutyOf_lt (x : Lane) (st : Stage) (u : List Nat) (i : Nat) : (x.dutyOf st u i).1 < 2 ^ 32 := by
  have := duty16_le (x.per st) (x.fld (Rg.pwmVConv st) 0 16) (nth u i)
  have := x.per_lt st
  rw [Lane.dutyOf]
  omega

/-- The period and the duties of a commit in the shadow registers of its stage. -/
def Lane.shadowWritten (x : Lane) (st : Stage) (u : List Nat) : Lane :=
  (((x.setFld (Rg.pwmPerSh st) 0 16 (x.per st)).setReg (Rg.pwmDutySh st 0) (x.dutyOf st u 0).1).setReg (Rg.pwmDutySh st 1)
    (x.dutyOf st u 1).1).setReg (Rg.pwmDutySh st 2) (x.dutyOf st u 2).1

/-- The shadow set of a commit with what it counts and the marks that it clears. -/
def Lane.voltsWritten (x : Lane) (st : Stage) (u : List Nat) : Lane :=
  let n := (((List.range 3).map (x.dutyOf st u)).filter fun d => d.2).length
  (((x.shadowWritten st u).raiseBit (Rg.pwmStat st) 6 (n ≠ 0)).incBy (vsatsObj st) n).setFld (Rg.pwmLgctl st) 2 4 0

/-- A set that comes to a stage takes its place where it is complete by now, after one that came before it. -/
def Lane.delivers (x : Lane) (st : Stage) (at_ : Nat) (set : LgSet) : Lane :=
  let z := x.settle st x.now
  (z.updStg st fun s => { s with coming := some (at_, set) }).settle st z.now

theorem Lane.commitVolts_eq (x : Lane) (st : Stage) (at_ : Nat) (u : List Nat) : x.commitVolts st at_ u
    = (x.voltsWritten st u).delivers st at_ ⟨x.per st, ((List.range 3).map (x.dutyOf st u)).map fun d => d.1⟩ := rfl

end Sys2Proof.Machine
end

section
/-!
SUPPORT. The shadow set that a commit writes, and its delivery to the stage (R232, R238).
-/
namespace Sys2Proof.Machine

/-! The registers of a stage, in their order (R231). -/

theorem pwm_addrs (st : Stage) : (Rg.pwmLgctl st).addr = Rg.pwmBase st + 4 ∧ (Rg.pwmStat st).addr = Rg.pwmBase st + 8 ∧
    (Rg.pwmPerSh st).addr = Rg.pwmBase st + 0x10 ∧ (∀ i, (Rg.pwmDutySh st i).addr = Rg.pwmBase st + 0x14 + 4 * i) ∧
    (Rg.pwmClat st).addr = Rg.pwmBase st + 0x38 := by
  cases st <;> exact ⟨rfl, rfl, rfl, fun _ => rfl, rfl⟩

/-- The shadow set of a stage reads `p` and `ds`, and no write is marked. -/
structure ShadowReads (st : Stage) (p : Nat) (ds : Nat → Nat) (y : Lane) : Prop where
  period : y.fld (Rg.pwmPerSh st) 0 16 = p
  duties : ∀ i < 3, y.reg (Rg.pwmDutySh st i) = ds i
  marks : y.fld (Rg.pwmLgctl st) 2 4 = 0

theorem ShadowReads.of_regsKept {st : Stage} {p : Nat} {ds : Nat → Nat} {x y : Lane} (h : ShadowReads st p ds x)
    (kept : RegsKept [(Rg.pwmClat st).addr, (Rg.pwmStat st).addr] x y) : ShadowReads st p ds y := by
  obtain ⟨lgctl, stat, per, duty, clat⟩ := pwm_addrs st
  have apart : ∀ r : Rg.Reg, r.addr ≠ Rg.pwmBase st + 0x38 → r.addr ≠ Rg.pwmBase st + 8 → y.reg r = x.reg r :=
    fun r h1 h2 => kept r (by simp [clat, stat, h1, h2])
  refine ⟨(Lane.fld_of_reg_eq (apart _ ?_ ?_) 0 16).trans h.period, fun i hi => (apart _ ?_ ?_).trans (h.duties i hi),
    (Lane.fld_of_reg_eq (apart _ ?_ ?_) 2 4).trans h.marks⟩ <;> simp only [lgctl, per, duty] <;> omega

section
variable (x : Lane) (st : Stage) (u : List Nat)

theorem Lane.period_shadowWritten : (x.shadowWritten st u).fld (Rg.pwmPerSh st) 0 16 = x.per st := by
  obtain ⟨_, _, per, duty, _⟩ := pwm_addrs st
  have same : (x.shadowWritten st u).reg (Rg.pwmPerSh st) = (x.setFld (Rg.pwmPerSh st) 0 16 (x.per st)).reg (Rg.pwmPerSh st) := by
    rw [Lane.shadowWritten, Lane.reg_setReg_of_ne _ _ (by rw [per, duty]; omega), Lane.reg_setReg_of_ne _ _ (by rw [per, duty]; omega),
      Lane.reg_setReg_of_ne _ _ (by rw [per, duty]; omega)]
  rw [Lane.fld_of_reg_eq same, Lane.fld_setFld _ _ _ (by omega), Nat.mod_eq_of_lt (x.per_lt st)]

theorem Lane.duties_shadowWritten {i : Nat} (hi : i < 3) : (x.shadowWritten st u).reg (Rg.pwmDutySh st i) = (x.dutyOf st u i).1 := by
  obtain ⟨_, _, _, duty, _⟩ := pwm_addrs st
  rw [Lane.shadowWritten]
  have last : i = 2 ∨ i = 1 ∨ i = 0 := by omega
  obtain rfl | rfl | rfl := last
  · rw [Lane.reg_setReg, Nat.mod_eq_of_lt (x.dutyOf_lt st u 2)]
  · rw [Lane.reg_setReg_of_ne _ _ (by rw [duty, duty]; omega), Lane.reg_setReg, Nat.mod_eq_of_lt (x.dutyOf_lt st u 1)]
  · rw [Lane.reg_setReg_of_ne _ _ (by rw [duty, duty]; omega), Lane.reg_setReg_of_ne _ _ (by rw [duty, duty]; omega), Lane.reg_setReg,
      Nat.mod_eq_of_lt (x.dutyOf_lt st u 0)]

/-- The registers that the shadow set leaves to its counts and marks. -/
theorem Lane.reg_voltsWritten (r : Rg.Reg) (stat : r.addr ≠ (Rg.pwmStat st).addr) (lgctl : r.addr ≠ (Rg.pwmLgctl st).addr) :
    (x.voltsWritten st u).reg r = (x.shadowWritten st u).reg r := by
  rw [Lane.voltsWritten, Lane.reg_setFld_of_ne _ _ _ _ lgctl, Lane.incBy_only]
  exact regsKept_raiseBit (as := [(Rg.pwmStat st).addr]) (by simp) _ _ _ r (by simpa using stat)

theorem Lane.voltsWritten_reads : ShadowReads st (x.per st) (fun i => (x.dutyOf st u i).1) (x.voltsWritten st u) := by
  obtain ⟨lgctl, stat, per, duty, _⟩ := pwm_addrs st
  refine ⟨?_, fun i hi => ?_, Lane.fld_setFld _ _ 0 (by omega)⟩
  · rw [Lane.fld_of_reg_eq (x.reg_voltsWritten st u _ (by rw [per, stat]; omega) (by rw [per, lgctl]; omega)), Lane.period_shadowWritten]
  · rw [x.reg_voltsWritten st u _ (by rw [duty, stat]; omega) (by rw [duty, lgctl]; omega), Lane.duties_shadowWritten x st u hi]

theorem Lane.shadowWritten_only : ∃ rs, x.shadowWritten st u = { x with regs := rs } := ⟨_, rfl⟩

theorem Lane.setFld_only (r : Rg.Reg) (lo w v : Nat) : ∃ rs, x.setFld r lo w v = { x with regs := rs } := ⟨_, rfl⟩

theorem Lane.voltsWritten_only : ∃ os rs, x.voltsWritten st u = { x with objs := os, regs := rs } := by
  unfold Lane.voltsWritten
  extract_lets n
  obtain ⟨rs0, e0⟩ := x.shadowWritten_only st u
  obtain ⟨rs1, e1⟩ := (x.shadowWritten st u).raiseBit_only (Rg.pwmStat st) 6 (n ≠ 0)
  obtain ⟨rs2, e2⟩ := (((x.shadowWritten st u).raiseBit (Rg.pwmStat st) 6 (n ≠ 0)).incBy (vsatsObj st) n).setFld_only (Rg.pwmLgctl st) 2 4 0
  exact ⟨_, rs2, by rw [e2, Lane.incBy_only, e1, e0]⟩

theorem Lane.voltsWritten_objsKept : ObjsKept [(vsatsObj st).key] x (x.voltsWritten st u) := by
  unfold Lane.voltsWritten
  extract_lets n
  obtain ⟨rs, e⟩ := (x.shadowWritten st u).raiseBit_only (Rg.pwmStat st) 6 (n ≠ 0)
  have start : ObjsKept [(vsatsObj st).key] x ((x.shadowWritten st u).raiseBit (Rg.pwmStat st) 6 (n ≠ 0)) := fun _ _ => by rw [e]; rfl
  exact start.trans (objsKept_incBy _ _ n)

end

/-! The delivery. -/

section
variable {x : Lane} {st : Stage} {at_ : Nat} {set : LgSet}

theorem Lane.delivers_placed : StagePlaced st x (x.delivers st at_ set) :=
  ((x.settle_placed st _).trans (stagePlaced_updStg st _ _)).trans (Lane.settle_placed _ st _)

theorem Lane.delivers_of_later (empty : (x.stg st).coming = none) (later : x.now < at_) :
    (x.delivers st at_ set).stg st = { x.stg st with coming := some (at_, set) } := by
  unfold Lane.delivers
  rw [x.settle_of_none _ empty, Lane.settle_of_later (by rw [Lane.stg_updStg]) later, Lane.stg_updStg]

theorem Lane.delivers_of_come (empty : (x.stg st).coming = none) (come : at_ ≤ x.now) : ((x.delivers st at_ set).stg st).coming = none ∧
    (((x.delivers st at_ set).stg st).pendNow = some set ∨ ((x.delivers st at_ set).stg st).pendNext = some set) := by
  unfold Lane.delivers
  rw [x.settle_of_none _ empty]
  exact Lane.settle_of_come (a := at_) (set := set) (by rw [Lane.stg_updStg]) come

end

/-- What the leg voltages of a commit leave in a lane, where they are complete at an instant. -/
structure Committed (st : Stage) (at_ : Nat) (p : Nat) (ds : List Nat) (x y : Lane) : Prop where
  only : ∃ os rs a b, y = { x with objs := os, regs := rs, steer := a, brakes := b }
  objs : ObjsKept [(vsatsObj st).key] x y
  reads : ShadowReads st p (nth ds) y
  others : ∀ q, q ≠ st → y.stg q = x.stg q
  later : (x.stg st).coming = none → x.now < at_ → y.stg st = { x.stg st with coming := some (at_, ⟨p, ds⟩) }
  come : (x.stg st).coming = none → at_ ≤ x.now →
    (y.stg st).coming = none ∧ ((y.stg st).pendNow = some ⟨p, ds⟩ ∨ (y.stg st).pendNext = some ⟨p, ds⟩)

theorem Lane.commitVolts_committed (x : Lane) (st : Stage) (at_ : Nat) (u : List Nat) :
    Committed st at_ (x.per st) ((List.range 3).map fun i => (x.dutyOf st u i).1) x (x.commitVolts st at_ u) := by
  rw [Lane.commitVolts_eq, List.map_map]
  obtain ⟨os, rs, only⟩ := x.voltsWritten_only st u
  have reads := x.voltsWritten_reads st u
  have objs := x.voltsWritten_objsKept st u
  generalize x.voltsWritten st u = w at only reads objs
  have placed : StagePlaced st w (w.delivers st at_ ⟨x.per st, (List.range 3).map ((fun d => d.1) ∘ x.dutyOf st u)⟩) := Lane.delivers_placed
  have stg : ∀ q, w.stg q = x.stg q := fun q => by rw [only]; cases q <;> rfl
  have now : w.now = x.now := by rw [only]
  obtain ⟨rs', a, b, only'⟩ := placed.only
  refine ⟨⟨os, rs', a, b, by rw [only', only]⟩, fun o ho => ?_, ?_, fun q hq => (placed.others q hq).trans (stg q),
    fun empty later => ?_, fun empty come => ?_⟩
  · rw [only']
    exact objs o ho
  · obtain ⟨period, duties, marks⟩ := reads.of_regsKept placed.regs
    refine ⟨period, fun i hi => (duties i hi).trans ?_, marks⟩
    have last : i = 2 ∨ i = 1 ∨ i = 0 := by omega
    obtain rfl | rfl | rfl := last <;> rfl
  · rw [← stg st]
    exact Lane.delivers_of_later ((congrArg StageSt.coming (stg st)).trans empty) (now ▸ later)
  · exact Lane.delivers_of_come ((congrArg StageSt.coming (stg st)).trans empty) (now ▸ come)

end Sys2Proof.Machine
end

section
/-!
O12. The entries of a run: TUBE, PREP, COMMIT and END (R122, R128, R131, R147 to R149, R153, R154).
-/
namespace Sys2Proof.Machine

theorem vsatsObj_key_lt (st : Stage) : (vsatsObj st).key < 0x501000 := by
  cases st with
  | steer => decide
  | brake n =>
    have := n.isLt
    simp only [vsatsObj, O.bpVsats]
    omega

/-- The counts and the latency that a commit records (R153, R160). -/
def Lane.commitCounted (x : Lane) (k : Fin 9) (lat most : Nat) (late : Bool) : Lane :=
  ((x.setObj (O.commitLatLast k) lat).setObj (O.commitLatMax k) most).incIf (O.lateCommits k) late

theorem Lane.commitCounted_spec (x : Lane) (k : Fin 9) (lat most : Nat) (late : Bool) :
    (∃ os, x.commitCounted k lat most late = { x with objs := os }) ∧ (x.commitCounted k lat most late).obj (O.commitLatLast k) = lat ∧
      CountedBy (O.lateCommits k) (if late then 1 else 0) x (x.commitCounted k lat most late) := by
  have late_ : (x.setObj (O.commitLatLast k) lat).obj (O.lateCommits k) = x.obj (O.lateCommits k) :=
    Lane.obj_setObj_of_ne _ _ (by simp only [O.lateCommits, O.commitLatLast]; omega)
  have most_ : ((x.setObj (O.commitLatLast k) lat).setObj (O.commitLatMax k) most).obj (O.lateCommits k) = x.obj (O.lateCommits k) :=
    (Lane.obj_setObj_of_ne _ _ (by simp only [O.lateCommits, O.commitLatMax]; omega)).trans late_
  refine ⟨by cases late <;> exact ⟨_, rfl⟩, ?_, ?_⟩
  · rw [Lane.commitCounted, Lane.obj_incIf_of_ne _ _ (by simp only [O.lateCommits, O.commitLatLast]; omega),
      Lane.obj_setObj_of_ne _ _ (by simp only [O.commitLatMax, O.commitLatLast]; omega), Lane.obj_setObj]
  · cases late with
    | false => exact fun _ => most_
    | true => exact (countedBy_inc _ _).of_obj_eq most_.symm rfl

/-- What a commit leaves of its loop (R128, R131, R148). -/
def LoopSt.commitTo (p : LoopSt) (u nos : List Nat) (ok : Bool) : LoopSt :=
  let q := p.promote
  { q with uCmd := u, yCopy := (List.range 24).map fun i => kvGet 0 q.win (0x28 + i), fresh := p.fresh || ok,
           commitNos := nos, committed := true, inTime := p.inTime || ok, obRun := if ok then 0 else p.obRun }

/-- COMMIT as its steps: the voltages, the counts, the loop. -/
theorem Lane.commitE1_steps (x : Lane) (k : Fin 9) (dq : Bool) (src : Nat) {h : Nat} (hh : h = (x.loop k).deliverH) :
    ∃ w most, Committed (loopStage k) ((h + 1) / 2) (x.per (loopStage k))
        ((List.range 3).map fun i => (x.dutyOf (loopStage k) ((x.loop k).legs dq src) i).1) x w ∧
      ∃ f : LoopSt → LoopSt, (∀ p, ∃ nos, f p = p.commitTo ((x.loop k).legs dq src) nos (x.commitInTime k h)) ∧
        x.commitE1 k dq src = (w.commitCounted k (min (ticksUp ((h : Int) - 2 * (x.loop k).startAt + (x.loop k).startH)) 0xFFFF) most
          (!x.commitInTime k h)).updLoop k f := by
  subst hh
  have half : ceilDiv (x.loop k).deliverH 2 = ((x.loop k).deliverH + 1) / 2 := rfl
  have volts := x.commitVolts_committed (loopStage k) (ceilDiv (x.loop k).deliverH 2) ((x.loop k).legs dq src)
  rw [half] at volts
  exact ⟨_, _, volts, _, fun p => ⟨_, rfl⟩, rfl⟩

/-- What COMMIT leaves in the lane. -/
theorem Lane.commitE1_spec (x : Lane) (k : Fin 9) (dq : Bool) (src : Nat) {h : Nat} (hh : h = (x.loop k).deliverH) {y : Lane}
    (hy : y = x.commitE1 k dq src) :
    (∃ w, Committed (loopStage k) ((h + 1) / 2) (x.per (loopStage k))
        ((List.range 3).map fun i => (x.dutyOf (loopStage k) ((x.loop k).legs dq src) i).1) x w ∧ y.regs = w.regs ∧ ∀ q, y.stg q = w.stg q) ∧
      (∃ nos, y.loop k = (x.loop k).commitTo ((x.loop k).legs dq src) nos (x.commitInTime k h)) ∧ (∀ j, j ≠ k → y.loop j = x.loop j) ∧
      y.obj (O.commitLatLast k) = min (ticksUp ((h : Int) - 2 * (x.loop k).startAt + (x.loop k).startH)) 0xFFFF ∧
      CountedBy (O.lateCommits k) (if x.commitInTime k h = true then 0 else 1) x y ∧
      ∃ os rs a b ls, y = { x with objs := os, regs := rs, steer := a, brakes := b, mx := { x.mx with loops := ls } } := by
  obtain ⟨w, most, volts, f, hf, steps⟩ := x.commitE1_steps k dq src hh
  rw [steps] at hy
  obtain ⟨⟨os, e⟩, last, late⟩ := w.commitCounted_spec k
    (min (ticksUp ((h : Int) - 2 * (x.loop k).startAt + (x.loop k).startH)) 0xFFFF) most (!x.commitInTime k h)
  obtain ⟨ws, wr, wa, wb, only⟩ := volts.only
  have loops : ∀ j, w.loop j = x.loop j := fun j => by rw [only]; rfl
  generalize w.commitCounted k _ most _ = v at e last late hy
  have vLoops : ∀ j, v.loop j = x.loop j := fun j => by rw [e]; exact loops j
  refine ⟨⟨w, volts, ?_, fun q => ?_⟩, ?_, fun j hj => ?_, ?_, ?_, ?_⟩
  · rw [hy, e]
    rfl
  · rw [hy, e]
    cases q <;> rfl
  · obtain ⟨nos, hnos⟩ := hf (x.loop k)
    exact ⟨nos, by rw [hy, Lane.loop_updLoop, vLoops, hnos]⟩
  · rw [hy, Lane.loop_updLoop_of_ne _ _ _ _ hj, vLoops]
  · rw [hy]
    exact last
  · have start : w.obj (O.lateCommits k) = x.obj (O.lateCommits k) := volts.objs _ (by
      have := vsatsObj_key_lt (loopStage k)
      simp only [O.lateCommits, List.mem_singleton]
      omega)
    have count : (if (!x.commitInTime k h) = true then 1 else 0) = if x.commitInTime k h = true then 0 else 1 := by
      cases x.commitInTime k h <;> rfl
    rw [count] at late
    exact late.of_obj_eq start.symm (by rw [hy]; rfl)
  · exact ⟨os, wr, wa, wb, _, by rw [hy, e, only]; rfl⟩

/-- PREP with its cycles (R132, R147). -/
theorem Lane.prep_spec (x : Lane) (k : Fin 9) (dq : Bool) (src : BitVec 8) {y : Lane} (hy : y = (x.spent k (.prep dq src)).e1op k (.prep dq src)) :
    y.loop k = { (x.loop k).spend 10 with spec := (x.loop k).legs dq src.toNat, specValid := false } ∧
      y.rbit (Rg.pwmStat (loopStage k)) 9 = false ∧ RegsKept [(Rg.pwmStat (loopStage k)).addr] x y ∧
      y = { x with mx := y.mx, regs := y.regs } := by
  obtain ⟨z, hz⟩ : ∃ z, z = x.spent k (.prep dq src) := ⟨_, rfl⟩
  obtain ⟨w, hw⟩ : ∃ w, w = z.updLoop k fun p => { p with spec := (z.loop k).legs dq src.toNat } := ⟨_, rfl⟩
  obtain ⟨own, invalid, regs, -⟩ := w.setSpecValid_spec k false
  have steps : y = w.setSpecValid k false := by rw [hy, ← hz, hw]; rfl
  have loop : w.loop k = { (x.loop k).spend 10 with spec := (x.loop k).legs dq src.toNat } := by
    rw [hw, Lane.loop_updLoop, hz, Lane.loop_spent]
    rfl
  have start : RegsKept [(Rg.pwmStat (loopStage k)).addr] x w := fun _ _ => by rw [hw, hz]; rfl
  rw [steps]
  refine ⟨own.trans (by rw [loop]), invalid, start.trans regs, ?_⟩
  rw [hw, hz]
  rfl

/-- COMMIT with its cycles (R131, R132, R232, R238). -/
theorem Lane.commit_spec (x : Lane) (k : Fin 9) (dq : Bool) (src : BitVec 8) {st : Stage} {h at_ : Nat} {ds : List Nat} (hst : st = loopStage k)
    (hh : h = 2 * (x.loop k).startAt + 5 * ((x.loop k).cyc + 10) + 50) (hat : at_ = (h + 1) / 2)
    (hds : ds = (List.range 3).map (fun i => (duty16 (x.per st) (x.fld (Rg.pwmVConv st) 0 16) (nth ((x.loop k).legs dq src.toNat) i)).1))
    {y : Lane} (hy : y = (x.spent k (.commit dq src)).e1op k (.commit dq src)) :
    (y.loop k).uCmd = (x.loop k).legs dq src.toNat ∧
      (y.loop k).committed = true ∧ (y.loop k).fresh = ((x.loop k).fresh || x.commitInTime k h) ∧ (y.loop k).shw = [] ∧
      (y.loop k).win = (x.loop k).promote.win ∧ (∀ j, j ≠ k → y.loop j = x.loop j) ∧
      y.obj (O.commitLatLast k) = min (ticksUp (5 * ((x.loop k).cyc + 10) + 50 + (x.loop k).startH : Nat)) 0xFFFF ∧
      CountedBy (O.lateCommits k) (if x.commitInTime k h = true then 0 else 1) x y ∧
      (y.loop k).inTime = ((x.loop k).inTime || x.commitInTime k h) ∧
      ((x.stg st).coming = none → x.now < at_ → y.stg st = { x.stg st with coming := some (at_, ⟨x.per st, ds⟩) }) ∧
      ((x.stg st).coming = none → at_ ≤ x.now → (y.stg st).coming = none ∧
        ((y.stg st).pendNow = some ⟨x.per st, ds⟩ ∨ (y.stg st).pendNext = some ⟨x.per st, ds⟩)) ∧
      y.fld (Rg.pwmPerSh st) 0 16 = x.per st ∧ (∀ i < 3, y.reg (Rg.pwmDutySh st i) = nth ds i) ∧
      y.fld (Rg.pwmLgctl st) 2 4 = 0 ∧ (∀ q, q ≠ st → y.stg q = x.stg q) ∧
      y.coll = x.coll ∧ y.claim = x.claim ∧ y.sio = x.sio ∧ y.eng = x.eng ∧ y.slots = x.slots := by
  obtain ⟨z, hz⟩ : ∃ z, z = x.spent k (.commit dq src) := ⟨_, rfl⟩
  have own : z.loop k = (x.loop k).spend 10 := by rw [hz, Lane.loop_spent]; rfl
  have inTime : z.commitInTime k h = x.commitInTime k h := by rw [Lane.commitInTime, own, hz]; rfl
  have legs : (z.loop k).legs dq src.toNat = (x.loop k).legs dq src.toNat := by rw [own]; rfl
  have duties : (List.range 3).map (fun i => (z.dutyOf st ((x.loop k).legs dq src.toNat) i).1) = ds := by rw [hds, hz]; rfl
  have latency : (h : Int) - 2 * (z.loop k).startAt + (z.loop k).startH = (5 * ((x.loop k).cyc + 10) + 50 + (x.loop k).startH : Nat) := by
    rw [hh, own]
    simp only [LoopSt.spend]
    push_cast
    ring
  have stg : ∀ q, z.stg q = x.stg q := fun q => by rw [hz]; cases q <;> rfl
  have others : ∀ j, j ≠ k → z.loop j = x.loop j := fun j hj => by rw [hz]; exact x.loop_updLoop_of_ne k j (fun p => p.spend _) hj
  have now : z.now = x.now := by rw [hz]; rfl
  have per : z.per st = x.per st := by rw [hz]; rfl
  obtain ⟨⟨w, volts, regs, stages⟩, ⟨nos, loop⟩, rest, last, late, reach⟩ :=
    z.commitE1_spec k dq src.toNat (h := h) (by rw [hh, own]; rfl) rfl
  rw [legs, ← hst, duties, ← hat, per] at volts
  rw [inTime, legs, own] at loop
  rw [latency] at last
  rw [inTime] at late
  have same : z.commitE1 k dq src.toNat = y := by rw [hy, hz]; rfl
  rw [same] at regs stages loop rest last late reach
  have reads : ∀ r, y.reg r = w.reg r := fun r => by rw [Lane.reg, regs, Lane.reg]
  rw [loop]
  refine ⟨rfl, rfl, rfl, rfl, rfl, fun j hj => (rest j hj).trans (others j hj), last, late.of_obj_eq (by rw [hz]; rfl) rfl, rfl,
    fun empty later => ?_, fun empty come => ?_, ?_, fun i hi => ?_, ?_, fun q hq => ?_, ?_⟩
  · rw [stages, ← stg]
    exact volts.later ((congrArg StageSt.coming (stg st)).trans empty) (now ▸ later)
  · rw [stages]
    exact volts.come ((congrArg StageSt.coming (stg st)).trans empty) (now ▸ come)
  · exact (Lane.fld_of_reg_eq (reads _) 0 16).trans volts.reads.period
  · exact (reads _).trans (volts.reads.duties i hi)
  · exact (Lane.fld_of_reg_eq (reads _) 2 4).trans volts.reads.marks
  · rw [stages, volts.others q hq, stg]
  · obtain ⟨_, _, _, _, _, e⟩ := reach
    rw [e, hz]
    exact ⟨rfl, rfl, rfl, rfl, rfl⟩

section
variable {s : State} {l : LaneId} {x : Lane} {k : Fin 9}

/-- END of an open entry: its cycles, the end, and what E1 then does (R154). -/
theorem exec_endEntry (has : Has s l x) (cur : x.mx.cur = some k) {y : Lane} (hy : (x.spent k .endI).endEntry k = y)
    (stands : ∀ t, y.e1Turn t = none) : exec (.endEntry l) s = .next (s.setLane l y) := by
  have arm : exec (.endEntry l) s = execEndEntry l s := rfl
  rw [arm, execEndEntry, onLane_of_has has, Lane.e1_of_cur cur]
  have ended : (x.spent k .endI).e1op k .endI = y := hy
  rw [ended]
  dsimp only
  rw [Lane.e1Until_of_stands (stands _)]

end

/-- Settles O12: TUBE by its entry and its channels, PREP and COMMIT by their steps, END by whether SPEC follows. -/
theorem tubeChecksPrepareAndCommitARun : Obligations.TubeChecksPrepareAndCommitARun := by
  unfold Obligations.TubeChecksPrepareAndCommitARun
  intro s l x k src has cur
  have entry : ∀ i, ((x.spent k i).loop k).entry = (x.loop k).entry := fun i => by rw [Lane.loop_spent]; rfl
  refine ⟨fun len tub corr inside => ⟨_, onLane_e1 has cur (.tube len tub src), ?_⟩,
    fun len tub i corr hi some_ above => ⟨_, onLane_e1 has cur (.tube len tub src), ?_⟩,
    fun len tub other => ⟨_, onLane_e1 has cur (.tube len tub src), ?_⟩, fun dq => ⟨_, onLane_e1 has cur (.prep dq src), ?_⟩,
    fun dq st h at_ ds hst hh hat hds => ⟨_, onLane_e1 has cur (.commit dq src), ?_⟩, fun done waiting => ?_, fun brake open_ on commanded => ?_⟩
  · have empty : x.tubeOut k (len.val + 1) tub.toNat src.toNat = [] := (x.tubeOut_eq_nil k _ _ _).mpr fun i hi => inside i (by omega)
    rw [Lane.e1op, Lane.tube_of_inside ((entry _).trans corr) ((x.tubeOut_spent k _ _ _ _).trans empty)]
    obtain ⟨own, valid, regs, -⟩ := (x.spent k (.tube len tub src)).setSpecValid_spec k true
    rw [own, Lane.loop_spent]
    exact ⟨rfl, corr, valid, rfl, fun _ => rfl, rfl, regs⟩
  · have fails : x.tubeOut k (len.val + 1) tub.toNat src.toNat ≠ [] := fun empty =>
      ((x.tubeOut_eq_nil k _ _ _).mp empty i (by omega)).elim some_ (by omega)
    rw [Lane.e1op, Lane.tube_of_outside ((entry _).trans corr) (by rwa [x.tubeOut_spent k])]
    obtain ⟨own, invalid, tube, total, objs, regs, only, others⟩ := Lane.tubeFailed_spec (x := x) (z := x.spent k (.tube len tub src)) rfl rfl
    rw [own, Lane.insCost_tube_of_outside corr fails]
    exact ⟨rfl, rfl, rfl, rfl, invalid, rfl, rfl, rfl, tube, total, objs, regs, only, others⟩
  · rw [Lane.e1op, Lane.tube_of_idle (by rwa [entry]), Lane.loop_spent]
    exact ⟨loopOnly_updLoop k x _, rfl, rfl, fun _ => rfl⟩
  · obtain ⟨own, invalid, regs, only⟩ := x.prep_spec k dq src rfl
    rw [own]
    exact ⟨rfl, rfl, invalid, fun _ => rfl, rfl, rfl, only, regs⟩
  · exact x.commit_spec k dq src hst hh hat hds rfl
  · have ended := Lane.endEntry_of_done (x := x.spent k .endI) (done.imp_right (Or.imp_left (entry _).trans))
    refine ⟨_, exec_endEntry has cur ended fun t => Lane.e1Turn_of_free t rfl waiting, ?_⟩
    rw [Lane.loop_entryOver, Lane.loop_spent]
    exact ⟨rfl, rfl, rfl, rfl, rfl, fun _ => rfl,
      fun j hj => (Lane.loop_entryOver_of_ne _ hj).trans (x.loop_updLoop_of_ne k j (fun p => p.spend _) hj), rfl⟩
  · have ended := Lane.endEntry_of_followed (x := x.spent k .endI) brake ((entry _).trans_ne open_) on
    refine ⟨_, exec_endEntry has cur ended fun t => Lane.e1Turn_of_commanded t (k := k) cur commanded, ?_⟩
    rw [Lane.loop_beginEntry, Lane.loop_spent]
    have spent : LoopOnly k x (x.spent k .endI) := loopOnly_updLoop k x _
    exact ⟨rfl, cur, spent.trans (loopOnly_beginEntry k _ _), rfl, rfl, rfl⟩

end Sys2Proof.Machine
end

section
/-!
SUPPORT. The turns of E1 (R132, R154): when an open entry goes on, and the work that begins where E1 is free.
-/
namespace Sys2Proof.Machine

/-! An open entry goes on at the end of its next instruction. -/

/-- An instruction takes 2 cycles at least (R132). -/
theorem two_le_insCycles (m : List (Nat × Byte)) (k : Nat) (i : E1Ins) : 2 ≤ insCycles m k i := by
  cases i with
  | lim mode => rw [insCycles]; split_ifs <;> omega
  | ld mode => rw [insCycles]; split_ifs <;> omega
  | mvm | vadd | vsub | sat | sel | st | tube => rw [insCycles]; omega
  | endI | ldc | prep | commit | post => simp [insCycles]

theorem Lane.two_le_insCost (x : Lane) (k : Fin 9) (i : E1Ins) : 2 ≤ x.insCost k i := (two_le_insCycles _ _ i).trans (Nat.le_add_right _ _)

theorem Lane.e1Turn_eq_none_of_open {x : Lane} {k : Fin 9} (cur : x.mx.cur = some k) (t : Nat) : x.e1Turn t = none ↔
    ∀ pc i, x.mx.pc = some pc → x.nextIns = some i → 2 * t < (x.loop k).doneH + 5 * x.insCost k i := by
  rw [Lane.e1Turn, cur]
  cases x.mx.pc with
  | none => simp
  | some pc => cases x.nextIns with
    | none => simp
    | some i => simp

/-- An entry that begins at an instant ends no instruction by then. -/
theorem Lane.e1Turn_of_begun {x : Lane} {k : Fin 9} {t : Nat} (cur : x.mx.cur = some k) (begun : (x.loop k).doneH = 2 * t) : x.e1Turn t = none :=
  (Lane.e1Turn_eq_none_of_open cur t).mpr fun _ i _ _ => by have := x.two_le_insCost k i; omega

/-- What an open entry does next hangs on its loop and on the active bank alone. -/
theorem Lane.e1Turn_eq_none_congr {x y : Lane} {k : Fin 9} {t : Nat} (h : x.e1Turn t = none) (cur : x.mx.cur = some k) (cur' : y.mx.cur = some k)
    (pc : y.mx.pc = x.mx.pc) (bank : y.activeBank = x.activeBank) (loop : y.loop k = x.loop k) : y.e1Turn t = none := by
  have next : y.nextIns = x.nextIns := by rw [Lane.nextIns, Lane.nextIns, cur, cur', pc, bank]
  have out : ∀ n tub src, y.tubeOut k n tub src = x.tubeOut k n tub src := fun n tub src => by simp only [Lane.tubeOut, bank, loop]
  have cost : ∀ i, y.insCost k i = x.insCost k i := fun i => by
    cases i with
    | tube => simp only [Lane.insCost, out, bank, loop]
    | _ => simp only [Lane.insCost, bank]
  rw [Lane.e1Turn_eq_none_of_open cur'] at *
  rw [Lane.e1Turn_eq_none_of_open cur] at h
  rw [pc, next, loop]
  simpa only [cost] using h

/-! Work that begins at once. -/

theorem Lane.nextWork_of_one {x : Lane} {w : E1Due} (one : x.mx.waiting = [w]) : x.nextWork = some w := by
  rw [Lane.nextWork, one]
  by_cases ready : w.due ≤ x.e1Free <;> simp [ready]

/-- The one work that waits begins at its instant, where E1 is free by then, and stands there. -/
theorem Lane.e1Until_of_one {x y : Lane} {w : E1Due} {t : Nat} (free : x.mx.cur = none) (one : x.mx.waiting = [w]) (due : w.due = t)
    (done : x.e1Free ≤ t) (hy : y = x.beginWork w t) (begun : (y.loop w.loop).doneH = 2 * t) : x.e1Until t = y := by
  have start : max w.due x.e1Free = t := by omega
  have begins : x.e1Turn t = some y := by
    rw [Lane.e1Turn, free, Lane.nextWork_of_one one]
    dsimp only
    rw [start, if_pos (Nat.le_refl t), hy]
  have stands : y.e1Turn t = none := Lane.e1Turn_of_begun (k := w.loop) (by rw [hy]; rfl) begun
  rw [Lane.e1Until, show (200000000 : Nat) = 199999999 + 1 from rfl, Lane.e1Turns, begins]
  exact Lane.e1Turns_of_stands stands _

/-- When E1 is free hangs on the instants and the cycles of the loops' runs alone. -/
theorem Lane.e1Free_congr {x y : Lane} (h : ∀ k, (y.loop k).doneH = (x.loop k).doneH) : y.e1Free = x.e1Free := by
  simp only [Lane.e1Free, h]

end Sys2Proof.Machine
end

section
/-!
SUPPORT. The runs of a loop (R122, R147, R149, R152 to R154): how one falls due, how one begins.
-/
namespace Sys2Proof.Machine

/-- Lanes that agree in what an entry of loop `k` begins with: the active bank, region P, the slots, and speculation. -/
structure SameStart (k : Fin 9) (x y : Lane) : Prop where
  bank : y.activeBank = x.activeBank
  region : y.region k = x.region k
  slots : y.slotsOf k = x.slotsOf k
  spec : y.specOn = x.specOn

theorem SameStart.refl (k : Fin 9) (x : Lane) : SameStart k x x := ⟨rfl, rfl, rfl, rfl⟩

theorem SameStart.trans {k : Fin 9} {x y z : Lane} (h : SameStart k x y) (g : SameStart k y z) : SameStart k x z :=
  ⟨g.bank.trans h.bank, g.region.trans h.region, g.slots.trans h.slots, g.spec.trans h.spec⟩

theorem sameStart_updLoop (k j : Fin 9) (x : Lane) (f : LoopSt → LoopSt) : SameStart k x (x.updLoop j f) := ⟨rfl, rfl, rfl, rfl⟩

theorem Squashed.sameStart {k j : Fin 9} {c : Nat} {x y : Lane} (h : Squashed k c x y) : SameStart j x y := by
  refine ⟨h.activeBank, h.region j, h.slotsOf j, ?_⟩
  obtain ⟨_, _, _, only⟩ := h.only
  rw [only]
  rfl

theorem sameStart_setSpecValid (k j : Fin 9) (x : Lane) (b : Bool) : SameStart k x (x.setSpecValid j b) := by
  obtain ⟨-, -, regs, -⟩ := x.setSpecValid_spec j b
  have lt := pwmStat_addr_lt (loopStage j)
  have active : (x.setSpecValid j b).activeBank = x.activeBank := by
    have kept := Lane.bank1Active_of_reg_eq (regs Rg.mxStat (by simp only [Rg.mxStat, List.mem_singleton]; omega))
    rw [Lane.activeBank, kept]
    rfl
  have block := Lane.blockOf_of_regsKept regs (fun a ha => by rw [List.mem_singleton.mp ha]; omega) k
  exact ⟨active, by rw [Lane.region, Lane.region, active, block], rfl, rfl⟩

/-! A run falls due. -/

/-- Is the run before abandoned where a run of loop `k` falls due (R149)? -/
def Lane.runStale (x : Lane) (k : Fin 9) : Bool :=
  (x.mx.waiting.any fun w => w.loop = k) || decide ((x.loop k).entry = .spec)
    || (!(x.loop k).committed && (decide ((x.loop k).entry ≠ .none) || !(x.loop k).shw.isEmpty))

/-- What a run that falls due leaves of its loop. -/
def LoopSt.runDue (p : LoopSt) (k : Fin 9) (stale : Bool) (reload : Nat) : LoopSt :=
  { p with specValid := false, entry := .none, cause := if stale then p.cause ||| 8 else p.cause, reload := reload, inTime := false, owes := true,
           postedBy := if k = 0 then p.postedBy else [] }

/-- What a run that falls due leaves of the lane. -/
theorem Lane.runDue_spec (x : Lane) (k : Fin 9) (due : Nat) {y : Lane} (hy : y = x.runDue k due) :
    y.loop k = (x.loop k).runDue k (x.runStale k) x.smp.reloadAt ∧ (∀ j, j ≠ k → y.loop j = x.loop j) ∧ SameStart k x y ∧
      y.objs = x.objs ∧ y.now = x.now ∧
      y.mx.waiting = (x.mx.waiting.filter fun w => w.loop ≠ k) ++ [⟨k, false, due⟩] ∧
      y.mx.cur = (if x.mx.cur = some k then none else x.mx.cur) ∧ y.mx.pc = if x.mx.cur = some k then none else x.mx.pc := by
  obtain ⟨z, hz⟩ : ∃ z, z = x.setSpecValid k false := ⟨_, rfl⟩
  obtain ⟨f, hf⟩ : ∃ f : LoopSt → LoopSt, f = fun p => { p with
    entry := .none, cause := if x.runStale k then p.cause ||| 8 else p.cause, reload := z.smp.reloadAt, inTime := false, owes := true,
    postedBy := if k = 0 then p.postedBy else [] } := ⟨_, rfl⟩
  obtain ⟨w, hw⟩ : ∃ w, w = z.updLoop k f := ⟨_, rfl⟩
  have steps : y = { w with mx := { w.mx with
      waiting := (w.mx.waiting.filter fun w => w.loop ≠ k) ++ [⟨k, false, due⟩]
      cur := if w.mx.cur = some k then none else w.mx.cur
      pc := if w.mx.cur = some k then none else w.mx.pc } } := by
    rw [hy, hw, hf, hz]
    rfl
  obtain ⟨own, -, -, others⟩ := x.setSpecValid_spec k false
  rw [← hz] at own others
  have start : SameStart k x w := by
    rw [hw, hz]
    exact (sameStart_setSpecValid k k x false).trans (sameStart_updLoop k k _ f)
  have mx : w.mx.waiting = x.mx.waiting ∧ w.mx.cur = x.mx.cur ∧ w.mx.pc = x.mx.pc := by rw [hw, hz]; exact ⟨rfl, rfl, rfl⟩
  obtain ⟨waiting, cur, pc⟩ := mx
  have loop : w.loop k = (x.loop k).runDue k (x.runStale k) x.smp.reloadAt := by
    rw [hw, Lane.loop_updLoop, own, hf, hz]
    rfl
  have rest : ∀ j, j ≠ k → w.loop j = x.loop j := fun j hj => by rw [hw, Lane.loop_updLoop_of_ne _ _ _ _ hj, others j hj]
  refine ⟨by rw [steps]; exact loop, fun j hj => by rw [steps]; exact rest j hj, by rw [steps]; exact start.trans ⟨rfl, rfl, rfl, rfl⟩,
    ?_, ?_, ?_, ?_, ?_⟩
  · rw [steps, hw, hz]
    rfl
  · rw [steps, hw, hz]
    rfl
  · rw [steps, waiting]
  · rw [steps, cur]
  · rw [steps, cur, pc]

/-! A run begins. -/

/-- The lane of a run that begins, with the squash that is due (R149, R158). -/
def Lane.runOpened (x : Lane) (k : Fin 9) : Lane :=
  let cause := firstCause (x.loop k).cause
  if cause ≠ 0 && (x.specOn || (x.loop k).specWas) then x.squash k cause
  else if x.specOn then x else x.updLoop k LoopSt.discard

theorem Lane.beginRun_eq (x : Lane) (k : Fin 9) (start due : Nat) : x.beginRun k start due
    = ((x.runOpened k).updLoop k fun p => { p with
        specWas := (x.runOpened k).specOn, cause := 0, cyc := 0,
        startH := 2 * (start - if k = 0 then (x.runOpened k).smp.reloadAt else due), startAt := start, committed := false }).beginEntry k
      (if (x.runOpened k).specOn && decide (firstCause (x.loop k).cause = 0) then .corr else .full) := rfl

/-- What the squash that is due leaves, with its first cause `c`. -/
structure RunOpened (k : Fin 9) (c : Nat) (x y : Lane) : Prop where
  own : y.loop k = x.loop k ∨ y.loop k = (x.loop k).discard
  others : ∀ j, j ≠ k → y.loop j = x.loop j
  start : SameStart k x y
  now : y.now = x.now
  uncounted : c = 0 → y.objs = x.objs
  counted : c ≠ 0 → x.specOn = true → CountedBy (O.squashTotal k) 1 x y ∧ CountedBy (squashObj k c) 1 x y ∧ y.loop k = (x.loop k).discard
  objs : ObjsKept [(O.squashTotal k).key, (squashObj k c).key] x y

theorem Lane.runOpened_runOpened (x : Lane) (k : Fin 9) : RunOpened k (firstCause (x.loop k).cause) x (x.runOpened k) := by
  unfold Lane.runOpened
  extract_lets c
  split_ifs with squashes on
  · have sq := x.squash_squashed k c
    have now : (x.squash k c).now = x.now := by
      obtain ⟨_, _, _, only⟩ := sq.only
      rw [only]
    simp only [Bool.and_eq_true, decide_eq_true_eq] at squashes
    exact ⟨.inr sq.own, sq.others, sq.sameStart, now, fun zero => absurd zero squashes.1, fun _ _ => ⟨sq.total, sq.cause, sq.own⟩, sq.objs⟩
  · exact ⟨.inl rfl, fun _ _ => rfl, .refl k x, rfl, fun _ => rfl, fun (some_ : c ≠ 0) _ => absurd (by simp [some_, on]) squashes, .refl _ x⟩
  · exact ⟨.inr (x.loop_updLoop k _), fun j hj => x.loop_updLoop_of_ne k j _ hj, sameStart_updLoop k k x _, rfl, fun _ => rfl,
      fun _ yes => absurd yes on, fun _ _ => rfl⟩

end Sys2Proof.Machine
end

section
/-!
SUPPORT. The work of E1 as it begins (R122, R129, R137, R154): the steering SPEC and the run of a brake slot.
-/
namespace Sys2Proof.Machine

/-- A loop whose entry begins in lane `x`: its parameters and its slots are those of now (R127, R129). -/
def LoopSt.enters (p : LoopSt) (x : Lane) (k : Fin 9) (e : EntryKind) : LoopSt :=
  { p with entry := e, cycEntry := 0, par := x.region k, seen := x.slotsOf k }

theorem SameStart.enters {k : Fin 9} {x y : Lane} (h : SameStart k x y) (p : LoopSt) (e : EntryKind) : p.enters y k e = p.enters x k e := by
  rw [LoopSt.enters, LoopSt.enters, h.region, h.slots]

theorem Lane.loop_beginEntry_enters (x : Lane) (k : Fin 9) (e : EntryKind) : (x.beginEntry k e).loop k = (x.loop k).enters x k e :=
  x.loop_beginEntry k e

/-- The program counter that an entry begins with (R137). -/
def Lane.pcAt (x : Lane) (k : Fin 9) (e : EntryKind) : Option Nat :=
  if loopPresent x.activeBank k then some (entryIndex x.activeBank k e) else none

theorem SameStart.pcAt {k : Fin 9} {x y : Lane} (h : SameStart k x y) (e : EntryKind) : y.pcAt k e = x.pcAt k e := by
  rw [Lane.pcAt, Lane.pcAt, h.bank]

theorem sameStart_beginEntry (k j : Fin 9) (x : Lane) (e : EntryKind) : SameStart k x (x.beginEntry j e) := ⟨rfl, rfl, rfl, rfl⟩

theorem sameStart_withWaiting (k : Fin 9) (x : Lane) (ws : List E1Due) : SameStart k x { x with mx := { x.mx with waiting := ws } } :=
  ⟨rfl, rfl, rfl, rfl⟩

/-- A lane whose entry of loop `k` is open, at an instruction. -/
def Lane.opens (x : Lane) (k : Fin 9) (pc : Option Nat) : Lane := { x with mx := { x.mx with cur := some k, pc := pc } }

/-! The SPEC of the steering loop. -/

/-- The steering SPEC that falls due, as work (R154). -/
def Lane.specDue (x : Lane) : E1Due := ⟨0, true, x.now⟩

/-- A lane in which the steering SPEC waits. -/
def Lane.specWaits (x : Lane) : Lane := { x with mx := { x.mx with waiting := x.mx.waiting ++ [x.specDue] } }

/-- A loop whose SPEC starts at an instant, of a sample that began before. -/
def LoopSt.specStarts (p : LoopSt) (start reload : Nat) : LoopSt := { p with startH := 2 * (start - reload), startAt := start, cyc := 0 }

theorem Lane.beginWork_spec (x : Lane) (alone : x.mx.waiting = []) {y : Lane} (hy : y = x.specWaits.beginWork x.specDue x.now) :
    y.loop 0 = ((x.loop 0).specStarts x.now x.smp.reloadAt).enters x 0 .spec ∧ y.mx.pc = x.pcAt 0 .spec ∧
      y = { x with mx := { x.mx with loops := y.mx.loops, cur := some 0, pc := y.mx.pc } } ∧ ∀ j, j ≠ 0 → y.loop j = x.loop j := by
  obtain ⟨z, hz⟩ : ∃ z, z = x.updLoop 0 fun p => p.specStarts x.now x.smp.reloadAt := ⟨_, rfl⟩
  have started : SameStart 0 x z := hz ▸ sameStart_updLoop 0 0 x _
  have own : (z.beginEntry 0 .spec).loop 0 = ((x.loop 0).specStarts x.now x.smp.reloadAt).enters x 0 .spec := by
    rw [Lane.loop_beginEntry_enters, started.enters, hz, Lane.loop_updLoop]
  have cleared : x.specWaits.mx.waiting.filter (fun w => w ≠ x.specDue) = x.mx.waiting := by simp [Lane.specWaits, alone]
  have steps : y = (z.beginEntry 0 .spec).opens 0 (z.pcAt 0 ((z.beginEntry 0 .spec).loop 0).entry) := by
    rw [hy, Lane.beginWork, cleared, hz]
    rfl
  rw [own] at steps
  rw [steps]
  refine ⟨own, started.pcAt _, by rw [hz]; rfl, fun j hj => (z.loop_beginEntry_of_ne 0 .spec hj).trans ?_⟩
  rw [hz]
  exact x.loop_updLoop_of_ne 0 j (fun p => p.specStarts x.now x.smp.reloadAt) hj

/-! The run of a brake slot. -/

/-- The run of a loop that falls due at an instant, as work (R154). -/
def slotWork (k : Fin 9) (t : Nat) : E1Due := ⟨k, false, t⟩

/-- A loop whose run starts at an instant, which it fell due at. -/
def LoopSt.runStarts (p : LoopSt) (start : Nat) (spec : Bool) : LoopSt :=
  { p with specWas := spec, cause := 0, cyc := 0, startH := 0, startAt := start, committed := false }

/-- The entry that a run begins with, under its first cause `c` (R122, R149). -/
def Lane.runEntry (x : Lane) (c : Nat) : EntryKind := if x.specOn && decide (c = 0) then .corr else .full

theorem Lane.beginRun_steps (x : Lane) {k : Fin 9} (brake : k ≠ 0) (t : Nat) : x.beginRun k t t
    = ((x.runOpened k).updLoop k fun p => p.runStarts t (x.runOpened k).specOn).beginEntry k
      ((x.runOpened k).runEntry (firstCause (x.loop k).cause)) := by
  rw [Lane.beginRun_eq, if_neg brake, Nat.sub_self]
  rfl

theorem SameStart.runEntry {k : Fin 9} {x y : Lane} (h : SameStart k x y) (c : Nat) : y.runEntry c = x.runEntry c := by
  rw [Lane.runEntry, Lane.runEntry, h.spec]

/-- The work that waits has no part in the squash that is due. -/
theorem RunOpened.of_withWaiting {k : Fin 9} {c : Nat} {x z : Lane} {ws : List E1Due}
    (h : RunOpened k c { x with mx := { x.mx with waiting := ws } } z) : RunOpened k c x z :=
  ⟨h.own, h.others, (sameStart_withWaiting k x ws).trans h.start, h.now, h.uncounted, h.counted, h.objs⟩

theorem Lane.beginWork_run (x : Lane) (k : Fin 9) {c t : Nat} (brake : k ≠ 0) (hc : c = firstCause (x.loop k).cause) {y : Lane}
    (hy : y = x.beginWork (slotWork k t) t) :
    ∃ z : Lane, RunOpened k c x z ∧ y.objs = z.objs ∧ y.mx.cur = some k ∧ y.mx.pc = x.pcAt k (x.runEntry c) ∧
      y.loop k = ((z.loop k).runStarts t x.specOn).enters x k (x.runEntry c) ∧ ∀ j, j ≠ k → y.loop j = x.loop j := by
  obtain ⟨w, hw⟩ : ∃ w : Lane, w = { x with mx := { x.mx with waiting := x.mx.waiting.filter fun v => v ≠ slotWork k t } } := ⟨_, rfl⟩
  have loop : w.loop k = x.loop k := by rw [hw]; rfl
  have opened := w.runOpened_runOpened k
  rw [loop, ← hc] at opened
  have steps : y = (w.beginRun k t t).opens k (w.beginRun k t t |>.pcAt k ((w.beginRun k t t).loop k).entry) := by
    rw [hy, hw]
    rfl
  rw [w.beginRun_steps brake, loop, ← hc] at steps
  generalize w.runOpened k = z at opened steps
  rw [hw] at opened
  have opened := opened.of_withWaiting
  obtain ⟨v, hv⟩ : ∃ v, v = z.updLoop k fun p => p.runStarts t z.specOn := ⟨_, rfl⟩
  have start : SameStart k x v := opened.start.trans (hv ▸ sameStart_updLoop k k z _)
  have own : (v.beginEntry k (z.runEntry c)).loop k = ((z.loop k).runStarts t x.specOn).enters x k (x.runEntry c) := by
    rw [Lane.loop_beginEntry_enters, start.enters, opened.start.runEntry, hv, Lane.loop_updLoop, opened.start.spec]
  rw [← hv, own] at steps
  rw [steps]
  refine ⟨z, opened, by rw [hv]; rfl, rfl, (sameStart_beginEntry k k v _).pcAt _ |>.trans (start.pcAt _), own, fun j hj => ?_⟩
  exact (v.loop_beginEntry_of_ne k _ hj).trans (by rw [hv]; exact (z.loop_updLoop_of_ne k j _ hj).trans (opened.others j hj))

end Sys2Proof.Machine
end

section
/-!
O13. Runs that open, wait and fall due, and overburdens (R122, R147, R149, R152, R154).
-/
namespace Sys2Proof.Machine

section
variable {s : State} {l : LaneId} {t : Nat} {x : Lane}

theorem exec_spec (h : FindsE1 s l t x) (due : x.e1Due = true) (on : x.specOn = true) :
    exec (.spec l t) s = .next (s.setLane l (x.specWaits.e1Until x.now)) := by
  have arm : exec (.spec l t) s = execSpec l t s := rfl
  rw [arm, execSpec, onE1_of_findsE1 h, if_pos (by simp [due, on])]
  rfl

theorem exec_spec_of_nothing (h : FindsE1 s l t x) (off : x.e1Due = false ∨ x.specOn = false) :
    exec (.spec l t) s = .next (s.setLane l x) := by
  have arm : exec (.spec l t) s = execSpec l t s := rfl
  rw [arm, execSpec, onE1_of_findsE1 h, if_neg (by simpa [← not_and_or, imp_iff_not_or] using off)]

theorem exec_brakeSlot (h : FindsE1 s l t x) {n : Fin 8} {k : Fin 9} (hk : k.val = n.val + 1) :
    exec (.brakeSlot l n t) s = .next (s.setLane l (x.brakeRun k)) := by
  have arm : exec (.brakeSlot l n t) s = execBrakeSlot l n t s := rfl
  have slot : k = ⟨n.val + 1, Nat.add_lt_add_right n.isLt 1⟩ := Fin.ext hk
  rw [arm, execBrakeSlot, onE1_of_findsE1 h, slot]

end

/-! The run of a brake slot, by what its lane is at. -/

section
variable {x : Lane} {k : Fin 9}

theorem Lane.brakeRun_of_idle (idle : x.loopExists k = false ∨ x.slotDue k = false) : x.brakeRun k = x :=
  if_pos (by simpa using idle)

theorem Lane.brakeRun_of_stopped (exists_ : x.loopExists k = true) (due : x.slotDue k = true) (stopped : x.e1Due = false) :
    x.brakeRun k = x.setSpecValid k false := by
  rw [Lane.brakeRun, if_neg (by simp [exists_, due]), if_neg (by simp [stopped])]

theorem Lane.brakeRun_of_due (exists_ : x.loopExists k = true) (due : x.slotDue k = true) (runs : x.e1Due = true) :
    x.brakeRun k = (x.runDue k x.now).e1Until x.now := by
  rw [Lane.brakeRun, if_neg (by simp [exists_, due]), if_pos runs]

/-- Where another entry is open, a run that falls due waits. -/
theorem Lane.runDue_waits {j : Fin 9} (cur : x.mx.cur = some j) (other : j ≠ k) (stands : x.e1Turn x.now = none) :
    (x.runDue k x.now).e1Until x.now = x.runDue k x.now := by
  obtain ⟨-, others, start, -, -, -, cur', pc⟩ := x.runDue_spec k x.now rfl
  have open_ : x.mx.cur ≠ some k := by simpa [cur] using other
  rw [if_neg open_] at cur' pc
  exact Lane.e1Until_of_stands (Lane.e1Turn_eq_none_congr stands cur (cur'.trans cur) pc start.bank (others j other))

/-- Where E1 is free, a run that falls due begins. -/
theorem Lane.runDue_begins {c : Nat} (brake : k ≠ 0) (free : x.mx.cur = none ∨ x.mx.cur = some k) (alone : x.mx.waiting = [])
    (done : x.e1Free ≤ x.now)
    (hc : c = firstCause (if x.runStale k then (x.loop k).cause ||| 8 else (x.loop k).cause)) {y : Lane}
    (hy : y = (x.runDue k x.now).e1Until x.now) :
    ∃ u z : Lane, u.loop k = (x.loop k).runDue k (x.runStale k) x.smp.reloadAt ∧ SameStart k x u ∧ u.objs = x.objs ∧ RunOpened k c u z ∧
      y.objs = z.objs ∧ y.mx.cur = some k ∧ y.mx.pc = x.pcAt k (x.runEntry c) ∧
      y.loop k = ((z.loop k).runStarts x.now x.specOn).enters x k (x.runEntry c) ∧ ∀ j, j ≠ k → y.loop j = x.loop j := by
  obtain ⟨u, hu⟩ : ∃ u, u = x.runDue k x.now := ⟨_, rfl⟩
  obtain ⟨own, others, start, objs, -, waiting, cur, -⟩ := x.runDue_spec k x.now hu
  have idle : u.mx.cur = none := by
    rw [cur]
    obtain e | e := free <;> simp [e]
  have one : u.mx.waiting = [slotWork k x.now] := by rw [waiting, alone]; rfl
  have ended : u.e1Free = x.e1Free := Lane.e1Free_congr fun j => by
    by_cases e : j = k
    · rw [e, own]
      rfl
    · rw [others j e]
  obtain ⟨z, opened, zObjs, zCur, zPc, zOwn, zOthers⟩ := u.beginWork_run k (c := c) (t := x.now) brake (by rw [hc, own]; rfl) rfl
  rw [start.pcAt, start.runEntry] at zPc
  rw [start.enters, start.runEntry, start.spec] at zOwn
  have begun : ((u.beginWork (slotWork k x.now) x.now).loop k).doneH = 2 * x.now := by rw [zOwn]; rfl
  have begins : y = u.beginWork (slotWork k x.now) x.now :=
    (hy.trans (by rw [hu])).trans (Lane.e1Until_of_one (w := slotWork k x.now) (t := x.now) idle one rfl (by rw [ended]; exact done) rfl begun)
  rw [begins]
  exact ⟨u, z, own, start, objs, opened, zObjs, zCur, zPc, zOwn, fun j hj => (zOthers j hj).trans (others j hj)⟩

end

end Sys2Proof.Machine
end

section
/-!
O13. Overburdens (R152), and the statement.
-/
namespace Sys2Proof.Machine

/-- A lane whose run of loop `k` has overburdened: the count, what the next update point does, and the loop, that owes no commit any more. -/
def Lane.overburdened (x : Lane) (k : Fin 9) : Lane :=
  ((x.inc (O.overburdens k)).updStg (loopStage k) fun g => { g with
      atPoint := some (if (x.loop k).specValid then some (x.loop k).spec else none) }).updLoop k fun p => { p with
    owes := false, obRun := if (x.loop k).obRun + 1 = 3 then 0 else (x.loop k).obRun + 1 }

section
variable (x : Lane) (k : Fin 9)

theorem Lane.overburdened_spec : CountedBy (O.overburdens k) 1 x (x.overburdened k) ∧
    (x.overburdened k).loop k = { x.loop k with owes := false, obRun := if (x.loop k).obRun + 1 = 3 then 0 else (x.loop k).obRun + 1 } ∧
    (x.overburdened k).stg (loopStage k) = { x.stg (loopStage k) with
      atPoint := some (if (x.loop k).specValid = true then some (x.loop k).spec else none) } ∧
    ObjsKept [(O.overburdens k).key] x (x.overburdened k) ∧ (∀ j, j ≠ k → (x.overburdened k).loop j = x.loop j) ∧
    (∀ q, q ≠ loopStage k → (x.overburdened k).stg q = x.stg q) ∧ (x.overburdened k).coll = x.coll ∧ (x.overburdened k).regs = x.regs := by
  obtain ⟨z, hz⟩ : ∃ z, z = (x.inc (O.overburdens k)).updStg (loopStage k) fun g => { g with
      atPoint := some (if (x.loop k).specValid then some (x.loop k).spec else none) } := ⟨_, rfl⟩
  have stgs : ∀ q, (x.overburdened k).stg q = z.stg q := fun q => by rw [Lane.overburdened, ← hz]; cases q <;> rfl
  obtain ⟨a, b, only⟩ := (x.inc (O.overburdens k)).updStg_only (loopStage k) fun g => { g with
      atPoint := some (if (x.loop k).specValid then some (x.loop k).spec else none) }
  have before : ∀ q, (x.inc (O.overburdens k)).stg q = x.stg q := fun q => by cases q <;> rfl
  have loops : ∀ j, z.loop j = x.loop j := fun j => by rw [hz, only]; rfl
  refine ⟨(countedBy_inc x _).of_obj_eq rfl ?_, ?_, ?_, fun o ho => ?_, fun j hj => ?_, fun q hq => ?_, ?_, ?_⟩
  · rw [Lane.overburdened, only]
    rfl
  · rw [Lane.overburdened, ← hz, Lane.loop_updLoop, loops]
  · rw [stgs, hz, Lane.stg_updStg, before]
  · rw [Lane.overburdened, only]
    exact objsKept_inc (by simp) x o ho
  · rw [Lane.overburdened, ← hz, Lane.loop_updLoop_of_ne _ _ _ _ hj, loops]
  · rw [stgs, hz, Lane.stg_updStg_of_ne _ _ _ _ hq, before]
  · rw [Lane.overburdened, only]
    rfl
  · rw [Lane.overburdened, only]
    rfl

end

section
variable {s : State} {l : LaneId} {t : Nat} {x : Lane} {k : Fin 9}

theorem exec_overburden (h : FindsE1 s l t x) (exists_ : x.loopExists k = true) (owes : (x.loop k).owes = true)
    (late : (x.loop k).inTime = false) : exec (.overburden l k t) s = .next (s.setLane l ((x.overburdened k).raiseIf
      (decide ((x.loop k).obRun + 1 = 3)) (overburdenSrc k) (if (x.loop k).specValid then 2 else 1))) := by
  have arm : exec (.overburden l k t) s = execOverburden l k t s := rfl
  rw [arm, execOverburden, onE1_of_findsE1 h]
  dsimp only
  rw [if_neg (by simp [exists_, owes, late])]
  rfl

theorem exec_overburden_of_none (h : FindsE1 s l t x) (none_ : x.loopExists k = false ∨ (x.loop k).owes = false ∨ (x.loop k).inTime = true) :
    exec (.overburden l k t) s = .next (s.setLane l x) := by
  have arm : exec (.overburden l k t) s = execOverburden l k t s := rfl
  rw [arm, execOverburden, onE1_of_findsE1 h]
  dsimp only
  rw [if_pos (by simpa [or_assoc] using none_)]

end

/-- Settles O13: SPEC and a slot by whether E1 is free or another entry is open, a slot by whether it is due and E1 runs, an overburden by whether it
is the third. -/
theorem runsOpenAndOverburdensCount : Obligations.RunsOpenAndOverburdensCount := by
  unfold Obligations.RunsOpenAndOverburdensCount
  intro s l t x h
  have brake : ∀ {n : Fin 8} {k : Fin 9}, k.val = n.val + 1 → k ≠ 0 := fun hk e => by simp [e] at hk
  refine ⟨fun due on ready => ?_, fun due on open_ stands => ?_, exec_spec_of_nothing h,
    fun n k stale c hk exists_ due runs free alone done hs hc => ?_, fun n k j hk exists_ due runs cur other stands => ?_,
    fun n k hk idle => ?_, fun n k hk exists_ due stopped => ?_, fun k exists_ owes late few => ?_, fun k exists_ owes late third => ?_,
    fun k none_ => exec_overburden_of_none h none_⟩
  · obtain ⟨idle, alone, done⟩ := ready
    obtain ⟨y, hy⟩ : ∃ y, y = x.specWaits.beginWork x.specDue x.now := ⟨_, rfl⟩
    obtain ⟨own, pc, only, others⟩ := x.beginWork_spec alone hy
    have begun : (y.loop 0).doneH = 2 * x.now := by rw [own]; rfl
    have one : x.specWaits.mx.waiting = [x.specDue] := by rw [Lane.specWaits, alone]; rfl
    have begins : x.specWaits.e1Until x.now = y := Lane.e1Until_of_one (w := x.specDue) idle one rfl done hy begun
    rw [exec_spec h due on, begins]
    refine ⟨y, rfl, ?_, by rw [only], ?_, ?_, ?_, ?_, ?_, pc, only, others⟩ <;> rw [own] <;> rfl
  · obtain ⟨j, cur⟩ := Option.isSome_iff_exists.mp open_
    have waits : x.specWaits.e1Turn x.now = none := Lane.e1Turn_eq_none_congr stands cur cur rfl rfl rfl
    rw [exec_spec h due on, Lane.e1Until_of_stands waits]
    rfl
  · have stale_ : x.runStale k = stale := by rw [hs, Lane.runStale, alone, List.any_nil, Bool.false_or]
    obtain ⟨u, z, uOwn, uStart, uObjs, opened, objs, cur, pc, own, others⟩ :=
      x.runDue_begins (c := c) (brake hk) free alone done (by rw [stale_]; exact hc) rfl
    rw [exec_brakeSlot h hk, Lane.brakeRun_of_due exists_ due runs]
    have kept : (z.loop k).specValid = false ∧ (z.loop k).owes = true ∧ (z.loop k).inTime = false := by
      obtain e | e := opened.own <;> rw [e, uOwn] <;> exact ⟨rfl, rfl, rfl⟩
    obtain ⟨valid, owes, inTime⟩ := kept
    have entry : x.runEntry c = if x.specOn = true ∧ c = 0 then .corr else .full := if_congr (by simp) rfl rfl
    have codes : ∀ o, u.obj o = x.obj o := fun o => by rw [Lane.obj, uObjs, Lane.obj]
    refine ⟨_, rfl, cur, ?_⟩
    rw [own]
    refine ⟨entry, valid, rfl, owes, inTime, rfl, rfl, rfl, rfl, rfl, pc, fun zero => ?_, fun some_ on => ?_, fun o ho => ?_, others⟩
    · exact objs.trans ((opened.uncounted zero).trans uObjs)
    · obtain ⟨total, cause, gone⟩ := opened.counted some_ (uStart.spec.trans on)
      have same : ∀ o, (x.runDue k x.now |>.e1Until x.now).obj o = z.obj o := fun o => by rw [Lane.obj, objs, Lane.obj]
      exact ⟨total.of_obj_eq (codes _).symm (same _), cause.of_obj_eq (codes _).symm (same _), congrArg LoopSt.shw gone⟩
    · rw [Lane.obj, objs, ← codes o]
      exact opened.objs o ho
  · obtain ⟨own, others, -, objs, -, waiting, cur', pc⟩ := x.runDue_spec k x.now rfl
    have not_own : x.mx.cur ≠ some k := by simpa [cur] using other
    rw [if_neg not_own] at cur' pc
    rw [exec_brakeSlot h hk, Lane.brakeRun_of_due exists_ due runs, Lane.runDue_waits cur other stands]
    exact ⟨_, rfl, cur'.trans cur, pc, waiting, by rw [own]; rfl, by rw [own]; rfl, objs, others⟩
  · rw [exec_brakeSlot h hk, Lane.brakeRun_of_idle idle]
  · obtain ⟨own, invalid, regs, others⟩ := x.setSpecValid_spec k false
    rw [exec_brakeSlot h hk, Lane.brakeRun_of_stopped exists_ due stopped]
    exact ⟨_, rfl, by rw [own], invalid, rfl, regs, rfl, others⟩
  · obtain ⟨counted, own, stage, objs, others, stages, coll, regs⟩ := x.overburdened_spec k
    rw [exec_overburden h exists_ owes late, Lane.raiseIf, if_neg (by simpa using few)]
    exact ⟨_, rfl, counted, by rw [own], by rw [own, if_neg few], stage, objs, others, stages, coll, regs⟩
  · obtain ⟨counted, own, -, -, -, -, coll, -⟩ := x.overburdened_spec k
    rw [exec_overburden h exists_ owes late, Lane.raiseIf, if_pos (by simp [third])]
    refine ⟨_, x.overburdened k, rfl, counted, coll, Lane.raise_errorOf _ _ _, ?_⟩
    rw [Lane.loop, Lane.raise_mx]
    exact (congrArg LoopSt.obRun own).trans (if_pos (by rw [third]))

end Sys2Proof.Machine
end

section
/-!
SUPPORT. Rail pairs as the collector reads them (R297, R301, R303), and the entry that an error of E1's memories ends (R157).
-/
namespace Sys2Proof.Machine

/-! Pairs that have gone back to idle. -/

theorem Coll.healed_iff (c : Coll) (src t : Nat) : c.healed src t = true ↔ ∃ h ∈ c.heals, h.1 = src ∧ h.2 ≤ t := by
  simp [Coll.healed]

theorem Coll.mem_asserted_settle (c : Coll) (src t : Nat) :
    src ∈ (c.settle t).asserted ↔ src ∈ c.asserted ∧ (src ∈ c.driven ∨ c.healed src t = false) := by
  simp [Coll.settle]

theorem Coll.mem_broken_settle (c : Coll) (p : Nat × Bool) (t : Nat) : p ∈ (c.settle t).broken ↔ p ∈ c.broken ∧ c.healed p.1 t = false := by
  simp [Coll.settle]

section
variable {c : Coll} {src t : Nat}

/-- A pair whose reading has gone reads idle, unless COLL_FW drives it (R297, R299). -/
theorem Coll.settle_of_healed (gone : c.healed src t = true) :
    (src ∉ c.driven → src ∉ (c.settle t).asserted) ∧ ∀ b ∈ (c.settle t).broken, b.1 ≠ src := by
  refine ⟨fun free reads => ?_, fun b hb same => ?_⟩
  · obtain ⟨-, drives | stands⟩ := (c.mem_asserted_settle src t).mp reads
    · exact free drives
    · exact absurd gone (by simp [stands])
  · obtain ⟨-, stands⟩ := (c.mem_broken_settle b t).mp hb
    rw [same, gone] at stands
    exact Bool.noConfusion stands

/-- Any other pair reads as it did. -/
theorem Coll.settle_of_standing (stands : c.healed src t = false) :
    (src ∈ (c.settle t).asserted ↔ src ∈ c.asserted) ∧ ∀ b, (src, b) ∈ (c.settle t).broken ↔ (src, b) ∈ c.broken :=
  ⟨(c.mem_asserted_settle src t).trans (and_iff_left (.inr stands)), fun b => (c.mem_broken_settle (src, b) t).trans (and_iff_left stands)⟩

end

/-- Outside the cycle of a clear and of a record reset a reading finds the pairs as they are now. -/
theorem Lane.takeReading_of_no_undo {x : Lane} (clear : ∀ u, x.coll.undo = some u → u.at_ ≠ x.now)
    (reset : ∀ u, x.coll.resetUndo = some u → u.1 ≠ x.now) : x.takeReading = { x with coll := x.coll.settle x.now } := by
  have noClear : x.undoClear = x := by
    unfold Lane.undoClear
    split
    next u hu => exact if_neg (clear u hu)
    next => rfl
  have noReset : x.undoReset = x := by
    unfold Lane.undoReset
    split
    next u hu => exact if_neg (reset u hu)
    next => rfl
  rw [Lane.takeReading, noClear, noReset]
  rfl

/-! The entry that an error ends (R157). -/

theorem Lane.endE1_only (x : Lane) (n : Nat) : x.endE1 n = { x with mx := (x.endE1 n).mx } := by
  unfold Lane.endE1
  split
  · split_ifs <;> rfl
  · rfl

theorem Lane.endE1_mx_of_cur {x : Lane} {k : Fin 9} (cur : x.mx.cur = some k) (n : Nat) : (x.endE1 n).mx = if k.val = n then
    { x.mx with cur := none, pc := none, loops := x.mx.loops.set k { x.mx.loops[k] with entry := .none } } else x.mx := by
  rw [Lane.endE1, cur]
  dsimp only
  split_ifs <;> rfl

theorem Lane.endE1_mx_of_none {x : Lane} (idle : x.mx.cur = none) (n : Nat) : (x.endE1 n).mx = x.mx := by
  rw [Lane.endE1, idle]

/-! A source that reads asserted (R157, R301). -/

/-- The lane after a reading in which a source's pair is asserted: source 5 ends the open entry of its loop. -/
def Lane.readsSource (r : Lane) (src data : Nat) (till : Option Nat) : Lane :=
  { r with coll := (r.coll.setAsserted src).setHeal src till, mx := if src = 5 then (r.endE1 (data % 16)).mx else r.mx }

theorem Lane.sourceReads_eq {x r : Lane} (hr : r = x.takeReading) (src data : Nat) (till : Option Nat) : x.sourceReads src data till
    = if src ∈ r.coll.asserted then r.readsSource src data till else (r.readsSource src data till).raise src data := by
  have ends : (if src = 5 then r.endE1 (data % 16) else r) = { r with mx := if src = 5 then (r.endE1 (data % 16)).mx else r.mx } := by
    split_ifs
    · exact r.endE1_only _
    · rfl
  rw [Lane.sourceReads, ← hr, ends]
  exact if_congr (by simp) rfl rfl

/-! A pair that reads broken (R297, R301, R308). -/

/-- The lane after a reading in which a source's pair is broken. -/
def Lane.readsBrokenPair (r : Lane) (src : Nat) (trueRail : Bool) (till : Option Nat) : Lane :=
  { r with coll := (r.coll.setBroken src trueRail).setHeal src till }

section
variable {s : State} {l : LaneId} {sp : RailSpan} {x : Lane}

theorem exec_sourceAsserted (h : FindsE1 s l sp.t x) (src : BitVec 8) (data : BitVec 32) (v : Bool) (listed : listedSource src.toNat = true) :
    exec (.sourceAsserted l src data v sp) s = .next (s.setLane l ((x.seeTerminals v).sourceReads src.toNat data.toNat sp.till)) := by
  have arm : exec (.sourceAsserted l src data v sp) s = execSourceAsserted l src data v sp s := rfl
  rw [arm, execSourceAsserted, onE1_of_findsE1 h]
  dsimp only
  rw [if_pos listed]

theorem exec_sourceAsserted_of_reserved (h : FindsE1 s l sp.t x) (src : BitVec 8) (data : BitVec 32) (v : Bool)
    (reserved : listedSource src.toNat = false) : exec (.sourceAsserted l src data v sp) s = .next (s.setLane l (x.seeTerminals v)) := by
  have arm : exec (.sourceAsserted l src data v sp) s = execSourceAsserted l src data v sp s := rfl
  rw [arm, execSourceAsserted, onE1_of_findsE1 h]
  dsimp only
  rw [if_neg (by simp [reserved])]

theorem exec_brokenWire (h : Sees s l sp.t x) (src : BitVec 8) (b : Bool) (listed : listedSource src.toNat = true)
    (real : x.injecting src.toNat = false ∨ b = false) {r : Lane} (hr : r = x.takeReading) : exec (.brokenWire l src b sp) s
      = .next (s.setLane l (if r.coll.broken.any fun p => p.1 = src.toNat then r.readsBrokenPair src.toNat b sp.till
        else (r.readsBrokenPair src.toNat b sp.till).raise 0 (brokenData src.toNat b))) := by
  have arm : exec (.brokenWire l src b sp) s = execBrokenWire l src b sp s := rfl
  have takes : (listedSource src.toNat && !(x.injecting src.toNat && b)) = true := by obtain e | e := real <;> simp [listed, e]
  rw [arm, execBrokenWire, onLaneAt_of_sees h, if_pos takes, ← hr]
  rfl

theorem exec_brokenWire_of_none (h : Sees s l sp.t x) (src : BitVec 8) (b : Bool)
    (none_ : listedSource src.toNat = false ∨ x.injecting src.toNat = true ∧ b = true) :
    exec (.brokenWire l src b sp) s = .next (s.setLane l x) := by
  have arm : exec (.brokenWire l src b sp) s = execBrokenWire l src b sp s := rfl
  have takes_not : ¬(listedSource src.toNat && !(x.injecting src.toNat && b)) = true := by
    obtain e | ⟨e, f⟩ := none_
    · simp [e]
    · simp [e, f]
  rw [arm, execBrokenWire, onLaneAt_of_sees h, if_neg takes_not]

end

end Sys2Proof.Machine
end

section
/-!
O22. Sources that assert, broken pairs, COLL_FW and the slices of the self-test (R156, R157, R297 to R306, R446, R447).
-/
namespace Sys2Proof.Machine

/-! COLL_FW (R299, R313). -/

/-- A lane whose source COLL_FW drives. -/
def Lane.fwDrives (x : Lane) (src : Nat) : Lane := { x with coll := { x.coll with driven := insertAsc src x.coll.driven } }

/-- A lane whose source COLL_FW has let go. -/
def Lane.fwLeaves (x : Lane) (src : Nat) : Lane :=
  { x with coll := { x.coll with driven := removeAsc src x.coll.driven, asserted := removeAsc src x.coll.asserted } }

section
variable {s : State} {l : LaneId} {t : Nat} {x : Lane}

theorem exec_collFw_drive (h : Sees s l t x) (src : BitVec 8) (data : BitVec 32) (firmware : firmwareSource src.toNat = true) :
    exec (.collFw l src true data t) s = .next (s.setLane l
      (if src.toNat ∈ x.coll.driven then x else (x.fwDrives src.toNat).sourceAsserts src.toNat data.toNat)) := by
  have arm : exec (.collFw l src true data t) s = execCollFw l src true data t s := rfl
  rw [arm, execCollFw, onLaneAt_of_sees h]
  dsimp only
  rw [if_pos firmware, if_pos rfl]
  rfl

theorem exec_collFw_leave (h : Sees s l t x) (src : BitVec 8) (data : BitVec 32) (firmware : firmwareSource src.toNat = true) :
    exec (.collFw l src false data t) s = .next (s.setLane l
      (if x.coll.refusedAt = some x.now then (x.fwLeaves src.toNat).requestClear else x.fwLeaves src.toNat)) := by
  have arm : exec (.collFw l src false data t) s = execCollFw l src false data t s := rfl
  rw [arm, execCollFw, onLaneAt_of_sees h]
  dsimp only
  rw [if_pos firmware, if_neg (by decide)]
  rfl

theorem exec_collFw_of_hardware (h : Sees s l t x) (src : BitVec 8) (a : Bool) (data : BitVec 32)
    (hardware : firmwareSource src.toNat = false) : exec (.collFw l src a data t) s
      = .next (s.setLane l (if listedSource src.toNat = true ∨ src = 0 then x.inc O.fwWriteRefused else x)) := by
  have arm : exec (.collFw l src a data t) s = execCollFw l src a data t s := rfl
  have zero : src.toNat = 0 ↔ src = 0 := by simp [BitVec.toNat_eq]
  rw [arm, execCollFw, onLaneAt_of_sees h]
  dsimp only
  rw [if_neg (by simp [hardware])]
  exact congrArg (fun y => Host.Outcome.next (s.setLane l y)) (if_congr (by simp [zero]) rfl rfl)

end

/-! Slices of the self-test (R156, R446, R447). -/

/-- Does a slice of a block come (R156, R446)? -/
def Lane.sliceComes (x : Lane) (block : Fin 9) : Prop := x.up = true ∧ x.fld Rg.pwrStat 0 3 < 2 ∧ x.sliceMay (block.val + 1) = true

theorem Lane.sliceMay_iff (x : Lane) (block : Fin 9) : x.sliceMay (block.val + 1) = true ↔
    (block = 1 → x.sliceGap x.now = true) ∧ (block = 3 → ∃ st, (x.stg st).driving = false) := by
  have drives : (allStages.any fun st => !(x.stg st).driving) = true ↔ ∃ st, (x.stg st).driving = false := by
    simp only [List.any_eq_true, Bool.not_eq_true']
    exact ⟨fun ⟨st, _, e⟩ => ⟨st, e⟩, fun ⟨st, e⟩ => ⟨st, mem_allStages st, e⟩⟩
  by_cases matrix : block = 1
  · subst matrix
    exact ⟨fun gap => ⟨fun _ => gap, fun c => absurd c (by decide)⟩, fun c => c.1 rfl⟩
  · by_cases comparators : block = 3
    · subst comparators
      exact drives.trans ⟨fun c => ⟨fun e => absurd e (by decide), fun _ => c⟩, fun c => c.2 rfl⟩
    · have free : x.sliceMay (block.val + 1) = true := by
        have h2 : block.val + 1 ≠ 2 := fun e => matrix (Fin.ext (Nat.succ.inj e))
        have h4 : block.val + 1 ≠ 4 := fun e => comparators (Fin.ext (Nat.succ.inj e))
        unfold Lane.sliceMay
        split
        · contradiction
        · contradiction
        · rfl
      exact ⟨fun _ => ⟨fun e => absurd e matrix, fun e => absurd e comparators⟩, fun _ => free⟩

/-- A lane in which a block's aborted slices in a row are `n`. -/
def Lane.abortsSet (x : Lane) (block : Fin 9) (n : Nat) : Lane := { x with pwr := { x.pwr with aborts := x.pwr.aborts.set (block.val + 1) n } }

/-- A lane in which a slice of a block has come to its end. -/
def Lane.sliceEnds (x : Lane) (block : Fin 9) (ok : Bool) : Lane :=
  let z := x.abortsSet block 0
  if block = 7 then z.injectSlice ok else z

section
variable {s : State} {l : LaneId} {t : Nat} {x : Lane} {block : Fin 9}

/-- The guard of both slice commands. -/
theorem Lane.sliceBarred_iff : (!x.up || 2 ≤ x.fld Rg.pwrStat 0 3 || !x.sliceMay (block.val + 1)) = true ↔ ¬ x.sliceComes block := by
  simp only [Lane.sliceComes, Bool.or_eq_true, Bool.not_eq_true', decide_eq_true_eq, not_and_or, Bool.not_eq_true, not_lt, or_assoc]

theorem exec_selfTestSlice (h : Sees s l t x) (comes : x.sliceComes block) (ok : Bool) : exec (.selfTestSlice l block ok t) s
    = .next (s.setLane l (if ok then x.sliceEnds block ok else (x.sliceEnds block ok).raise 0x06 (block.val + 1))) := by
  have arm : exec (.selfTestSlice l block ok t) s = execSelfTestSlice l block ok t s := rfl
  have last : block.val + 1 = 8 ↔ block = 7 := by rw [Fin.ext_iff]; exact ⟨Nat.succ.inj, congrArg Nat.succ⟩
  have ends : (if block.val + 1 = 8 then (x.abortsSet block 0).injectSlice ok else x.abortsSet block 0) = x.sliceEnds block ok :=
    if_congr last rfl rfl
  rw [arm, execSelfTestSlice, onLaneAt_of_sees h]
  dsimp only
  rw [if_neg (fun c => Lane.sliceBarred_iff.mp c comes), ← ends]
  rfl

theorem exec_selfTestSlice_of_none (h : Sees s l t x) (none_ : ¬ x.sliceComes block) (ok : Bool) :
    exec (.selfTestSlice l block ok t) s = .next (s.setLane l x) := by
  have arm : exec (.selfTestSlice l block ok t) s = execSelfTestSlice l block ok t s := rfl
  rw [arm, execSelfTestSlice, onLaneAt_of_sees h]
  dsimp only
  rw [if_pos (Lane.sliceBarred_iff.mpr none_)]

theorem exec_sliceAbort (h : Sees s l t x) (comes : x.sliceComes block) {n : Nat} (hn : n = nth x.pwr.aborts (block.val + 1) + 1) :
    exec (.sliceAbort l block t) s = .next (s.setLane l (if n = 8 then ((x.abortsSet block (n % 8)).inc O.sliceAborts).raise 0x07 (block.val + 1)
      else (x.abortsSet block (n % 8)).inc O.sliceAborts)) := by
  have arm : exec (.sliceAbort l block t) s = execSliceAbort l block t s := rfl
  rw [arm, execSliceAbort, onLaneAt_of_sees h, hn]
  dsimp only
  rw [if_neg fun c => Lane.sliceBarred_iff.mp c comes]
  rfl

theorem exec_sliceAbort_of_none (h : Sees s l t x) (none_ : ¬ x.sliceComes block) :
    exec (.sliceAbort l block t) s = .next (s.setLane l x) := by
  have arm : exec (.sliceAbort l block t) s = execSliceAbort l block t s := rfl
  rw [arm, execSliceAbort, onLaneAt_of_sees h]
  dsimp only
  rw [if_pos (Lane.sliceBarred_iff.mpr none_)]

end

theorem firmwareSource_ne_five {src : Nat} (h : firmwareSource src = true) : src ≠ 5 := by
  rintro rfl
  exact absurd h (by decide)

/-- Settles O22: a reading by whether the pair changes, a pair that has gone by its instant, COLL_FW by whom the source belongs to, a slice by
whether it comes and an abort by whether it is the eighth. -/
theorem assertingSourcesStopTheLane : Obligations.AssertingSourcesStopTheLane := by
  unfold Obligations.AssertingSourcesStopTheLane
  refine ⟨fun s l sp x h src data v r a hr ha => ?_, fun x clear reset => ?_, fun s l sp x h src b r a hr ha => ?_, fun s l t x h =>
    ⟨fun src data r a z hr ha hz => ?_, fun block may w hw hmay => ?_⟩⟩
  · have five : src = 5 ↔ src.toNat = 5 := by simp [BitVec.toNat_eq]
    have reads : a = r.readsSource src.toNat data.toNat sp.till := by simp only [ha, Lane.readsSource, five]
    refine ⟨fun listed new => ⟨_, exec_sourceAsserted h src data v listed, ?_⟩, fun listed old => ?_,
      fun k cur => Lane.endE1_mx_of_cur cur _, fun idle => Lane.endE1_mx_of_none idle _, exec_sourceAsserted_of_reserved h src data v⟩
    · rw [Lane.sourceReads_eq hr, if_neg new, ← reads]
      exact a.raise_errorOf _ _
    · rw [exec_sourceAsserted h src data v listed, Lane.sourceReads_eq hr, if_pos old, reads]
  · rw [Lane.takeReading_of_no_undo clear reset]
    refine ⟨rfl, fun src => ⟨fun gone => Coll.settle_of_healed ((x.coll.healed_iff src x.now).mpr gone), fun stands => Coll.settle_of_standing ?_⟩⟩
    rw [← Bool.not_eq_true, Coll.healed_iff]
    rintro ⟨p, hp, same, gone⟩
    exact absurd (stands p hp same) (by omega)
  · have reads : a = r.readsBrokenPair src.toNat b sp.till := ha
    refine ⟨fun listed real new => ⟨_, exec_brokenWire h src b listed real hr, ?_⟩, fun listed real old => ?_, exec_brokenWire_of_none h src b⟩
    · have idle : ¬(r.coll.broken.any fun p => p.1 = src.toNat) = true := fun c => by
        obtain ⟨p, hp, e⟩ := List.any_eq_true.mp c
        exact new p hp (of_decide_eq_true e)
      rw [if_neg idle, ← reads]
      exact a.raise_errorOf 0 _
    · rw [exec_brokenWire h src b listed real hr, if_pos (by simpa using old), reads]
  · have drives : r = (x.fwDrives src.toNat).takeReading := hr
    have leaves : z = x.fwLeaves src.toNat := hz
    refine ⟨fun firmware free new => ⟨_, exec_collFw_drive h src data firmware, ?_⟩, fun firmware free old => ?_, fun firmware driven => ?_,
      fun firmware late => ?_, fun firmware refused => ?_, fun a hardware => exec_collFw_of_hardware h src a data hardware⟩
    · rw [if_neg free, Lane.sourceAsserts_eq drives _ (firmwareSource_ne_five firmware), if_neg new, ← ha]
      exact a.raise_errorOf _ _
    · rw [exec_collFw_drive h src data firmware, if_neg free, Lane.sourceAsserts_eq drives _ (firmwareSource_ne_five firmware), if_pos old, ← ha]
    · rw [exec_collFw_drive h src data firmware, if_pos driven]
    · rw [exec_collFw_leave h src data firmware, if_neg late, leaves]
    · rw [exec_collFw_leave h src data firmware, if_pos refused, leaves]
  · have comes : may ↔ x.sliceComes block := hmay.trans (and_congr_right fun _ => and_congr_right fun _ => (x.sliceMay_iff block).symm)
    have ends : ∀ ok, w ok = x.sliceEnds block ok := hw
    refine ⟨fun none_ => ⟨exec_selfTestSlice_of_none h (comes.not.mp none_), exec_sliceAbort_of_none h (comes.not.mp none_)⟩,
      fun c => ⟨_, exec_selfTestSlice h (comes.mp c) false, ?_⟩, fun c => ?_, fun c few => ⟨_, exec_sliceAbort h (comes.mp c) rfl, ?_⟩,
      fun c many => ⟨_, (x.abortsSet block 0).inc O.sliceAborts, exec_sliceAbort h (comes.mp c) rfl, ?_⟩⟩
    · rw [if_neg (by decide), ← ends]
      exact Lane.raise_errorOf _ _ _
    · rw [exec_selfTestSlice h (comes.mp c) true, if_pos rfl, ends]
    · rw [if_neg fun e => few (Nat.succ.inj e)]
      exact ⟨countedBy_inc (x.abortsSet block _) _, objsKept_inc (by simp) (x.abortsSet block _), rfl⟩
    · rw [many, if_pos rfl]
      refine ⟨(countedBy_inc (x.abortsSet block 0) _).of_obj_eq rfl ?_, fun o ho => ?_, ?_, Lane.raise_errorOf _ _ _⟩
      · rw [Lane.obj, Lane.raise_objs]
        rfl
      · rw [Lane.obj, Lane.raise_objs]
        exact objsKept_inc (by simp) (x.abortsSet block 0) o ho
      · rw [Lane.raise_objs]
        rfl

end Sys2Proof.Machine
end
